-- ==== Sys2Proof/Word.lean ====
section
/-! DEFINITION. The word types of the HX5120 model, their plainest arithmetic, and the two small
records that travel with link messages. The pseudocode of the manual is exact integer arithmetic
(00 R18, R19), so quantities that are computed are `Int` and `Nat`; bits that software writes whole
are bit vectors. -/

namespace Sys2Proof

/-- One byte. -/
abbrev Byte := BitVec 8

/-- One register word. -/
abbrev Word := BitVec 64

/-- The frame of a Gusset or Stitch message as the receiver sees it (11 Table TWIN-2): SYNC, LEN and CRC as
they came, the origin member, its ACTIVE bit, HOPS and MSEQ, and the side of the ring it came in on. -/
structure MsgHdr where
  sync : Nat
  len : Nat
  crc : Nat
  src : Nat
  active : Bool
  hops : Nat
  mseq : Nat
  /-- a Stitch message came in on the west side -/
  west : Bool := false
  deriving DecidableEq, Repr

/-- What identifies a return message (08 Table CUFF-7): the return lane, VERSION, MSG_SEQ and CRC as they
came. -/
structure RetHdr where
  lane : Nat
  version : Nat
  mseq : Nat
  crc : Nat
  deriving DecidableEq, Repr

/-- A flash state record (06 Table SHUTTLE-1); its reserved field is zero. -/
structure FlashRec where
  flash : Nat
  m : Nat
  resync : Bool
  dt : Nat
  theta : Int
  ex : Int
  ey : Int
  cprevx : Int
  cprevy : Int
  deriving DecidableEq, Repr

end Sys2Proof
end

