-- ==== Sys2Proof/Machine/Parts.lean ====
section
/-! DEFINITION. The record types the state is made of, one group per chapter of spec/. Every field's
default is its value right after reset: the one the spec gives at entry to Boot, or the one that the
assumption log names (log 3, 16, 17). -/

namespace Sys2Proof.Machine
open Sys2Proof

/-! ## Engine, arbiter, faults (01, 15, 17, 18) -/

/-- 01 Table ARCH-4. -/
inductive EngState where
  | sleep | boot | calibrate | ready | writing | held | seam | fault
  deriving DecidableEq, Repr

/-- 18 RESET_CAUSE.CAUSE. -/
inductive ResetCause where
  | powerUp | resetN | resetCommand | chipReset | endOfSleep | loadShed
  deriving DecidableEq, Repr

/-- Every fault kind of the manual, named as its table names it (15 Table FAULT-1 lists the tables). -/
inductive FaultName where
  -- 15 Table FAULT-5, Dike
  | dikeMotion | dikeTravel | doseClamp | rateClamp | watchdog | lockEdge | dikePeer
  -- 15 Table FAULT-3
  | escalate
  -- 07 Table HEM-9
  | lateBand | overspeedRate | overspeedLock | overspeedGate | overspeedStarve | heldAbandon
  | resumeFail | edgeLate | tgoodDrop | peerEdge | phaseDrift | shadowDiff | telemStale | fClamp
  | edgeFit | edgeTable | rateLow
  -- 10 Table BRACE-11
  | outputLate | sampleMiss | fbLost | followErr | settleTimeout | limitHit | softLimit | runupShort
  | notHomed | axisMap | trajLimits | rcDiscard | homeFail | braceShadow | deflClamp | actCopyMiss
  | limitBlock
  -- 09 Table FEED-9
  | posCrc | posNostart | posCount | posSensor | posWarn | posRange | srcLost | quadIllegal | scAmp
  | scSpeed | probeOverflow | probeNopos | cmpStale | cmpMissed | limBoth | srcNotready
  -- 05 Table POLDER-7
  | bandMismatch | bandFault | eccCorrected | eccUncorrectable | writeCheck | twinChequin
  | bandUnavailable
  -- 04 Table LOOM-4
  | p48Range | expandLimit | binFull | unitParity | unitsLow | overcover | unitSelftest
  -- 06 Table SHUTTLE-7
  | tableHdr | geomRange | gainRule | tableRule | standinRule | standinReach | placeClamp | tableEcc
  | slotLate | tableMissing
  -- 08 Table CUFF-12
  | asmLate | laneLost | laneRemap | noSpare | trainFail | lanesDown | retCrc | retLost | retCaps
  | rxMissing | rxCompare | rxUncompared | rxSwitch | rxLate | rxFraming | rxFec | stuckOn
  -- 11 Table TWIN-10
  | twinIdent | twinConfig | twinDispatch | gusLane | gusGap | peerLost | gusLost | takeover
  | twinSplit | liveLost | stiQuarantine | stiTime | stiLeader | stiStart
  -- 03 Table CACHE-4
  | dirHdr | dirEntry | dirTag | dirSpace | cellMissing | cellRetry | cellCheck | cellBus | cellRaw
  | cellCapacity
  -- 02 Table PLEAT-9
  | hdrId | hdrCrc | hdrField | dirErr | blkHdr | blkSeq | blkLen | defSyntax | defShort | defExhaust
  | blkCrc | streamSize | recType | recLen | recOrder | recField | recIdent | nest
  -- 12 Table HOST-13
  | busErr | bmeOff | linkDown | fnReset | descErr | indexErr | rangeErr | dmaEcc | cqHead | barAccess
  | streamDrop
  -- 13 Table MBOX-14
  | mbDrop | seqConflict | auditFail
  -- 14 Table MEM-6
  | memCe | memUe | memMap | memHot | refreshForced | memInit | memNotrain
  -- 16 Table STORE-8
  | calDisagree | calRange | calFail | calStale | jCorrupt | jProgram | auditLost | fwVerify
  | fwFallback
  -- 17 Table POWER-8
  | pfUv | pfOv | pfGood | railFault | thermWarn | thermTrip | refLost
  deriving DecidableEq, Repr

/-- A fault raised and not yet accepted by the arbiter (15 R448, 01 R37): when it was raised, its name,
its 48-bit address, and its place in the arbiter's order once an event behind it has been accepted. -/
structure Raised where
  at' : Nat
  name : FaultName
  addr : Nat
  seq : Option Nat := none
  deriving DecidableEq, Repr

/-- The causes that the arbiter accepts for Seam, Held or Fault (07 R204, 01 R34). -/
inductive Cause where
  | lateBand (stripe band : Nat)
  | overspeed (name : FaultName)
  | bandFault (stripe band : Nat)
  | bandData (stripe band : Nat)
  | pause (group : Bool)
  | heldAbandon
  | resumeHold
  | reversal
  | fault
  deriving DecidableEq, Repr

/-- 01 Table ARCH-7. -/
structure Stamp where
  sequence : Nat := 0
  flash : Nat := 0
  sec : Nat := 0
  ns : Nat := 0
  deriving DecidableEq, Repr

/-- What the event arbiter accepts (01, The event arbiter). -/
inductive EventName where
  | fault (name : FaultName) (addr : Nat)
  | engine (state : EngState)
  | tgood (high : Bool)
  /-- a band released, woven again, faulted, or unreadable (05 Table POLDER-5, outcomes 1 to 4) -/
  | band (stripe band outcome : Nat)
  /-- the completion record of a DMA ring (12 R395) -/
  | dmaRecord (ring : Nat)
  | ringRequest (event : Nat)
  | bankPassed (output : Nat)
  | request (mailbox : Nat)
  | completion (mailbox : Nat)
  | append (type key : Nat)
  deriving DecidableEq, Repr

/-- An accepted event and the stamp that the arbiter attached to it (R38). -/
structure Event where
  name : EventName
  stamp : Stamp
  deriving DecidableEq, Repr

structure Arb where
  /-- acceptance count since Boot (R38) -/
  seq : Nat := 0
  faultQ : List Raised := []
  /-- causes of Seam, Held or Fault not yet accepted, with the instant of each -/
  causeQ : List (Nat × Cause) := []
  /-- the events accepted since Boot, oldest first -/
  events : List Event := []
  deriving DecidableEq, Repr

/-- Engine state, straps, pins, supply, identity and temperatures. -/
structure Eng where
  state : EngState := .boot
  resetCause : ResetCause := .powerUp
  shedKind : Nat := 0
  dieTemps : List Int := List.replicate 8 0
  tCore : Int := 0
  tMax : Int := 0
  fwBuild : Nat := 0
  relMajor : Nat := 0
  relMinor : Nat := 0
  fallback : Bool := false
  fwSelected : Nat := 0
  fwRunning : Nat := 0
  twinB : Bool := false
  pairId : Nat := 0
  wakeN : Bool := false
  pwrGood : Bool := true
  resetN : Bool := true
  vinOk : Bool := true
  vstby : Bool := true
  railsUp : Bool := true
  /-- RESET_N held low, or the module acts as if it were (R505) -/
  inReset : Bool := false
  shedding : Bool := false
  /-- a RESET command or chip reset waiting for RESET_ENTRY (01 R33, 15 R452) -/
  resetDue : Option ResetCause := none
  /-- the cause that ended the previous run, until it is recorded (18 R528) -/
  endCause : Option (ResetCause × Nat) := none
  trefLost : Bool := false
  cuffRefLost : Bool := false
  bootStuck : Bool := false
  flashNext : Nat := 0
  lastFlash : Nat := 0
  tgood : Bool := false
  tgoodNeedsCal : Bool := true
  thermWarned : Bool := false
  deriving DecidableEq, Repr

/-- One source of the fault collector (15 R450 to R455). -/
structure FcSrc where
  lastKind : Nat := 0
  lastAddr : Nat := 0
  cnt : Nat := 0
  pending : Bool := false
  /-- step count at which the collector last set the pending bit (00 R14) -/
  setAt : Option Nat := none
  stage : Nat := 0
  escalated : Bool := false
  /-- step count at which the escalation timer expires -/
  deadline : Option Nat := none
  deriving DecidableEq, Repr

/-- 15 Table FAULT-4, one source. -/
structure FcCfg where
  reaction : Nat := 1
  ceiling : Nat := 1
  escUs : Nat := 0
  deriving DecidableEq, Repr

/-- 15 R460: one checker's injection. -/
structure Inject where
  count : Nat := 0
  unit : Nat := 0xFFFF
  mask : Nat := 0
  deriving DecidableEq, Repr

/-- What image section 4 carries of the active twin's collector (15 R459): per source, pending, stage
and remaining microseconds, and the latch. -/
structure FcCopy where
  valid : Bool := false
  overflow : Bool := false
  first : Nat := 0
  firstSeq : Nat := 0
  firstFlash : Nat := 0
  pend : List (Bool × Nat × Option Nat) := []
  deriving DecidableEq, Repr

structure Fc where
  valid : Bool := false
  overflow : Bool := false
  first : Nat := 0
  firstSeq : Nat := 0
  firstFlash : Nat := 0
  /-- sources 1 to 16 at positions 0 to 15 -/
  srcs : List FcSrc := List.replicate 16 {}
  /-- default reaction 1, Dike 5 (Table FAULT-1) -/
  cfg : List FcCfg := { reaction := 5, ceiling := 5 } :: List.replicate 15 {}
  overrides : List (Nat × Nat × Nat) := []
  /-- checkers 1 to 16 at positions 0 to 15 -/
  inject : List Inject := List.replicate 16 {}
  copied : Option FcCopy := none
  deriving DecidableEq, Repr

/-- 15 Table FAULT-9. -/
structure DikeLim where
  vLim : Nat := 0
  aLim : Nat := 0
  jLim : Nat := 0
  winMin : Int := 0
  winMax : Int := 0
  brakeK : Nat := 0
  brakeOut : Nat := 0
  polarity : Nat := 0
  deriving DecidableEq, Repr

/-- 15 R464, R465: one axis under Dike's eye. -/
structure DikeAxis where
  ovr : Bool := false
  brake : Bool := false
  restCount : Nat := 0
  brakeStart : Nat := 0
  yPrev : Option Int := none
  dvPrev : Int := 0
  /-- a standby's check has failed in the last cycle (R466) -/
  failed : Bool := false
  deriving DecidableEq, Repr

structure Dike where
  raw : List Byte := List.replicate 6 0 ++ [100] ++ List.replicate 521 0
  fDike : Nat := 0
  doseMax : Nat := 0
  wdMs : Nat := 100
  restFu : Nat := 0
  brakeMs : Nat := 0
  lims : List DikeLim := List.replicate 8 {}
  /-- qualified level of DIKE_LOCK_N; `some true` is high -/
  lock : Option Bool := none
  wdDeadline : Option Nat := none
  wdExpired : Bool := false
  axes : List DikeAxis := List.replicate 8 {}
  lastStrobe : Option Nat := none
  doseClamps : Nat := 0
  doseClampedThisStripe : Bool := false
  peerHold : Bool := false
  deriving DecidableEq, Repr

/-- The slack monitor (01 R28 to R31). -/
structure Slack where
  g : Nat := 16
  /-- the largest work time of each of the last flashes measured, newest last, with the flash index of
  one that is no synthetic flash -/
  window : List (Option Nat × Nat) := []
  measured : Nat := 0
  fSlackKhz : Nat := 0
  wMax : Nat := 0
  peer : Option Nat := none
  peerAge : Nat := 0
  deriving DecidableEq, Repr

/-! ## Time unit (11) -/

structure Pulse where
  sec : Nat := 0
  ns : Nat := 0
  per : Nat := 0
  width : Nat := 1
  missed : Bool := false
  stale : Bool := false
  fired : Bool := false
  /-- step counts at which MISSED and FIRED were last set (00 R14) -/
  missedAt : Option Nat := none
  firedAt : Option Nat := none
  arm : Bool := false
  /-- programmed time while armed, in ns -/
  target : Nat := 0
  /-- step count at which the output falls, while it is high -/
  highUntil : Option Nat := none
  deriving DecidableEq, Repr

structure TimeUnit where
  sec : Nat := 0
  ns : Nat := 0
  frac : Nat := 0
  inc : Nat := 0x0500000000
  step : Int := 0
  snapSec : Nat := 0
  snapNs : Nat := 0
  snapFrac : Nat := 0
  pls : List Pulse := List.replicate 2 {}
  locked : Bool := false
  excluded : Bool := false
  gmOffset : Int := 0
  pathDelay : Int := 0
  portState : Nat := 0
  ringOffset : Int := 0
  deriving DecidableEq, Repr

/-! ## Hem (07) and Shuttle (06) -/

/-- A raw predictor (07 R190). -/
structure Pred where
  started : Bool := false
  p : Int := 0
  v : Int := 0
  t0 : Nat := 0
  tValid : Nat := 0
  deriving DecidableEq, Repr

/-- 07 Table HEM-5. -/
inductive HemState where
  | idle | runIn | tracking | held | seamStop | seamRun
  deriving DecidableEq, Repr

/-- An accepted STRIPE_START (13 Table MBOX-8). -/
structure Stripe where
  stripe : Nat
  sigmaX : Int
  sigmaY : Int
  p : Nat
  sync : Bool
  syncMask : Nat
  count : Nat
  fPlan : Nat
  s0x : Int
  s0y : Int
  dRu : Nat
  deriving DecidableEq, Repr

/-- A committed flash (07 R192 to R195, R217; 08 R240; 10 R325). -/
structure Committed where
  record : FlashRec
  tn : Nat
  f : Int
  /-- edge offsets in steps after the strobe -/
  edges : List Nat
  endAt : Nat
  epoch : Nat
  dx : Int
  dy : Int
  /-- the edge set missed its queue (07 R222) -/
  edgeLate : Bool := false
  /-- its gate has been re-checked at the gate itself (R196) -/
  gated : Bool := false
  last : Bool := false
  deriving DecidableEq, Repr

structure HemCfg where
  ka : Nat := 16384
  kb : Nat := 239675
  kp : Nat := 128
  ki : Nat := 6
  lockLimit : Nat := 128
  gateTol : Nat := 32
  rateTol : Nat := 64
  w0 : Nat := 256
  heldDepth : Nat := 65536
  heldTime : Nat := 500
  t0 : Int := 2880
  v0 : Nat := 3300
  aT : Int := 0
  aV : Int := 0
  telemStale : Nat := 100
  resumeTries : Nat := 3
  deriving DecidableEq, Repr

structure HemStats where
  issued : Nat := 0
  withdrawn : Nat := 0
  delayed : Nat := 0
  delayMaxFu : Nat := 0
  eyMaxFu : Nat := 0
  heldEntries : Nat := 0
  seams : Nat := 0
  tgoodDrops : Nat := 0
  peerEdges : Nat := 0
  shadowDiffs : Nat := 0
  edgeLate : Nat := 0
  deriving DecidableEq, Repr

/-- A loaded table (06 R178, R179, 07 R216): its entries as numbers, the digest, and the check-bit
errors of its SRAM words (word index and syndrome, 06 R181). -/
structure Table where
  loaded : Bool := false
  crc : BitVec 32 := 0
  entries : List Nat := []
  bad : List (Nat × Nat) := []
  deriving DecidableEq, Repr

structure Hem where
  q : Pred := {}
  x : Pred := {}
  th : Pred := {}
  phi : Int := 0
  omega : Int := 0
  tl : Nat := 0
  state : HemState := .idle
  stripe : Option Stripe := none
  /-- the stripe has begun (R26): Run-in was entered -/
  begun : Bool := false
  mNext : Nat := 0
  /-- the commit window of m_next has closed with a fault (R193) -/
  closed : Bool := false
  tPrev : Nat := 0
  endPrev : Nat := 0
  /-- issue time and end of the last flash issued in the stripe -/
  issuedAt : Nat := 0
  issuedEnd : Nat := 0
  mHw : Option Nat := none
  /-- the reversal test applies: the stage has reached the high-water mark (R199) -/
  armed : Bool := true
  resync : Bool := true
  committed : List Committed := []
  /-- the run rate fixed at the stripe start or the last resumption (R202) -/
  fRun : Nat := 0
  heldSince : Nat := 0
  /-- step of Table HEM-2, 0 outside Seam -/
  seamStep : Nat := 0
  causes : List Cause := []
  qb : Int := 0
  runs : Nat := 0
  stopped : Bool := false
  settled : Bool := false
  /-- latest telemetry: T, V and when it came (R217, R219) -/
  telem : Option (Int × Nat × Nat) := none
  cfg : HemCfg := {}
  edge : Table := {}
  fClampRaised : Bool := false
  telemRaised : Bool := false
  shadowRaised : Bool := false
  driftRaised : Bool := false
  /-- EDGE_FIT has been raised for the resumption that waits (R220) -/
  fitRaised : Bool := false
  peerEdgeFlash : Option Nat := none
  /-- the flash of which the module's own check of 07 R223 failed last -/
  dropFlash : Option Nat := none
  /-- a standby has received a COMMIT since the image that it last applied (R215) -/
  commitSince : Bool := false
  stats : HemStats := {}
  /-- the standby's shadow crossings by mark, and the next mark of its shadow (R214) -/
  shadow : List (Nat × Nat) := []
  shadowNext : Nat := 0
  deriving DecidableEq, Repr

/-- 06 Table SHUTTLE-4. -/
inductive SlotState where
  | empty | computing | complete | late
  deriving DecidableEq, Repr

structure Slot where
  state : SlotState := .empty
  record : Option FlashRec := none
  tn : Nat := 0
  /-- residual of the record (R165) -/
  rx : Int := 0
  ry : Int := 0
  /-- codes[i][j]: beam row i, column j -/
  codes : List (List Nat) := []
  clamped : Bool := false
  unavailable : Bool := false
  tableVoid : Bool := false
  deriving DecidableEq, Repr

structure ShStats where
  flashes : Nat := 0
  withdrawn : Nat := 0
  late : Nat := 0
  clamped : Nat := 0
  unavailable : Nat := 0
  tableVoid : Nat := 0
  eccCorrected : Nat := 0
  wMaxNs : Nat := 0
  deriving DecidableEq, Repr

structure Shuttle where
  /-- kinds 1 to 5 at positions 0 to 4 (Table SHUTTLE-3) -/
  tables : List Table := List.replicate 5 {}
  deflMode : Nat := 0
  yawEnable : Nat := 1
  standinEnable : Nat := 1
  dmx : Int := 0
  dmy : Int := 0
  slots : List Slot := List.replicate 2 {}
  /-- the record buffer (R182, R537) -/
  waiting : Option (FlashRec × Nat) := none
  /-- the deflector model before each record not yet issued: flash, dm_x, dm_y (R183) -/
  before : List (Nat × Int × Int) := []
  /-- table kinds under TABLE_ECC until they are loaded again (R181) -/
  voidKinds : List Nat := []
  /-- (kind, word) of the words for which TABLE_ECC has been raised since their table was loaded -/
  eccWords : List (Nat × Nat) := []
  /-- differences that lag words show at the next update of the deflector model, as (5 × 2^20 + word,
  difference of the word's 72 bits) -/
  lagUpset : List (Nat × Nat) := []
  clampRaised : Bool := false
  stats : ShStats := {}
  deriving DecidableEq, Repr

/-! ## Cuff (08) -/

/-- 08 Table CUFF-6. -/
inductive LaneState where
  | off | train | align | up | lost | failed
  deriving DecidableEq, Repr

structure Lane where
  state : LaneState := .off
  since : Nat := 0
  precode : Bool := true
  /-- transmit taps in force, pre-cursor, main and post-cursor (R262) -/
  ffe : Int × Nat × Int := (-4, 48, -8)
  /-- step count at which group 0 began, at the last entry to Align (Table CUFF-6) -/
  origin : Nat := 0
  /-- frames sent since then: first payload word, and bytes (R233) -/
  sent : List (Nat × List Byte) := []
  /-- first payload word at which the next frame may begin (R239) -/
  free : Nat := 0
  deriving DecidableEq, Repr

/-- 08 Table CUFF-3. -/
inductive FrameKind where
  | data | void
  deriving DecidableEq, Repr

/-- The frames of one flash, 64 logical lanes (08 R234 to R241). -/
structure FlashFrames where
  record : FlashRec
  tn : Nat
  epoch : Nat
  stripe : Nat
  band : Nat
  clamped : Bool
  last : Bool
  dx : Int
  dy : Int
  kind : FrameKind
  cause : Nat
  /-- codes to pack, row by row; empty in a VOID frame -/
  codes : List (List Nat)
  /-- logical lanes whose frame is complete -/
  ready : List Nat
  /-- logical lanes whose frame has begun, with whether it went as VOID -/
  sent : List (Nat × Bool)
  /-- its digest has been sent (11 R352) -/
  digested : Bool := false
  deriving DecidableEq, Repr

structure CuffStats where
  dataFrames : Nat := 0
  voidFrames : Nat := 0
  withdrawEvents : Nat := 0
  remaps : Nat := 0
  rxMissing : Nat := 0
  rxCompare : Nat := 0
  rxUncompared : Nat := 0
  rxSwitch : Nat := 0
  rxLate : Nat := 0
  uncorrCodewords : Nat := 0
  corrSymbols : Nat := 0
  retBad : Nat := 0
  asmWMaxNs : Nat := 0
  deriving DecidableEq, Repr

structure CuffRet where
  telemAt : Option Nat := none
  pairSel : Nat := 0xFF
  copyMode : Nat := 0
  caps : Nat := 0
  rev : Nat := 0
  ident : Nat := 0
  helloAt : Option Nat := none
  stuck : Bool := false
  /-- per return lane: time of the last good message -/
  good : List (Option Nat) := [none, none]
  /-- MSG_SEQs accepted last, newest first (R250) -/
  seen : List Nat := []
  /-- RET_CAPS has been raised and still holds -/
  capsRaised : Bool := false
  lost : Bool := false
  lockBits : BitVec 72 := 0
  trainedBits : BitVec 72 := 0
  crcRaised : Bool := false
  fecRaised : Bool := false
  deriving DecidableEq, Repr

structure Cuff where
  lanes : List Lane := List.replicate 68 {}
  /-- logical lane to physical lane -/
  map : List (Option Nat) := (List.range 64).map some
  epoch : Nat := 0
  frames : List FlashFrames := []
  precode : BitVec 72 := BitVec.ofNat 72 (2 ^ 68 - 1)
  ffePre : Int := -4
  ffeMain : Nat := 48
  ffePost : Int := -8
  autoRemap : Nat := 1
  statusInterval : Nat := 10
  /-- step count of the last periodic STATUS frames (R243) -/
  statusAt : Option Nat := none
  /-- logical lanes that send no frames until a lane-retrain command (R247) -/
  silent : List Nat := []
  /-- ENABLE and state code of the last STATUS frames -/
  lastStatus : Option (Bool × Nat) := none
  lastStripe : Nat := 0xFFFF
  lastBand : Nat := 0xFFFF
  /-- a lane-retrain command waits for the 64 home lanes (R248) -/
  restoreDue : Bool := false
  ret : CuffRet := {}
  stats : CuffStats := {}
  deriving DecidableEq, Repr

/-! ## Feedback (09) -/

/-- 09 Table FEED-6. -/
structure SrcCfg where
  enable : Nat := 0
  invert : Nat := 0
  wordPeriod : Nat := 372
  scale : Int := 16777216
  clkDiv : Nat := 1
  rxDelay : Nat := 0
  latchDelay : Nat := 0
  staleUs : Nat := 4
  lostWords : Nat := 4
  gate : Nat := 0
  qf : Nat := 2
  offS : Int := 0
  offC : Int := 0
  gS : Nat := 16384
  gC : Nat := 16384
  ampLo : Nat := 0
  ampHi : Nat := 0
  deriving DecidableEq, Repr

/-- 09 Table FEED-3. -/
inductive SrcState where
  | off | acquire | valid | lostTransport | lostSensor
  deriving DecidableEq, Repr

/-- A position port's word state (09 R269 to R273). -/
structure Port where
  /-- the request in progress, or without a good word so far: its latch edge, bit period in steps and
  receive delay in ns -/
  tReq : Option Nat := none
  bit : Nat := 256
  rx : Nat := 0
  /-- words whose CRC or reserved bits, and whose counter, were wrong -/
  crcErrors : Nat := 0
  countErrors : Nat := 0
  lastCnt : Option Nat := none
  /-- consecutive requests answered by good words; consecutive without -/
  goodRun : Nat := 0
  badRun : Nat := 0
  /-- raw position and time of the word in use, and the velocity -/
  pw : Int := 0
  tw : Nat := 0
  v : Int := 0
  haveWord : Bool := false
  /-- a good word not yet usable: raw position, its time, when it becomes usable, good run at it -/
  next : Option (Int × Nat × Nat × Nat) := none
  crcRaised : Bool := false
  countRaised : Bool := false
  warnRaised : Bool := false
  deriving DecidableEq, Repr

/-- A quadrature encoder (09 R277 to R279). -/
structure Quad where
  a : Bool := false
  b : Bool := false
  count : Int := 0
  lastEdge : Option Nat := none
  dir : Int := 0
  speed : Int := 0
  interval : Nat := 0
  /-- illegal transitions, and the tick of the last -/
  qerr : Nat := 0
  qerrAt : Option Nat := none
  /-- index latch: count and time -/
  index : Option (Int × Nat) := none
  deriving DecidableEq, Repr

/-- A sine/cosine encoder (09 R280, R281). -/
structure SinCos where
  phase : Nat := 0
  periods : Int := 0
  okTicks : Nat := 0
  deriving DecidableEq, Repr

structure Source where
  cfg : SrcCfg := {}
  /-- a block that comes into force at a sample tick (09 R538) -/
  newCfg : Option (Nat × SrcCfg) := none
  state : SrcState := .off
  suspect : Bool := false
  offset : Int := 0
  port : Port := {}
  quad : Quad := {}
  sc : SinCos := {}
  /-- the sample of the last tick; none is missing -/
  y : Option Int := none
  /-- samples by tick, newest first, as far back as the filters of its switch sets reach -/
  hist : List (Nat × Option Int) := []
  deriving DecidableEq, Repr

/-- 09 Table FEED-4. -/
structure ProbeEntry where
  time : Nat
  flash : Nat
  probe : Nat
  edge : Nat
  valid : Nat
  flags : Nat
  pos : List Int
  deriving DecidableEq, Repr

structure Probe where
  edge : Nat := 1
  mode : Nat := 0
  pf : Nat := 0
  mask : Nat := 0
  armed : Bool := false
  level : Bool := false
  buf : List ProbeEntry := []
  overflow : Bool := false
  /-- edges were dropped after the last entry -/
  dropped : Bool := false
  /-- edges waiting for their second bracketing tick: edge time, rising, flash, edges dropped before -/
  waiting : List (Nat × Bool × Nat × Bool) := []
  deriving DecidableEq, Repr

/-- 09 FEED_CMP. -/
inductive CmpState where
  | idle | armed | stale | fired
  deriving DecidableEq, Repr

structure Compare where
  state : CmpState := .idle
  missed : Bool := false
  missedRaised : Bool := false
  skipped : Nat := 0
  source : Nat := 0
  dir : Int := 1
  mode : Nat := 0
  width : Nat := 1
  value : Int := 0
  step : Int := 0
  /-- tick at which it fires, once a sample has decided it (R290) -/
  fireAt : Option Nat := none
  highUntil : Option Nat := none
  deriving DecidableEq, Repr

/-- 09 Table FEED-8, a switch set. -/
structure SwitchSet where
  src : Nat := 0
  polarity : Nat := 7
  filter : Nat := 50
  hyst : Nat := 25600
  deriving DecidableEq, Repr

/-- A level that has held sw_filter but that the hysteresis of 09 R294 keeps out: its raw level, the tick
of its raw transition, and the source position there (none while its second bracketing tick has not come,
`some none` when a bracketing sample is missing). -/
structure HeldEdge where
  raw : Bool
  tRaw : Nat
  pos : Option (Option Int) := none
  deriving DecidableEq, Repr

/-- A switch input: qualified raw level, the level's activity through the polarity, the last latch. -/
structure Switch where
  qualified : Option Bool := none
  /-- position latched at the last qualified edge, none when not yet known (R293, R294) -/
  latch : Option Int := none
  /-- time of an edge whose latch waits for its second bracketing tick -/
  latchAt : Option Nat := none
  /-- the latch was invalid: the first valid sample takes its place under R294 -/
  needLatch : Bool := false
  held : Option HeldEdge := none
  deriving DecidableEq, Repr

/-- 09 Table FEED-7. -/
structure ChanMap where
  scan : Nat := 0
  cross : Nat := 0
  yawA : Nat := 0
  yawB : Nat := 0
  yawK : Nat := 0
  yawZero : Int := 0
  deriving DecidableEq, Repr

structure Feed where
  srcs : List Source := List.replicate 16 {}
  map : ChanMap := {}
  probes : List Probe := List.replicate 2 {}
  cmps : List Compare := List.replicate 4 {}
  sets : List SwitchSet := List.replicate 4 {}
  /-- inputs of set n at 3 n (LIM_P), 3 n + 1 (LIM_M), 3 n + 2 (HOME) -/
  sw : List Switch := List.replicate 12 {}
  lastTick : Option Nat := none
  deriving DecidableEq, Repr

/-! ## Brace (10) -/

/-- 10 Table BRACE-10. Biquads as (b0, b1, b2, a1, a2, sh). -/
structure Gains where
  kp : Int := 0
  shP : Nat := 0
  ki : Int := 0
  shI : Nat := 0
  kd : Int := 0
  shD : Nat := 0
  kaff : Int := 0
  shFF : Nat := 0
  bq : List (Int × Int × Int × Int × Int × Nat) := List.replicate 4 (4194304, 0, 0, 0, 0, 1)
  iLim : Int := 0
  outLim : Int := 2147483647
  ferrLim : Nat := 65536
  deriving DecidableEq, Repr

/-- 10 Table BRACE-9. -/
structure AxisCfg where
  enable : Nat := 0
  source : Nat := 0
  link : Nat := 0
  slot : Nat := 0
  settleWin : Nat := 256
  settleN : Nat := 20
  settleTo : Nat := 100
  ferrTime : Nat := 10
  rcEnable : Nat := 0
  rcRamp : Nat := 8
  vMax : Nat := 0
  aMax : Nat := 0
  jMax : Nat := 0
  softMin : Int := 0
  softMax : Int := 0
  rcN : Nat := 1024
  rcLead : Nat := 2
  rcGain : Int := 0
  rcSh : Nat := 0
  rcQ : Int := 8388607
  rcLim : Nat := 1000000
  gains : List Gains := List.replicate 4 {}
  deriving DecidableEq, Repr

/-- 10 Table BRACE-4, with the BRACE_AXIS codes in order. -/
inductive AxisState where
  | off | hold | move | home | stripe | stop | coast
  deriving DecidableEq, Repr

/-- 10 Table BRACE-1. -/
inductive Region where
  | scan | step | settle | hold
  deriving DecidableEq, Repr

/-- 10 Table BRACE-2. -/
inductive RcState where
  | empty | collecting | learning
  deriving DecidableEq, Repr

/-- 10 R312: position in 2^-32 fu, and its derivatives per cycle. -/
structure Traj where
  p : Int := 0
  v : Int := 0
  a : Int := 0
  j : Int := 0
  deriving DecidableEq, Repr

/-- A plan (10 R313, R314): segments still to run as (jerk, cycles), then what its last cycle sets:
the target in fu (none for a plan without one) and the final velocity. -/
structure Plan where
  segs : List (Int × Nat) := []
  target : Option Int := none
  vf : Int := 0
  deriving DecidableEq, Repr

/-- 10 Table BRACE-5. -/
structure HomeParams where
  dir : Int
  useIndex : Bool
  vSearch : Nat
  vLatch : Nat
  backoff : Nat
  range : Nat
  homePos : Int
  deriving DecidableEq, Repr

/-- 10 Table BRACE-6: H1 search, H2 back off (stopping, moving against dir, the further backoff),
H3 latch (and waiting for the index), H4 reference. -/
inductive HomeSeg where
  | search | searchStop | backStop | backMove | backFurther | latch | latchIndex | reference
  deriving DecidableEq, Repr

structure Homing where
  params : HomeParams
  seg : HomeSeg
  dir : Int
  reversed : Bool
  /-- reference position from which the segment's travel is measured -/
  from' : Int
  /-- the HOME edge that the segment waits for has come, at this tick -/
  edgeAt : Option Nat := none
  /-- index events since H3 began, oldest first: count and time -/
  indexes : List (Int × Nat) := []
  deriving DecidableEq, Repr

/-- The servo chain's state (10 R304): biquad states as (x1, x2, y1, y2). -/
structure Chain where
  i : Int := 0
  e1 : Int := 0
  bq : List (Int × Int × Int × Int) := List.replicate 4 (0, 0, 0, 0)
  freeze : Bool := false
  deriving DecidableEq, Repr

/-- The repetitive controller (10 R310, R311). The table is sparse: unlisted entries are 0. -/
structure Rc where
  state : RcState := .empty
  s : Nat := 0
  ve : Int := 0
  table : List (Nat × Int) := []
  out : Int := 0
  deriving DecidableEq, Repr

structure Axis where
  cfg : AxisCfg := {}
  state : AxisState := .off
  region : Region := .scan
  homed : Bool := false
  traj : Traj := {}
  plan : Option Plan := none
  /-- the part of a reversal that follows its stop part (R314) -/
  after : Option Plan := none
  settling : Bool := false
  settleCnt : Nat := 0
  settleStart : Nat := 0
  /-- SETTLE_TIMEOUT has been raised for this settle -/
  settleLate : Bool := false
  ferrCnt : Nat := 0
  ferrOk : Nat := 0
  ferrRaised : Bool := false
  chain : Chain := {}
  rc : Rc := {}
  e : Int := 0
  out : Int := 0
  y : Int := 0
  yOk : Bool := false
  misses : Nat := 0
  missRaised : Bool := false
  ferrEvents : Nat := 0
  homing : Option Homing := none
  shadowCnt : Nat := 0
  /-- the axis's source was Lost when it was last looked at (R320) -/
  lostSeen : Bool := false
  /-- a block that comes into force at the next servo cycle (R332) -/
  newCfg : Option AxisCfg := none
  deriving DecidableEq, Repr

/-- 10 Table BRACE-3. -/
inductive Segment where
  | none | approach | run | scan | runOut | seamStop | backUp
  deriving DecidableEq, Repr

/-- 10 Table BRACE-8. -/
structure BrGlobal where
  cycUs : Nat := 10
  scanAxis : Nat := 0
  crossAxis : Nat := 1
  shadowN : Nat := 4
  outPhase : Nat := 32000
  deflK0 : Int := 65536
  deflK1 : Int := 0
  shadowTol : Nat := 64
  deriving DecidableEq, Repr

/-- The setpoints and CTRL of a cycle for the two links (10 Table BRACE-7). -/
structure ActFrame where
  cycle : Nat := 0
  set0 : List Int := [0, 0, 0, 0]
  set1 : List Int := [0, 0, 0, 0]
  ctrl0 : Nat := 0
  ctrl1 : Nat := 0
  deriving DecidableEq, Repr

structure Brace where
  g : BrGlobal := {}
  axes : List Axis := List.replicate 8 {}
  cycle : Nat := 0
  segment : Segment := .none
  /-- the setpoints of this cycle, and those of the previous one (R302) -/
  cur : ActFrame := {}
  prev : ActFrame := {}
  /-- the active twin's frame of the cycle, in a standby (R329) -/
  copied : Option ActFrame := none
  copyMissRaised : Bool := false
  /-- cycles whose setpoints the standby lacked (R329) -/
  copyMisses : Nat := 0
  /-- the previous cycle was one of the Scan segment -/
  inScan : Bool := false
  /-- running disparity of each actuator link; true is positive (R328) -/
  rd : List Bool := [false, false]
  ePrevX : Int := 0
  ePrevY : Int := 0
  /-- tracking command of the last issued flash (R327) -/
  cLastX : Int := 0
  cLastY : Int := 0
  deflClamps : Nat := 0
  deflRaised : Bool := false
  shadowRaised : Bool := false
  deriving DecidableEq, Repr

end Sys2Proof.Machine
end

