-- ==== Sys2Proof/Machine/Parts2.lean ====
section
/-! DEFINITION. The record types of the state, second part: job and streams, cell cache, Loom, Polder,
DRAM, calibration and journal store, Sluice, mailboxes, twins and Stitch. Defaults are reset values, as
in Parts.lean. -/

namespace Sys2Proof.Machine
open Sys2Proof

/-! ## Job and Pleat streams (02) -/

/-- 02 Table PLEAT-2. -/
structure DirEnt where
  stripe : Nat
  band : Nat
  empty : Bool
  chequin : Nat
  streamOffset : Nat
  streamLen : Nat
  cells : List Nat
  deriving DecidableEq, Repr

/-- The header fields the engine goes on using (02 Table PLEAT-1). -/
structure Header where
  verMinor : Nat
  headLen : Nat
  jobTag : Nat
  rasterOnly : Bool
  stripeFirst : Nat
  stripeCount : Nat
  bandRows : Nat
  bandsPerStripe : Nat
  dirOffset : Nat
  fileLen : Nat
  deriving DecidableEq, Repr

/-- A record of a band stream or a cell body (02 Table PLEAT-5). Trapezoids are (y0, y1, x0l, x0r,
x1l, x1r); rectangles stand as their trapezoids (R67). -/
inductive Record where
  | bandBegin (stripe band : Nat) (baseX baseY : Int)
  | cellDef (id height : Nat) (minX minY maxX maxY : Int)
  | traps (list : List (Int × Int × Int × Int × Int × Int))
  | place (cell orient : Nat) (ovr : Option (Nat × Nat)) (posX posY : Int) (cols rows : Nat)
      (colDx colDy rowDx rowDy : Int)
  | doseLayer (layer dose : Nat)
  | rasterTile (tx ty encoding runs : Nat) (doses : List Nat)
  | end_ (count : Nat)
  deriving DecidableEq, Repr

/-- A decoded cell: identity, height, declared box and body records. -/
structure CellBody where
  id : Nat
  height : Nat
  minX : Int
  minY : Int
  maxX : Int
  maxY : Int
  body : List Record
  deriving DecidableEq, Repr

/-- 02 Table PLEAT-10. -/
inductive StreamState where
  | idle | staging | staged | decoding | done | failed | kept
  deriving DecidableEq, Repr

/-- 04 Table LOOM-2. -/
inductive RenderState where
  | idle | binning | waitPins | tiling | written | discarded
  deriving DecidableEq, Repr

/-- 05 Table POLDER-3. -/
inductive BandState where
  | outside | waiting | rendering | released | faulted
  deriving DecidableEq, Repr

/-- A tile written: its number, its doses row by row, its over-coverage count and its first
over-covered pair as (row in the band, column, layer). -/
structure TileOut where
  tile : Nat
  doses : List Nat
  overs : Nat := 0
  first : Option (Nat × Nat × Nat) := none
  deriving DecidableEq, Repr

/-- A unit at work on a tile, and since when. -/
structure Work where
  unit : Nat
  tile : Nat
  since : Nat
  /-- the cell that it waits for, and since when -/
  waiting : Option (Nat × Nat) := none
  /-- steps that it has waited -/
  waited : Nat := 0
  /-- cells whose lookup for the tile has been counted -/
  looked : List Nat := []
  /-- cells that it is expanding placements of (03 R96) -/
  refs : List Nat := []
  deriving DecidableEq, Repr

/-- What the binner has made of a band (04 R126): records taken, references counted, the tiles of each
top-level placement by the record's stream offset, and the cells looked up. -/
structure Binned where
  taken : Nat := 0
  count : Nat := 0
  refs : List (Nat × List Nat) := []
  cells : List Nat := []
  deriving DecidableEq, Repr

/-- One band in any of the blocks (02 R76, 04 R128, 05 R146, 03 R101 and R102). -/
structure Band where
  stripe : Nat
  band : Nat
  -- Pleat codec
  stream : StreamState := .idle
  /-- bus address in the feed window of the stream's first byte, once its copy has begun (02 R45) -/
  copyFrom : Option Nat := none
  staged : List Byte := []
  /-- a block of the staged copy cannot be read (14 Table MEM-4) -/
  damaged : Bool := false
  /-- blocks decoded and waiting for their turn: block number, error if any, decoded bytes, LAST -/
  decoded : List (Nat × Option FaultName × List Byte) := []
  /-- blocks passed on in order -/
  nextBlock : Nat := 0
  /-- decoded bytes passed so far that are not yet whole records, with the stream offset of their
  first byte -/
  rest : List Byte := []
  restAt : Nat := 0
  records : List (Nat × Record) := []
  rawTotal : Nat := 0
  -- Loom
  render : RenderState := .idle
  binned : Binned := {}
  queued : List Nat := []
  working : List Work := []
  tiles : List TileOut := []
  -- Polder
  polder : BandState := .outside
  attempt : Nat := 1
  retry : Bool := false
  computed : Nat := 0
  overCount : Nat := 0
  overFirst : Option (Nat × Nat × Nat) := none
  -- cell cache
  claimed : Bool := false
  pinned : Bool := false
  /-- pins dropped under 03 R105 and not restored -/
  pinsDropped : Bool := false
  reached : List Nat := []
  -- twins
  peerReleased : Option Nat := none
  unavailable : Bool := false
  deriving DecidableEq, Repr

/-- 13 Table MBOX-7 and the copied head; `decided` once JOB_DECISION has opened it. -/
structure Job where
  hdr : Header
  /-- the head as it was copied into engine DRAM, and the bus address that it was copied from (02 R44) -/
  head : List Byte
  headAddr : Nat
  headCrc : BitVec 32
  dir : List DirEnt
  windowAddr : Nat
  windowSize : Nat
  stagingSize : Nat
  flashStart : Nat
  first : Nat
  /-- next stripe (R75) -/
  next : Nat
  feedLimit : Nat
  /-- directory index of the next entry to stage (R74) -/
  stageAt : Nat := 0
  /-- stripes skipped by a STRIPE_START or below the first (R75) -/
  skipped : List Nat := []
  stagedUsed : Nat := 0
  deriving DecidableEq, Repr

/-- 13 Table MBOX-12 and the progress of a running capture. -/
structure Capture where
  kind : Nat
  effort : Nat
  trigger : Nat
  lane : Nat
  trigFault : Nat
  start : Nat
  count : Nat
  bufAddr : Nat
  bufSize : Nat
  triggered : Bool := false
  /-- armed by an accepted matching fault (trigger 2) -/
  faultSeen : Bool := false
  entries : Nat := 0
  raw : List Byte := []
  firstFlash : Nat := 0
  /-- what ended it, when something but its count did: 1 band row freed, 2 uncorrectable block,
  3 halt, 4 stripe or job end -/
  ended : Nat := 0
  deriving DecidableEq, Repr

/-! ## Cell cache (03) -/

/-- 03 Table CACHE-2. -/
structure CellEnt where
  id : Nat
  hostAddr : Nat
  storedLen : Nat
  rawLen : Nat
  check : Nat
  deriving DecidableEq, Repr

/-- 03 Table CACHE-1, accepted. -/
structure CellDir where
  jobTag : Nat
  headerCrc : BitVec 32
  entries : List CellEnt
  deriving DecidableEq, Repr

/-- 03 Table CACHE-3. -/
inductive CellState where
  | absent | fetching | decoding | resident | bad
  deriving DecidableEq, Repr

structure Cell where
  ent : CellEnt
  state : CellState := .absent
  /-- second read of a fetch (R97) -/
  second : Bool := false
  /-- pages that hold it: one with granules for a small cell, all of its own for a large one -/
  pages : List Nat := []
  granules : Nat := 0
  body : Option CellBody := none
  stored : List Byte := []
  stamp : Nat := 0
  prefetched : Bool := false
  lookedUp : Bool := false
  deriving DecidableEq, Repr

structure CacheStats where
  lookups : Nat := 0
  hits : Nat := 0
  demandFetches : Nat := 0
  prefetches : Nat := 0
  prefetchUnused : Nat := 0
  evictions : Nat := 0
  storedBytes : Nat := 0
  decodedBytes : Nat := 0
  retries : Nat := 0
  badCells : Nat := 0
  pinDrops : Nat := 0
  pinnedPeak : Nat := 0
  loomWaitNs : Nat := 0
  deriving DecidableEq, Repr

structure Cache where
  sizeGib : Nat := 32
  horizon : Nat := 8
  dir : Option CellDir := none
  /-- a directory was accepted since the last job ended (R85) -/
  dirFresh : Bool := false
  cells : List Cell := []
  fillPage : Option Nat := none
  fillUsed : Nat := 0
  /-- pages in use -/
  used : List Nat := []
  /-- queued fetches in queue order: cell identity, pinned -/
  queue : List (Nat × Bool) := []
  counter : Nat := 0
  stats : CacheStats := {}
  deriving DecidableEq, Repr

/-! ## Loom (04) and Polder (05) -/

structure LoomStats where
  renders : Nat := 0
  restarts : Nat := 0
  tiles : Nat := 0
  instanceTests : Nat := 0
  rowSteps : Nat := 0
  overcoverBands : Nat := 0
  overcoverPairs : Nat := 0
  unitBusyNs : Nat := 0
  binRefsPeak : Nat := 0
  deriving DecidableEq, Repr

structure Loom where
  overMode : Nat := 0
  unitFloor : Nat := 240
  raw : List Byte := [0, 0, 240, 0, 0, 0, 0, 0] ++ List.replicate 32 255
  unitEnable : BitVec 256 := BitVec.allOnes 256
  inService : BitVec 256 := BitVec.allOnes 256
  unitsLowRaised : Bool := false
  stats : LoomStats := {}
  deriving DecidableEq, Repr

structure PolStats where
  releases : Nat := 0
  reweaves : Nat := 0
  bandFaults : Nat := 0
  eccCorrected : Nat := 0
  eccUncorrectable : Nat := 0
  voidFlashes : Nat := 0
  reportsDropped : Nat := 0
  /-- least band lead since the last clear (R156) -/
  leadMin : Option Int := none
  deriving DecidableEq, Repr

structure Polder where
  /-- words by (ring row × 512 + slice) × 18 + word; an unlisted word reads 0 -/
  sram : List (Nat × Nat) := []
  /-- pattern rows below this are free, rows below `enteredTo` have entered (R140 to R142) -/
  freeBelow : Nat := 0
  enteredTo : Nat := 0
  stripe : Nat := 0
  reportRing : Nat := 0xFF
  reportMask : Nat := 0x0E
  coverMode : Nat := 0
  eccRaised : Bool := false
  stats : PolStats := {}
  deriving DecidableEq, Repr

/-! ## DRAM controller (14) -/

/-- A queued piece (R426): its first block, how many blocks it covers, its class: 0 RT, 1 BULK, 2 CPU. -/
structure Req where
  block : Nat
  blocks : Nat := 1
  cls : Nat
  arrived : Nat
  promoted : Bool := false
  write : Bool := false
  deriving DecidableEq, Repr

/-- A bank: predictor, last row accessed, row open (R427). -/
structure Bank where
  pred : Nat := 1
  lastRow : Option Nat := none
  open' : Bool := false
  deriving DecidableEq, Repr

/-- A sub-channel: the requests that wait, oldest first, and the piece that has started (R426). -/
structure SubCh where
  queue : List Req := []
  active : Option Req := none
  owed : Nat := 0
  hot : Bool := false
  banks : List Bank := List.replicate 32 {}
  ce : List Nat := List.replicate 10 0
  deriving DecidableEq, Repr

/-- A merge-buffer entry (R436), with its writer's class and its code in Table MEM-4. -/
structure Merge where
  block : Nat
  bytes : List (Nat × Byte)
  lastWrite : Nat
  cls : Nat
  who : Nat := 3
  deriving DecidableEq, Repr

structure Dram where
  /-- ten symbols by block address, addresses strictly rising; an unlisted block of a written page
  holds the encoding of zero (R440) -/
  blocks : List (Nat × List Word) := []
  /-- pages written, strictly rising -/
  valid : List Nat := []
  /-- pages that a first write has filled with zeros (R440), strictly rising; the unlisted blocks of any
  other page, which only the loss of a map word can declare written (R441), hold whatever the DRAM held -/
  filled : List Nat := []
  mapCheck : List (Nat × Nat) := []
  merge : List Merge := []
  sub : List SubCh := List.replicate 16 {}
  rate : Nat := 0
  /-- the delay set written into the PHYs, as its DELAY record carries it (R443) -/
  delays : List Byte := []
  forcedRaised : Bool := false
  fetchFaults : List Nat := []
  deriving DecidableEq, Repr

/-! ## Calibration and journal store (16) -/

/-- A vernier bank (16 R472): its calibration temperature, error and selection with the sequence of the attempt
that passed; its launch delay, and what the trim left between its tap 0 and the reference's, both in 2^-10 step
(R473). -/
structure VBank where
  tCal : Int := 0
  errMax : Nat := 0
  taps : List Nat := []
  selected : Nat := 0
  launch : Int := 0
  offset : Int := 0
  deriving DecidableEq, Repr

structure Output where
  active : Nat := 0
  banks : List VBank := List.replicate 2 {}
  swaps : Nat := 0
  failures : Nat := 0
  /-- attempts ended, and whether the calibration passed, for each bank -/
  attempts : List Nat := [0, 0]
  passed : List Bool := [false, false]
  /-- sum and number of the die temperatures sampled in the attempt under way, for each bank (R477) -/
  temps : List (Int × Nat) := [(0, 0), (0, 0)]
  deriving DecidableEq, Repr

inductive CalMode where
  | none | calibrate | background
  deriving DecidableEq, Repr

structure Cal where
  drift : Nat := 192
  stale : Nat := 640
  tol : Nat := 512
  auto : Nat := 1
  outs : List Output := List.replicate 2 {}
  mode : CalMode := .none
  cold : Bool := false
  /-- both outputs calibrated: Calibrate may end (01 R33) -/
  passed : Bool := false
  swapReady : Bool := false
  /-- end of the flash that was being driven when the swap became ready (R480) -/
  swapAfter : Nat := 0
  /-- temperature that replaces T_cal in the drift test after a failed background run (R479) -/
  bgRef : Option Int := none
  staleRaised : Bool := false
  deriving DecidableEq, Repr

/-- A record in a basin: its offset there, and its bytes from magic to marker (16 Table STORE-5). -/
structure JRec where
  offset : Nat
  raw : List Byte
  deriving DecidableEq, Repr

/-- A basin: its 64-byte header (16 R488), its records in the order of their offsets, and the append
point; `erased` says that every sector of it is. -/
structure Basin where
  head : List Byte := List.replicate 64 0xFF
  records : List JRec := []
  append : Nat := 64
  erased : Bool := true
  deriving DecidableEq, Repr

/-- A firmware slot (R493): header values, and whether header and image check. -/
structure FwSlot where
  build : Nat := 0
  length : Nat := 0
  imageCrc : Nat := 0
  imageOk : Bool := false
  deriving DecidableEq, Repr

/-- A record waiting to be appended, with the mailbox whose audit it is (13 R415). -/
structure JWait where
  type : Nat
  key : Nat
  body : List Byte
  mb : Option Nat := none
  fails : Nat := 0
  deriving DecidableEq, Repr

structure Journal where
  basins : List Basin := [{ erased := false, append := 168, head := [
        66, 65, 83, 73, 78, 13, 10, 26, 1, 0, 0, 0, 0, 0, 0, 0, 0, 0, 0, 0, 0, 0, 0, 0, 0, 0, 0, 0, 0, 0, 0, 0, 0, 0,
        0, 0, 0, 0, 0, 0, 0, 0, 0, 0, 0, 0, 0, 0, 119, 217, 129, 73, 0, 0, 0, 0, 90, 90, 165, 165, 195, 195, 60, 60], records := [
      { offset := 64, raw := [
        82, 74, 6, 0, 56, 0, 0, 0, 1, 0, 0, 0, 0, 0, 0, 0, 0, 0, 0, 0, 164, 80, 192, 59, 1, 0, 0, 0, 64, 0, 0, 0, 0,
        0, 0, 0, 0, 0, 0, 0, 166, 250, 215, 38, 0, 0, 0, 0, 90, 90, 165, 165, 195, 195, 60, 60] },
      { offset := 120, raw := [
        82, 74, 7, 0, 48, 0, 0, 0, 2, 0, 0, 0, 0, 0, 0, 0, 0, 0, 0, 0, 69, 246, 157, 217, 0, 0, 0, 0, 0, 0, 0, 0,
        196, 72, 80, 30, 0, 0, 0, 0, 90, 90, 165, 165, 195, 195, 60, 60] }] }, {}]
  active : Nat := 0
  /-- records waiting; the first is the open one -/
  queue : List JWait := []
  needCompact : Bool := false
  /-- sectors of the other basin still to be erased -/
  eraseLeft : Nat := 0
  /-- rates with a DELAY record in the factory region (R443, R485) -/
  factory : List Nat := [0, 1, 2]
  slots : List FwSlot := [{ build := 1, length := 64, imageCrc := 0, imageOk := true }, {}]
  running : Nat := 0
  jseq : Nat := 2
  compactions : Nat := 0
  errors : Nat := 0
  powerFail : Bool := false
  /-- a firmware load in the background: slot, length, address -/
  fwLoad : Option (Nat × Nat × Nat) := none
  deriving DecidableEq, Repr

/-! ## Sluice (12) -/

/-- 12 Table HOST-8, with RINGn_STATUS codes in order. -/
inductive RingState where
  | idle | running | parked | stopping | halted
  deriving DecidableEq, Repr

/-- A fetched descriptor: its bus address, its 32 bytes (12 Table HOST-5) and its index table. -/
structure Desc where
  addr : Nat
  raw : List Byte
  table : List Byte
  deriving DecidableEq, Repr

structure Ring where
  vector : Nat := 8
  mode : Nat := 0
  state : RingState := .idle
  enable : Bool := false
  abort : Bool := false
  dbPending : Bool := false
  lastSt : Nat := 0
  head : Nat := 0
  cqSize : Nat := 6
  cqBase : Nat := 0
  cqHead : Nat := 0
  cqTail : Nat := 0
  /-- records written since the last enable -/
  records : Nat := 0
  cur : Nat := 0
  /-- bus address of the descriptor to be fetched next -/
  fetch : Option Nat := none
  /-- the descriptor at work in copy mode -/
  desc : Option Desc := none
  /-- its transfer has started (a completion slot was free) -/
  started : Bool := false
  /-- re-reads of the tail's next field on their way -/
  rereads : Nat := 0
  /-- stream mode: free descriptors held, and records queued with their arrival -/
  free : List Desc := []
  streamQ : List (Nat × List Byte) := []
  deriving DecidableEq, Repr

structure Msix where
  addr : Nat := 0
  data : Nat := 0
  mask : Bool := true
  deriving DecidableEq, Repr

structure Sluice where
  halted : Bool := true
  haltAddr : Nat := 0
  haltChan : Nat := 0
  haltReq : Nat := 0
  haltCause : Nat := 0
  linkUp : Bool := false
  bme : Bool := false
  d0 : Bool := false
  drops : Nat := 0
  dropRaised : Bool := false
  bar2Win : Nat := 0
  rings : List Ring := (List.range 32).map fun n => { vector := 8 + n }
  msix : List Msix := List.replicate 64 {}
  pba : Nat := 0
  fnMask : Bool := false
  /-- records of the engine's streams on their way to a ring: ring, bytes (05 R155) -/
  streamOut : List (Nat × List Byte) := []
  deriving DecidableEq, Repr

/-! ## Mailboxes (13) -/

inductive MbState where
  | free | executing | posted
  deriving DecidableEq, Repr

/-- An accepted request (13 R404): `params` holds PLEN bytes once they are in hand; `at'` is when its doorbell
was accepted. -/
structure Request where
  mb : Nat
  tag : Nat
  seq : Nat
  opcode : Nat
  oper : Nat
  plen : Nat
  indirect : Bool
  paddr : Nat
  params : List Byte
  at' : Nat := 0
  deriving DecidableEq, Repr

/-- Where a begun request stands: waiting for the copy of its parameters, for its other command copy,
or ready for its command's step. -/
inductive Phase where
  | copyParams | copyData | ready
  deriving DecidableEq, Repr

structure Current where
  req : Request
  phase : Phase
  data : List Byte := []
  deriving DecidableEq, Repr

/-- A finished result (13 R414). `cycle` is the servo cycle whose image holds it (11 R349). -/
structure Completion where
  req : Request
  status : Nat
  head : List Byte
  body : List Byte
  cycle : Nat
  time : Nat
  replay : Bool := false
  /-- an audit record of this command is on its way (13 R415); none when the command has none -/
  audit : Option Bool := none
  auditFailed : Bool := false
  deriving DecidableEq, Repr

/-- 13 R410: one replay-cache entry. -/
structure CacheEnt where
  tag : Nat
  seq : Nat
  opcode : Nat
  digest : Word
  status : Nat
  result : List Byte
  /-- step count at its completion (R411) -/
  time : Nat
  deriving DecidableEq, Repr

structure Mailbox where
  cmd : Word := 0
  arg : Word := 0
  paddr : Word := 0
  /-- parameter words written, by k; unlisted words are 0 -/
  params : List (Nat × Word) := []
  state : MbState := .free
  seq : Nat := 0
  status : Nat := 0
  replay : Bool := false
  gen : Nat := 0
  rtag : Nat := 0
  result : List Byte := []
  drops : Nat := 0
  held : Option Completion := none
  /-- oldest first, at most 64 -/
  cache : List CacheEnt := []
  deriving DecidableEq, Repr

/-- The control processor (13 R412, 14 Table MEM-4). -/
structure Cp where
  accepted : List Request := []
  current : Option Current := none
  /-- requests running in the background (R413) -/
  bg : List Current := []
  halted : Bool := false
  /-- a job start waiting for its decision: the job, and since when (R418) -/
  deciding : Option (Job × Nat) := none
  capture : Option Capture := none
  deriving DecidableEq, Repr

/-! ## Twins and Stitch (11) -/

/-- 11 Table TWIN-3. -/
inductive PairState where
  | alone | pairing | joining | paired
  deriving DecidableEq, Repr

/-- 11 Table TWIN-4, HELLO body. -/
structure Hello where
  build : Nat
  role : Nat
  pairState : Nat
  engineState : Nat
  configDigest : Nat
  ringDigest : Nat
  deriving DecidableEq, Repr

/-- What a state image carries (11 Table TWIN-5), section by section. -/
structure Image where
  -- section 1
  state : EngState
  jobOpen : Bool
  causes : List Cause
  runs : Nat
  flashNext : Nat
  epoch : Nat
  stripe : Option Stripe
  begun : Bool
  hemState : HemState
  seamStep : Nat
  mHw : Option Nat
  mNext : Nat
  tPrev : Nat
  endPrev : Nat
  q : Pred
  x : Pred
  th : Pred
  phi : Int
  omega : Int
  tl : Nat
  fRun : Nat
  -- sections 2 and 3
  axes : List Axis
  segment : Segment
  /-- per axis: offset of its source, and its limits (LIM_P, LIM_M) -/
  offsets : List Int
  limits : List (Bool × Bool)
  cmps : List Compare
  -- section 4
  fc : FcCopy
  dikeAxes : List DikeAxis
  -- section 5
  caches : List (List CacheEnt)
  -- section 6
  sec : Nat
  ns : Nat
  frac : Nat
  inc : Nat
  step : Int
  pls : List Pulse
  deriving DecidableEq, Repr

/-- A Gusset message (11 Table TWIN-4). All but HEARTBEAT are delivered in MSEQ order (R341). -/
inductive GMsg where
  | heartbeat (slot state role pair lanes applied : Nat)
  | slack (khz : Nat)
  | hello (h : Hello)
  | state (cycle section_ offset : Nat) (data : List Byte)
  | stateEnd (cycle count : Nat) (crc : Word) (image : Image)
  | setpoint (cycle ctrl0 ctrl1 : Nat) (set0 set1 : List Int)
  | commit (record : FlashRec) (tn : Nat) (f : Int)
  | withdraw (flash epoch : Nat)
  | band (stripe band outcome attempt : Nat) (computed : Word)
  | digest (flash epoch : Nat) (void : Bool) (digest : Word)
  | check (item : Nat) (value : Word)
  | time (kind ta tb : Nat) (correction : Int)
  /-- TIME of kind 2: the boundary's step count, and the time and increment that it carries (R344) -/
  | timeLoad (boundary sec ns frac inc : Nat)
  | takeover (cycle cause : Nat)
  deriving DecidableEq, Repr

/-- A frame digest waiting for its pair (11 R352). -/
structure Dig where
  flash : Nat
  epoch : Nat
  void : Bool
  value : Word
  at' : Nat
  own : Bool
  deriving DecidableEq, Repr

/-- 11 Table TWIN-9. -/
structure TwinCfg where
  raw : List Byte := [0, 0, 1, 0, 0, 0, 0, 0, 0, 0, 0, 0, 0, 0, 0, 0]
  peerComp : Int := 0
  ptpEnable : Nat := 1
  ptpDelay : Nat := 0
  ptpTransport : Nat := 0
  ptpDomain : Nat := 0
  ringEnable : Nat := 0
  holdGroup : Nat := 0
  ipv4 : Nat := 0
  deriving DecidableEq, Repr

structure Twin where
  /-- messages that wait for the transmitter, as they were queued, and the next MSEQ (R341, R342) -/
  txQ : List GMsg := []
  txMseq : Nat := 0
  /-- the module is in Fault on its own account, not as a copy of the active twin's (01 R35) -/
  ownFault : Bool := false
  pair : PairState := .alone
  active : Bool := true
  cfg : TwinCfg := {}
  peer : Option Hello := none
  /-- applied cycle of the peer's last HEARTBEAT -/
  applied : Option Nat := none
  slotSeen : Bool := false
  missed : Nat := 0
  gusLive : Bool := false
  /-- LOCK and TRAINED as the peer's last HEARTBEAT gave them -/
  lanes : Nat := 0
  /-- the transmit lanes of Gusset (R338) -/
  tx : List Lane := List.replicate 4 {}
  /-- instant of the last HELLO of the lanes that are Up -/
  helloAt : Option Nat := none
  rxNext : Option Nat := none
  /-- messages that wait for the ones before them: MSEQ, arrival, message (R341) -/
  rxHeld : List (Nat × Nat × GMsg) := []
  /-- the image being received: cycle and STATE messages as (section, offset, data) -/
  image : List (Nat × Nat × Nat × List Byte) := []
  lastApplied : Nat := 0
  unapplied : Nat := 0
  snap : Option Image := none
  /-- the pair is Joining and the standby has applied a full image -/
  joined : Bool := false
  peerDigest : Option Word := none
  peerHead : Option Word := none
  peerDir : Option Word := none
  digests : List Dig := []
  digestMissing : Nat := 0
  trim : Int := 0
  trimDue : Option Int := none
  /-- send stamp of the last TIME of kind 1 received, and its receive stamp -/
  timeExch : Option (Nat × Nat) := none
  swapDue : Bool := false
  deriving DecidableEq, Repr

/-- A synchronous start or a group operation ordered on the ring (11 R370, R371). -/
structure Ordered where
  stripe : Nat
  mask : Nat
  at' : Nat
  deriving DecidableEq, Repr

/-- An ORDER (Table TWIN-4). Events: 1 synchronous start, 2 group hold, 3 group resume (log 19). -/
structure OrderMsg where
  order : Nat
  event : Nat
  member : Nat
  stripe : Nat
  mask : Nat
  at' : Nat
  deriving DecidableEq, Repr

/-- A Stitch message (11 Table TWIN-4). -/
inductive SMsg where
  | hello (h : Hello)
  | time (kind ta tb : Nat) (correction : Int)
  | lead (leader order : Nat)
  | order (o : OrderMsg)
  | request (event stripe mask at' : Nat)
  deriving DecidableEq, Repr

structure RingNet where
  leader : Option Nat := none
  /-- last order number acted on -/
  orderSeen : Nat := 0
  /-- ORDERs that came before their turn -/
  orderHeld : List OrderMsg := []
  /-- a synchronous start that this pair was dropped from: its stripe (R370) -/
  dropped : Option Nat := none
  /-- the last synchronous start that this module ordered as leader -/
  started : Option Ordered := none
  /-- last HELLO by member number -/
  hellos : List (Nat × Hello) := []
  quarantined : List Nat := []
  /-- the transmit lanes, east 0 and 1, west 0 and 1 (R364) -/
  tx : List Lane := List.replicate 4 {}
  /-- instants of the last good LEAD, and of the last LEAD, TIME and HELLO sent -/
  leadAt : Nat := 0
  leadSent : Option Nat := none
  timeSent : Option Nat := none
  helloSent : Option Nat := none
  hopDelay : Int := 0
  okCount : Nat := 0
  sync : Option Ordered := none
  groupHeld : Bool := false
  resumeAt : Option Ordered := none
  resumeReqs : List Nat := []
  /-- (origin, MSEQ) received last, newest first -/
  rxLast : List (Nat × Nat) := []
  /-- MSEQ of the next Stitch message -/
  txMseq : Nat := 0
  deriving DecidableEq, Repr

end Sys2Proof.Machine
end

