-- ==== Sys2Proof/Syntax.lean ====
section
/-! DEFINITION. The commands of the block: one constructor for each row of spec/opcode_table.json, in
the table's order, with the requirement the row names. The table gives the rows no operands and no
bits, so the operands are the model's (log 1, 7): `t` is the instant of the step in vernier steps
(07 R188), and the rest is what arrives from outside with the event. A host command has `t` alone: its
parameters are those of the mailbox request it runs (log 15). -/

namespace Sys2Proof
open Sys2Proof.Machine

inductive Instr where
  /-- POWER_UP (R502). VIN, PWR_GOOD and RESET_N hold together for 100 ms; the main rails start and the engine enters Boot, or stays in Sleep if WAKE_N is high. -/
  | powerUp (t : Nat) (wakeN twinB : Bool) (pairId : Nat)
  /-- WAKE_N_FALL (R502). WAKE_N is qualified low in Sleep, which starts the wake sequence toward Boot. -/
  | wakeNFall (t : Nat)
  /-- RESET_N_ASSERT (R510). RESET_N is qualified low; TGOOD falls, lanes go idle and outputs are held low. -/
  | resetNAssert (t : Nat)
  /-- RESET_N_RELEASE (R335). RESET_N is released; the straps are sampled and the engine enters Boot or Sleep. -/
  | resetNRelease (t : Nat) (wakeN twinB : Bool) (pairId : Nat)
  /-- RESET_ENTRY (R510). 100 µs after a RESET command or a chip-reset reaction posts, the engine acts as for a 10 µs RESET_N pulse. -/
  | resetEntry (t : Nat) (wakeN twinB : Bool) (pairId : Nat)
  /-- POWER_FAIL_DETECT (R505). A power-fail detect cause qualifies; the engine raises its fault, sheds load and commits the open journal record. -/
  | powerFailDetect (t : Nat) (kind addr : Nat)
  /-- REF_LOST (R514). TREF or CUFF_REF has been absent or off frequency; f_slack is treated as 0 and TGOOD falls, or the Cuff lanes go Lost. -/
  | refLost (t : Nat) (cuff : Bool)
  /-- DIE_TEMP_SAMPLE (R477). At the 1 ms die-temperature sample, ENG_TEMP is updated and the drift, stale and thermal thresholds are tested. -/
  | dieTempSample (t : Nat) (temps : List Int)
  /-- BOOT_COMPLETE (R33). A valid firmware image has started and DRAM initialisation has completed; the engine enters Calibrate, or Fault if no slot is valid. -/
  | bootComplete (t : Nat) (memFail : Option (Nat × Nat))
  /-- CAL_ATTEMPT_END (R476). The two measuring runs of a calibration attempt end; the attempt passes, or the next attempt starts. -/
  | calAttemptEnd (t : Nat) (output bank : Nat) (n1 n2 : List Nat) (tAvg : Int)
  /-- READY_ENTRY (R33). Once calibration has passed and f_slack is non-zero, the engine leaves Calibrate for Ready and raises HEM_TGOOD. -/
  | readyEntry (t : Nat)
  /-- BANK_SWAP (R480). After a passing background calibration, the idle banks become active at the first strobe after the current flash ends. -/
  | bankSwap (t : Nat)
  /-- SLACK_PUBLISH (R28). Every 10 µs the slack monitor computes f_slack_khz from w_max and g. -/
  | slackPublish (t : Nat)
  /-- SYNTHETIC_FLASH (R29). Outside Writing, every 10 µs a synthetic flash goes through every monitored pipeline. -/
  | syntheticFlash (t : Nat) (w : Nat)
  /-- SLACK (R31). A peer SLACK message arrives and the pair ceiling is recomputed. -/
  | slack (t : Nat) (h : MsgHdr) (khz : Nat)
  /-- SLACK_PEER_TIMEOUT (R31). No peer f_slack has arrived for three servo cycles, so the twin uses its own value alone. -/
  | slackPeerTimeout (t : Nat)
  /-- FAULT_ACCEPT (R453). The fault collector accepts a fault message, latches and counts it, and takes the reaction that its stage rules give. -/
  | faultAccept (t : Nat)
  /-- ESCALATION_TIMEOUT (R454). A pending source's escalation timer expires and its stage rises toward the ceiling. -/
  | escalationTimeout (t : Nat) (src : Nat)
  /-- FC_RELEASE (R451). A write of 1 to FC_CTRL.RELEASE re-arms the first-fault latch. -/
  | fcRelease (t : Nat)
  /-- FC_CLR_CNT (R471). A write of 1 to FC_CTRL.CLR_CNT zeroes every source count. -/
  | fcClrCnt (t : Nat)
  /-- FC_PEND_ACK (R455). A write of 1 to an FC_PEND bit acknowledges the source and stops its timer. -/
  | fcPendAck (t : Nat) (mask : Word)
  /-- WATCHDOG (R469). The Dike watchdog expires; timing is suppressed, the stage is stopped and the engine enters Fault. -/
  | watchdog (t : Nat)
  /-- LOCK_EDGE (R463). DIKE_LOCK_N changes to a new qualified level. -/
  | lockEdge (t : Nat) (high : Bool)
  /-- LOCK_FIRST_QUALIFICATION (R463). DIKE_LOCK_N first holds one level for 1 ms after Boot, which sets FC_DIKE.LOCK without any edge. -/
  | lockFirstQualification (t : Nat) (high : Bool)
  /-- SAMPLE_TICK (R267). At each 20 MHz sample tick every source delivers a sample, the channels are formed and Hem processes the scan sample. -/
  | sampleTick (t : Nat)
  /-- POS_REQUEST (R269). A position port issues a request at its word-period boundary. -/
  | posRequest (t : Nat) (port : Nat)
  /-- POS_WORD (R272). A position reply is received whole and checked; a good word becomes usable. -/
  | posWord (t : Nat) (port : Nat) (reply : List Bool)
  /-- QUAD_EDGE (R277). A filtered quadrature sample changes, and the count and speed update. -/
  | quadEdge (t : Nat) (enc : Nat) (a b : Bool)
  /-- INDEX_EVENT (R279). A rising filtered QZ edge, gated, latches the count and time. -/
  | indexEvent (t : Nat) (enc : Nat)
  /-- SINCOS_SAMPLE (R280). A sine/cosine ADC sample is corrected and the phase and period count update. -/
  | sincosSample (t : Nat) (enc : Nat) (rawS rawC : Int)
  /-- PROBE_EDGE (R285). A qualified probe edge is stamped and buffered, or dropped. -/
  | probeEdge (t : Nat) (probe te : Nat) (rising : Bool)
  /-- COMPARE_FIRE (R290). An armed compare reaches its crossing time and pulses; a periodic compare advances. -/
  | compareFire (t : Nat) (cmp : Nat)
  /-- SWITCH_EDGE (R293). A switch input is qualified to a new level, and the position is latched. -/
  | switchEdge (t : Nat) (set input : Nat) (raw : Bool) (tRaw : Nat)
  /-- SWITCH_FIRST_QUALIFICATION (R293). A switch input first holds one level for sw_filter µs and is taken as qualified without an edge. -/
  | switchFirstQualification (t : Nat) (set input : Nat) (raw : Bool)
  /-- SERVO_CYCLE (R301). At each servo cycle start the axes take their samples, the trajectories advance, the chains and Dike checks run, and the state image is sent. -/
  | servoCycle (t : Nat)
  /-- OUTPUT_PHASE (R301). At the output phase the actuator frames of the cycle are transmitted. -/
  | outputPhase (t : Nat) (finished : Bool)
  /-- SETTLE_TIMEOUT (R308). Settle lasts longer than settle_to. -/
  | settleTimeout (t : Nat) (axis : Nat)
  /-- BRAKE_TIMEOUT (R465). After rest or brake_ms under Dike brake, Dike clears the slot's ENABLE. -/
  | brakeTimeout (t : Nat) (axis : Nat)
  /-- FLASH_ISSUE (R221). At t_n the strobe and dose edges of a committed flash are driven, m_hw advances, and ring rows and the window move. -/
  | flashIssue (t : Nat)
  /-- EDGE_LATE (R222). The edge set of flash n is not queued by end_(n−1), so the strobe is issued without DCLK. -/
  | edgeLate (t : Nat)
  /-- TGOOD_DROP (R223). The own-output checker finds a transition out of its window and drops HEM_TGOOD. -/
  | tgoodDrop (t : Nat) (flash : Nat)
  /-- PEER_EDGE (R224). A peer transition differs from the own one by more than 150 ps. -/
  | peerEdge (t : Nat) (flash : Nat) (d : Int)
  /-- PHASE_TRIM (R346). After each 65,536 peer transitions, the mean d is evaluated and twin B adjusts its trim. -/
  | phaseTrim (t : Nat) (meanD : Int)
  /-- SEAM_CAUSE_ACCEPT (R204). The arbiter accepts a cause of Seam, Held or Fault; Hem withdraws ungated flashes and Seam starts or the cause joins it. -/
  | seamCauseAccept (t : Nat)
  /-- HELD_TIMEOUT (R200). Held lasts longer than held_time, which raises HELD_ABANDON. -/
  | heldTimeout (t : Nat)
  /-- SEAM_RESUME_START (R207). All resume conditions hold at step 4, so Hem enters Seam-run and Brace starts the Run. -/
  | seamResumeStart (t : Nat)
  /-- STRIPE_BEGIN (R26). Approach has ended and bands 0 and 1 are released, so Run begins and the engine enters Writing. -/
  | stripeBegin (t : Nat)
  /-- SYNC_START_INSTANT (R370). The ordered T8 instant of a synchronous start is reached; member pairs begin Run or are dropped. -/
  | syncStartInstant (t : Nat)
  /-- LANE_ENGINES_DONE (R182). All 512 lane engines deliver their codes for a flash; the slot is Complete and a waiting record enters Computing. -/
  | laneEnginesDone (t : Nat) (flash w : Nat) (pixelUpset tableUpset : List (Nat × Nat))
  /-- FRAME_DEADLINE (R241). D_n is reached; a late slot or unfinished assembly gives VOID frames. -/
  | frameDeadline (t : Nat) (flash : Nat)
  /-- FRAME_ASSEMBLY_DONE (R238). Cuff finishes packing a flash's frames with row CRCs, and the frame digest is sent. -/
  | frameAssemblyDone (t : Nat) (flash w : Nat) (lanes : List Nat)
  /-- FRAME_SEND_START (R239). A complete frame begins on its lane once the previous frame and the filler gap are done. -/
  | frameSendStart (t : Nat) (lane : Nat)
  /-- STATUS_FRAME (R243). The status_interval expires, and a STATUS frame is sent on each Up lane. -/
  | statusFrame (t : Nat)
  /-- TRAIN_TIMEOUT (R245). A lane has been 100 ms in Train without TRAINED, so it goes Failed. -/
  | trainTimeout (t : Nat) (lane : Nat)
  /-- ALIGN_TIMEOUT (R245). A lane has been 10 ms in Align without LOCK, so it returns to Train. -/
  | alignTimeout (t : Nat) (lane : Nat)
  /-- LOST_RETRAIN (R245). A lane has been 1 ms in Lost in Calibrate, Ready or Fault, so it returns to Train. -/
  | lostRetrain (t : Nat) (lane : Nat)
  /-- RX_HELLO (R253). A good HELLO return message updates the capabilities and copy mode. -/
  | rxHello (t : Nat) (h : RetHdr) (rev caps copyMode ident : Nat)
  /-- RX_TELEM (R252). A good TELEM message updates T, V and PAIR_SEL. -/
  | rxTelem (t : Nat) (h : RetHdr) (temp : Int) (volt pairSel sExp : Nat)
  /-- RX_LANE (R252). A good LANE message drives the lane states and the FEC counts. -/
  | rxLane (t : Nat) (h : RetHdr) (lock trained : BitVec 72) (uncorr corr : Nat)
  /-- RX_EVENT (R252). A receiver EVENT message raises the matching RX fault. -/
  | rxEvent (t : Nat) (h : RetHdr) (kind lane rows seq epoch : Nat)
  /-- RX_STUCK_ON (R252). A STUCK_ON return message arrives, which raises STUCK_ON and sends the engine into Fault. -/
  | rxStuckOn (t : Nat) (h : RetHdr) (beam : Nat)
  /-- RET_CRC (R253). A return message with a bad CRC, VERSION or framing is discarded. -/
  | retCrc (t : Nat) (lane : Nat)
  /-- RET_LOST (R253). No good return message has arrived for 1 ms. -/
  | retLost (t : Nat)
  /-- GUSSET_HELLO (R343). A HELLO on Gusset or Stitch starts pairing, or is compared for identity and quarantine. -/
  | gussetHello (t : Nat) (h : MsgHdr) (stitch : Bool) (build role pairState engineState configDigest ringDigest : Nat)
  /-- PAIRING_COMPLETE (R344). The standby has loaded its step count and time, and the pair state moves to Joining. -/
  | pairingComplete (t : Nat) (s1 r1 s2 r2 sec ns frac inc : Nat)
  /-- HEARTBEAT_SLOT (R353). At each heartbeat slot the module sends its HEARTBEAT, toggles GUS_LIVE and counts missed peer slots. -/
  | heartbeatSlot (t : Nat) (peerLive : Bool) (lanes : Nat)
  /-- HEARTBEAT (R353). A peer HEARTBEAT arrives, carrying the applied cycle and the lane bits. -/
  | heartbeat (t : Nat) (h : MsgHdr) (slot engineState role pairState lanes applied : Nat)
  /-- LIVE_LOST (R356). GUS_PEER_LIVE has stopped toggling while heartbeats continue. -/
  | liveLost (t : Nat)
  /-- STATE (R348). A STATE message with part of a state image arrives. -/
  | state (t : Nat) (h : MsgHdr) (cycle sect offset : Nat) (data : List Byte)
  /-- STATE_END (R348). STATE_END arrives; the standby applies the whole image, or keeps the previous one. -/
  | stateEnd (t : Nat) (h : MsgHdr) (cycle count : Nat) (crc : Word) (image : Image)
  /-- SETPOINT (R329). The standby receives the cycle's setpoints and CTRL. -/
  | setpoint (t : Nat) (h : MsgHdr) (cycle ctrl0 ctrl1 : Nat) (set0 set1 : List Int)
  /-- COMMIT (R213). The standby receives a commit and schedules the flash and its record. -/
  | commit (t : Nat) (h : MsgHdr) (record : FlashRec) (tn : Nat) (f : Int)
  /-- WITHDRAW (R213). The standby receives a withdrawal, withdraws the flash and advances its epoch. -/
  | withdraw (t : Nat) (h : MsgHdr) (flash epoch : Nat)
  /-- BAND (R152). A peer band report updates pair readiness. -/
  | band (t : Nat) (h : MsgHdr) (stripe band outcome attempt : Nat) (computed : Word)
  /-- DIGEST (R352). A peer frame digest arrives and is compared. -/
  | digest (t : Nat) (h : MsgHdr) (flash epoch : Nat) (void : Bool) (digest : Word)
  /-- DIGEST_TIMEOUT (R352). The peer's digest has not arrived within 10 µs, so it is counted missing. -/
  | digestTimeout (t : Nat) (flash epoch : Nat)
  /-- CHECK (R351). A peer CHECK message updates the head, directory or configuration digest. -/
  | check (t : Nat) (h : MsgHdr) (item : Nat) (value : Word)
  /-- TIME (R344). A TIME message is received for pairing, loading the time, hop delay or leader time. -/
  | time (t : Nat) (h : MsgHdr) (stitch : Bool) (kind ta tb : Nat) (correction : Int)
  /-- TIME_BROADCAST (R368). Every 100 µs, TIME messages of kind 3 and kind 4 are sent. -/
  | timeBroadcast (t : Nat)
  /-- GUSSET_TAKEOVER (R358). A TAKEOVER message arrives from the new active twin. -/
  | gussetTakeover (t : Nat) (h : MsgHdr) (cycle cause : Nat)
  /-- GUS_GAP (R341). A message sequence gap is not filled within 2 µs and is skipped. -/
  | gusGap (t : Nat)
  /-- LEAD (R366). A LEAD message from the ring leader arrives. -/
  | lead (t : Nat) (h : MsgHdr) (leader order : Nat)
  /-- LEAD_TIMEOUT (R366). Three LEAD periods pass without LEAD, so the leader is recomputed. -/
  | leadTimeout (t : Nat)
  /-- REQUEST (R370). The ring leader receives a multi-pair request and orders it. -/
  | request (t : Nat) (h : MsgHdr) (event stripe mask instant : Nat)
  /-- ORDER (R370). A member acts on an ordered synchronous start, group hold or group resume. -/
  | order (t : Nat) (h : MsgHdr) (order event member stripe mask instant : Nat)
  /-- TU_SNAP (R363). A write of 1 snapshots the time unit into TU_SEC and TU_NS. -/
  | tuSnap (t : Nat)
  /-- TU_INC_WRITE (R361). A write to TU_INC sets the increment, except in a time follower. -/
  | tuIncWrite (t : Nat) (value : Word)
  /-- TU_STEP (R363). A write to TU_STEP steps the time at the next tick, except in a time follower. -/
  | tuStep (t : Nat) (value : Word)
  /-- PULSE_ARM (R362). A write of ARM arms a pulse, or sets STALE if its time has passed. -/
  | pulseArm (t : Nat) (n : Nat) (value : BitVec 32)
  /-- PULSE_FIRE (R362). The time unit reaches a programmed pulse time, and the pulse fires and advances. -/
  | pulseFire (t : Nat) (n : Nat)
  /-- FN_RESET (R377). A function level reset or hot reset halts Sluice and resets the ring registers. -/
  | fnReset (t : Nat)
  /-- LINK_DOWN (R377). The link leaves DL_Active, or PCIE_PERST_N falls, and Sluice halts. -/
  | linkDown (t : Nat)
  /-- BME_OFF (R377). Bus Master Enable is cleared or D3hot is entered, and Sluice halts. -/
  | bmeOff (t : Nat) (d3hot : Bool)
  /-- BUS_ERR (R398). An error, poisoned, malformed or unexpected completion arrives, and every channel halts. -/
  | busErr (t : Nat) (cause addr chan req : Nat)
  /-- COMPLETION_TIMEOUT (R398). A request's completion times out, and every channel halts. -/
  | completionTimeout (t : Nat) (addr chan req : Nat)
  /-- BAR_ACCESS (R379). A BAR0 access that is not a proper register access, or a BAR2 write outside the host transfer area, is discarded. -/
  | barAccess (t : Nat) (bar offset : Nat) (isWrite : Bool)
  /-- BAR2_ACCESS (R380). A BAR2 read or write reaches engine DRAM through the window. -/
  | bar2Access (t : Nat) (offset : Nat) (isWrite : Bool) (len : Nat) (data : List Byte)
  /-- DMA_RESUME (R400). A write of 1 to DMA_CTRL.RESUME clears HALTED once the link conditions hold. -/
  | dmaResume (t : Nat)
  /-- DMA_CLR_DROP (R401). A write of 1 to DMA_CTRL.CLR_DROP clears DMA_DROPS. -/
  | dmaClrDrop (t : Nat)
  /-- RING_ENABLE (R390). A write of ENABLE 1 starts a ring at RINGn_HEAD and resets its completion queue. -/
  | ringEnable (t : Nat) (n : Nat)
  /-- RING_DISABLE (R390). A write of ENABLE 0 stops, idles or un-halts a ring. -/
  | ringDisable (t : Nat) (n : Nat)
  /-- RING_ABORT (R390). A write of ABORT 1 aborts the descriptor in progress. -/
  | ringAbort (t : Nat) (n : Nat)
  /-- RING_DOORBELL (R392). A write to RINGn_DB sets DB_PENDING, and re-reads a parked ring. -/
  | ringDoorbell (t : Nat) (n : Nat)
  /-- CQ_HEAD_WRITE (R394). A write to RINGn_CQ_HEAD frees slots, or is ignored with CQ_HEAD. -/
  | cqHeadWrite (t : Nat) (n value : Nat)
  /-- DESCRIPTOR_FETCHED (R386). A fetched descriptor is checked and its transfer starts once a completion slot is free. -/
  | descriptorFetched (t : Nat) (n addr : Nat) (bytes index : List Byte)
  /-- DESCRIPTOR_COMPLETE (R396). Every response of a descriptor has arrived; the completion record and MSI-X are written, and the chain is followed. -/
  | descriptorComplete (t : Nat) (n : Nat) (data : List Byte)
  /-- NEXT_REREAD (R391). The re-read of a tail's next field returns, and the ring runs or parks. -/
  | nextReread (t : Nat) (n next : Nat)
  /-- STREAM_RECORD (R397). An engine stream record is delivered into a stream ring descriptor, or queued. -/
  | streamRecord (t : Nat) (n : Nat)
  /-- STREAM_RECORD_TIMEOUT (R397). A queued stream record finds no free descriptor within 4 µs and is dropped. -/
  | streamRecordTimeout (t : Nat) (n : Nat)
  /-- MB_DOORBELL (R404). A write to MBn_DB on a Free mailbox is accepted, and the request slot is copied. -/
  | mbDoorbell (t : Nat) (n : Nat)
  /-- MB_ACK (R405). A write of the shown GEN to MBn_ACK retires the result. -/
  | mbAck (t : Nat) (n gen : Nat)
  /-- COMMAND_COPY_DONE (R531). A command copy of a parameter block, job head, directory or table image finishes, and the command's checks continue. -/
  | commandCopyDone (t : Nat) (data : List Byte)
  /-- COMMAND_BEGIN (R412). The control processor begins the next accepted request: replay lookup, then the ordered refusal checks. -/
  | commandBegin (t : Nat)
  /-- RESULT_POST (R349). Once the standby's heartbeat shows the image applied, the held result is posted with its vector. -/
  | resultPost (t : Nat) (n : Nat)
  /-- RESET (R33). The RESET command posts and resets the engine 100 µs later. -/
  | reset (t : Nat)
  /-- SLEEP (R509). The SLEEP command drops TGOOD, commits the open record and takes the rails down. -/
  | sleep (t : Nat) (wakeN : Bool)
  /-- CLEAR_FAULT (R33). The CLEAR_FAULT command returns the engine from Fault to Ready when its conditions hold. -/
  | clearFault (t : Nat)
  /-- ROLE_SWAP (R358). The active twin hands control to the standby at the end of the cycle. -/
  | roleSwap (t : Nat)
  /-- TWIN_TIME_CONFIG (R373). Sets the twin and time parameters. -/
  | twinTimeConfig (t : Nat)
  /-- TIME_STATUS (R372). Returns the PTP and ring time offsets. -/
  | timeStatus (t : Nat)
  /-- FAULT_CONFIG (R457). Sets the reactions, ceilings, escalation times and overrides. -/
  | faultConfig (t : Nat)
  /-- FAULT_INJECT (R460). Arms an inverted-check-bit mask on a checker. -/
  | faultInject (t : Nat)
  /-- CUFF_RETRAIN (R248). Retrains the lanes that are not Up and restores the Boot map. -/
  | cuffRetrain (t : Nat)
  /-- LOAD_TABLE (R178). Copies, checks and loads a table image of kinds 1 to 6. -/
  | loadTable (t : Nat)
  /-- LOOM_CONFIG (R134). Sets the Loom parameters and self-tests re-enabled units. -/
  | loomConfig (t : Nat) (selfTest : BitVec 256)
  /-- POLDER_CONFIG (R157). Sets the Polder report ring, report mask and cover_mode. -/
  | polderConfig (t : Nat)
  /-- SHUTTLE_CONFIG (R185). Sets the Shuttle deflector, yaw and stand-in modes. -/
  | shuttleConfig (t : Nat)
  /-- HEM_CONFIG (R226). Sets the Hem filter, tolerance and edge parameters. -/
  | hemConfig (t : Nat)
  /-- CUFF_CONFIG (R262). Sets precoding, the FFE taps, auto_remap and status_interval. -/
  | cuffConfig (t : Nat)
  /-- CACHE_CONFIG (R91). Sets the cache region size and the prefetch horizon, discarding resident cells. -/
  | cacheConfig (t : Nat)
  /-- SLACK_CONFIG (R30). Sets the slack guard g. -/
  | slackConfig (t : Nat)
  /-- DIKE_LIMITS (R462). Stores a new Dike limit block unless it is locked. -/
  | dikeLimits (t : Nat)
  /-- CONFIG_DIGEST (R350). Returns the own and peer configuration digests. -/
  | configDigest (t : Nat)
  /-- SET_CELL_DIR (R85). Copies and validates a cell directory and keeps matching resident cells. -/
  | setCellDir (t : Nat)
  /-- JOB_START (R418). Copies and validates the job head and opens the job in the background. -/
  | jobStart (t : Nat)
  /-- JOB_DECISION (R418). The job-start checks end and the job opens or is refused. -/
  | jobDecision (t : Nat)
  /-- JOB_START_TIMEOUT (R418). The standby sees no decision within 100 ms and posts CHECK_FAIL naming TWIN_CONFIG. -/
  | jobStartTimeout (t : Nat)
  /-- FEED (R46). Raises the feed limit. -/
  | feed (t : Nat)
  /-- JOB_STATUS (R47). Returns the job tag, the feed limit and the release offset. -/
  | jobStatus (t : Nat)
  /-- JOB_END (R75). Ends the job, frees staging and drops claims and pins. -/
  | jobEnd (t : Nat)
  /-- STRIPE_START (R419). Checks and accepts a stripe, skips stripes and begins Approach. -/
  | stripeStart (t : Nat)
  /-- STRIPE_PAUSE (R206). Adds the stripe-pause cause of Seam. -/
  | stripePause (t : Nat)
  /-- STRIPE_RESUME (R206). Clears the pause and resume holds, or requests a group resume. -/
  | stripeResume (t : Nat)
  /-- STRIPE_ABORT (R420). Ends or cancels the open stripe. -/
  | stripeAbort (t : Nat)
  /-- BAND_RETRY (R149). Re-renders a Faulted band with two fresh attempts. -/
  | bandRetry (t : Nat)
  /-- CACHE_STATS (R109). Returns the cache counters and clears them on request. -/
  | cacheStats (t : Nat)
  /-- LOOM_STATS (R135). Returns the Loom counters and clears them on request. -/
  | loomStats (t : Nat)
  /-- POLDER_STATUS (R156). Returns the Polder counters and clears them on request. -/
  | polderStatus (t : Nat)
  /-- SHUTTLE_STATUS (R186). Returns the Shuttle counters and clears them on request. -/
  | shuttleStatus (t : Nat)
  /-- HEM_STATUS (R227). Returns the Hem counters and current values. -/
  | hemStatus (t : Nat)
  /-- CUFF_STATUS (R263). Returns the Cuff counters and clears them on request. -/
  | cuffStatus (t : Nat)
  /-- SLACK_STATUS (R28). Returns f_slack, the pair ceiling, w_max and g. -/
  | slackStatus (t : Nat)
  /-- FEED_CONFIG (R297). Sets the source blocks and the channel map. -/
  | feedConfig (t : Nat)
  /-- PROBE_SWITCH_CONFIG (R297). Sets the probe and switch parameters. -/
  | probeSwitchConfig (t : Nat)
  /-- SERVO_CONFIG (R332). Sets the global, axis and gain-set servo blocks. -/
  | servoConfig (t : Nat)
  /-- AXIS_ENABLE (R322). Enables axes whose sources are Valid, into Hold. -/
  | axisEnable (t : Nat)
  /-- AXIS_DISABLE (R322). Takes axes Off. -/
  | axisDisable (t : Nat)
  /-- MOVE (R314). Plans a jerk-limited move of one axis to a target. -/
  | move (t : Nat)
  /-- HOME (R323). Starts the homing segments of one axis. -/
  | home (t : Nat)
  /-- STOP (R321). Gives the named axes stop plans. -/
  | stop (t : Nat)
  /-- PROBE_ARM (R287). Arms a probe in single mode. -/
  | probeArm (t : Nat)
  /-- PROBE_READ (R287). Returns and removes the buffered probe entries. -/
  | probeRead (t : Nat)
  /-- COMPARE_LOAD (R289). Loads a compare, Armed or Stale. -/
  | compareLoad (t : Nat)
  /-- REREFERENCE (R282). Re-references a feedback source and clears SUSPECT or Lost. -/
  | rereference (t : Nat)
  /-- RC_CLEAR (R311). Empties the repetitive tables of the named axes. -/
  | rcClear (t : Nat)
  /-- BRACE_STATUS (R334). Returns the per-axis errors, outputs and counts. -/
  | braceStatus (t : Nat)
  /-- CALIBRATE (R478). Takes the engine from Ready to Calibrate. -/
  | calibrate (t : Nat)
  /-- CAL_CONFIG (R483). Sets and stores drift, stale, tol and auto. -/
  | calConfig (t : Nat)
  /-- CAL_STATUS (R484). Returns the vernier bank status. -/
  | calStatus (t : Nat)
  /-- MEM_FREQ (R444). Changes the DRAM rate through self-refresh and a stored delay set. -/
  | memFreq (t : Nat)
  /-- FW_LOAD (R494). Writes a firmware image into the non-running slot in the background. -/
  | fwLoad (t : Nat)
  /-- FW_LOAD_DONE (R494). The image is written and verified, FW_META is appended, or the load fails. -/
  | fwLoadDone (t : Nat)
  /-- FW_SELECT (R494). Appends FW_SEL for a valid slot. -/
  | fwSelect (t : Nat)
  /-- AUDIT_READ (R492). Writes audit records to host memory in the background and appends an AUDIT_MARK. -/
  | auditRead (t : Nat)
  /-- JOURNAL_STATUS (R497). Returns the journal store status. -/
  | journalStatus (t : Nat)
  /-- CAPTURE (R421). Starts a compressed diagnostic capture. -/
  | capture (t : Nat)
  /-- CAPTURE_END (R421). A capture reaches its count or ends, fails or runs out of buffer, and posts. -/
  | captureEnd (t : Nat) (content : List Byte)
  /-- CAPTURE_CANCEL (R421). Ends a running capture with CANCELLED. -/
  | captureCancel (t : Nat)
  /-- STAGING_START (R74). Staging space is reserved for the next stream once space and the feed limit allow. -/
  | stagingStart (t : Nat)
  /-- STAGING_COMPLETE (R76). The last stream byte is copied into staging, and the band becomes Staged. -/
  | stagingComplete (t : Nat) (data : List Byte)
  /-- BLOCK_DECODED (R59). A decode lane finishes a Pleat block; records pass on in order and errors fail the stream. -/
  | blockDecoded (t : Nat) (stripe band block : Nat)
  /-- BINNING_DONE (R128). The binner has finished a band whose stream is Done, and its tiles are queued or wait for pins. -/
  | binningDone (t : Nat)
  /-- TILE_WRITTEN (R127). A Loom unit writes a tile to Polder; after the last tile the Chequin compare releases the band, re-weaves it or faults it. -/
  | tileWritten (t : Nat) (unit : Nat) (encoderUpset : Bool)
  /-- UNIT_PARITY (R130). A Loom unit parity error fails the band's stream and takes the unit out of service. -/
  | unitParity (t : Nat) (unit : Nat)
  /-- CELL_FETCH_START (R99). A queued cell fetch starts once transit and cache space are allocated, evicting pages or dropping pins if needed. -/
  | cellFetchStart (t : Nat)
  /-- PIN_RESTORE (R105). Space allows, so a band's dropped pins are restored and its render restarts. -/
  | pinRestore (t : Nat)
  /-- CELL_FETCH_DONE (R97). A cell's stored bytes arrive and are checked, then decoded or re-read. -/
  | cellFetchDone (t : Nat) (cell : Nat) (data : List Byte)
  /-- CELL_DECODE_DONE (R98). A cell body decode ends and the cell becomes Resident or Bad. -/
  | cellDecodeDone (t : Nat) (cell : Nat)
  /-- REFRESH_DUE (R429). A refresh interval expires; the refresh is issued, owed or forced. -/
  | refreshDue (t : Nat) (sub : Nat)
  /-- OWED_REFRESH (R429). With no RT request queued, an owed refresh is issued. -/
  | owedRefresh (t : Nat) (sub : Nat)
  /-- MEM_TEMP_READ (R428). The 1 ms device temperature read sets tREFI. -/
  | memTempRead (t : Nat) (sub : Nat) (temps : List Int)
  /-- REQUEST_PROMOTION (R426). A queued DRAM request has waited 2 µs and is promoted. -/
  | requestPromotion (t : Nat) (sub : Nat)
  /-- DRAM_READ (R431). A block read completes and is decoded with its address symbol; clean, corrected or uncorrectable. -/
  | dramRead (t : Nat) (requester who1 who2 block : Nat) (err : List Word) (mapUpset : Nat)
  /-- DRAM_WRITE (R440). A block write is accepted; a first write to a page fills it. -/
  | dramWrite (t : Nat) (requester who addr : Nat) (data : List Byte) (err : List Word)
  /-- MERGE_FLUSH (R436). A merge-buffer entry is flushed 1 µs after its last write. -/
  | mergeFlush (t : Nat) (block : Nat) (err : List Word)
  /-- SCRUB_READ (R435). On an idle sub-channel a written block is scrub read. -/
  | scrubRead (t : Nat) (block : Nat) (err : List Word)
  /-- JOURNAL_COMMIT (R486). A journal record is programmed and verified, and its commit marker is written. -/
  | journalCommit (t : Nat) (verified : Bool)
  /-- J_PROGRAM (R491). An append is not committed within 100 ms and is abandoned. -/
  | jProgram (t : Nat)
  /-- FEED_QCLR (R298). A write zeroes the illegal-transition counts of the selected encoders. -/
  | feedQclr (t : Nat) (mask : Nat)
  /-- REGISTER_WRITE (R13). A write to a register without behaviour of its own sets its RW fields as the access codes give. -/
  | registerWrite (t : Nat) (offset : Nat) (value : Word)
  /-- MSIX_VECTOR_UNMASK (R381). The function mask or a vector's mask is lifted, and the message recorded in the PBA is sent. -/
  | msixVectorUnmask (t : Nat) (vector : Option Nat)
  /-- PTP_MESSAGE (R372). An IEEE 1588 message arrives on the management port; the ring's time leader steers its time unit and the other modules update their grandmaster offset. -/
  | ptpMessage (t : Nat) (offset pathDelay : Int) (portState : Nat)
  /-- GROUP_RESUME_INSTANT (R371). The T8 instant of an ordered group resume is reached, and each member pair clears its group-held stripe-pause cause. -/
  | groupResumeInstant (t : Nat)
  /-- HELLO_TIMEOUT (R253). No good HELLO has arrived for 10 ms, so RET_CAPS holds and CAPS_OK falls. -/
  | helloTimeout (t : Nat)
  /-- REF_RETURN (R514). TREF or CUFF_REF returns within tolerance; the time base goes back to TREF and f_slack is used again. -/
  | refReturn (t : Nat) (cuff : Bool)
  /-- LINK_UP (R376). The PCI Express link trains and reaches DL_Active, which meets one of the conditions for DMA_RESUME. -/
  | linkUp (t : Nat)
  /-- BUS_MASTER_ENABLE_SET (R400). Host configuration sets Bus Master Enable, and DMA_STATUS.BME becomes 1. -/
  | busMasterEnableSet (t : Nat)
  /-- D0_ENTRY (R400). The function returns from D3hot to D0, and DMA_STATUS.D0 becomes 1. -/
  | d0Entry (t : Nat)
  /-- COMPARE_PULSE_END (R291). A compare output's pulse width expires and CMP goes low. -/
  | comparePulseEnd (t : Nat)
  /-- PULSE_END (R362). A TU_PLS pulse has been high for WIDTH ticks and falls. -/
  | pulseEnd (t : Nat) (n : Nat)
  /-- PIECE_COMPLETE (R427). A DRAM piece completes; the bank predictor decides whether to leave the row open or precharge, and the next piece may start. -/
  | pieceComplete (t : Nat) (sub bank row : Nat)
  /-- SECTOR_ERASE_COMPLETE (R490). A NOR sector erase in the journal store ends, which lets a compaction or a Boot re-erase continue. -/
  | sectorEraseComplete (t : Nat)
  /-- HELLO_BROADCAST (R340). Every 100 µs on Gusset and every 1 ms on Stitch, the module sends its HELLO. -/
  | helloBroadcast (t : Nat) (stitch : Bool)
  /-- LEAD_BROADCAST (R366). Every 10 µs the ring leader sends LEAD. -/
  | leadBroadcast (t : Nat)
  /-- WATCHDOG_RESTART (R469). Fleif restarts the Dike watchdog from its command loop within wd_ms. -/
  | watchdogRestart (t : Nat)
  /-- VSTBY_POWER_UP (R528). VIN first rises above 18 V; VSTBY starts, RESET_CAUSE records power-up and the WAKE_N detector runs. -/
  | vstbyPowerUp (t : Nat)
  /-- VSTBY_LOSS (R501). VIN falls below 18 V, VSTBY and the journal path stop, and all module state is lost. -/
  | vstbyLoss (t : Nat)
  deriving DecidableEq, Repr

end Sys2Proof
end

