-- ==== Sys2Proof/Decode.lean ====
section
/-! DEFINITION. The words of the command table. Its rows carry no bits (spec/opcode_table.json gives
every row empty fields and no operand), so no word spells a command. -/

namespace Sys2Proof

/-- The command that a word of the table spells: none does. -/
def decodeTableWord (_nbits _w : Nat) : Option Instr := none

end Sys2Proof
end

