-- ==== Sys2Proof/Config.lean ====
section
/-! DEFINITION. What is fixed by the part, and the free values: constants without a body, so that
nothing in Lean can know a value of them (log 9, 10, 13, 14). -/

namespace Sys2Proof.Config

/-- ID_GRADE.F_GRADE is 2,500 or 1,600 kHz by the part (18 R525): this bit says which. -/
opaque grade16 : Bool

/-- ID_GRADE.PLATE, fixed by the part (18 R525). -/
opaque plate : BitVec 1

/-- ID_SERIAL, fixed by the part (18 R525). -/
opaque serial : BitVec 64

/-- f_grade of 07 R201 in kHz. -/
def fGrade : Nat := if grade16 then 1600 else 2500

/-- Free value: whether a sine/cosine phase comes out one count above its exact floor; 09 R281 allows
an error below one count. Arguments: a counter, the two corrected samples. -/
opaque phaseUp : Nat → Int → Int → Bool

/-- Free value: the compressed bytes of capture data; 02 R82 fixes what they decode to and not the
bytes. Arguments: effort, data. -/
opaque compress : Nat → List Byte → List Byte

/-- Free value: the ten symbols that the DRAM devices hold in a block that nothing has written since
power-up (14 R441 can declare its page written). -/
opaque rawBlock : Nat → Vector Word 10

/-- Free value: the band lead reported for a band released before the flash pitch of its stripe is
known; 05 R155 defines it by flashes of the stripe. Arguments: stripe, band. -/
opaque leadAhead : Nat → Nat → Int

/-- Free value: the delay of a tap when a ring counted no period, by which 16 R474 would divide.
Arguments: window, count through tap 0, count through the tap. -/
opaque tapDelay : Nat → Nat → Nat → Int

/-- Free value: f_slack_khz when every measured work time is 0 ns, by which 01 R28 would divide.
Argument: the guard. -/
opaque slackAtZero : Nat → Nat

/-- Free value: the delay of a Stitch hop that TIME messages of kind 3 give, in 2^-16 ns; 11 R368 names
the exchange and not the formula. Arguments: t_a, t_b, the receiver's T8. -/
opaque hopDelay : Nat → Nat → Nat → Int

/-- What the host configures in the PCI Express function: Max_Payload_Size is 128 × 2^k for the first, and
Max_Read_Request_Size 128 × 2^k for the second (12 Table HOST-1). -/
opaque payloadExp : Fin 3
opaque readExp : Fin 6

/-- Free value: the residence time of a kind 4 TIME message in the module, in 2^-16 ns; 11 R368 adds it and
leaves it to the work. Argument: a counter. -/
opaque residence : Nat → Nat

/-- Free value: whether a sub-channel that starts a piece takes a request to an open row ahead of an older
one of the same class, which 14 R426 allows. Arguments: sub-channel, time. -/
opaque rowFirst : Nat → Nat → Bool

/-- Free value: what the trim of a bank's launch delay leaves, above -16 units (16 R473 bounds it). Argument: a
counter. -/
opaque trimRest : Nat → Fin 33

/-- Free value: how late tap 0 of a bank is against the reference's before its launch delay is trimmed, in
2^-10 step (16 R473); the time-to-digital converter measures it. Argument: a counter. -/
opaque launchSkew : Nat → Int

/-- Free value: a byte of the delay set that Avroth wrote into the factory region for a rate (14 R443).
Arguments: rate, place. -/
opaque delayByte : Nat → Nat → Byte

/-- Free values: the length of a section of a state image, and its bytes; 11 Table TWIN-5 gives the contents
and not the layout. Arguments: a counter, the section, and the place of the byte. -/
opaque sectionLen : Nat → Nat → Nat
opaque sectionByte : Nat → Nat → Nat → Byte

/-- Free value: the increment to which a module steers its time unit; 11 R368 and R372 name the aim and
not the law. Arguments: the offset, the increment before. -/
opaque steerInc : Int → Nat → BitVec 40

/-- Free value: what a ring's failed transfer leaves in its destination range, which 12 R395 calls
undefined. Arguments: a counter, the offset. -/
opaque failedByte : Nat → Nat → Byte

/-- Free value: the bits of the training pattern before a physical lane's first one (08 Table CUFF-6); the
manual names the pattern and not where it begins. -/
opaque prbsStart : Nat → BitVec 13

/-- Free value: a byte of the control processor's code as the running firmware image lays it out in engine
DRAM (14 Table MEM-4); the manual does not give the layout. Arguments: build, address. -/
opaque codeByte : Nat → Nat → Byte

end Sys2Proof.Config
end

