-- ==== Sys2Proof/Machine/State.lean ====
section
/-! DEFINITION. The state of the block: every register, buffer, counter, mode and pin that spec/ gives
it, the commands that wait, what it has sent, and the reasons a step can stop (none does). -/

namespace Sys2Proof.Machine
open Sys2Proof

/-- What the module sends to the outside (log 5): host memory writes and MSI-X messages (12), link
messages and frames (08, 10, 11), and edges at its timing outputs (07, 09, 11). -/
inductive Out where
  /-- the strobe of a flash at its issue, and whether Dike let its dose clock through (15 R468) -/
  | strobe (flash at' : Nat) (edges : List Nat) (dclk : Bool)
  /-- a Cuff frame begins on a physical lane, at a payload word of its stream (08 Tables CUFF-2 to CUFF-5) -/
  | frame (phys slot : Nat) (bytes : List Byte)
  /-- a Gusset message: the lanes it begins on, its MSEQ, what it says, and its bytes (11 Table TWIN-2) -/
  | gusset (lanes : List Nat) (mseq : Nat) (m : GMsg) (bytes : List Byte)
  /-- a Stitch message out of the east side, the west side or both: its origin, MSEQ, HOPS, what it says, and
  its bytes (11 R364) -/
  | stitch (east west : Bool) (src mseq hops : Nat) (m : SMsg) (bytes : List Byte)
  /-- an actuator frame of a link: its 32 bytes (10 Table BRACE-7), and its 34 code groups from /K27.7/ to
  /K29.7/ -/
  | act (link : Nat) (bytes : List Byte) (groups : List Nat)
  /-- a write request to host memory -/
  | hostWrite (addr : Nat) (data : List Byte)
  /-- a read request for a descriptor's data (12 R387) -/
  | hostRead (addr len : Nat)
  /-- what a BAR2 read returns; poisoned data has no value (12 R380) -/
  | barRead (addr : Nat) (data : Option (List Byte))
  | msix (vector addr data : Nat)
  | pulse (n : Nat) (high : Bool)
  | compare (n : Nat) (high : Bool)
  /-- a request on POSn_CLK: port, latch edge, bit period in steps (09 R269) -/
  | posClock (port tReq bit : Nat)
  /-- POSn_CLK returns high after this bit -/
  | posIdle (port bits : Nat)
  | ptpRequest
  deriving DecidableEq, Repr

/-- Why the machine stops with a fault. -/
inductive Fault where
  /-- Raised by no step: every condition that the manual reports is a fault message and a next state
  (15 R448), and no command of the table stops the module. Safe. -/
  | none
  deriving DecidableEq, Repr

/-- Why a command is not carried out. -/
inductive Refusal where
  /-- The command has no meaning in the model yet; raised by its arm in Dispatch alone. Safe. -/
  | notModelled (mnemonic : String)
  deriving DecidableEq, Repr

/-- The state. Every field's default is its value right after reset, which for this module is entry
to Boot (18 R523; log 16). -/
@[ext]
structure State where
  /-- the Hem step count (07 R188) -/
  now : Nat := 0
  eng : Eng := {}
  slack : Slack := {}
  arb : Arb := {}
  out : List Out := []
  fc : Fc := {}
  dike : Dike := {}
  tu : TimeUnit := {}
  twin : Twin := {}
  ring : RingNet := {}
  mb : List Mailbox := List.replicate 4 {}
  cp : Cp := {}
  sl : Sluice := {}
  dram : Dram := {}
  cal : Cal := {}
  jr : Journal := {}
  feed : Feed := {}
  br : Brace := {}
  hem : Hem := {}
  job : Option Job := none
  bands : List Band := []
  cc : Cache := {}
  loom : Loom := {}
  pol : Polder := {}
  sh : Shuttle := {}
  cf : Cuff := {}
  /-- the commands that wait, first in first out -/
  pending : List Instr := []
  /-- the model's own counter of free values (log 13) -/
  free : Nat := 0
  deriving DecidableEq, Repr

/-- The module at entry to Boot. -/
def State.reset : State := {}

end Sys2Proof.Machine
end

