-- ==== Sys2Proof/Machine/Operands.lean ====
section
/-! DEFINITION. The forms in which operands arrive: the manual's rounding and clamping, little-endian
fields of parameter blocks and memory structures, bit strings, check values and SEC-DED words. -/

namespace Sys2Proof.Machine
open Sys2Proof

/-! ## Pseudocode operators (00 Table SCOPE-5) -/

/-- floor(a / b), b above 0. -/
def floorDiv (a b : Int) : Int := Int.fdiv a b

/-- round_half_up(a / b) = floor(a / b + 1/2). -/
def roundHalfUp (a b : Int) : Int := Int.fdiv (2 * a + b) (2 * b)

/-- floor(a / 2^n). -/
def asr (a : Int) (n : Nat) : Int := Int.fdiv a (2 ^ n)

/-- ceil(a / b) of naturals, b above 0. -/
def ceilDiv (a b : Nat) : Nat := (a + b - 1) / b

def clampInt (x lo hi : Int) : Int := if x < lo then lo else if x > hi then hi else x

/-- x reduced to n bits, two's complement. -/
def wrapS (n : Nat) (x : Int) : Int :=
  let r := x.emod (2 ^ n)
  if r < 2 ^ (n - 1) then r else r - 2 ^ n

/-- The n-bit pattern of x. -/
def toBits (n : Nat) (x : Int) : Nat := (x.emod (2 ^ n)).toNat

/-- Bits [hi:lo] of v. -/
def bitsOf (v hi lo : Nat) : Nat := (v >>> lo) % 2 ^ (hi - lo + 1)

/-- P48 (00 R6): a signed 48-bit position in fu. -/
def inP48 (x : Int) : Bool := decide (-(2 ^ 47) ≤ x ∧ x < 2 ^ 47)

def absLe (x : Int) (b : Nat) : Bool := decide (x.natAbs ≤ b)

/-- floor of the square root, by bit from the top (n bits of result). -/
def isqrtGo (v : Nat) : Nat → Nat → Nat
  | 0, r => r
  | k + 1, r =>
    let r' := r + 2 ^ k
    isqrtGo v k (if r' * r' ≤ v then r' else r)

/-- Saturating count in w bits. -/
def satInc (w n : Nat) : Nat := if n + 1 < 2 ^ w then n + 1 else 2 ^ w - 1

/-! ## Little-endian fields (00 R10) -/

def byteOf (v : Nat) : Byte := BitVec.ofNat 8 v

/-- The n low bytes of v, least significant first. -/
def leBytes : Nat → Nat → List Byte
  | 0, _ => []
  | n + 1, v => byteOf v :: leBytes n (v / 256)

/-- The number that bytes spell, least significant first. -/
def leNat : List Byte → Nat
  | [] => 0
  | b :: bs => b.toNat + 256 * leNat bs

/-- The n low bytes of v, most significant first. -/
def beBytes (n v : Nat) : List Byte := (leBytes n v).reverse

def beNat (bs : List Byte) : Nat := leNat bs.reverse

/-- Unsigned field of n bytes at an offset; bytes past the end read as zero. -/
def fld (bs : List Byte) (off n : Nat) : Nat := leNat ((bs.drop off).take n)

/-- Signed field of n bytes at an offset. -/
def sfld (bs : List Byte) (off n : Nat) : Int := wrapS (8 * n) (Int.ofNat (fld bs off n))

/-- n bytes of a signed value. -/
def leSigned (n : Nat) (x : Int) : List Byte := leBytes n (toBits (8 * n) x)

/-- Whether bytes [off, off + n) are zero. -/
def zeroAt (bs : List Byte) (off n : Nat) : Bool := fld bs off n == 0

/-- bs with the bytes at off replaced. -/
def spliceAt (bs : List Byte) (off : Nat) (new : List Byte) : List Byte :=
  bs.take off ++ new ++ bs.drop (off + new.length)

/-- Bytes padded with zeros to length n. -/
def padTo (n : Nat) (bs : List Byte) : List Byte := bs ++ List.replicate (n - bs.length) 0

/-! ## Bit strings -/

/-- The n low bits of v, most significant first. -/
def msbBits : Nat → Nat → List Bool
  | 0, _ => []
  | n + 1, v => v.testBit n :: msbBits n v

/-- The number that bits spell, first most significant. -/
def bitsNat (l : List Bool) : Nat := l.foldl (fun a b => 2 * a + b.toNat) 0

/-- Bytes of a bit string, first bit most significant; a last part of a byte is filled with zeros. -/
def packBits : Nat → List Bool → List Byte
  | 0, _ => []
  | n + 1, l => byteOf (bitsNat (l.take 8) * 2 ^ (8 - (l.take 8).length)) :: packBits n (l.drop 8)

def bytesBits (bs : List Byte) : List Bool := bs.flatMap fun b => msbBits 8 b.toNat

/-! ## Check values -/

/-- One byte of a reflected CRC. -/
def crcRefl (poly : Nat) (c b : Nat) : Nat :=
  (List.range 8).foldl (fun c _ => if c % 2 = 1 then (c / 2).xor poly else c / 2) (c.xor b)

/-- crc32c_pleat of 02 R56. -/
def crc32c (d : List Byte) (seq : Nat) : Nat :=
  (d.foldl (fun c b => crcRefl 0x82F63B78 c b.toNat) ((0xFFFFFFFF).xor (seq % 2 ^ 32))).xor 0xFFFFFFFF

/-- One bit of the shift procedure of 05 R144. -/
def crc64Bit (q : Nat) (v : Bool) : Nat :=
  let f := (q.testBit 63) != v
  let q' := (2 * q) % 2 ^ 64
  if f then q'.xor 0x42F0E1EBA9EA3693 else q'

def crc64Bits (q : Nat) (l : List Bool) : Nat := l.foldl crc64Bit q

/-- The shift procedure of 05 R144 over bytes, each most significant bit first (11 R348, R350; 13
R409; 01 R40). -/
def crc64 (q : Nat) (d : List Byte) : Nat := d.foldl (fun q b => crc64Bits q (msbBits 8 b.toNat)) q

/-- CRC-16 of 09 R271 over bits in line order. -/
def crc16 (l : List Bool) : Nat :=
  l.foldl (fun c b =>
    let f := (c.testBit 15) != b
    let c' := (2 * c) % 2 ^ 16
    if f then c'.xor 0x1021 else c') 0xFFFF

/-! ## SEC-DED (05 R533) -/

def popcount : Nat → Nat → Nat
  | 0, _ => 0
  | n + 1, v => (v.testBit n).toNat + popcount n v

/-- The columns of the data bits: the r-bit values of weight 3 in ascending order, then those of
weight 5. -/
def dataCols (r : Nat) : List Nat :=
  ((List.range (2 ^ r)).filter fun v => popcount r v == 3) ++
  ((List.range (2 ^ r)).filter fun v => popcount r v == 5)

/-- The r check bits of an m-bit word. -/
def checkBits (m r v : Nat) : Nat :=
  (((dataCols r).take m).zipIdx).foldl (fun c p => if v.testBit p.2 then c.xor p.1 else c) 0

/-- What a SEC-DED read finds. -/
inductive EccRead where
  | clean
  /-- corrected; the data bit inverted, if the error was in a data bit -/
  | corrected (bit : Option Nat)
  | uncorrectable
  deriving DecidableEq, Repr

/-- The decoder's action on a syndrome. -/
def eccDecode (m r syn : Nat) : EccRead :=
  if syn = 0 then .clean
  else if (List.range r).any (fun k => syn == 2 ^ k) then .corrected none
  else match ((dataCols r).take m).findIdx? (· == syn) with
    | some i => .corrected (some i)
    | none => .uncorrectable

/-! ## Sparse contents in canonical form -/

/-- Keys strictly rise. -/
def risingKeys {β : Type} : List (Nat × β) → Bool
  | (a, _) :: (b, y) :: l => decide (a < b) && risingKeys ((b, y) :: l)
  | _ => true

/-- Numbers strictly rise. -/
def risingNats : List Nat → Bool
  | a :: b :: l => decide (a < b) && risingNats (b :: l)
  | _ => true

/-- What a sparse list gives for a key, `d` for an unlisted one. -/
def sparseGet {β : Type} (d : β) (l : List (Nat × β)) (k : Nat) : β :=
  match l with
  | [] => d
  | (a, v) :: l => if a = k then v else sparseGet d l k

/-- The list with key k holding v; `drop` says that v is what an unlisted key reads as. -/
def sparseSet {β : Type} (l : List (Nat × β)) (k : Nat) (v : β) (drop : Bool) : List (Nat × β) :=
  match l with
  | [] => if drop then [] else [(k, v)]
  | (a, w) :: l' =>
    if k < a then (if drop then (a, w) :: l' else (k, v) :: (a, w) :: l')
    else if k = a then (if drop then l' else (k, v) :: l')
    else (a, w) :: sparseSet l' k v drop

/-- A sparse list with every key from lo to hi - 1 replaced by the entries of `new` that lie there and are
not what an unlisted key reads as. -/
def sparseSpan {β : Type} (unlisted : β → Bool) (l : List (Nat × β)) (lo hi : Nat) (new : List (Nat × β)) : List (Nat × β) :=
  l.filter (fun p => decide (p.1 < lo)) ++
  new.foldl (fun acc p => if lo ≤ p.1 ∧ p.1 < hi then sparseSet acc p.1 p.2 (unlisted p.2) else acc) [] ++
  l.filter (fun p => decide (hi ≤ p.1))

/-- Insertion into a strictly rising list of numbers. -/
def insertNat (l : List Nat) (k : Nat) : List Nat :=
  match l with
  | [] => [k]
  | a :: l' => if k < a then k :: a :: l' else if k = a then a :: l' else a :: insertNat l' k

/-- The list with position i changed by f; unchanged where there is no such position. -/
def listUpd {β : Type} (l : List β) (i : Nat) (f : β → β) : List β :=
  match l, i with
  | [], _ => []
  | x :: l, 0 => f x :: l
  | x :: l, i + 1 => x :: listUpd l i f

/-- The elements in the order of a key, smallest first; equal keys keep their order. -/
def insertBy {β : Type} (key : β → Nat) (x : β) : List β → List β
  | [] => [x]
  | y :: l => if key x < key y then x :: y :: l else y :: insertBy key x l

def sortBy {β : Type} (key : β → Nat) (l : List β) : List β := l.foldl (fun acc x => insertBy key x acc) []

/-- The element of least key, the first of several. -/
def minBy {β : Type} (key : β → Nat) : List β → Option β
  | [] => none
  | x :: l => match minBy key l with
    | none => some x
    | some y => if key y < key x then some y else some x

end Sys2Proof.Machine
end

