-- ==== Sys2Proof/Machine/Wire.lean ====
section
/-! DEFINITION. The bytes of Gusset and Stitch messages (11 Tables TWIN-2, TWIN-4) and of actuator frames
(10 Table BRACE-7), multi-byte fields most significant byte first (00 R11); and the order in which
waiting Gusset messages go out (11 R341, R342). -/

namespace Sys2Proof.Machine
open Sys2Proof

/-- A signed field of n bytes, most significant byte first. -/
def beSigned (n : Nat) (x : Int) : List Byte := beBytes n (toBits (8 * n) x)

/-! ## Actuator frames -/

/-- Bytes 1 to 27 of an actuator frame: VERSION, LINK, CTRL, SEQ and SET. -/
def actBody (link ctrl cycle : Nat) (set : List Int) : List Byte :=
  [1, byteOf link, byteOf ctrl] ++ beBytes 8 cycle ++ set.flatMap (beSigned 4)

/-- The 32 bytes of an actuator frame; `mask` is that of checker 14 (15 Table FAULT-7). -/
def actFrame (twinB active : Bool) (link ctrl cycle : Nat) (set : List Int) (mask : Nat) : List Byte :=
  let body := actBody link ctrl cycle set
  [byteOf (twinB.toNat + 2 * active.toNat)] ++ body ++ beBytes 4 (crc32c body link ^^^ mask)

/-! ## Messages -/

/-- LEN of a message with a body: zero bytes pad the body to a multiple of 4 (R339). -/
def wireLen (body : List Byte) : Nat := 16 + (body.length + 3) / 4 * 4

/-- Bytes 2 to LEN − 5 of a message of Table TWIN-2, over which its CRC goes. -/
def wireMid (type src : Nat) (active : Bool) (hops mseq : Nat) (body : List Byte) : List Byte :=
  [byteOf type, byteOf (src + 8 * active.toNat + 16 * hops)] ++ beBytes 2 (wireLen body) ++ [0, 0] ++ beBytes 4 mseq ++
    padTo (wireLen body - 16) body

/-- A message of Table TWIN-2; `mask` is that of checker 13. -/
def wireMessage (type src : Nat) (active : Bool) (hops mseq : Nat) (body : List Byte) (mask : Nat) : List Byte :=
  let mid := wireMid type src active hops mseq body
  [0x6E, 0x95] ++ mid ++ beBytes 4 (crc32c mid mseq ^^^ mask)

/-- A message whose SYNC, LEN and CRC are right (R341). -/
def msgIntact (h : MsgHdr) (type : Nat) (body : List Byte) : Bool :=
  h.sync == 0x6E95 && h.len == wireLen body && h.crc == crc32c (wireMid type h.src h.active h.hops h.mseq body) h.mseq

/-- The body of HELLO; hw_rev is that of 18 HW_REV. -/
def Hello.body (h : Hello) : List Byte :=
  [0x42] ++ beBytes 4 h.build ++ [byteOf h.role, byteOf h.pairState, byteOf h.engineState] ++
    beBytes 8 h.configDigest ++ beBytes 8 h.ringDigest

/-- The body of TIME. -/
def timeBody (kind ta tb : Nat) (correction : Int) : List Byte := [byteOf kind] ++ beBytes 8 ta ++ beBytes 8 tb ++ beSigned 8 correction

/-- The 40 bytes of a flash state record, fields in the order of 06 Table SHUTTLE-1. -/
def recordWire (r : FlashRec) : List Byte :=
  beBytes 8 r.flash ++ beBytes 4 r.m ++ [byteOf r.resync.toNat, 0] ++ beBytes 2 r.dt ++ beSigned 4 r.theta ++ beSigned 4 r.ex ++
    beSigned 4 r.ey ++ beSigned 4 r.cprevx ++ beSigned 4 r.cprevy ++ [0, 0, 0, 0]

/-- TYPE of a Gusset message. -/
def GMsg.type : GMsg → Nat
  | .hello _ => 0x01
  | .heartbeat _ _ _ _ _ _ => 0x02
  | .state .. => 0x03
  | .stateEnd _ _ _ _ => 0x04
  | .setpoint _ _ _ _ _ => 0x05
  | .commit _ _ _ => 0x06
  | .withdraw _ _ => 0x07
  | .band _ _ _ _ _ => 0x08
  | .digest _ _ _ _ => 0x09
  | .slack _ => 0x0A
  | .check _ _ => 0x0B
  | .time _ _ _ _ => 0x0C
  | .timeLoad _ _ _ _ _ => 0x0C
  | .takeover _ _ => 0x0D

/-- The body of a Gusset message. A TIME of kind 2 carries the boundary in t_a, its time in nanoseconds
in t_b and the increment in correction (log 52). -/
def GMsg.body : GMsg → List Byte
  | .hello h => h.body
  | .heartbeat slot eng role pair lanes applied =>
    beBytes 8 slot ++ [byteOf eng, byteOf role, byteOf pair, byteOf lanes] ++ beBytes 8 applied
  | .state cycle sect offset data => beBytes 8 cycle ++ [byteOf sect] ++ beBytes 4 offset ++ data
  | .stateEnd cycle count crc _ => beBytes 8 cycle ++ beBytes 2 count ++ beBytes 8 crc.toNat
  | .setpoint cycle c0 c1 s0 s1 => beBytes 8 cycle ++ actBody 0 c0 cycle s0 ++ actBody 1 c1 cycle s1
  | .commit r tn f => recordWire r ++ beBytes 8 tn ++ beSigned 8 f
  | .withdraw flash epoch => beBytes 8 flash ++ [byteOf epoch]
  | .band stripe number outcome attempt computed =>
    beBytes 2 stripe ++ beBytes 2 number ++ [byteOf outcome, byteOf attempt] ++ beBytes 8 computed.toNat
  | .digest flash epoch void value => beBytes 8 flash ++ [byteOf epoch, byteOf void.toNat] ++ beBytes 8 value.toNat
  | .slack khz => beBytes 4 khz
  | .check item value => [byteOf item] ++ beBytes 8 value.toNat
  | .time kind ta tb correction => timeBody kind ta tb correction
  | .timeLoad boundary sec ns _ inc => timeBody 2 boundary (sec * 1000000000 + ns) inc
  | .takeover cycle cause => beBytes 8 cycle ++ [byteOf cause]

/-- TYPE of a Stitch message. -/
def SMsg.type : SMsg → Nat
  | .hello _ => 0x01
  | .time _ _ _ _ => 0x0C
  | .lead _ _ => 0x10
  | .order .. => 0x11
  | .request _ _ _ _ => 0x12

/-- The body of a Stitch message. -/
def SMsg.body : SMsg → List Byte
  | .hello h => h.body
  | .time kind ta tb correction => timeBody kind ta tb correction
  | .lead leader last => [byteOf leader] ++ beBytes 8 last
  | .order o => beBytes 8 o.order ++ [byteOf o.event, byteOf o.member] ++ beBytes 2 o.stripe ++ [byteOf o.mask] ++ beBytes 8 o.at'
  | .request event stripe mask at' => [byteOf event] ++ beBytes 2 stripe ++ [byteOf mask] ++ beBytes 8 at'

def GMsg.good (h : MsgHdr) (m : GMsg) : Bool := msgIntact h m.type m.body
def SMsg.good (h : MsgHdr) (m : SMsg) : Bool := msgIntact h m.type m.body

/-! ## Return messages of the blanker receiver (08 Tables CUFF-7, CUFF-9) -/

/-- Bytes 0 to 27: TYPE, VERSION, MSG_SEQ and the body; unused bytes are zero. -/
def retBytes (h : RetHdr) (type : Nat) (body : List Byte) : List Byte :=
  [byteOf type, byteOf h.version] ++ beBytes 2 h.mseq ++ padTo 24 body

/-- VERSION and CRC are right (08 R250, R253); `mask` is that of checker 11. -/
def retIntact (h : RetHdr) (type : Nat) (body : List Byte) (mask : Nat) : Bool :=
  h.version == 1 && h.crc ^^^ mask == crc32c (retBytes h type body) type

def helloBody (rev caps copyMode ident : Nat) : List Byte := [byteOf rev, byteOf caps, byteOf copyMode, 0] ++ beBytes 8 ident

def telemBody (temp : Int) (volt pairSel sExp : Nat) : List Byte :=
  beSigned 2 temp ++ beBytes 2 volt ++ [byteOf pairSel, 0, 0, 0] ++ beBytes 4 sExp

def laneBody (lock trained : BitVec 72) (uncorr corr : Nat) : List Byte :=
  beBytes 9 lock.toNat ++ beBytes 9 trained.toNat ++ beBytes 2 uncorr ++ beBytes 4 corr

def eventBody (kind lane rows seq epoch : Nat) : List Byte :=
  [byteOf kind, byteOf lane, byteOf rows, 0] ++ beBytes 4 seq ++ [byteOf epoch]

/-! ## Injection (15 R460) -/

/-- The mask for this operation of a checker's unit, and the checkers with the operation counted. -/
def injectStep (l : List Inject) (checker unit : Nat) : Nat × List Inject :=
  let j := l.getD (checker - 1) {}
  if j.count = 0 || !(j.unit == 0xFFFF || j.unit == unit) then (0, l)
  else
    let n := if j.count = 0xFFFF then 0xFFFF else j.count - 1
    (j.mask, listUpd l (checker - 1) fun j => { j with count := n })

/-! ## Word slots of a transmit lane (08 R232, R233) -/

/-- The filler word. -/
def fillerWord : Nat := 0x3C5AA5C3

/-- Payload words of a codeword group. -/
def groupWords : Nat := 1284

/-- Line bits in a span of steps, a bit begun counted whole: 112.5 Gb/s is 1,125 bits in 128 steps. -/
def lineBits (steps : Nat) : Nat := ceilDiv (steps * 1125) 128

/-- The first payload word that begins at or after an instant, on a lane whose group 0 began at `origin`. -/
def slotAt (origin t : Nat) : Nat :=
  let b := lineBits (t - origin)
  let r := b % 43520
  let bit := if r % 5440 < 5140 then r / 5440 * 5140 + r % 5440 else (r / 5440 + 1) * 5140
  groupWords * (b / 43520) + ceilDiv (bit - 32) 32

/-- The first word slot at which a frame or a message may begin: the lane's previous one has been sent and the
filler words that must follow it (08 R239; 11 R339). -/
def Lane.nextSlot (ln : Lane) (t : Nat) : Nat := max (slotAt ln.origin t) ln.free

/-- A frame, or a message, begins at the first slot that it may; `gap` filler words follow it. -/
def Lane.put (gap : Nat) (ln : Lane) (t : Nat) (bytes : List Byte) : Lane :=
  { ln with sent := ln.sent ++ [(ln.nextSlot t, bytes)], free := ln.nextSlot t + bytes.length / 4 + gap }

/-- The lanes of a list that are Up. -/
def lanesUp (l : List Lane) : List Nat := (l.zipIdx.filter fun x => x.1.state == .up).map (·.2)

/-- A message begins on some lanes of a list; at least 2 filler words separate two messages (11 R339). -/
def putMessage (l : List Lane) (on : List Nat) (t : Nat) (bytes : List Byte) : List Lane :=
  on.foldl (fun l k => listUpd l k fun ln => ln.put 2 t bytes) l

/-- A Lost lane carries filler only: what a frame in progress has left is not sent (R245). -/
def Lane.cut (ln : Lane) (t : Nat) : Lane :=
  let n := slotAt ln.origin t
  { ln with sent := ln.sent.map fun f => (f.1, f.2.take (4 * (n - f.1))), free := min ln.free n }

/-- Payload word n of the lane's stream: a word of a frame, or filler (R233). -/
def Lane.word (ln : Lane) (n : Nat) : Nat :=
  match ln.sent.find? fun f => decide (f.1 ≤ n ∧ n < f.1 + f.2.length / 4) with
  | some f => beNat ((f.2.drop (4 * (n - f.1))).take 4)
  | none => fillerWord

/-! ## The Gusset transmitter (R341, R342) -/

/-- COMMIT, WITHDRAW, SETPOINT and HEARTBEAT come before every other message. -/
def GMsg.rank : GMsg → Nat
  | .commit _ _ _ => 0
  | .withdraw _ _ => 0
  | .setpoint _ _ _ _ _ => 0
  | .heartbeat _ _ _ _ _ _ => 0
  | _ => 1

/-- What the transmitter holds while it works: the next MSEQ, its lanes, the checkers, what it has sent. -/
structure Sender where
  mseq : Nat
  lanes : List Lane
  inject : List Inject
  out : List Out := []
  deriving DecidableEq, Repr

/-- The transmission of one message begins, and it takes its MSEQ; that of HEARTBEAT is its slot. HEARTBEAT
goes out on every Up lane, any other message on two of them, or on the one that is Up (R341). -/
def Sender.put (src : Nat) (active : Bool) (now : Nat) (w : Sender) (m : GMsg) : Sender :=
  let (mask, inj) := injectStep w.inject 13 0
  let up := lanesUp w.lanes
  let go (on : List Nat) (mseq : Nat) : Sender :=
    let bytes := wireMessage m.type src active 0 mseq m.body mask
    { w with lanes := putMessage w.lanes on now bytes, inject := inj, out := w.out ++ [.gusset on mseq m bytes] }
  match m with
  | .heartbeat slot _ _ _ _ _ => go up (slot % 2 ^ 32)
  | _ => { go (up.take 2) w.mseq with mseq := (w.mseq + 1) % 2 ^ 32 }

end Sys2Proof.Machine
end

