-- ==== Sys2Proof/Machine/Ops.lean ====
section
/-! DEFINITION. The operations that every block shares: the instant of a command and the time unit's
ticks, the event arbiter's stamp, raising faults, what the module sends, interrupt vectors, engine
state changes, and the small tests of the engine's condition that the chapters name. -/

namespace Sys2Proof.Machine
open Sys2Proof

/-- What a command answers. -/
abbrev Res := Host.Outcome State Fault Refusal

/-! ## Fault codes -/

/-- Source and kind of a fault (15 Table FAULT-1 and the tables that it names). -/
def FaultName.code : FaultName → Nat × Nat
  | .dikeMotion => (0x01, 0x01)
  | .dikeTravel => (0x01, 0x02)
  | .doseClamp => (0x01, 0x03)
  | .rateClamp => (0x01, 0x04)
  | .watchdog => (0x01, 0x05)
  | .lockEdge => (0x01, 0x06)
  | .dikePeer => (0x01, 0x07)
  | .escalate => (0x02, 0x01)
  | .lateBand => (0x03, 0x01)
  | .overspeedRate => (0x03, 0x02)
  | .overspeedLock => (0x03, 0x03)
  | .overspeedGate => (0x03, 0x04)
  | .overspeedStarve => (0x03, 0x05)
  | .heldAbandon => (0x03, 0x06)
  | .resumeFail => (0x03, 0x07)
  | .edgeLate => (0x03, 0x08)
  | .tgoodDrop => (0x03, 0x09)
  | .peerEdge => (0x03, 0x0A)
  | .phaseDrift => (0x03, 0x0B)
  | .shadowDiff => (0x03, 0x0C)
  | .telemStale => (0x03, 0x0D)
  | .fClamp => (0x03, 0x0E)
  | .edgeFit => (0x03, 0x0F)
  | .edgeTable => (0x03, 0x10)
  | .rateLow => (0x03, 0x11)
  | .outputLate => (0x04, 0x01)
  | .sampleMiss => (0x04, 0x02)
  | .fbLost => (0x04, 0x03)
  | .followErr => (0x04, 0x04)
  | .settleTimeout => (0x04, 0x05)
  | .limitHit => (0x04, 0x06)
  | .softLimit => (0x04, 0x07)
  | .runupShort => (0x04, 0x08)
  | .notHomed => (0x04, 0x09)
  | .axisMap => (0x04, 0x0A)
  | .trajLimits => (0x04, 0x0B)
  | .rcDiscard => (0x04, 0x0C)
  | .homeFail => (0x04, 0x0D)
  | .braceShadow => (0x04, 0x0E)
  | .deflClamp => (0x04, 0x0F)
  | .actCopyMiss => (0x04, 0x10)
  | .limitBlock => (0x04, 0x11)
  | .posCrc => (0x04, 0x40)
  | .posNostart => (0x04, 0x41)
  | .posCount => (0x04, 0x42)
  | .posSensor => (0x04, 0x43)
  | .posWarn => (0x04, 0x44)
  | .posRange => (0x04, 0x45)
  | .srcLost => (0x04, 0x46)
  | .quadIllegal => (0x04, 0x47)
  | .scAmp => (0x04, 0x48)
  | .scSpeed => (0x04, 0x49)
  | .probeOverflow => (0x04, 0x4A)
  | .probeNopos => (0x04, 0x4B)
  | .cmpStale => (0x04, 0x4C)
  | .cmpMissed => (0x04, 0x4D)
  | .limBoth => (0x04, 0x4E)
  | .srcNotready => (0x04, 0x4F)
  | .bandMismatch => (0x05, 0x01)
  | .bandFault => (0x05, 0x02)
  | .eccCorrected => (0x05, 0x03)
  | .eccUncorrectable => (0x05, 0x04)
  | .writeCheck => (0x05, 0x05)
  | .twinChequin => (0x05, 0x06)
  | .bandUnavailable => (0x05, 0x07)
  | .p48Range => (0x06, 0x01)
  | .expandLimit => (0x06, 0x02)
  | .binFull => (0x06, 0x03)
  | .unitParity => (0x06, 0x04)
  | .unitsLow => (0x06, 0x05)
  | .overcover => (0x06, 0x06)
  | .unitSelftest => (0x06, 0x07)
  | .tableHdr => (0x07, 0x01)
  | .geomRange => (0x07, 0x02)
  | .gainRule => (0x07, 0x03)
  | .tableRule => (0x07, 0x04)
  | .standinRule => (0x07, 0x05)
  | .standinReach => (0x07, 0x06)
  | .placeClamp => (0x07, 0x07)
  | .tableEcc => (0x07, 0x08)
  | .slotLate => (0x07, 0x09)
  | .tableMissing => (0x07, 0x0A)
  | .asmLate => (0x08, 0x01)
  | .laneLost => (0x08, 0x02)
  | .laneRemap => (0x08, 0x03)
  | .noSpare => (0x08, 0x04)
  | .trainFail => (0x08, 0x05)
  | .lanesDown => (0x08, 0x06)
  | .retCrc => (0x08, 0x07)
  | .retLost => (0x08, 0x08)
  | .retCaps => (0x08, 0x09)
  | .rxMissing => (0x08, 0x0A)
  | .rxCompare => (0x08, 0x0B)
  | .rxUncompared => (0x08, 0x0C)
  | .rxSwitch => (0x08, 0x0D)
  | .rxLate => (0x08, 0x0E)
  | .rxFraming => (0x08, 0x0F)
  | .rxFec => (0x08, 0x10)
  | .stuckOn => (0x08, 0x11)
  | .twinIdent => (0x09, 0x01)
  | .twinConfig => (0x09, 0x02)
  | .twinDispatch => (0x09, 0x03)
  | .gusLane => (0x09, 0x04)
  | .gusGap => (0x09, 0x05)
  | .peerLost => (0x09, 0x06)
  | .gusLost => (0x09, 0x07)
  | .takeover => (0x09, 0x08)
  | .twinSplit => (0x09, 0x09)
  | .liveLost => (0x09, 0x0A)
  | .stiQuarantine => (0x09, 0x0B)
  | .stiTime => (0x09, 0x0C)
  | .stiLeader => (0x09, 0x0D)
  | .stiStart => (0x09, 0x0E)
  | .dirHdr => (0x0A, 0x01)
  | .dirEntry => (0x0A, 0x02)
  | .dirTag => (0x0A, 0x03)
  | .dirSpace => (0x0A, 0x04)
  | .cellMissing => (0x0A, 0x10)
  | .cellRetry => (0x0A, 0x11)
  | .cellCheck => (0x0A, 0x12)
  | .cellBus => (0x0A, 0x13)
  | .cellRaw => (0x0A, 0x14)
  | .cellCapacity => (0x0A, 0x15)
  | .hdrId => (0x0B, 0x01)
  | .hdrCrc => (0x0B, 0x02)
  | .hdrField => (0x0B, 0x03)
  | .dirErr => (0x0B, 0x04)
  | .blkHdr => (0x0B, 0x10)
  | .blkSeq => (0x0B, 0x11)
  | .blkLen => (0x0B, 0x12)
  | .defSyntax => (0x0B, 0x13)
  | .defShort => (0x0B, 0x14)
  | .defExhaust => (0x0B, 0x15)
  | .blkCrc => (0x0B, 0x16)
  | .streamSize => (0x0B, 0x17)
  | .recType => (0x0B, 0x20)
  | .recLen => (0x0B, 0x21)
  | .recOrder => (0x0B, 0x22)
  | .recField => (0x0B, 0x23)
  | .recIdent => (0x0B, 0x24)
  | .nest => (0x0B, 0x25)
  | .busErr => (0x0C, 0x01)
  | .bmeOff => (0x0C, 0x02)
  | .linkDown => (0x0C, 0x03)
  | .fnReset => (0x0C, 0x04)
  | .descErr => (0x0C, 0x05)
  | .indexErr => (0x0C, 0x06)
  | .rangeErr => (0x0C, 0x07)
  | .dmaEcc => (0x0C, 0x08)
  | .cqHead => (0x0C, 0x09)
  | .barAccess => (0x0C, 0x0A)
  | .streamDrop => (0x0C, 0x0B)
  | .mbDrop => (0x0D, 0x01)
  | .seqConflict => (0x0D, 0x02)
  | .auditFail => (0x0D, 0x03)
  | .memCe => (0x0E, 0x01)
  | .memUe => (0x0E, 0x02)
  | .memMap => (0x0E, 0x03)
  | .memHot => (0x0E, 0x04)
  | .refreshForced => (0x0E, 0x05)
  | .memInit => (0x0E, 0x06)
  | .memNotrain => (0x0E, 0x07)
  | .calDisagree => (0x0F, 0x01)
  | .calRange => (0x0F, 0x02)
  | .calFail => (0x0F, 0x03)
  | .calStale => (0x0F, 0x04)
  | .jCorrupt => (0x0F, 0x05)
  | .jProgram => (0x0F, 0x06)
  | .auditLost => (0x0F, 0x07)
  | .fwVerify => (0x0F, 0x08)
  | .fwFallback => (0x0F, 0x09)
  | .pfUv => (0x10, 0x01)
  | .pfOv => (0x10, 0x02)
  | .pfGood => (0x10, 0x03)
  | .railFault => (0x10, 0x04)
  | .thermWarn => (0x10, 0x05)
  | .thermTrip => (0x10, 0x06)
  | .refLost => (0x10, 0x07)

def FaultName.source (f : FaultName) : Nat := f.code.1
def FaultName.kind (f : FaultName) : Nat := f.code.2

/-- The 64-bit fault message of 15 R448. -/
def faultMessage (f : FaultName) (addr : Nat) : Nat :=
  f.source * 2 ^ 56 + f.kind * 2 ^ 48 + addr % 2 ^ 48

/-- A source's place in 01 Table ARCH-6. -/
def sourceOrder (src : Nat) : Nat :=
  match src with
  | 0x01 => 1
  | 0x10 => 2
  | 0x02 => 3
  | 0x03 => 4
  | 0x04 => 5
  | 0x05 => 6
  | 0x06 => 6
  | 0x07 => 7
  | 0x08 => 7
  | 0x09 => 8
  | 0x0E => 9
  | 0x0A => 10
  | 0x0B => 10
  | 0x0C => 11
  | 0x0D => 12
  | _ => 13

/-- The place in Table ARCH-6 of the block that reports an event. -/
def EventName.order : EventName → Nat
  | .fault f _ => sourceOrder f.source
  | .engine _ => 4
  | .tgood _ => 4
  | .band _ _ _ => 6
  | .dmaRecord _ => 11
  | .ringRequest _ => 8
  | .bankPassed _ => 13
  | .request _ => 12
  | .completion _ => 12
  | .append _ _ => 13

/-- The place in Table ARCH-6 of the block that reports a cause: Hem, Polder, or the mailbox of a
stripe-pause; a cause of Fault comes before them all (01 R34). -/
def Cause.order : Cause → Nat
  | .fault => 0
  | .bandFault _ _ => 6
  | .bandData _ _ => 6
  | .pause _ => 12
  | _ => 4

/-! ## Time (07 R188, 11 R360) -/

/-- Steps of 78.125 ps in a microsecond, and in a TREF tick. -/
def usSteps : Nat := 12800
def tickSteps : Nat := 64

/-- The time unit's count as one number of 2^-32 ns. -/
def TimeUnit.total (u : TimeUnit) : Nat := (u.sec * 1000000000 + u.ns) * 2 ^ 32 + u.frac

/-- The time unit at a count. SEC is a u48. -/
def TimeUnit.ofTotal (u : TimeUnit) (x : Nat) : TimeUnit :=
  { u with sec := x / 2 ^ 32 / 1000000000 % 2 ^ 48, ns := x / 2 ^ 32 % 1000000000, frac := x % 2 ^ 32 }

/-- k ticks of the time unit; a pending TU_STEP acts at the first (11 R363). -/
def TimeUnit.ticks (u : TimeUnit) (k : Nat) : TimeUnit :=
  if k = 0 then u
  else { u.ofTotal ((u.total + k * u.inc : Int) + u.step * 2 ^ 32).toNat with step := 0 }

/-- The time unit's time in whole nanoseconds. -/
def TimeUnit.nowNs (u : TimeUnit) : Nat := u.sec * 1000000000 + u.ns

/-- 11 R367. -/
def TimeUnit.t8 (u : TimeUnit) : Nat := (u.nowNs * 256 + u.frac / 2 ^ 24) % 2 ^ 40

/-- The Gusset messages that wait begin their transmission: those with precedence first, else in the
order in which they were queued (11 R341, R342). -/
def State.transmit (s : State) : State :=
  let src := 2 * s.eng.pairId + s.eng.twinB.toNat
  let w := (sortBy GMsg.rank s.twin.txQ).foldl (Sender.put src s.twin.active s.now)
    { mseq := s.twin.txMseq, lanes := s.twin.tx, inject := s.fc.inject }
  { s with
    out := s.out ++ w.out, twin := { s.twin with txQ := [], txMseq := w.mseq, tx := w.lanes }, fc := { s.fc with inject := w.inject } }

/-- The state at the instant of a command. Time does not run backward. What earlier commands queued for
Gusset has begun its transmission by then (log 52). -/
def State.atTime (t : Nat) (s : State) : State :=
  let s := s.transmit
  let t' := max s.now t
  { s with now := t', tu := s.tu.ticks (t' / tickSteps - s.now / tickSteps) }

/-! ## Events, faults, messages -/

/-- The stamp of the next accepted event (01 Table ARCH-7). -/
def State.stamp (s : State) : Stamp :=
  { sequence := s.arb.seq, flash := s.eng.lastFlash, sec := s.tu.sec, ns := s.tu.ns }

/-- The 32 bytes of a stamp. -/
def Stamp.bytes (p : Stamp) : List Byte :=
  leBytes 8 p.sequence ++ leBytes 8 p.flash ++ leBytes 6 p.sec ++ [0, 0] ++ leBytes 4 p.ns ++ [0, 0, 0, 0]

/-- Where a waiting fault stands among the waiting ones: earlier slots first, then source order (R37). -/
def Raised.key (r : Raised) : Nat := r.at' * 16 + sourceOrder r.name.source

/-- Where an event of a source stands that reaches the arbiter now. -/
def State.slot (order : Nat) (s : State) : Nat := s.now * 16 + order

/-- A waiting fault that the arbiter accepts before an event of a source at an instant (R37). -/
def Raised.ahead (order now : Nat) (r : Raised) : Bool := r.seq.isNone && decide (r.key ≤ now * 16 + order)

/-- The waiting faults that come before an event take their sequence numbers (R36, R37). -/
def Arb.number (order now : Nat) (a : Arb) : Arb :=
  let q := a.faultQ.zipIdx
  let ahead := q.filter fun p => p.1.ahead order now
  { a with
    seq := a.seq + ahead.length
    faultQ := q.map fun p => if p.1.ahead order now then
      { p.1 with seq := some (a.seq + (ahead.filter fun o => decide (o.1.key < p.1.key ∨ (o.1.key = p.1.key ∧ o.2 < p.2))).length) }
      else p.1 }

/-- The sequence that an event of a source takes now. -/
def State.seqFor (order : Nat) (s : State) : Nat := (s.arb.number order s.now).seq

/-- The arbiter accepts an event behind the waiting faults that precede it, stamps it and counts it
(01 R37, R38). -/
def State.event (e : EventName) (s : State) : State :=
  let a := s.arb.number e.order s.now
  { s with arb := { a with
      seq := a.seq + 1
      events := a.events ++ [{ name := e, stamp := { s.stamp with sequence := a.seq } }] } }

/-- The arbiter accepts a waiting fault, under the sequence number that it may have already. -/
def State.faultEvent (r : Raised) (s : State) : State :=
  { s with arb := { s.arb with
      seq := if r.seq.isSome then s.arb.seq else s.arb.seq + 1
      events := s.arb.events ++ [{ name := .fault r.name r.addr, stamp := { s.stamp with sequence := r.seq.getD s.arb.seq } }] } }

/-- A block sends a fault message to the event arbiter (15 R448). -/
def State.raise (f : FaultName) (addr : Nat) (s : State) : State :=
  { s with arb := { s.arb with faultQ := s.arb.faultQ ++ [{ at' := s.now, name := f, addr := addr % 2 ^ 48 }] } }

/-- A block raises a fault unless a flag says it already has; the flag is the caller's to set. -/
def State.raiseUnless (done : Bool) (f : FaultName) (addr : Nat) (s : State) : State :=
  if done then s else s.raise f addr

/-- A cause of Seam, Held or Fault goes to the arbiter (01 R34). -/
def State.cause (c : Cause) (s : State) : State :=
  { s with arb := { s.arb with causeQ := s.arb.causeQ ++ [(s.now, c)] } }

/-- A cause waits for its acceptance. -/
def Arb.waits (c : Cause) (a : Arb) : Bool := a.causeQ.any (·.2 == c)

def State.send (o : Out) (s : State) : State := { s with out := s.out ++ [o] }

/-- Interrupt vector v (12 R381): sent when the function mask and its own mask permit, else recorded
in the PBA. MSI-X messages are sent during a halt too (Table HOST-12). -/
def State.vector (v : Nat) (s : State) : State :=
  let e := s.sl.msix.getD v {}
  if s.sl.fnMask || e.mask then { s with sl := { s.sl with pba := s.sl.pba ||| 2 ^ v } }
  else s.send (.msix v e.addr e.data)

/-! ## Conditions -/

/-- Member number 2 × PAIR_ID + TWIN (11 R335). -/
def State.member (s : State) : Nat := 2 * s.eng.pairId + s.eng.twinB.toNat

/-- Low bits of the last issued flash index, as fault addresses carry it. -/
def State.flash40 (s : State) : Nat := s.eng.lastFlash % 2 ^ 40
def State.flash32 (s : State) : Nat := s.eng.lastFlash % 2 ^ 32

/-- The address form of 15 R470, 09 Table FEED-9, 10 Table BRACE-11, 11 R374 and 08 Table CUFF-12: a
number in bits [47:40] over the low 40 bits of the last issued flash index. -/
def State.addrFlash (s : State) (n : Nat) : Nat := n * 2 ^ 40 + s.flash40

/-- The same with a sub-field in bits [39:32]. -/
def State.addrSub (s : State) (n sub : Nat) : Nat := n * 2 ^ 40 + sub * 2 ^ 32 + s.flash32

/-- Stripe and band as fault addresses carry them. -/
def addrBand (stripe band : Nat) : Nat := stripe * 2 ^ 32 + band * 2 ^ 16

def EngState.code : EngState → Nat
  | .sleep => 0
  | .boot => 1
  | .calibrate => 2
  | .ready => 3
  | .writing => 4
  | .held => 5
  | .seam => 6
  | .fault => 7

def EngState.ofCode (n : Nat) : EngState :=
  match n with
  | 0 => .sleep
  | 1 => .boot
  | 2 => .calibrate
  | 3 => .ready
  | 4 => .writing
  | 5 => .held
  | 6 => .seam
  | _ => .fault

/-- A stripe is open from the acceptance of STRIPE_START until it ends (18 ENG_STATUS). -/
def State.stripeOpen (s : State) : Bool := s.hem.stripe.isSome
def State.jobOpen (s : State) : Bool := s.job.isSome
def State.paired (s : State) : Bool := s.twin.pair == .paired
/-- A standby: a module that is not the active twin (11 R336). -/
def State.standby (s : State) : Bool := !s.twin.active
def State.inWriting (s : State) : Bool := s.eng.state == .writing

/-- Writing, Held or Seam. -/
def State.running (s : State) : Bool :=
  s.eng.state == .writing || s.eng.state == .held || s.eng.state == .seam

/-- 11 R361: a time follower is a standby, or a module of a pair other than the ring's time leader
pair. -/
def State.timeFollower (s : State) : Bool :=
  s.standby || (match s.ring.leader with
    | some l => l / 2 != s.eng.pairId
    | none => false)

/-! ## Engine state (01 R33) -/

/-- A change of engine state: one arbiter event, and vector 5 (12 Table HOST-3). -/
def State.enter (e : EngState) (s : State) : State :=
  if s.eng.state = e then s
  else ({ s with eng := { s.eng with state := e } }.event (.engine e)).vector 5

/-- HEM_TGOOD changes (07 R225): an arbiter event (01, The event arbiter). -/
def State.setTgood (b : Bool) (s : State) : State :=
  if s.eng.tgood = b then s
  else ({ s with eng := { s.eng with tgood := b } }).event (.tgood b)

/-- An injected mask for a checker (15 R460): the mask to apply to this operation of the unit, and
the state with the operation counted. -/
def State.inject (checker unit : Nat) (s : State) : Nat × State :=
  let r := injectStep s.fc.inject checker unit
  (r.1, { s with fc := { s.fc with inject := r.2 } })

/-- The next value of the model's counter of free values (log 13). -/
def State.nextFree (s : State) : Nat × State := (s.free, { s with free := s.free + 1 })

/-- Queues a Gusset message of this module. -/
def State.sendGusset (m : GMsg) (s : State) : State := { s with twin := { s.twin with txQ := s.twin.txQ ++ [m] } }

/-- A Stitch message of this module's own, with HOPS 7 (11 R364); checker 13's mask acts on its CRC. -/
def State.sendStitch (m : SMsg) (s : State) : State :=
  let (mask, s) := s.inject 13 1
  let bytes := wireMessage m.type s.member s.twin.active 7 s.ring.txMseq m.body mask
  { s.send (.stitch true true s.member s.ring.txMseq 7 m bytes) with
    ring := { s.ring with
      txMseq := (s.ring.txMseq + 1) % 2 ^ 32, tx := putMessage s.ring.tx (lanesUp s.ring.tx) s.now bytes } }

/-- An action that recurs after a span is due. -/
def State.dueAfter (last : Option Nat) (steps : Nat) (s : State) : Bool := last.all fun a => decide (a + steps ≤ s.now)

/-- To the peer while there is one: Gusset traffic of a pair (11). -/
def State.toPeer (m : GMsg) (s : State) : State :=
  if s.twin.pair = .alone then s else s.sendGusset m

end Sys2Proof.Machine
end

