-- ==== Sys2Proof/Machine/Dram.lean ====
section
/-! DEFINITION. The DRAM controller (14): the block code, the valid map, the merge buffer, the request
queues, refresh and the page predictor. What a read or a write moves takes effect in the step that
accepts it; the queue holds the piece until PIECE_COMPLETE (log 8). -/

namespace Sys2Proof.Machine
open Sys2Proof

/-! ## Address map (14 Table MEM-1), a block address being a byte address over 64 -/

def subOf (a : Nat) : Nat := (bitsOf a 6 3).xor (bitsOf a 20 17)
def bankOf (a : Nat) : Nat := (bitsOf a 11 7).xor (bitsOf a 25 21)
def rowOf (a : Nat) : Nat := bitsOf a 30 16
/-- Blocks of the 128 GiB. -/
def blockCount : Nat := 2 ^ 31

/-! ## The block code (14 R431): GF(2^64), x^64 + x^4 + x^3 + x + 1 -/

/-- Multiplication by α = x. -/
def gfX (a : Word) : Word := (a <<< 1) ^^^ (if a.msb then 0x1B#64 else 0#64)

/-- Multiplication by α^n. -/
def gfAlpha : Nat → Word → Word
  | 0, a => a
  | n + 1, a => gfX (gfAlpha n a)

/-- Multiplication. -/
def gmul (a b : Word) : Word :=
  (List.range 64).foldr (fun i acc => gfX acc ^^^ (if b.getLsbD i then a else 0#64)) 0#64

/-- The inverse of α^8 ^ α^9, by which R431 divides. -/
def gfInv89 : Word := 0x42fffffffffffff9#64

def xorAll (l : List Word) : Word := l.foldl (· ^^^ ·) 0#64

/-- Σ s_i α^i over a list, i from 0. -/
def syndrome1 (l : List Word) : Word := (l.zipIdx).foldl (fun acc p => acc ^^^ gfAlpha p.2 p.1) 0#64

/-- The symbols of devices 0 to 7 for 64 data bytes (14 R423, R431). -/
def dataSymbols (data : List Byte) : List Word :=
  (List.range 8).map fun d =>
    (List.range 16).foldl (fun acc b =>
      let byte := (data.getD (4 * b + d / 2) 0).toNat
      let nib := if d % 2 = 0 then byte % 16 else byte / 16
      acc ||| BitVec.ofNat 64 (nib * 2 ^ (4 * b))) 0#64

/-- The data bytes of the symbols of devices 0 to 7. -/
def symbolBytes (r : List Word) : List Byte :=
  (List.range 64).map fun j =>
    let nib (d : Nat) : Nat := ((r.getD d 0#64).toNat / 2 ^ (4 * (j / 4))) % 16
    byteOf (nib (2 * (j % 4)) + 16 * nib (2 * (j % 4) + 1))

/-- The ten symbols of a block written with an address symbol. -/
def encodeBlock (addrSym : Word) (data : List Byte) : List Word :=
  let s := dataSymbols data
  let t0 := xorAll s ^^^ addrSym
  let t1 := syndrome1 s ^^^ gfAlpha 10 addrSym
  let s8 := gmul (t1 ^^^ gfAlpha 9 t0) gfInv89
  s ++ [s8, t0 ^^^ s8]

def addrSymbol (block : Nat) : Word := BitVec.ofNat 64 block
def poisonBit : Word := 0x8000000000000000#64

/-- What decoding a read finds. -/
inductive BlockRead where
  | clean
  | corrected (device : Nat)
  | poison
  | misdirect
  | uncorrectable
  deriving DecidableEq, Repr

/-- The decoder of R431 on ten symbols. -/
def decodeBlock (block : Nat) (r : List Word) : BlockRead :=
  let a := addrSymbol block
  let y0 := xorAll r ^^^ a
  let y1 := syndrome1 r ^^^ gfAlpha 10 a
  if y0 = 0#64 then (if y1 = 0#64 then .clean else .uncorrectable)
  else match (List.range 10).find? (fun i => decide (y1 = gfAlpha i y0)) with
    | some i => .corrected i
    | none =>
      if y1 = gfAlpha 10 y0 then (if y0 = poisonBit then .poison else .misdirect)
      else .uncorrectable

/-- The ten symbols with the error of one device taken away. -/
def correctBlock (block : Nat) (r : List Word) (device : Nat) : List Word :=
  listUpd r device (· ^^^ (xorAll r ^^^ addrSymbol block))

def xorSyms (r e : List Word) : List Word := (r.zipIdx).map fun p => p.1 ^^^ e.getD p.2 0#64

/-! ## Contents -/

/-- What an unlisted block holds: zero with its check symbols in a page that a first write has filled
(R440), else whatever the devices held, which shows where the valid map's loss declares the page written
(R441). -/
def Dram.blank (d : Dram) (block : Nat) : List Word :=
  if d.filled.contains (block / 64) then encodeBlock (addrSymbol block) (List.replicate 64 0)
  else (Config.rawBlock block).toList

/-- The stored symbols of a block. -/
def Dram.symbols (d : Dram) (block : Nat) : List Word := sparseGet (d.blank block) d.blocks block

def Dram.written (d : Dram) (page : Nat) : Bool := d.valid.contains page

/-- The canonical form of the contents: addresses, pages and map words strictly rise, and nothing is listed
that reads as what is not listed. -/
def Dram.wf (d : Dram) : Bool :=
  risingKeys d.blocks && (d.blocks.all fun p => decide (p.2 ≠ d.blank p.1)) && risingNats d.valid && risingNats d.filled &&
  risingKeys d.mapCheck && (d.mapCheck.all fun p => decide (p.2 ≠ 0))

/-- Stores ten symbols in a block. -/
def Dram.put (d : Dram) (block : Nat) (syms : List Word) : Dram :=
  { d with blocks := sparseSet d.blocks block syms (decide (syms = d.blank block)) }

/-- The first write to a page (R440): every block zero, and its bit set. -/
def Dram.fill (d : Dram) (page : Nat) : Dram :=
  { d with blocks := d.blocks.filter (fun p => p.1 / 64 != page)
           filled := insertNat d.filled page
           valid := insertNat d.valid page }

/-- The merge-buffer entry of a block. -/
def Dram.entry (d : Dram) (block : Nat) : Option Merge := d.merge.find? (·.block == block)

/-- Bytes overlaid with a merge entry's (R436). -/
def overlay (data : List Byte) (m : List (Nat × Byte)) : List Byte :=
  m.foldl (fun acc p => listUpd acc p.1 fun _ => p.2) data

/-! ## The valid map (R439 to R441) -/

/-- A read of the valid-map word of a page: its stored check-bit error and an upset of its 72 bits
(data in the low 64) go through the SEC-DED decoder. -/
def State.mapRead (page upset : Nat) (s : State) : State :=
  let w := page / 64
  let du := upset % 2 ^ 64
  let syn := ((sparseGet 0 s.dram.mapCheck w).xor (upset / 2 ^ 64 % 256)).xor (checkBits 64 8 du)
  let pagesOf (v : Nat) : List Nat := ((List.range 64).filter (v.testBit ·)).map (64 * w + ·)
  let toggle (d : Dram) (v : Nat) : Dram :=
    (pagesOf v).foldl (fun d p =>
      if d.valid.contains p then { d with valid := d.valid.filter (· != p) }
      else { d with valid := insertNat d.valid p }) d
  let fixed (v : Nat) : Dram := { toggle s.dram v with mapCheck := sparseSet s.dram.mapCheck w 0 true }
  match eccDecode 64 8 syn with
  | .clean => if du = 0 then s else { s with dram := toggle s.dram du }
  | .corrected none => { s with dram := fixed du }
  | .corrected (some i) => { s with dram := fixed (du.xor (2 ^ i)) }
  | .uncorrectable =>
    let d := ((List.range 64).map (64 * w + ·)).foldl (fun d p =>
      if d.valid.contains p then d else { d with valid := insertNat d.valid p }) s.dram
    { s with dram := { d with mapCheck := sparseSet d.mapCheck w 0 true } }.raise .memMap w

/-! ## Queues (R425, R426) -/

def State.updSub (sub : Nat) (f : SubCh → SubCh) (s : State) : State :=
  { s with dram := { s.dram with sub := listUpd s.dram.sub sub f } }

/-- Whether two pieces have a block in common. -/
def Req.meets (a b : Req) : Bool := decide (a.block < b.block + b.blocks) && decide (b.block < a.block + a.blocks)

/-- The queued pieces that may start: none ahead of an earlier one to the same block. `before` holds the
pieces already passed. -/
def startable : List Req → List Req → List Req
  | _, [] => []
  | before, r :: l => if before.any r.meets then startable (before ++ [r]) l else r :: startable (before ++ [r]) l

/-- A piece's place in the order of R426: promoted ones, then RT, BULK and CPU. -/
def Req.rank (r : Req) : Nat := if r.promoted then 0 else r.cls + 1

/-- A request to the open row of its bank. -/
def SubCh.hits (c : SubCh) (r : Req) : Bool :=
  let b := c.banks.getD (bankOf r.block) {}
  b.open' && b.lastRow == some (rowOf r.block)

/-- The piece that the controller starts (R426). `rowFirst`: where a request to an open row may go ahead of
an older one of its class, it does; never within 100 ns of the older one's promotion. -/
def SubCh.pick (rowFirst : Bool) (now : Nat) (c : SubCh) : Option Req :=
  let l := startable [] c.queue
  match minBy Req.rank l with
  | none => none
  | some r =>
    if r.promoted || !rowFirst || decide (r.arrived + 2 * usSteps ≤ now + usSteps / 10) then some r
    else some ((l.find? fun x => x.rank == r.rank && c.hits x).getD r)

/-- An idle sub-channel starts a piece. -/
def SubCh.start (rowFirst : Bool) (now : Nat) (c : SubCh) : SubCh :=
  if c.active.isSome then c
  else match c.pick rowFirst now with
    | none => c
    | some r => { c with queue := c.queue.erase r, active := some r }

/-- A piece enters its sub-channel's queue of 64, and starts if the sub-channel is idle. -/
def State.enqueue (block blocks cls : Nat) (write : Bool) (s : State) : State :=
  let sub := subOf block
  s.updSub sub fun c =>
    (if c.queue.length < 64 then
      { c with queue := c.queue ++ [{ block := block, blocks := blocks, cls := cls, arrived := s.now, write := write }] }
    else c).start (Config.rowFirst sub s.now) s.now

/-- A request of `blocks` blocks, split at every 512-byte boundary (R426). `fuel` bounds the pieces. -/
def State.enqueueAll (cls : Nat) (write : Bool) : Nat → Nat → Nat → State → State
  | 0, _, _, s => s
  | fuel + 1, block, blocks, s =>
    if blocks = 0 then s
    else
      let n := min blocks (8 - block % 8)
      State.enqueueAll cls write fuel (block + n) (blocks - n) (s.enqueue block n cls write)

/-- A requester's service class (Table MEM-2), by its code in Table MEM-4; code 5 is a cell, whose writes,
and the codec's reads of its transit data, are RT while it is pinned. -/
def requesterClass (r : Nat) (pinned : Bool) : Nat :=
  match r with
  | 0 => 2
  | 1 => 2
  | 2 => 1
  | 3 => 1
  | 5 => if pinned then 0 else 1
  | 7 => 1
  | _ => 0

/-! ## Reads and writes -/

/-- Writes ten symbols as a block write does: the first write fills the page and sets its map bit, and
injected masks act on the check symbols (15 Table FAULT-7, checkers 5 and 6). -/
def State.storeBlock (block : Nat) (syms err : List Word) (s : State) : State :=
  let page := block / 64
  let s := if s.dram.written page then s else
    let (m, s) := s.inject 6 0
    let d := s.dram.fill page
    { s with dram := { d with mapCheck := sparseSet d.mapCheck (page / 64) (m % 256) (m % 256 == 0) } }
  let (m, s) := s.inject 5 (subOf block)
  let syms := xorSyms (xorSyms syms err)
    (List.replicate 8 0#64 ++ [BitVec.ofNat 64 m, BitVec.ofNat 64 (m / 2 ^ 64)])
  { s with dram := s.dram.put block syms }

/-- MEM_UE (R442): requester, outcome code, byte address. -/
def State.memUe (requester outcome block : Nat) (s : State) : State :=
  s.raise .memUe (requester * 2 ^ 45 + outcome * 2 ^ 43 + block % 2 ^ 31)

/-- A correction is counted by sub-channel and device; MEM_CE at the first and at every 2^k-th, k from
10 (R433). -/
def State.countCe (sub device : Nat) (s : State) : State :=
  let n := ((s.dram.sub.getD sub {}).ce.getD device 0) + 1
  let s := { s with dram := { s.dram with sub := listUpd s.dram.sub sub fun c =>
    { c with ce := listUpd c.ce device fun _ => n } } }
  if n = 1 || (decide (1024 ≤ n) && n == 2 ^ Nat.log2 n) then
    s.raise .memCe (sub * 2 ^ 44 + device * 2 ^ 40 + n % 2 ^ 32)
  else s

/-- The DRAM side of a block read: the data, or none when it is uncorrectable. -/
def State.readRaw (requester block : Nat) (err : List Word) (s : State) : Option (List Byte) × State :=
  if !s.dram.written (block / 64) then (some (List.replicate 64 0), s)
  else
    let r := xorSyms (s.dram.symbols block) err
    match decodeBlock block r with
    | .clean => (some (symbolBytes r), s)
    | .corrected d =>
      let c := correctBlock block r d
      (some (symbolBytes c), ((s.storeBlock block c []).enqueue block 1 1 true).countCe (subOf block) d)
    | .poison => (none, s.memUe requester 1 block)
    | .misdirect => (none, s.memUe requester 2 block)
    | .uncorrectable => (none, s.memUe requester 3 block)

/-- A block read (R431, R434, R436): map word, DRAM, merge-buffer overlay. -/
def State.readBlock (requester block : Nat) (err : List Word) (mapUpset : Nat) (s : State) :
    Option (List Byte) × State :=
  let s := s.mapRead (block / 64) mapUpset
  let (r, s) := s.readRaw requester block err
  (r.map fun data => overlay data ((s.dram.entry block).elim [] (·.bytes)), s)

/-- The bytes of a range, block by block; none when a block is uncorrectable. `fuel` bounds the blocks. -/
def State.readRange (requester : Nat) : Nat → Nat → Nat → State → Option (List Byte) × State
  | 0, _, _, s => (some [], s)
  | fuel + 1, addr, len, s =>
    if len = 0 then (some [], s)
    else
      let off := addr % 64
      let n := min len (64 - off)
      match s.readBlock requester (addr / 64) [] 0 with
      | (none, s) => (none, s)
      | (some data, s) =>
        match State.readRange requester fuel (addr + n) (len - n) s with
        | (none, s) => (none, s)
        | (some more, s) => (some ((data.drop off).take n ++ more), s)

/-- The bytes of a range of engine DRAM. -/
def State.readBytes (requester addr len : Nat) (s : State) : Option (List Byte) × State :=
  s.readRange requester (len / 64 + 2) addr len

/-- The entry of a block leaves the merge buffer. -/
def State.dropEntry (block : Nat) (s : State) : State :=
  { s with dram := { s.dram with merge := s.dram.merge.filter (·.block != block) } }

/-- A flush of a merge entry (R436, R438): a full entry is a plain write; a partial one reads the
block, merges and writes; an uncorrectable read leaves a poisoned block. -/
def State.flushEntry (m : Merge) (err : List Word) (s : State) : State :=
  let s := (s.dropEntry m.block).enqueue m.block 1 m.cls true
  let zero := List.replicate 64 (0 : Byte)
  if m.bytes.length = 64 then
    s.storeBlock m.block (encodeBlock (addrSymbol m.block) (overlay zero m.bytes)) []
  else
    match s.readRaw m.who m.block err with
    | (some data, s) => s.storeBlock m.block (encodeBlock (addrSymbol m.block) (overlay data m.bytes)) []
    | (none, s) =>
      s.storeBlock m.block (encodeBlock (addrSymbol m.block ^^^ poisonBit) (overlay zero m.bytes)) []

/-- Room for an entry: a full buffer flushes the one written longest ago (R436). -/
def State.mergeRoom (s : State) : State :=
  if s.dram.merge.length < 64 then s
  else match minBy Merge.lastWrite s.dram.merge with
    | some m => s.flushEntry m []
    | none => s

/-- A block without an entry gets one. -/
def State.mergeEntry (who cls block : Nat) (s : State) : State :=
  match s.dram.entry block with
  | some _ => s
  | none =>
    let s := s.mergeRoom
    { s with dram := { s.dram with merge := s.dram.merge ++ [({ block := block, bytes := [], lastWrite := s.now, cls := cls, who := who } : Merge)] } }

/-- Bytes join the entry of a block, over those it holds for the same places. -/
def State.mergeBytes (who cls block : Nat) (new : List (Nat × Byte)) (s : State) : State :=
  let add (m : Merge) : Merge :=
    { m with bytes := sortBy (·.1) (m.bytes.filter (fun p => !(new.any (·.1 == p.1))) ++ new)
             lastWrite := s.now, cls := cls, who := who }
  { s with dram := { s.dram with merge := s.dram.merge.map fun (m : Merge) => if m.block == block then add m else m } }

/-- A narrow write into the merge buffer (R436); a full entry is flushed. -/
def State.mergeWrite (who cls block off : Nat) (data : List Byte) (s : State) : State :=
  let s := (s.mergeEntry who cls block).mergeBytes who cls block ((data.zipIdx).map fun p => (off + p.2, p.1))
  match s.dram.entry block with
  | some m => if m.bytes.length = 64 then s.flushEntry m [] else s
  | none => s

/-- The control processor's narrow write is one read-modify-write, over what the merge buffer holds of the
block (R437). -/
def State.modifyBlock (who block off : Nat) (data : List Byte) (err : List Word) (s : State) : State :=
  let held := (s.dram.entry block).elim [] (·.bytes)
  let new := (data.zipIdx).map fun p => (off + p.2, p.1)
  match (s.dropEntry block).readRaw who block [] with
  | (some d, s) => s.storeBlock block (encodeBlock (addrSymbol block) (overlay (overlay d held) new)) err
  | (none, s) =>
    s.storeBlock block (encodeBlock (addrSymbol block ^^^ poisonBit)
      (overlay (overlay (List.replicate 64 0) held) new)) err

/-- A write of part of one block, or of all of it; a narrow write of another class merges. -/
def State.writePart (who cls block off : Nat) (data : List Byte) (err : List Word) (s : State) : State :=
  if off = 0 && data.length = 64 then
    (s.dropEntry block).storeBlock block (encodeBlock (addrSymbol block) data) err
  else if cls = 2 then s.modifyBlock who block off data err
  else s.mergeWrite who cls block off data

/-- A write of any length, block by block. -/
def State.writeRange (who cls : Nat) (err : List Word) : Nat → Nat → List Byte → State → State
  | 0, _, _, s => s
  | fuel + 1, addr, data, s =>
    if data.isEmpty then s
    else
      let off := addr % 64
      let n := min data.length (64 - off)
      State.writeRange who cls err fuel (addr + n) (data.drop n)
        (s.writePart who cls (addr / 64) off (data.take n) err)

/-- Bytes into engine DRAM, from a requester (its code in Table MEM-4) in a service class. -/
def State.writeBytes (who cls addr : Nat) (data : List Byte) (s : State) : State :=
  s.writeRange who cls [] (data.length / 64 + 2) addr data

/-! ## Refresh and predictor (R427 to R430) -/

/-- A refresh closes every row and leaves the predictors (R427). -/
def SubCh.refresh (c : SubCh) : SubCh := { c with banks := c.banks.map fun b => { b with open' := false } }

def SubCh.rtQueued (c : SubCh) : Bool := c.queue.any (·.cls == 0)

/-- REFRESH_FORCED is raised at the first forced refresh of a stripe (R430). -/
def State.noteForced (sub : Nat) (s : State) : State :=
  if !s.stripeOpen then s else
  let s := s.raiseUnless s.dram.forcedRaised .refreshForced (sub * 2 ^ 44)
  { s with dram := { s.dram with forcedRaised := true } }

/-- A refresh falls due (R429, R430). -/
def State.refreshDue (sub : Nat) (s : State) : State :=
  let c := s.dram.sub.getD sub {}
  if c.rtQueued then
    if c.owed < 4 then s.updSub sub fun c => { c with owed := c.owed + 1 }
    else (s.updSub sub SubCh.refresh).noteForced sub
  else s.updSub sub SubCh.refresh

/-- The access of a completed piece to its bank: the predictor learns, the row is recorded, and the
row stays open if the predictor says so or a queued request targets the bank (R427). -/
def SubCh.complete (c : SubCh) (bank row : Nat) : SubCh :=
  { c with
    active := none
    banks := listUpd c.banks bank fun b =>
      let p := match b.lastRow with
        | none => b.pred
        | some r => if r = row then min 3 (b.pred + 1) else b.pred - 1
      { pred := p, lastRow := some row
        open' := c.queue.any (fun r => bankOf r.block == bank) || decide (2 ≤ p) } }

/-- REFRESH_DUE. -/
def execRefreshDue (t sub : Nat) (s : State) : Res := .next ((s.atTime t).refreshDue sub)

/-- OWED_REFRESH (R429). -/
def execOwedRefresh (t sub : Nat) (s : State) : Res :=
  .next ((s.atTime t).updSub sub fun c =>
    if c.rtQueued || c.owed == 0 then c else { c.refresh with owed := c.owed - 1 })

/-- MEM_TEMP_READ (R428): device temperatures in °C. -/
def execMemTempRead (t sub : Nat) (temps : List Int) (s : State) : Res :=
  let s := (s.atTime t).updSub sub fun c => { c with hot := temps.any (fun x => decide (85 < x)) }
  .next ((temps.zipIdx).foldl (fun s p =>
    if 95 < p.1 then s.raise .memHot (sub * 2 ^ 44 + p.2 * 2 ^ 40) else s) s)

/-- REQUEST_PROMOTION (R426): the oldest request that has waited 2 µs. -/
def execRequestPromotion (t sub : Nat) (s : State) : Res :=
  let s := s.atTime t
  .next (s.updSub sub fun c =>
    let i := c.queue.findIdx fun r => !r.promoted && decide (r.arrived + 2 * usSteps ≤ s.now)
    { c with queue := listUpd c.queue i fun r => { r with promoted := true } })

/-- PIECE_COMPLETE (R426, R427): the piece that has started ends, where it is one of that bank and row, and
the next one starts. -/
def execPieceComplete (t sub bank row : Nat) (s : State) : Res :=
  let s := s.atTime t
  .next (s.updSub sub fun c =>
    if c.active.any (fun r => bankOf r.block == bank && rowOf r.block == row) then
      (c.complete bank row).start (Config.rowFirst sub s.now) s.now
    else c)

/-- MERGE_FLUSH (R436): an entry whose last write is 1 µs old. -/
def execMergeFlush (t block : Nat) (err : List Word) (s : State) : Res :=
  let s := s.atTime t
  .next (match s.dram.entry block with
    | some m => if m.lastWrite + usSteps ≤ s.now then s.flushEntry m err else s
    | none => s)

/-- SCRUB_READ (R435): of a written block, on a sub-channel whose queue is empty. -/
def execScrubRead (t block : Nat) (err : List Word) (s : State) : Res :=
  let s := s.atTime t
  .next (if s.dram.written (block / 64) && (s.dram.sub.getD (subOf block) {}).queue.isEmpty then
    (s.enqueue block 1 1 false).readBlock 7 block err 0 |>.2 else s)

end Sys2Proof.Machine
end

