-- ==== Sys2Proof/Machine/Journal.lean ====
section
/-! DEFINITION. The journal store (16 R485 to R498): records, live records, appending, compaction and
replay. -/

namespace Sys2Proof.Machine
open Sys2Proof

/-- Record types (16 Table STORE-6). -/
def jCal : Nat := 1
def jConfig : Nat := 2
def jDelay : Nat := 3
def jAudit : Nat := 4
def jMark : Nat := 5
def jFwMeta : Nat := 6
def jFwSel : Nat := 7

/-- Store address of a basin (Table STORE-4). -/
def basinBase (i : Nat) : Nat := if i = 0 then 0x08400000 else 0x14200000
def basinSize : Nat := 190 * 2 ^ 20
/-- Sectors of 256 KiB in a basin. -/
def basinSectors : Nat := 760

/-- Bytes of a record with a body of n bytes (Table STORE-5). -/
def recLength (n : Nat) : Nat := (28 + n + 7) / 8 * 8 + 8

/-- Bytes of a body by type and key (Table STORE-6). -/
def bodyLen (type key : Nat) : Nat :=
  match type with
  | 1 => 72
  | 2 => if key = 1 then 528 else if key = 2 then 16 else if key = 3 then 1 else 2
  | 3 => 1920
  | 4 => 48
  | 6 => 16
  | _ => 8

/-- The committed value of a marker (R486); before, it is erased. -/
def markerDone : Nat := 0x3C3CC3C3A5A55A5A
def markerErased : Nat := 2 ^ 64 - 1

/-- The bytes of a record (Table STORE-5), its marker committed or erased. -/
def recordBytes (type key jseq : Nat) (body : List Byte) (committed : Bool) : List Byte :=
  let n := recLength body.length
  let h := leBytes 2 0x4A52 ++ [byteOf type, 0] ++ leBytes 4 n ++ leBytes 8 jseq ++ leBytes 4 key
  padTo (n - 8) (h ++ leBytes 4 (crc32c h type) ++ body ++ leBytes 4 (crc32c body jseq)) ++
    leBytes 8 (if committed then markerDone else markerErased)

def JRec.type (r : JRec) : Nat := fld r.raw 2 1
def JRec.length (r : JRec) : Nat := fld r.raw 4 4
def JRec.jseq (r : JRec) : Nat := fld r.raw 8 8
def JRec.key (r : JRec) : Nat := fld r.raw 16 4
def JRec.body (r : JRec) : List Byte := (r.raw.drop 24).take (bodyLen r.type r.key)

/-- The header checks (R487, R489). -/
def JRec.headOk (r : JRec) : Bool := fld r.raw 0 2 == 0x4A52 && fld r.raw 20 4 == crc32c (r.raw.take 20) r.type

/-- The body checks (R487). -/
def JRec.bodyOk (r : JRec) : Bool := fld r.raw (24 + bodyLen r.type r.key) 4 == crc32c r.body r.jseq

/-- The marker holds the committed value. -/
def JRec.marked (r : JRec) : Bool := fld r.raw (r.length - 8) 8 == markerDone

/-- The 64 bytes of a basin header (R488), with its complete marker programmed or erased. -/
def basinHead (generation : Nat) (complete : Bool) : List Byte :=
  let h := [0x42, 0x41, 0x53, 0x49, 0x4E, 0x0D, 0x0A, 0x1A] ++ leBytes 8 generation ++ List.replicate 32 0
  h ++ leBytes 4 (crc32c h 0) ++ [0, 0, 0, 0] ++ leBytes 8 (if complete then markerDone else markerErased)

/-- The header is valid. -/
def Basin.valid (b : Basin) : Bool :=
  b.head.take 8 == [0x42, 0x41, 0x53, 0x49, 0x4E, 0x0D, 0x0A, 0x1A] && fld b.head 48 4 == crc32c (b.head.take 48) 0

def Basin.generation (b : Basin) : Nat := fld b.head 8 8

/-- Its complete marker is programmed. -/
def Basin.complete (b : Basin) : Bool := fld b.head 56 8 == markerDone

def Journal.basin (j : Journal) (i : Nat) : Basin := j.basins.getD i {}
def Journal.activeBasin (j : Journal) : Basin := j.basin j.active

/-- Records that replay takes (R487): committed, header and body right. -/
def Basin.good (b : Basin) : List JRec := b.records.filter fun r => r.marked && r.headOk && r.bodyOk

/-- The live record of a (type, key) (R487): the committed one with the highest jseq. -/
def liveOf (l : List JRec) (type key : Nat) : Option JRec :=
  (l.filter fun r => r.type == type && r.key == key).foldl (fun best r =>
    match best with
    | some b => if b.jseq < r.jseq then some r else some b
    | none => some r) none

def Journal.live (j : Journal) (type key : Nat) : Option JRec := liveOf j.activeBasin.good type key

/-- The body of the live record. -/
def Journal.liveBody (j : Journal) (type key : Nat) : Option (List Byte) := (j.live type key).map (·.body)

/-- Slot named by the live FW_SEL record. -/
def Journal.selected (j : Journal) : Nat := ((j.liveBody jFwSel 0).map fun b => fld b 0 1).getD 0

/-- A slot is valid (R493): its header and image check, and its live FW_META says the same. -/
def Journal.slotValid (j : Journal) (slot : Nat) : Bool :=
  let f := j.slots.getD slot {}
  f.imageOk && match j.liveBody jFwMeta slot with
    | some b => fld b 0 4 == f.build && fld b 4 4 == f.length && fld b 8 4 == f.imageCrc
    | none => false

/-- The store has a delay set for a rate (14 R443). -/
def Journal.hasDelay (j : Journal) (rate : Nat) : Bool := j.factory.contains rate || (j.live jDelay rate).isSome

/-- The delay set of a rate (Table STORE-6): for each line of each sub-channel the read delay, the read
reference and the write delay. -/
def Journal.delaySet (j : Journal) (rate : Nat) : List Byte :=
  (j.liveBody jDelay rate).getD ((List.range 1920).map fun k =>
    byteOf ((Config.delayByte rate k).toNat % (if k % 3 = 1 then 32 else 64)))

/-- AUDIT records retained, in jseq order. -/
def Journal.audits (j : Journal) : List JRec :=
  let l := sortBy JRec.jseq (j.activeBasin.good.filter (·.type == jAudit))
  l.drop (l.length - 1048576)

/-- Highest jseq that AUDIT_READ has returned. -/
def Journal.mark (j : Journal) : Nat := ((j.liveBody jMark 0).map fun b => fld b 0 8).getD 0

def State.updJr (f : Journal → Journal) (s : State) : State := { s with jr := f s.jr }

/-- A record waits to be appended (R486): an event of the arbiter. -/
def State.append (type key : Nat) (body : List Byte) (mb : Option Nat) (s : State) : State :=
  if s.jr.powerFail then s
  else (s.updJr fun j => { j with queue := j.queue ++ [{ type := type, key := key, body := body, mb := mb }] }).event (.append type key)

/-- Drops the oldest AUDIT records beyond 1,048,576 and says how many of them nobody has read. -/
def compactRecords (j : Journal) : List JRec × Nat :=
  let good := j.activeBasin.good
  let audits := sortBy JRec.jseq (good.filter (·.type == jAudit))
  let kept := audits.drop (audits.length - 1048576)
  let lost := (audits.take (audits.length - 1048576)).filter fun r => decide (j.mark < r.jseq)
  let live := good.filter fun r => r.type != jAudit && decide (liveOf good r.type r.key = some r)
  (sortBy JRec.jseq (live ++ kept), lost.length)

/-- Records laid out from an offset. -/
def layRecords : Nat → List JRec → List JRec × Nat
  | off, [] => ([], off)
  | off, r :: l =>
    let (l', e) := layRecords (off + r.raw.length) l
    ({ r with offset := off } :: l', e)

/-- A compaction (R490, R492): the live records go into the erased basin with generation + 1, which
becomes active; the old basin's sectors are then erased. -/
def State.compact (s : State) : State :=
  let j := s.jr
  let o := 1 - j.active
  let (recs, lost) := compactRecords j
  let (laid, app) := layRecords 64 recs
  let nb : Basin := { head := basinHead (j.activeBasin.generation + 1) true, records := laid, append := app, erased := false }
  let s := { s with jr := { j with
    basins := listUpd (listUpd j.basins o fun _ => nb) j.active fun b => { b with head := List.replicate 64 0xFF, erased := false }
    active := o, needCompact := false, eraseLeft := basinSectors, compactions := j.compactions + 1 } }
  if lost = 0 then s else s.raise .auditLost lost

/-- Compacts when the free space is below 16 MiB or a corrupt header asks for it, once the other basin
is erased; never after a power-fail detect (R490, R495). -/
def State.maybeCompact (s : State) : State :=
  let j := s.jr
  let due := j.needCompact || decide (basinSize < j.activeBasin.append + 16 * 2 ^ 20)
  if due && !j.powerFail && j.eraseLeft == 0 && (j.basin (1 - j.active)).erased then s.compact else s

/-- The record at the head of the queue, as it goes into the store. -/
def Journal.store (j : Journal) (w : JWait) (committed : Bool) : Journal :=
  let b := j.activeBasin
  let r : JRec := { offset := b.append, raw := recordBytes w.type w.key (j.jseq + 1) w.body committed }
  { j with
    basins := listUpd j.basins j.active fun b =>
      { b with records := b.records ++ [r], append := b.append + recLength w.body.length }
    queue := j.queue.drop 1
    jseq := if committed then j.jseq + 1 else j.jseq }

/-- The body of an AUDIT record that the engine makes of itself: no mailbox, no request, and the recorded
value where a request's digest stands (log 53). -/
def State.auditNote (opcode value : Nat) (s : State) : List Byte :=
  leBytes 8 (s.seqFor 13) ++ leBytes 6 s.tu.sec ++ [0, 0] ++ leBytes 4 s.tu.ns ++
  [0xFF, byteOf (s.member % 8 + 8 * s.twin.active.toNat)] ++ leBytes 2 opcode ++ List.replicate 16 0 ++ leBytes 8 value

/-- The mailbox whose audit record has met its fate may post (13 R415, R416). -/
def State.auditDone (mb : Option Nat) (failed : Bool) (s : State) : State :=
  match mb with
  | none => s
  | some n => { s with mb := listUpd s.mb n fun m =>
      { m with held := m.held.map fun c =>
          if c.audit.isSome then { c with audit := none, auditFailed := failed, cycle := s.br.cycle } else c } }

/-- The open record is abandoned (R491): J_PROGRAM with its store address. -/
def State.abandonRecord (s : State) : State :=
  match s.jr.queue with
  | [] => s
  | w :: _ =>
    let addr := basinBase s.jr.active + s.jr.activeBasin.append
    (((s.updJr fun j => { j.store w false with errors := j.errors + 1 }).raise .jProgram addr).auditDone w.mb true)

/-- JOURNAL_COMMIT (R486, R491): the open record is programmed; verified it is committed, and at the
third failed verification it is abandoned. -/
def execJournalCommit (t : Nat) (verified : Bool) (s : State) : Res :=
  let s := s.atTime t
  .next (match s.jr.queue with
    | [] => s
    | w :: rest =>
      if verified then
        ((s.updJr fun j => j.store w true).auditDone w.mb false).maybeCompact
      else if 2 ≤ w.fails then s.abandonRecord
      else s.updJr fun j => { j with queue := { w with fails := w.fails + 1 } :: rest })

/-- J_PROGRAM (R491): the open record has not been committed within 100 ms. -/
def execJProgram (t : Nat) (s : State) : Res := .next (s.atTime t).abandonRecord

/-- SECTOR_ERASE_COMPLETE (R490): one more sector of the other basin is erased; an erase that a
power-fail detect abandoned does not go on (R495). -/
def execSectorEraseComplete (t : Nat) (s : State) : Res :=
  let s := s.atTime t
  .next (if s.jr.powerFail || s.jr.eraseLeft == 0 then s
    else
      let s := s.updJr fun j =>
        { j with
          eraseLeft := j.eraseLeft - 1
          basins := if j.eraseLeft = 1 then listUpd j.basins (1 - j.active) fun _ => {} else j.basins }
      s.maybeCompact)

/-- A basin that replay reads: its records up to the first bad header (R489). -/
def replayRecords (b : Basin) : List JRec := b.records.takeWhile (·.headOk)

/-- JOURNAL_REPLAY (R489) at Boot: corrupt records are reported, an interrupted compaction is
completed, and any other basin that is not erased is erased. -/
def State.replayJournal (s : State) : State :=
  let j := s.jr
  let b := j.activeBasin
  let scanned := replayRecords b
  let badHead := decide (scanned.length < b.records.length)
  let corrupt := (scanned.filter fun r => r.marked && !r.bodyOk) ++ ((b.records.drop scanned.length).take 1)
  let s := corrupt.foldl (fun s r => (s.raise .jCorrupt (basinBase j.active + r.offset)).updJr fun j =>
    { j with errors := j.errors + 1 }) s
  let o := j.basin (1 - j.active)
  let merged := o.valid && !o.complete && decide (b.generation < o.generation)
  let s := s.updJr fun j => { j with
    basins := listUpd j.basins j.active fun b =>
      { b with records := scanned ++ (if merged then o.good.filter fun r => !(scanned.any (·.jseq == r.jseq)) else []) }
    needCompact := j.needCompact || badHead
    queue := [], powerFail := false, fwLoad := none
    eraseLeft := if o.erased then 0 else basinSectors }
  let top := (s.jr.activeBasin.good.map (·.jseq)).foldl max 0
  let s := s.updJr fun j => { j with jseq := max j.jseq top }
  if merged then s.compact else s.maybeCompact

end Sys2Proof.Machine
end

