-- ==== Sys2Proof/Machine/Mailbox.lean ====
section
/-! DEFINITION. Mailbox requests and results (13): what every command shares: its row of the command
set, the ordered refusals, the result head, the audit record and the posting. -/

namespace Sys2Proof.Machine
open Sys2Proof

/-! ## Status codes (13 Table MBOX-2) -/

def stOk : Nat := 0x00
def stPending : Nat := 0x01
def stBadOpcode : Nat := 0x02
def stBadParam : Nat := 0x03
def stBadState : Nat := 0x04
def stNotActive : Nat := 0x05
def stBusy : Nat := 0x06
def stCheckFail : Nat := 0x07
def stBusErr : Nat := 0x08
def stSeqConflict : Nat := 0x09
def stLocked : Nat := 0x0A
def stAuditFail : Nat := 0x0B
def stCancelled : Nat := 0x0C

/-- Statuses that are audited (R415). -/
def auditedStatus (st : Nat) : Bool :=
  st == stOk || st == stBadParam || st == stBadState || st == stBusy || st == stCheckFail || st == stLocked

/-- Statuses that enter the replay cache (R410). -/
def cachedStatus (st : Nat) : Bool := !(st == stNotActive || st == stSeqConflict || st == stBusErr)

/-! ## The command set -/

/-- One row of the command set (13 Tables MBOX-4 to MBOX-10): its opcode, the PLEN it takes, whether
it is a status command, what the standby may do with it, whether it is audited, its state condition,
its field conditions, what makes it busy, and whether it needs a command copy beyond the parameter
block: 0 none, 1 from host memory, 2 to it. -/
structure CmdSpec where
  opcode : Nat
  plen : Nat := 0
  status : Bool := false
  standby : Bool := false
  audited : Bool := false
  stateOk : Request → State → Bool := fun _ _ => true
  locked : State → Bool := fun _ => false
  fieldsOk : Request → State → Bool := fun _ _ => true
  busy : Request → State → Bool := fun _ _ => false
  copies : Nat := 0

/-- The groups that an engine state serves (01 Table ARCH-4). -/
def groupServed (e : EngState) (group : Nat) : Bool :=
  match e with
  | .sleep => false
  | .boot => group == 1
  | .calibrate => group == 1 || group == 6 || group == 7
  | .fault => group == 1 || group == 6 || group == 7
  | _ => true

/-- The body of a status command: byte 0 bit 0 is CLEAR, every other bit zero (R417). -/
def clearBlockOk (p : List Byte) : Bool := decide (fld p 0 8 ≤ 1)

/-- Checks 4 to 9 of R531, in their order: the status that refuses the request, or none. -/
def CmdSpec.refusal (c : CmdSpec) (r : Request) (s : State) : Option Nat :=
  if s.standby && !(c.standby || c.status) then some stNotActive
  else if r.plen != c.plen then some stBadParam
  else if !(c.status && s.eng.state != .sleep) && !(groupServed s.eng.state (c.opcode / 256) && c.stateOk r s) then
    some stBadState
  else if c.locked s then some stLocked
  else if !(if c.status then clearBlockOk r.params else c.fieldsOk r s) then some stBadParam
  else if c.busy r s then some stBusy
  else none

/-! ## Results -/

/-- The command digest (R409). -/
def Request.digest (r : Request) : Nat := crc64 r.opcode r.params

/-- The 16-byte head of a result (R414). -/
def resultHead (seq : Nat) (fault : Option (FaultName × Nat)) : List Byte :=
  leBytes 8 seq ++ match fault with
    | none => leBytes 8 0
    | some (f, addr) => [byteOf f.source, byteOf f.kind] ++ leBytes 6 addr

/-- The audit record (R415, Table MBOX-3). -/
def auditBody (s : State) (r : Request) (status : Nat) : List Byte :=
  leBytes 8 (s.seqFor 12) ++ leBytes 6 s.tu.sec ++ [0, 0] ++ leBytes 4 s.tu.ns ++
  [byteOf r.mb, byteOf (s.member % 8 + 8 * s.twin.active.toNat)] ++ leBytes 2 r.opcode ++
  leBytes 4 r.tag ++ leBytes 2 r.seq ++ [byteOf status, 0] ++ leBytes 4 r.oper ++ leBytes 4 0 ++
  leBytes 8 r.digest

def State.updMb (n : Nat) (f : Mailbox → Mailbox) (s : State) : State := { s with mb := listUpd s.mb n f }
def State.updCp (f : Cp → Cp) (s : State) : State := { s with cp := f s.cp }

/-- A command ends: one arbiter event, whose sequence heads the result; the result is held for its
posting and, when the command is audited, its record waits for the journal store. -/
def State.complete (r : Request) (audited : Bool) (status : Nat) (fault : Option (FaultName × Nat))
    (body : List Byte) (s : State) : State :=
  let aud := audited && auditedStatus status
  let c : Completion := { req := r, status := status, head := resultHead (s.seqFor 12) fault, body := body
                          cycle := s.br.cycle, time := s.now, audit := if aud then some false else none }
  let rec' := auditBody s r status
  let s := (s.event (.completion r.mb)).updMb r.mb fun m => { m with held := some c }
  let s := s.updCp fun cp =>
    { cp with current := if (cp.current.map (·.req.mb)) == some r.mb then none else cp.current
              bg := cp.bg.filter (·.req.mb != r.mb) }
  if aud then s.append jAudit 0 rec' (some r.mb) else s

/-- A command of the set ends OK with a body. -/
def CmdSpec.done (c : CmdSpec) (r : Request) (body : List Byte) (s : State) : State :=
  s.complete r c.audited stOk none body

/-- A command is refused by a check that raises a fault (CHECK_FAIL, R417): the fault is raised and
named in the head. -/
def CmdSpec.checkFail (c : CmdSpec) (r : Request) (f : FaultName) (addr : Nat) (s : State) : State :=
  (s.raise f addr).complete r c.audited stCheckFail (some (f, addr % 2 ^ 48)) []

/-- A command ends with a status and no body. -/
def CmdSpec.refuse (c : CmdSpec) (r : Request) (status : Nat) (s : State) : State :=
  s.complete r c.audited status none []

/-- The step of a command of the set: the request that the control processor has begun, if it is this
command's and its copies are in hand, is tested against the state of this event (R412, R531) and then
takes effect. -/
def CmdSpec.run (c : CmdSpec) (s : State) (f : Request → List Byte → State → State) : State :=
  match s.cp.current with
  | some cur =>
    if s.cp.halted then s
    else if cur.req.opcode = c.opcode && cur.phase == .ready then
      match c.refusal cur.req s with
      | some st => c.refuse cur.req st s
      | none => f cur.req cur.data s
    else s
  | none => s

/-- The running request becomes a background one (R413). -/
def State.toBackground (r : Request) (s : State) : State :=
  s.updCp fun cp => { cp with
    bg := cp.bg ++ (cp.current.toList.filter (·.req.mb == r.mb)), current := cp.current.filter (·.req.mb != r.mb) }

/-- The background request of an opcode. -/
def State.background (opcode : Nat) (s : State) : Option Request :=
  (s.cp.bg.find? (·.req.opcode == opcode)).map (·.req)

/-! ## Acceptance, acknowledge, posting (R404 to R406, R349) -/

/-- The first n bytes of the parameter words written. -/
def Mailbox.inline (m : Mailbox) (n : Nat) : List Byte :=
  ((List.range ((n + 7) / 8)).flatMap fun k => leBytes 8 (sparseGet 0#64 m.params k).toNat).take n

/-- MBn_CMD, MBn_ARG, MBn_PADDR and the parameter words as a request (R403, R404). -/
def Mailbox.request (m : Mailbox) (n : Nat) : Request :=
  let cmd := m.cmd.toNat
  let arg := m.arg.toNat
  let plen := bitsOf arg 16 0
  let ind := arg.testBit 31
  { mb := n, tag := bitsOf cmd 63 32, seq := bitsOf cmd 31 16, opcode := bitsOf cmd 15 0
    oper := bitsOf arg 63 32, plen := plen, indirect := ind, paddr := m.paddr.toNat / 8 * 8
    params := if ind then [] else m.inline plen }

/-- An accepted request takes its place: doorbells of one instant are taken in ascending mailbox number
(R412). -/
def queueRequest (r : Request) (l : List Request) : List Request :=
  let earlier (x : Request) : Bool := !(x.at' == r.at' && decide (r.mb < x.mb))
  l.takeWhile earlier ++ r :: l.dropWhile earlier

/-- MB_DOORBELL. -/
def execMbDoorbell (t n : Nat) (s : State) : Res :=
  let s := s.atTime t
  .next (match s.mb[n]? with
    | none => s
    | some m =>
      if m.state = .free then
        let r := { m.request n with at' := s.now }
        ((s.event (.request n)).updMb n fun m =>
          { m with state := .executing, rtag := r.tag, seq := r.seq, status := stPending
                   replay := false, result := [] }).updCp fun cp => { cp with accepted := queueRequest r cp.accepted }
      else (s.updMb n fun m => { m with drops := satInc 16 m.drops }).raise .mbDrop (n * 2 ^ 40))

/-- MB_ACK. -/
def execMbAck (t n gen : Nat) (s : State) : Res :=
  .next ((s.atTime t).updMb n fun m =>
    if m.state = .posted && m.gen == gen % 2 ^ 16 then { m with state := .free } else m)

/-- The status that a held result posts: an OK command whose audit record failed posts AUDIT_FAIL
(R416). -/
def Completion.final (c : Completion) : Nat :=
  if c.auditFailed && c.status == stOk then stAuditFail else c.status

/-- The replay-cache entry of a completion. -/
def Completion.entry (c : Completion) : CacheEnt :=
  { tag := c.req.tag, seq := c.req.seq, opcode := c.req.opcode, digest := BitVec.ofNat 64 c.req.digest
    status := c.final, result := c.head ++ c.body, time := c.time }

/-- A cache with an entry more, its oldest dropped beyond 64 (R410). -/
def cacheAdd (l : List CacheEnt) (e : CacheEnt) : List CacheEnt := (l ++ [e]).drop (l.length + 1 - 64)

/-- A mailbox's cache as image section 5 carries it: with a completion not yet posted (R349, R411). -/
def Mailbox.imageCache (m : Mailbox) : List CacheEnt :=
  match m.held with
  | some c => if cachedStatus c.final && !c.replay then cacheAdd m.cache c.entry else m.cache
  | none => m.cache

/-- The copied entries of a mailbox join its own, and the 64 of the latest completion stay (R411). -/
def mergeCache (own copied : List CacheEnt) : List CacheEnt :=
  let l := sortBy CacheEnt.time (own ++ copied.filter fun (e : CacheEnt) => !own.any fun (o : CacheEnt) => o.tag == e.tag && o.seq == e.seq)
  l.drop (l.length - 64)

/-- A module that becomes the active twin takes the replay caches of the last image over. -/
def State.mergeCaches (s : State) : State :=
  match s.twin.snap with
  | none => s
  | some im => { s with mb := (s.mb.zipIdx).map fun (p : Mailbox × Nat) => { p.1 with cache := mergeCache p.1.cache (im.caches.getD p.2 []) } }

/-- A Paired active twin posts a result only once the standby has applied the image that holds it
(11 R349); replays are not held. -/
def State.mayPost (c : Completion) (s : State) : Bool :=
  c.audit != some false &&
  (c.replay || !(s.paired && s.twin.active) || (match s.twin.applied with
    | some k => decide (c.cycle ≤ k)
    | none => false))

/-- Posts the held result of a mailbox (R405, R406). -/
def State.post (n : Nat) (c : Completion) (s : State) : State :=
  let s := if c.auditFailed then s.raise .auditFail (n * 2 ^ 40 + c.req.opcode) else s
  let s := s.updMb n fun m =>
    { m with
      state := .posted, status := c.final, replay := c.replay, seq := c.req.seq, rtag := c.req.tag
      gen := (m.gen + 1) % 2 ^ 16, result := c.head ++ c.body, held := none
      cache := if cachedStatus c.final && !c.replay then cacheAdd m.cache c.entry else m.cache }
  s.vector (1 + n)

/-- RESULT_POST. -/
def execResultPost (t n : Nat) (s : State) : Res :=
  let s := s.atTime t
  .next (match (s.mb.getD n {}).held with
    | some c => if s.mayPost c && (s.mb.getD n {}).state == .executing then s.post n c else s
    | none => s)

end Sys2Proof.Machine
end

