-- ==== Sys2Proof/Machine/Pleat.lean ====
section
/-! DEFINITION. The Pleat container (02): DEFLATE, blocks, records, the job head and the band
directory, and the blocks of a capture. -/

namespace Sys2Proof.Machine
open Sys2Proof

/-! ## DEFLATE (02 R57, R58, R78; RFC 1951) -/

/-- How decompression ends. -/
inductive DefErr where
  | malformed
  | exhaust
  deriving DecidableEq, Repr

/-- Bits of bytes as DEFLATE numbers them: each byte from bit 0. -/
def lsbBits (bs : List Byte) : List Bool :=
  bs.flatMap fun b => (List.range 8).map fun i => b.toNat.testBit i

/-- Decompression in progress: bits left, output newest first, its length and its limit. -/
structure Inf where
  bits : List Bool
  out : List Byte
  n : Nat
  limit : Nat
  /-- BTYPE of the DEFLATE blocks begun -/
  types : List Nat := []
  deriving DecidableEq, Repr

/-- n bits as a number, the first least significant. -/
def Inf.take (s : Inf) (n : Nat) : Option (Nat × Inf) :=
  let l := s.bits.take n
  if l.length < n then none
  else some (l.foldr (fun b acc => b.toNat + 2 * acc) 0, { s with bits := s.bits.drop n })

def Inf.put (s : Inf) (b : Byte) : Except DefErr Inf :=
  if s.limit ≤ s.n then .error .exhaust else .ok { s with out := b :: s.out, n := s.n + 1 }

/-- A Huffman code: how many codes of each length 1 to 15, and the symbols in code order. -/
structure Huff where
  counts : List Nat
  syms : List Nat
  deriving DecidableEq, Repr

def mkHuff (lens : List Nat) : Huff :=
  { counts := (List.range 15).map fun l => (lens.filter (· == l + 1)).length
    syms := (List.range 15).flatMap fun l => (List.range lens.length).filter fun i => lens.getD i 0 == l + 1 }

/-- Room left over in a code after its longest length: negative when over-subscribed, 0 when complete. -/
def Huff.left (h : Huff) : Int := h.counts.foldl (fun (left : Int) (c : Nat) => if left < 0 then left else 2 * left - c) 1

/-- One symbol; none when the data ends or the bits spell no symbol. -/
def Huff.sym (h : Huff) : List Nat → Inf → Nat → Nat → Nat → Option (Nat × Inf)
  | [], _, _, _, _ => none
  | c :: cs, s, code, first, index =>
    match s.bits with
    | [] => none
    | b :: bits =>
      let code := 2 * code + b.toNat
      let first := 2 * first
      let s := { s with bits := bits }
      if code < first + c then (h.syms[index + (code - first)]?).map fun v => (v, s)
      else h.sym cs s code (first + c) (index + c)

def Huff.decode (h : Huff) (s : Inf) : Option (Nat × Inf) := h.sym h.counts s 0 0 0

/-- Base and extra bits of length symbols 257 to 285 (RFC 1951). -/
def lenBase : List (Nat × Nat) :=
  [(3,0),(4,0),(5,0),(6,0),(7,0),(8,0),(9,0),(10,0),(11,1),(13,1),(15,1),(17,1),(19,2),(23,2),(27,2),(31,2),
   (35,3),(43,3),(51,3),(59,3),(67,4),(83,4),(99,4),(115,4),(131,5),(163,5),(195,5),(227,5),(258,0)]

/-- Base and extra bits of distance symbols 0 to 29. -/
def distBase : List (Nat × Nat) :=
  [(1,0),(2,0),(3,0),(4,0),(5,1),(7,1),(9,2),(13,2),(17,3),(25,3),(33,4),(49,4),(65,5),(97,5),(129,6),(193,6),
   (257,7),(385,7),(513,8),(769,8),(1025,9),(1537,9),(2049,10),(3073,10),(4097,11),(6145,11),(8193,12),
   (12289,12),(16385,13),(24577,13)]

/-- Copies len bytes from dist back. -/
def Inf.copy (dist : Nat) : Nat → Inf → Except DefErr Inf
  | 0, s => .ok s
  | n + 1, s => (s.put (s.out.getD (dist - 1) 0)).bind (Inf.copy dist n)

/-- The symbols of one Huffman block up to its end-of-block symbol. -/
def inflateCodes (lit dist : Huff) : Nat → Inf → Except DefErr Inf
  | 0, _ => .error .malformed
  | fuel + 1, s =>
    match lit.decode s with
    | none => .error .malformed
    | some (v, s) =>
      if v < 256 then (s.put (byteOf v)).bind (inflateCodes lit dist fuel)
      else if v = 256 then .ok s
      else match lenBase[v - 257]? with
        | none => .error .malformed
        | some (base, extra) =>
          match s.take extra with
          | none => .error .malformed
          | some (e, s) =>
            match dist.decode s with
            | none => .error .malformed
            | some (d, s) =>
              match distBase[d]? with
              | none => .error .malformed
              | some (dbase, dextra) =>
                match s.take dextra with
                | none => .error .malformed
                | some (de, s) =>
                  if s.n < dbase + de then .error .malformed
                  else (s.copy (dbase + de) (base + e)).bind (inflateCodes lit dist fuel)

/-- The code lengths of a dynamic block, newest first. -/
def codeLengths (cl : Huff) (total : Nat) : Nat → List Nat → Inf → Option (List Nat × Inf)
  | 0, _, _ => none
  | fuel + 1, acc, s =>
    if acc.length = total then some (acc, s)
    else match cl.decode s with
      | none => none
      | some (v, s) =>
        let rep (prev : Nat) (bits base : Nat) : Option (List Nat × Inf) :=
          match s.take bits with
          | none => none
          | some (e, s) =>
            if total < acc.length + base + e then none
            else codeLengths cl total fuel (List.replicate (base + e) prev ++ acc) s
        if v < 16 then codeLengths cl total fuel (v :: acc) s
        else if v = 16 then (match acc with
          | [] => none
          | p :: _ => rep p 2 3)
        else if v = 17 then rep 0 3 3
        else rep 0 7 11

/-- The order in which code-length code lengths are sent (RFC 1951). -/
def clOrder : List Nat := [16, 17, 18, 0, 8, 7, 9, 6, 10, 5, 11, 4, 12, 3, 13, 2, 14, 1, 15]

/-- Reads n fields of 3 bits. -/
def take3 : Nat → Inf → Option (List Nat × Inf)
  | 0, s => some ([], s)
  | n + 1, s => match s.take 3 with
    | none => none
    | some (v, s) => (take3 n s).map fun p => (v :: p.1, p.2)

/-- The two codes of a dynamic block. -/
def dynamicCodes (s : Inf) : Option (Huff × Huff × Inf) :=
  match s.take 5 with
  | none => none
  | some (hl, s) => match s.take 5 with
    | none => none
    | some (hd, s) => match s.take 4 with
      | none => none
      | some (hc, s) =>
        if 286 < hl + 257 || 30 < hd + 1 then none
        else match take3 (hc + 4) s with
          | none => none
          | some (ls, s) =>
            let cl := mkHuff ((List.range 19).map fun i => ls.getD (clOrder.idxOf i) 0)
            if cl.left ≠ 0 then none
            else match codeLengths cl (hl + 257 + hd + 1) 320 [] s with
              | none => none
              | some (racc, s) =>
                let all := racc.reverse
                let lit := mkHuff (all.take (hl + 257))
                let dist := mkHuff (all.drop (hl + 257))
                if lit.left ≠ 0 || dist.left < 0 || (0 < dist.left && 1 < dist.syms.length) then none
                else some (lit, dist, s)

def fixedLit : Huff :=
  mkHuff (List.replicate 144 8 ++ List.replicate 112 9 ++ List.replicate 24 7 ++ List.replicate 8 8)
def fixedDist : Huff := mkHuff (List.replicate 30 5 ++ [5, 5])

/-- The data bytes of a stored block. One that is truncated and also passes raw_len is exhausted at the byte that
passes it (log 57). -/
def storedBytes : Nat → Inf → Except DefErr Inf
  | 0, s => .ok s
  | n + 1, s =>
    if s.limit ≤ s.n then .error .exhaust
    else match s.take 8 with
      | none => .error .malformed
      | some (b, s) => (s.put (byteOf b)).bind (storedBytes n)

/-- DEFLATE blocks up to the final one. -/
def inflateBlocks : Nat → Inf → Except DefErr Inf
  | 0, _ => .error .malformed
  | fuel + 1, s =>
    match s.take 3 with
    | none => .error .malformed
    | some (h, s) =>
      let s := { s with types := s.types ++ [h / 2] }
      let go : Except DefErr Inf :=
        if h / 2 = 0 then
          let s := { s with bits := s.bits.drop (s.bits.length % 8) }
          match s.take 16 with
          | none => .error .malformed
          | some (len, s) => match s.take 16 with
            | none => .error .malformed
            | some (nlen, s) => if len + nlen ≠ 0xFFFF then .error .malformed else storedBytes len s
        else if h / 2 = 1 then inflateCodes fixedLit fixedDist (s.bits.length + 1) s
        else if h / 2 = 2 then
          match dynamicCodes s with
          | none => .error .malformed
          | some (lit, dist, s) => inflateCodes lit dist (s.bits.length + 1) s
        else .error .malformed
      go.bind fun s => if h % 2 = 1 then .ok s else inflateBlocks fuel s

/-- The output of a DEFLATE stream that must have rawLen bytes, and the types of its blocks; or the error of
Table PLEAT-9. -/
def inflateTyped (data : List Byte) (rawLen : Nat) : Except FaultName (List Byte × List Nat) :=
  let bits := lsbBits data
  match inflateBlocks (bits.length + 1) { bits := bits, out := [], n := 0, limit := rawLen } with
  | .error .malformed => .error .defSyntax
  | .error .exhaust => .error .defExhaust
  | .ok s =>
    if 8 ≤ s.bits.length then .error .defSyntax
    else if s.n < rawLen then .error .defShort
    else .ok (s.out.reverse, s.types)

def inflate (data : List Byte) (rawLen : Nat) : Except FaultName (List Byte) := (inflateTyped data rawLen).map (·.1)

/-! ## Blocks (R54, R55) -/

/-- Bytes of a block: header, data, pad, check. -/
def blockExtent (compLen : Nat) : Nat := (16 + compLen + 3) / 4 * 4 + 4

/-- Offset of block k of a stored stream, found by its predecessors' lengths. -/
def blockOffset (stored : List Byte) : Nat → Nat
  | 0 => 0
  | k + 1 =>
    let off := blockOffset stored k
    off + blockExtent (fld stored (off + 8) 4)

/-- Block k of a stream of a kind, after `raw` bytes of the earlier ones, with a mask on the computed
check value: its error, or its decoded bytes; and whether it is the last. -/
def decodeBlockAt (stored : List Byte) (kind k raw mask : Nat) : Except FaultName (List Byte × Bool) :=
  let off := blockOffset stored k
  let b := stored.drop off
  let compLen := fld b 8 4
  let rawLen := fld b 12 4
  let flags := fld b 3 1
  let last := flags % 2 == 1
  let ext := blockExtent compLen
  let padLen := ext - 4 - (16 + compLen)
  if b.length < 16 then .error .blkLen
  else if fld b 0 1 ≠ 0x50 || fld b 1 1 ≠ 0x42 || fld b 2 1 ≠ kind || 1 < flags || compLen = 0 ||
      rawLen % 4 ≠ 0 || rawLen < 4 || 1048576 < rawLen || !zeroAt b (16 + compLen) padLen then .error .blkHdr
  else if fld b 4 4 ≠ k || (b.length = ext && !last) then .error .blkSeq
  else if b.length < ext || (last && ext < b.length) || 65536 ≤ k || 268435456 < raw + rawLen then .error .blkLen
  else match inflate ((b.drop 16).take compLen) rawLen with
    | .error e => .error e
    | .ok out =>
      if (crc32c out k).xor (mask % 2 ^ 32) ≠ fld b (ext - 4) 4 then .error .blkCrc else .ok (out, last)

/-! ## Records (R60 to R72) -/

/-- What a stream is: a cell body or a band stream, and what its records are held against. -/
structure StreamKind where
  cell : Bool
  rasterOnly : Bool := false
  verMinor : Nat := 1
  bandRows : Nat := 0
  /-- stripe, or cell identity -/
  id1 : Nat
  band : Nat := 0
  deriving DecidableEq, Repr

/-- Type test of R61: unknown, or never allowed in this kind of stream. -/
def recTypeBad (k : StreamKind) (type : Nat) : Bool :=
  !([0x01, 0x02, 0x10, 0x20, 0x21, 0x30, 0x40, 0x50].contains type) ||
  (if k.cell then type == 0x01 || type == 0x50
   else type == 0x10 || (k.rasterOnly && !(type == 0x01 || type == 0x50 || type == 0x02)))

def openerOf (k : StreamKind) : Nat := if k.cell then 0x10 else 0x01

/-- A P48 value held as s64: bits [63:47] all equal (R43). -/
def p48At (b : List Byte) (off : Nat) : Option Int :=
  let v := sfld b off 8
  if inP48 v then some v else none

/-- Length test of a whole record; `b` begins at the record. A RASTER_TILE whose length does not fit its
encoding is REC_LEN, and one of an unknown encoding is when it is too short for any (log 57). -/
def recLenBad (type len : Nat) (b : List Byte) : Bool :=
  len % 4 != 0 || decide (16777216 < len) ||
  (match type with
    | 0x01 => len != 32
    | 0x02 => len != 16
    | 0x10 => len != 32
    | 0x20 => fld b 8 4 == 0 || len != 16 + 24 * fld b 8 4
    | 0x21 => fld b 8 4 == 0 || len != 16 + 16 * fld b 8 4
    | 0x30 => len != (if (fld b 1 1) % 2 = 1 then 44 else 24)
    | 0x40 => len != 12
    | _ => match fld b 12 1 with
      | 0 => len != 98320
      | 1 => len != 20
      | 2 => decide (len < 20)
      | _ => decide (len < 20))

/-- Entries of a list record. -/
def entriesAt (b : List Byte) (size n : Nat) : List (List Byte) :=
  (List.range n).map fun i => (b.drop (16 + size * i)).take size

/-- The 65,536 doses of an encoding's payload, or none (Table PLEAT-8). -/
def rasterDoses (enc len : Nat) (b : List Byte) : Option (List Nat × Nat) :=
  match enc with
  | 0 => some ((List.range 32768).flatMap (fun i =>
      let c := (b.drop (16 + 3 * i)).take 3
      let b0 := fld c 0 1
      let b1 := fld c 1 1
      let b2 := fld c 2 1
      [b0 + 256 * (b1 % 16), b1 / 16 + 16 * b2]), 0)
  | 1 => if 4095 < fld b 16 2 || !zeroAt b 18 2 then none
         else some (List.replicate 65536 (fld b 16 2), 0)
  | _ =>
    let runs := (len - 16) / 4
    let rs := (List.range runs).map fun i => fld b (16 + 4 * i) 4
    if rs.any (fun r => r / 4096 % 16 != 0) || (rs.map (fun r => r / 65536 + 1)).sum ≠ 65536 then none
    else some (rs.flatMap (fun r => List.replicate (r / 65536 + 1) (r % 4096)), runs)

/-- The fields of a whole record of length len that begins b; n records stand before it. -/
def parseRecord (k : StreamKind) (b : List Byte) (type len n : Nat) : Except FaultName Record :=
  let flags := fld b 1 1
  if !zeroAt b 2 2 || (type ≠ 0x30 && flags ≠ 0) then .error .recField
  else match type with
  | 0x01 =>
    match p48At b 16, p48At b 24 with
    | some x, some y =>
      if !zeroAt b 12 4 then .error .recField
      else if fld b 8 2 ≠ k.id1 || fld b 10 2 ≠ k.band then .error .recIdent
      else .ok (.bandBegin (fld b 8 2) (fld b 10 2) x y)
    | _, _ => .error .recField
  | 0x02 =>
    if !zeroAt b 12 4 then .error .recField
    else if fld b 8 4 ≠ n then .error .recOrder
    else .ok (.end_ n)
  | 0x10 =>
    let id := fld b 8 4
    if id = 0 || id = 0xFFFFFFFF || !zeroAt b 13 3 || sfld b 24 4 < sfld b 16 4 || sfld b 28 4 < sfld b 20 4 then
      .error .recField
    else if id ≠ k.id1 then .error .recIdent
    else .ok (.cellDef id (fld b 12 1) (sfld b 16 4) (sfld b 20 4) (sfld b 24 4) (sfld b 28 4))
  | 0x20 =>
    let l := (entriesAt b 24 (fld b 8 4)).map fun e =>
      (sfld e 0 4, sfld e 4 4, sfld e 8 4, sfld e 12 4, sfld e 16 4, sfld e 20 4)
    if !zeroAt b 12 4 || l.any (fun (y0, y1, a, c, d, e) => !(decide (y0 < y1) && decide (a ≤ c) && decide (d ≤ e))) then
      .error .recField
    else .ok (.traps l)
  | 0x21 =>
    let l := (entriesAt b 16 (fld b 8 4)).map fun e => (sfld e 0 4, sfld e 4 4, sfld e 8 4, sfld e 12 4)
    if !zeroAt b 12 4 || l.any (fun (x0, y0, x1, y1) => !(decide (x0 < x1) && decide (y0 < y1))) then .error .recField
    else .ok (.traps (l.map fun (x0, y0, x1, y1) => (y0, y1, x0, x1, x0, x1)))
  | 0x30 =>
    let arr := flags % 2 == 1
    let ovr := flags / 2 % 2 == 1
    let layer := fld b 13 1
    let dose := fld b 14 2
    if 3 < flags || 7 < fld b 12 1 || (if ovr then 15 < layer || 4095 < dose else layer ≠ 0 || dose ≠ 0) ||
        (arr && (fld b 24 2 == 0 || fld b 26 2 == 0)) then .error .recField
    else .ok (.place (fld b 8 4) (fld b 12 1) (if ovr then some (layer, dose) else none) (sfld b 16 4) (sfld b 20 4)
      (if arr then fld b 24 2 else 1) (if arr then fld b 26 2 else 1)
      (if arr then sfld b 28 4 else 0) (if arr then sfld b 32 4 else 0)
      (if arr then sfld b 36 4 else 0) (if arr then sfld b 40 4 else 0))
  | 0x40 =>
    if 15 < fld b 8 1 || !zeroAt b 9 1 || 4095 < fld b 10 2 then .error .recField
    else .ok (.doseLayer (fld b 8 1) (fld b 10 2))
  | _ =>
    let enc := fld b 12 1
    if 63 < fld b 8 2 || k.bandRows / 256 ≤ fld b 10 2 || !zeroAt b 13 3 || 2 < enc || (enc = 2 && k.verMinor = 0) then
      .error .recField
    else match rasterDoses enc len b with
      | none => .error .recField
      | some (doses, runs) => .ok (.rasterTile (fld b 8 2) (fld b 10 2) enc runs doses)

/-- Records taken from decoded bytes so far. -/
structure RecScan where
  records : List (Nat × Record)
  /-- bytes not yet a whole record, and the offset of the first -/
  rest : List Byte
  at' : Nat
  err : Option (FaultName × Nat) := none
  deriving DecidableEq, Repr

def endSeen (l : List (Nat × Record)) : Bool :=
  match l.getLast? with
  | some (_, .end_ _) => true
  | _ => false

/-- Takes whole records from `rest` (R61's tests in order, then length, fields, identity); with `fin`
no more bytes follow. The errors of a record stand in the block that holds its last byte (R535). -/
def scanRecords (k : StreamKind) (fin : Bool) : Nat → RecScan → RecScan
  | 0, s => s
  | fuel + 1, s =>
    let n := s.records.length
    let fail (f : FaultName) : RecScan := { s with err := some (f, s.at') }
    if s.rest.isEmpty then
      if fin && !endSeen s.records then fail .recOrder else s
    else if (s.rest.length < 8 || s.rest.length < fld s.rest 4 4) && !fin then s
    else
      let type := fld s.rest 0 1
      let len := fld s.rest 4 4
      if recTypeBad k type then fail .recType
      else if endSeen s.records || (n = 0 && type ≠ openerOf k) || (n ≠ 0 && type = openerOf k) then fail .recOrder
      else if s.rest.length < 8 || len < 8 || len % 4 ≠ 0 || 16777216 < len then fail .recLen
      else if s.rest.length < len then fail .recLen
      else
        let b := s.rest.take len
        if recLenBad type len b then fail .recLen
        else match parseRecord k b type len n with
          | .error f => fail f
          | .ok r => scanRecords k fin fuel
              { s with records := s.records ++ [(s.at', r)], rest := s.rest.drop len, at' := s.at' + len }

/-! ## The job head (R49 to R53) -/

def pleatMagic : List Byte := [0x50, 0x4C, 0x45, 0x41, 0x54, 0x0D, 0x0A, 0x1A]

def parseHeader (h : List Byte) : Header :=
  { verMinor := fld h 10 2, headLen := fld h 16 8, jobTag := fld h 24 8, rasterOnly := fld h 32 4 % 2 == 1
    stripeFirst := fld h 40 2, stripeCount := fld h 42 2, bandRows := fld h 44 2, bandsPerStripe := fld h 48 4
    dirOffset := fld h 56 8, fileLen := fld h 64 8 }

def Header.dirLen (h : Header) : Nat := 48 * h.stripeCount * h.bandsPerStripe

/-- Ranges and reserved fields of Table PLEAT-1. -/
def headerFieldsOk (b : List Byte) : Bool :=
  let h := parseHeader b
  decide (fld b 32 4 ≤ 1) && h.headLen % 8 == 0 && decide (h.dirOffset + h.dirLen ≤ h.headLen) &&
  decide (h.headLen ≤ 2 ^ 32) && decide (1 ≤ h.stripeCount) && decide (h.stripeFirst + h.stripeCount ≤ 65536) &&
  decide (1024 ≤ h.bandRows) && decide (h.bandRows ≤ 8192) && h.bandRows % 1024 == 0 &&
  decide (1 ≤ h.bandsPerStripe) && decide (h.bandsPerStripe ≤ 65536) && h.dirOffset % 8 == 0 &&
  decide (256 ≤ h.dirOffset) && zeroAt b 46 2 && zeroAt b 72 180

/-- Directory entry k, as Table PLEAT-2 lays it out. -/
def parseDirEnt (head : List Byte) (h : Header) (k : Nat) : DirEnt :=
  let e := (head.drop (h.dirOffset + 48 * k)).take 48
  let n := fld e 28 4
  { stripe := fld e 0 2, band := fld e 2 2, empty := fld e 4 4 % 2 == 1, chequin := fld e 8 8
    streamOffset := fld e 16 8, streamLen := fld e 24 4
    cells := (List.range n).map fun i => fld head (fld e 32 8 + 4 * i) 4 }

def ascending : List Nat → Bool
  | a :: b :: l => decide (a < b) && ascending (b :: l)
  | _ => true

/-- Entry k by itself and against the end of the streams before it (R51 to R53). -/
def dirEntOk (head : List Byte) (h : Header) (k prevEnd : Nat) (d : DirEnt) : Bool :=
  let e := (head.drop (h.dirOffset + 48 * k)).take 48
  let n := fld e 28 4
  let cu := fld e 32 8
  decide (fld e 4 4 ≤ 1) && zeroAt e 40 8 && d.stripe == h.stripeFirst + k / h.bandsPerStripe &&
  d.band == k % h.bandsPerStripe &&
  (if d.empty then d.streamOffset == 0 && d.streamLen == 0 && n == 0
   else d.streamOffset % 8 == 0 && decide (h.headLen ≤ d.streamOffset) && decide (prevEnd ≤ d.streamOffset) &&
     decide (d.streamOffset + d.streamLen ≤ h.fileLen)) &&
  (!h.rasterOnly || n == 0) && (if n = 0 then cu == 0 else decide (cu + 4 * n ≤ h.headLen)) && ascending d.cells

/-- The directory from entry k on, or the file offset of the first entry that breaks R51 to R53. -/
def parseDir (head : List Byte) (h : Header) : Nat → Nat → Nat → Except Nat (List DirEnt)
  | 0, _, _ => .ok []
  | m + 1, k, prevEnd =>
    let d := parseDirEnt head h k
    if !dirEntOk head h k prevEnd d then .error (h.dirOffset + 48 * k)
    else (parseDir head h m (k + 1) (if d.empty then prevEnd else max (d.streamOffset + 1) (d.streamOffset + d.streamLen))).map (d :: ·)

/-- The job head validated in the order of R50 and 13 R531: its header and directory, or the error with its
address. That of HDR_ID and HDR_FIELD is 0, that of HDR_CRC the offset of the check value (log 57). -/
def parseHead (head : List Byte) : Except (FaultName × Nat) (Header × List DirEnt) :=
  let h := parseHeader head
  if head.take 8 ≠ pleatMagic || fld head 8 2 ≠ 2 || 1 < fld head 10 2 || fld head 12 4 ≠ 256 || fld head 36 4 ≠ 3 then
    .error (.hdrId, 0)
  else if crc32c (head.take 252) 0 ≠ fld head 252 4 then .error (.hdrCrc, 252)
  else if crc32c ((head.take h.headLen).drop 256) 0 ≠ fld head 52 4 then .error (.hdrCrc, 52)
  else if !headerFieldsOk head then .error (.hdrField, 0)
  else match parseDir head h (h.stripeCount * h.bandsPerStripe) 0 0 with
    | .error off => .error (.dirErr, off)
    | .ok d => .ok (h, d)

/-! ## Captures (R81 to R83) -/

/-- Bytes of a bit string, each from bit 0. -/
def packLsb : Nat → List Bool → List Byte
  | 0, _ => []
  | n + 1, l => byteOf ((l.take 8).foldr (fun b acc => b.toNat + 2 * acc) 0) :: packLsb n (l.drop 8)

/-- Stored DEFLATE blocks of up to 65,535 bytes. -/
def storedForm : Nat → List Byte → List Byte
  | 0, _ => []
  | n + 1, d =>
    let k := min d.length 65535
    [if d.length ≤ 65535 then 1 else 0] ++ leBytes 2 k ++ leBytes 2 (65535 - k) ++ d.take k ++
      (if d.length ≤ 65535 then [] else storedForm n (d.drop k))

/-- One fixed-Huffman block of literals. -/
def fixedForm (d : List Byte) : List Byte :=
  let lit (b : Byte) : List Bool := if b.toNat < 144 then msbBits 8 (0x30 + b.toNat) else msbBits 9 (0x190 + (b.toNat - 144))
  let bits := [true, true, false] ++ d.flatMap lit ++ List.replicate 7 false
  packLsb ((bits.length + 7) / 8) bits

/-- Block types of an effort level (Table PLEAT-11); levels 4 to 9 may take stored blocks. -/
def effortTypes (effort : Nat) : List Nat := if effort = 0 then [0] else if effort ≤ 3 then [1] else [2, 0]

/-- The DEFLATE data of a capture block. R82 leaves the bytes to the firmware: they are free within what it
fixes, that they decode under R57 to the data, in blocks of the level's type. -/
def deflateAt (effort : Nat) (data : List Byte) : List Byte :=
  let c := Config.compress effort data
  match inflateTyped c data.length with
  | .ok (d, types) =>
    if d == data && types.all (effortTypes effort).contains then c
    else if effort = 0 || 3 < effort then storedForm (data.length / 65535 + 1) data else fixedForm data
  | .error _ => if effort = 0 || 3 < effort then storedForm (data.length / 65535 + 1) data else fixedForm data

/-- One capture block. Its raw_len is the plain length, also of a remainder that is no multiple of 4 (log 57). -/
def captureBlock (effort seq : Nat) (last : Bool) (data : List Byte) : List Byte :=
  let comp := deflateAt effort data
  let body := [0x50, 0x42, 2, if last then 1 else 0] ++ leBytes 4 seq ++ leBytes 4 comp.length ++
    leBytes 4 data.length ++ comp
  padTo ((body.length + 3) / 4 * 4) body ++ leBytes 4 (crc32c data seq)

/-- The stream of a capture: blocks of 262,144 raw bytes, the last with the remainder (R81); one stream, however
long the capture (log 57). -/
def captureStream (effort : Nat) : Nat → Nat → List Byte → List Byte
  | 0, _, _ => []
  | fuel + 1, seq, data =>
    if data.length ≤ 262144 then captureBlock effort seq true data
    else captureBlock effort seq false (data.take 262144) ++ captureStream effort fuel (seq + 1) (data.drop 262144)

end Sys2Proof.Machine
end

