-- ==== Sys2Proof/Machine/Loom.lean ====
section
/-! DEFINITION. Loom's arithmetic (04 R110 to R126): frames, culling, polygons, coverage and dose of a
tile, over-coverage, and the binner's references. -/

namespace Sys2Proof.Machine
open Sys2Proof

/-- T(x, y) of an orientation code (02 Table PLEAT-7). -/
def orientMap (o : Nat) (x y : Int) : Int × Int :=
  match o with
  | 0 => (x, y)
  | 1 => (-y, x)
  | 2 => (-x, -y)
  | 3 => (y, -x)
  | 4 => (x, -y)
  | 5 => (y, x)
  | 6 => (-x, y)
  | _ => (-y, -x)

/-- compose(outer, inner) (R113). -/
def composeOrient (outer inner : Nat) : Nat :=
  let m1 := outer / 4
  let r1 := outer % 4
  let m2 := inner / 4
  let r2 := inner % 4
  4 * ((m1 + m2) % 2) + (if m1 = 0 then (r1 + r2) % 4 else (r1 + 4 - r2) % 4)

structure Frame where
  ox : Int
  oy : Int
  o : Nat
  deriving DecidableEq, Repr

/-- A point through a frame; none outside P48 (R112). -/
def Frame.map (f : Frame) (x y : Int) : Option (Int × Int) :=
  let (dx, dy) := orientMap f.o x y
  if inP48 (f.ox + dx) && inP48 (f.oy + dy) then some (f.ox + dx, f.oy + dy) else none

/-- Where a tile stands: its band-local corner, and the pattern-frame corner of the band (R111). -/
structure TilePos where
  kx0 : Int
  jy0 : Int
  bandX : Int
  bandY : Int
  deriving DecidableEq, Repr

def tilePos (stripe band bandRows tile : Nat) : TilePos :=
  { kx0 := 65536 * ((tile % 64 : Nat) : Int), jy0 := 65536 * ((tile / 64 : Nat) : Int)
    bandX := 4194304 * (stripe : Int), bandY := 256 * (bandRows : Int) * (band : Int) }

/-- An edge, lower end first; `left` when the counter-clockwise order goes down it (R118). -/
structure LEdge where
  xa : Int
  ya : Int
  xb : Int
  yb : Int
  left : Bool
  deriving DecidableEq, Repr

structure Shape where
  edges : List LEdge
  ymin : Int
  ymax : Int
  xmin : Int
  xmax : Int
  layer : Nat
  dose : Nat
  deriving DecidableEq, Repr

def minList (l : List Int) : Int := l.foldl min (l.headD 0)
def maxList (l : List Int) : Int := l.foldl max (l.headD 0)

/-- Polygon of band-local vertices in counter-clockwise order (R118). -/
def mkShape (vs : List (Int × Int)) (layer dose : Nat) : Shape :=
  let next := vs.drop 1 ++ vs.take 1
  let edges := (vs.zip next).filterMap fun (a, b) =>
    if a.2 = b.2 then none
    else if a.2 < b.2 then some ({ xa := a.1, ya := a.2, xb := b.1, yb := b.2, left := false } : LEdge)
    else some { xa := b.1, ya := b.2, xb := a.1, yb := a.2, left := true }
  { edges := edges, ymin := minList (vs.map (·.2)), ymax := maxList (vs.map (·.2))
    xmin := minList (vs.map (·.1)), xmax := maxList (vs.map (·.1)), layer := layer, dose := dose }

/-- A trapezoid through its frame (R117); none when a vertex leaves P48. -/
def trapShape (f : Frame) (p : TilePos) (layer dose : Nat) (tr : Int × Int × Int × Int × Int × Int) : Option Shape :=
  let (y0, y1, x0l, x0r, x1l, x1r) := tr
  match f.map x0l y0, f.map x0r y0, f.map x1r y1, f.map x1l y1 with
  | some a, some b, some c, some d =>
    let vs := [a, b, c, d].map fun v => (v.1 - p.bandX, v.2 - p.bandY)
    some (mkShape (if f.o / 4 = 0 then vs else vs.reverse) layer dose)
  | _, _, _, _ => none

/-- edge_k of R120. -/
def edgeK (e : LEdge) (j : Int) : Int :=
  let dy := e.yb - e.ya
  let n := 512 * e.xa * dy + 256 * (e.xb - e.xa) * (2 * j + 1 - 2 * e.ya)
  let xq := Int.fdiv (n + dy) (2 * dy)
  asr (xq + 127) 8

/-- The samples kl ≤ k < kr of a shape in an active row, within [lo, hi) (R121, R122). -/
def rowSpan (g : Shape) (j lo hi : Int) : Int × Int :=
  let act := g.edges.filter fun e => decide (e.ya ≤ j ∧ j < e.yb)
  ((act.filter (·.left)).foldl (fun k e => max k (edgeK e j)) lo,
   (act.filter (fun e => !e.left)).foldl (fun k e => min k (edgeK e j)) hi)

/-- Samples that a span holds in pixel column c of the tile. -/
def spanCov (kx0 : Int) (sp : Int × Int) (c : Nat) : Nat :=
  (min sp.2 (kx0 + 256 * c + 256) - max sp.1 (kx0 + 256 * c)).toNat

/-- Spans of a shape in the 256 sample rows of pixel row r of a tile, the empty ones left out. -/
def rowSpans (g : Shape) (p : TilePos) (r : Nat) : List (Int × Int) :=
  let base := p.jy0 + 256 * r
  if g.ymax ≤ base || base + 256 ≤ g.ymin || g.xmax ≤ p.kx0 || p.kx0 + 65536 ≤ g.xmin then []
  else ((List.range 256).filterMap fun (i : Nat) =>
    let j := base + (i : Int)
    if g.ymin ≤ j ∧ j < g.ymax then
      let sp := rowSpan g j p.kx0 (p.kx0 + 65536)
      if sp.1 < sp.2 then some sp else none
    else none)

/-- Coverage of the 256 pixels of a row by spans (R122). -/
def rowCov (p : TilePos) (spans : List (Int × Int)) : List Nat :=
  (List.range 256).map fun c => spans.foldl (fun n sp => n + spanCov p.kx0 sp c) 0

/-- One pixel row of a tile (R123, R124): doses, over-covered (column, layer) pairs in order of column
and layer, and the row steps of Table LOOM-3. -/
def pixelRow (p : TilePos) (shapes : List Shape) (rasters : List (List Nat)) (r : Nat) :
    List Nat × List (Nat × Nat) × Nat :=
  let covs := (shapes.map fun g => (g.layer, g.dose, rowSpans g p r)).filter (fun x => !x.2.2.isEmpty)
  let covs := covs.map fun (l, d, sp) => (l, d, rowCov p sp)
  if covs.isEmpty && rasters.isEmpty then (List.replicate 256 0, [], 0)
  else
    let px := (List.range 256).map fun c =>
      let acc := covs.foldl (fun a x => min 0xFFFFFFFF (a + x.2.2.getD c 0 * x.2.1)) 0
      let acc := rasters.foldl (fun a d => min 0xFFFFFFFF (a + d.getD (256 * r + c) 0 * 65536)) acc
      min 4095 ((acc + 32768) / 65536)
    let overs := (List.range 256).flatMap fun c =>
      ((List.range 16).filter fun l =>
        let lcov : Nat := (covs.filter (fun x => x.1 == l)).foldl (fun (a : Nat) x => min 0x3FFFF (a + x.2.2.getD c 0)) 0
        decide (65536 < lcov)).map fun l => (c, l)
    (px, overs, covs.length)

/-! ## Placement expansion (R112 to R116, R65, R70, R530) -/

/-- Why a tile is not rendered. -/
inductive RenderStop where
  | fault (f : FaultName) (addr : Nat)
  /-- a cell that is Bad already -/
  | bad (cell : Nat)
  /-- a cell not yet Resident: the unit waits -/
  | wait (cell : Nat)
  deriving DecidableEq, Repr

/-- What is known of a cell when Loom reaches it. -/
inductive CellLook where
  | missing
  | notYet
  | bad
  | body (b : CellBody)
  deriving DecidableEq, Repr

/-- What expansion gathers: shapes, instance tests, cells reached; and why it stopped, with the cells whose
placements it was expanding there (R96). -/
structure Gather where
  shapes : List Shape := []
  tests : Nat := 0
  reached : List Nat := []
  stop : Option RenderStop := none
  refs : List Nat := []
  deriving DecidableEq, Repr

def Gather.halt (path : List Nat) (e : RenderStop) (g : Gather) : Gather := { g with stop := some e, refs := path }

/-- A cell is looked up. -/
def Gather.reach (cell : Nat) (g : Gather) : Gather :=
  if g.reached.contains cell then g else { g with reached := g.reached ++ [cell] }

/-- A step taken over a list until it stops. -/
def gatherList {α : Type} (f : Gather → α → Gather) : Gather → List α → Gather
  | g, [] => g
  | g, x :: l => if g.stop.isSome then g else gatherList f (f g x) l

/-- The declared box through a child frame, band-local (R115); none when a corner leaves P48. -/
def boxThrough (f : Frame) (p : TilePos) (b : CellBody) : Option (Int × Int × Int × Int) :=
  match f.map b.minX b.minY, f.map b.maxX b.minY, f.map b.minX b.maxY, f.map b.maxX b.maxY with
  | some a, some c, some d, some e =>
    let xs := [a.1, c.1, d.1, e.1]
    let ys := [a.2, c.2, d.2, e.2]
    some (minList xs - p.bandX, maxList xs - p.bandX, minList ys - p.bandY, maxList ys - p.bandY)
  | _, _, _, _ => none

/-- The same box in exact arithmetic, as the candidate rectangle is found (R530). -/
def boxExact (ox oy : Int) (o : Nat) (p : TilePos) (b : CellBody) : Int × Int × Int × Int :=
  let pts := [(b.minX, b.minY), (b.maxX, b.minY), (b.minX, b.maxY), (b.maxX, b.maxY)].map fun q => orientMap o q.1 q.2
  let xs := pts.map fun q => ox + q.1 - p.bandX
  let ys := pts.map fun q => oy + q.2 - p.bandY
  (minList xs, maxList xs, minList ys, maxList ys)

/-- The test of R115: the element survives in the tile. -/
def survives (p : TilePos) (bx : Int × Int × Int × Int) : Bool :=
  decide (p.kx0 < bx.2.1 ∧ bx.1 < p.kx0 + 65536 ∧ p.jy0 < bx.2.2.2 ∧ bx.2.2.1 < p.jy0 + 65536)

/-- Local placement origin of element (i, j) (R112). -/
def elementAt (posX posY : Int) (colDx colDy rowDx rowDy : Int) (i j : Nat) : Int × Int :=
  (posX + i * colDx + j * rowDx, posY + i * colDy + j * rowDy)

/-- A placement as a record holds it. -/
structure Placement where
  cell : Nat
  orient : Nat
  ovr : Option (Nat × Nat)
  posX : Int
  posY : Int
  cols : Nat
  rows : Nat
  colDx : Int
  colDy : Int
  rowDx : Int
  rowDy : Int
  deriving DecidableEq, Repr

/-- Whether element (i, j) survives, in exact arithmetic. -/
def elementSurvives (f : Frame) (p : TilePos) (b : CellBody) (q : Placement) (i j : Nat) : Bool :=
  let (lx, ly) := elementAt q.posX q.posY q.colDx q.colDy q.rowDx q.rowDy i j
  let (dx, dy) := orientMap f.o lx ly
  survives p (boxExact (f.ox + dx) (f.oy + dy) (composeOrient f.o q.orient) p b)

/-- The candidate rectangle (R530) as (i_lo, i_hi, j_lo, j_hi); none when no element survives. -/
def candidateRect (f : Frame) (p : TilePos) (b : CellBody) (q : Placement) : Option (Nat × Nat × Nat × Nat) :=
  let surv := (List.range q.cols).flatMap fun i =>
    ((List.range q.rows).filter fun j => elementSurvives f p b q i j).map fun j => (i, j)
  match surv with
  | [] => none
  | s0 :: _ =>
    some (surv.foldl (fun m x => min m x.1) s0.1, surv.foldl (fun m x => max m x.1) s0.1,
          surv.foldl (fun m x => min m x.2) s0.2, surv.foldl (fun m x => max m x.2) s0.2)

def instanceLimit : Nat := 16777216

/-- Where records stand that Loom expands: their frame, the depth of their placements, the height that the
cell holding them declares, the dose override in force, and the cells being expanded. -/
structure Scope where
  frame : Frame
  depth : Nat := 1
  parent : Option Nat := none
  ovr : Option (Nat × Nat) := none
  path : List Nat := []
  deriving DecidableEq, Repr

/-- The trapezoids of a record; none may leave P48 (R114). `top` is the address of the top-level record. -/
def addTraps (p : TilePos) (top : Nat) (sc : Scope) (list : List (Int × Int × Int × Int × Int × Int)) (layer dose : Nat)
    (g : Gather) : Gather :=
  let ld := sc.ovr.getD (layer, dose)
  let shapes := list.map (trapShape sc.frame p ld.1 ld.2)
  if shapes.any (·.isNone) then g.halt sc.path (.fault .p48Range top)
  else { g with shapes := g.shapes ++ shapes.filterMap id }

/-- One element of a placement: its box is tested, and its cell expanded if it survives (R112, R115). -/
def expandElement (child : Scope → List Record → Gather → Gather) (p : TilePos) (top : Nat) (sc : Scope) (q : Placement)
    (b : CellBody) (g : Gather) (e : Nat × Nat) : Gather :=
  let (lx, ly) := elementAt q.posX q.posY q.colDx q.colDy q.rowDx q.rowDy e.1 e.2
  match sc.frame.map lx ly with
  | none => g.halt sc.path (.fault .p48Range top)
  | some (ox, oy) =>
    let fr : Frame := { ox := ox, oy := oy, o := composeOrient sc.frame.o q.orient }
    match boxThrough fr p b with
    | none => g.halt sc.path (.fault .p48Range top)
    | some bx =>
      if survives p bx then
        child { frame := fr, depth := sc.depth + 1, parent := some b.height, ovr := sc.ovr.orElse fun _ => q.ovr, path := q.cell :: sc.path } b.body g
      else g

/-- The elements of the candidate rectangle (R530). -/
def rectElements (rect : Option (Nat × Nat × Nat × Nat)) : List (Nat × Nat) :=
  match rect with
  | none => []
  | some (i0, i1, j0, j1) => (List.range (i1 + 1 - i0)).flatMap fun i => (List.range (j1 + 1 - j0)).map fun j => (i0 + i, j0 + j)

/-- A placement reached in a tile: its cell is looked up, its depth tested (R65), its instance tests counted
(R116), and its elements expanded. -/
def expandPlacement (child : Scope → List Record → Gather → Gather) (look : Nat → CellLook) (p : TilePos) (addrTests top : Nat)
    (sc : Scope) (q : Placement) (g : Gather) : Gather :=
  let g := g.reach q.cell
  match look q.cell with
  | .missing => g.halt sc.path (.fault .cellMissing q.cell)
  | .notYet => g.halt sc.path (.wait q.cell)
  | .bad => g.halt sc.path (.bad q.cell)
  | .body b =>
    if 8 < sc.depth + b.height || sc.parent.any fun h => decide (h ≤ b.height) then g.halt sc.path (.fault .nest top)
    else
      let elems := rectElements (candidateRect sc.frame p b q)
      let g := { g with tests := g.tests + max 1 elems.length }
      if instanceLimit < g.tests then g.halt sc.path (.fault .expandLimit addrTests)
      else gatherList (expandElement child p top sc q b) g elems

/-- What records add to a tile, from a dose state on. The first argument is the number of levels of placements
left: R65 lets none lie deeper than 8, so nine from depth 1 are all there are. -/
def expandRecords (look : Nat → CellLook) (p : TilePos) (addrTests top : Nat) : Nat → Nat × Nat → Scope → List Record → Gather → Gather
  | 0, _, _, _, g => g
  | n + 1, ld, sc, recs, g =>
    (recs.foldl (fun (acc : Gather × Nat × Nat) r =>
      if acc.1.stop.isSome then acc
      else match r with
        | .doseLayer l d => (acc.1, l, d)
        | .traps list => (addTraps p top sc list acc.2.1 acc.2.2 acc.1, acc.2)
        | .place cell orient o posX posY cols rows colDx colDy rowDx rowDy =>
          (expandPlacement (expandRecords look p addrTests top n (0, 2048)) look p addrTests top sc
            { cell, orient, ovr := o, posX, posY, cols, rows, colDx, colDy, rowDx, rowDy } acc.1, acc.2)
        | _ => acc) (g, ld)).1

/-- What a tile's render gives. -/
structure TileRender where
  out : TileOut
  tests : Nat
  rowSteps : Nat
  reached : List Nat
  deriving DecidableEq, Repr

/-- Dose state along a stream's top-level records: each record with the state in force before it. -/
def withDose : Nat → Nat → List (Nat × Record) → List (Nat × Record × Nat × Nat)
  | _, _, [] => []
  | l, d, (at', r) :: rest =>
    match r with
    | .doseLayer l' d' => (at', r, l, d) :: withDose l' d' rest
    | _ => (at', r, l, d) :: withDose l d rest

/-- The point of BAND_BEGIN. -/
def bandBase (records : List (Nat × Record)) : Int × Int :=
  match records with
  | (_, .bandBegin _ _ x y) :: _ => (x, y)
  | _ => (0, 0)

/-- The records of a band in a tile. Of the top-level placements Loom reaches those that the binner has
referenced to the tile (R530). `offset` turns a record's stream offset into its file offset. -/
def gatherTile (look : Nat → CellLook) (p : TilePos) (addrTests tile offset : Nat) (refs : List (Nat × List Nat))
    (records : List (Nat × Record)) : Gather :=
  let (bx, by') := bandBase records
  let root : Scope := { frame := { ox := bx, oy := by', o := 0 } }
  gatherList (fun g x =>
    let (at', r, l, d) := x
    match r with
    | .place .. =>
      if (sparseGet [] refs at').contains tile then expandRecords look p addrTests (offset + at') 9 (l, d) root [r] g else g
    | .traps _ => expandRecords look p addrTests (offset + at') 9 (l, d) root [r] g
    | _ => g) {} (withDose 0 2048 records)

/-- A tile of a band rendered (R123): doses row by row; or, with what was gathered, why it stops. -/
def renderTile (look : Nat → CellLook) (stripe band bandRows tile offset : Nat) (refs : List (Nat × List Nat))
    (records : List (Nat × Record)) : Except (RenderStop × Gather) TileRender :=
  let p := tilePos stripe band bandRows tile
  let g := gatherTile look p (addrBand stripe band + tile) tile offset refs records
  match g.stop with
  | some e => .error (e, g)
  | none =>
    let rasters := records.filterMap fun (_, r) => match r with
      | .rasterTile tx ty _ _ doses => if ty * 64 + tx = tile then some doses else none
      | _ => none
    let rows := (List.range 256).map fun r => pixelRow p g.shapes rasters r
    let overs := (rows.zipIdx).flatMap fun (x, r) => x.2.1.map fun (c, l) => (256 * (tile / 64) + r, 256 * (tile % 64) + c, l)
    .ok { out := { tile := tile, doses := rows.flatMap (·.1), overs := min 0xFFFFFFFF overs.length, first := overs.head? }
          tests := g.tests, rowSteps := (rows.map (·.2.2)).sum, reached := g.reached }

/-! ## The binner (R126) -/

/-- Whether a box overlaps a tile with positive area. -/
def overlapsTile (p : TilePos) (g : Shape) : Bool :=
  decide (g.xmin < g.xmax) && decide (g.ymin < g.ymax) &&
  decide (p.kx0 < g.xmax ∧ g.xmin < p.kx0 + 65536 ∧ p.jy0 < g.ymax ∧ g.ymin < p.jy0 + 65536)

/-- What the binner does with a record of a band: its references, or why it stops. -/
def binRecord (look : Nat → CellLook) (stripe band bandRows offset : Nat) (root : Frame) (acc : Binned) (x : Nat × Record) :
    Binned × Option RenderStop :=
  let (at', r) := x
  let tiles := List.range (bandRows / 4)
  let pos := tilePos stripe band bandRows
  let add (acc : Binned) (n : Nat) : Binned × Option RenderStop :=
    if 16777216 < acc.count + n then ({ acc with count := 16777216 }, some (.fault .binFull (addrBand stripe band)))
    else ({ acc with taken := acc.taken + 1, count := acc.count + n }, none)
  match r with
  | .traps list =>
    let shapes := list.map (trapShape root (pos 0) 0 0)
    if shapes.any (·.isNone) then (acc, some (.fault .p48Range (offset + at')))
    else add acc ((shapes.filterMap id).map fun g => (tiles.filter fun k => overlapsTile (pos k) g).length).sum
  | .place cell orient ovr px py cols rows a b c e =>
    let acc := { acc with cells := if acc.cells.contains cell then acc.cells else acc.cells ++ [cell] }
    match look cell with
    | .missing => (acc, some (.fault .cellMissing cell))
    | .notYet => (acc, some (.wait cell))
    | .bad => (acc, some (.bad cell))
    | .body body =>
      if 8 < 1 + body.height then (acc, some (.fault .nest (offset + at')))
      else
        let q : Placement := { cell, orient, ovr, posX := px, posY := py, cols, rows, colDx := a, colDy := b, rowDx := c, rowDy := e }
        let hit := tiles.filter fun k => (candidateRect root (pos k) body q).isSome
        add { acc with refs := acc.refs ++ [(at', hit)] } hit.length
  | .rasterTile .. => add acc 1
  | _ => add acc 0

/-- The binner takes records in stream order until it stops. -/
def binRecords (look : Nat → CellLook) (stripe band bandRows offset : Nat) (root : Frame) :
    Binned → List (Nat × Record) → Binned × Option RenderStop
  | acc, [] => (acc, none)
  | acc, x :: l =>
    match binRecord look stripe band bandRows offset root acc x with
    | (acc, some e) => (acc, some e)
    | (acc, none) => binRecords look stripe band bandRows offset root acc l

/-- The binner goes on with the records of a band that the codec has delivered since it last stopped. -/
def binBand (look : Nat → CellLook) (stripe band bandRows offset : Nat) (records : List (Nat × Record)) (acc : Binned) :
    Binned × Option RenderStop :=
  let (bx, by') := bandBase records
  binRecords look stripe band bandRows offset { ox := bx, oy := by', o := 0 } acc (records.drop acc.taken)

/-! ## Chequin (05 R144) -/

/-- The Chequin value of a band from its tiles in tile-number order. -/
def chequin (stripe band bandRows : Nat) (tiles : List TileOut) : Nat :=
  (sortBy TileOut.tile tiles).foldl (fun q t => t.doses.foldl (fun q v => crc64Bits q (msbBits 12 v)) q)
    (stripe * 2 ^ 48 + band * 2 ^ 32 + bandRows * 2 ^ 16 + 3)

end Sys2Proof.Machine
end

