-- ==== Sys2Proof/Machine/Cells.lean ====
section
/-! DEFINITION. The bands of a job across the Pleat codec's staging, the cell cache, Loom and Polder: the
state changes that the chapters share (02 R74 to R78; 03 R93 to R105; 04 R128; 05 R140 to R153). -/

namespace Sys2Proof.Machine
open Sys2Proof

/-! ## Bands and the directory -/

def bandKey (b : Band) : Nat := b.stripe * 65536 + b.band

def State.band (stripe band : Nat) (s : State) : Option Band :=
  s.bands.find? fun b => b.stripe == stripe && b.band == band

def State.updBand (stripe band : Nat) (f : Band → Band) (s : State) : State :=
  { s with bands := s.bands.map fun b => if b.stripe == stripe && b.band == band then f b else b }

/-- The band, listed from now on. -/
def State.ensureBand (stripe band : Nat) (s : State) : State :=
  if (s.band stripe band).isSome then s
  else { s with bands := insertBy bandKey ({ stripe := stripe, band := band } : Band) s.bands }

/-- Directory index of a band (R52). -/
def Job.index (j : Job) (stripe band : Nat) : Nat := (stripe - j.hdr.stripeFirst) * j.hdr.bandsPerStripe + band

def State.dirEnt (stripe band : Nat) (s : State) : Option DirEnt :=
  match s.job with
  | some j => if stripe < j.hdr.stripeFirst then none else j.dir[j.index stripe band]?
  | none => none

/-- A stripe below the job's first, or passed over by a STRIPE_START (R75). -/
def Job.skips (j : Job) (stripe : Nat) : Bool := decide (stripe < j.first) || j.skipped.contains stripe

def State.bandRows (s : State) : Nat := (s.job.map fun j => j.hdr.bandRows).getD 4096

/-! ## The cell cache (03) -/

def State.updCc (f : Cache → Cache) (s : State) : State := { s with cc := f s.cc }
def State.cell (id : Nat) (s : State) : Option Cell := s.cc.cells.find? (·.ent.id == id)
def State.updCell (id : Nat) (f : Cell → Cell) (s : State) : State :=
  s.updCc fun c => { c with cells := c.cells.map fun x => if x.ent.id == id then f x else x }
def State.ccStats (f : CacheStats → CacheStats) (s : State) : State :=
  s.updCc fun c => { c with stats := f c.stats }

/-- What Loom finds for a cell (R98, R100); a Bad cell whose new fetch is queued (Table CACHE-3) is waited
for. -/
def State.look (s : State) (id : Nat) : CellLook :=
  match s.cell id with
  | none => .missing
  | some c => match c.state with
    | .bad => if s.cc.queue.any (·.1 == id) then .notYet else .bad
    | .resident => match c.body with
      | some b => .body b
      | none => .notYet
    | _ => .notYet

/-- Pages of the cache region (R91, R93). -/
def Cache.pageCount (c : Cache) : Nat := c.sizeGib * 16384

/-- The cell-use list of a band. -/
def State.listCells (b : Band) (s : State) : List Nat := ((s.dirEnt b.stripe b.band).map (·.cells)).getD []

/-- The cells of a band: its cell-use list and what Loom reached beyond it (R102). -/
def State.bandCells (b : Band) (s : State) : List Nat :=
  let l := s.listCells b
  l ++ b.reached.filter (fun c => !l.contains c)

def State.pinnedCells (s : State) : List Nat := (s.bands.filter (·.pinned)).flatMap fun b => s.bandCells b

/-- The cells that bands claim: those of their cell-use lists (R101). -/
def State.claimedCells (s : State) : List Nat := (s.bands.filter (·.claimed)).flatMap fun b => s.listCells b

/-- Cells on which a unit holds a reference (R96). -/
def State.referenced (s : State) : List Nat := s.bands.flatMap fun b => b.working.flatMap (·.refs)

def Cell.busy (c : Cell) : Bool := c.state == .fetching || c.state == .decoding
/-- The cell holds bytes in its pages. -/
def Cell.held (c : Cell) : Bool := c.busy || c.state == .resident

def State.pageCells (page : Nat) (s : State) : List Cell := s.cc.cells.filter fun c => c.held && c.pages.contains page
def State.pageStamp (page : Nat) (s : State) : Nat := ((s.pageCells page).map (·.stamp)).foldl max 0

/-- A fetch joins the queue, or the one queued already is raised to a pinned one. -/
def Cache.enqueue (id : Nat) (pinned : Bool) (cc : Cache) : Cache :=
  if cc.queue.any (·.1 == id) then { cc with queue := cc.queue.map fun q => if q.1 == id then (q.1, q.2 || pinned) else q }
  else { cc with queue := cc.queue ++ [(id, pinned)] }

/-- Queues a fetch for an Absent cell (R102, R103); one already queued is raised to a pinned one. -/
def State.queueFetch (id : Nat) (pinned : Bool) (s : State) : State :=
  match s.cell id with
  | none => s
  | some c =>
    if c.state != .absent then s else s.updCc (·.enqueue id pinned)

/-- Queued fetches go on as pinned ones only while a band pins their cell (R99, R102, R105). -/
def State.demoteQueue (s : State) : State :=
  let pins := s.pinnedCells
  s.updCc fun cc => { cc with queue := cc.queue.map fun q => (q.1, q.2 && pins.contains q.1) }

/-- Pages that hold a pinned cell; the peak follows them. -/
def State.notePins (s : State) : State :=
  let pins := s.pinnedCells
  let pages := (s.cc.used.filter fun p => (s.pageCells p).any fun c => pins.contains c.ent.id).length
  s.ccStats fun t => { t with pinnedPeak := max t.pinnedPeak pages }

/-- Claims a band's cells and queues its claimed fetches (R101, R103). -/
def State.claimBand (stripe band : Nat) (s : State) : State :=
  let s := (s.ensureBand stripe band).updBand stripe band fun b => { b with claimed := true }
  match s.dirEnt stripe band with
  | some d => d.cells.foldl (fun s id => s.queueFetch id false) s
  | none => s

/-- Pins a band's cells and queues its pinned fetches (R102). -/
def State.pinBand (stripe band : Nat) (s : State) : State :=
  let s := (s.ensureBand stripe band).updBand stripe band fun b => { b with claimed := true, pinned := true, pinsDropped := false }
  match s.dirEnt stripe band with
  | some d => (d.cells.foldl (fun s id => s.queueFetch id true) s).notePins
  | none => s

/-- Drops a band's claims and pins. -/
def Band.unpin (b : Band) : Band := { b with claimed := false, pinned := false, pinsDropped := false, reached := [] }

/-- A page becomes empty: every cell with any byte in it is Absent (R94). The other pages of a large cell stay in
use, without a cell, until they are evicted in their turn (log 57). -/
def State.evict (page : Nat) (s : State) : State :=
  let gone := s.pageCells page
  let unused := (gone.filter fun c => c.prefetched && !c.lookedUp).length
  let s := s.updCc fun cc =>
    { cc with
      cells := cc.cells.map fun c => if c.held && c.pages.contains page then
        { c with state := .absent, pages := [], body := none, stored := [] } else c
      used := cc.used.filter (· != page) }
  s.ccStats fun t => { t with evictions := t.evictions + 1, prefetchUnused := t.prefetchUnused + unused }

/-- Pages that R96 lets the engine evict; `kept` are those just taken for the cell to be fetched. -/
def State.evictable (kept : List Nat) (s : State) : List Nat :=
  let pins := s.pinnedCells ++ s.referenced
  s.cc.used.filter fun p => s.cc.fillPage != some p && !kept.contains p &&
    !((s.pageCells p).any fun c => c.busy || pins.contains c.ent.id)

/-- The page that R104 chooses to evict. -/
def State.victim (pinnedFetch : Bool) (kept : List Nat) (s : State) : Option Nat :=
  let claims := s.claimedCells
  let cand := sortBy id (s.evictable kept)
  let unclaimed := cand.filter fun p => !((s.pageCells p).any fun c => claims.contains c.ent.id)
  match minBy (fun p => s.pageStamp p) unclaimed with
  | some p => some p
  | none =>
    if !pinnedFetch then none
    else
      let earliest (p : Nat) : Nat :=
        let ids := (s.pageCells p).map (·.ent.id)
        ((s.bands.filter fun b => b.claimed && (s.listCells b).any ids.contains).map bandKey).foldl min (2 ^ 40)
      let latest := (cand.map earliest).foldl max 0
      minBy (fun p => s.pageStamp p) (cand.filter fun p => earliest p == latest)

/-- A page for new cells: a free one, the lowest, or an evicted one. -/
def State.takePage (pinnedFetch : Bool) (kept : List Nat) (s : State) : Option (Nat × State) :=
  let use (p : Nat) (s : State) : Nat × State := (p, s.updCc fun cc => { cc with used := cc.used ++ [p] })
  match ((List.range (s.cc.used.length + 1)).find? fun p => !s.cc.used.contains p).filter (· < s.cc.pageCount) with
  | some p => some (use p s)
  | none => (s.victim pinnedFetch kept).map fun p => use p (s.evict p)

/-- n pages beside those already taken for the cell. -/
def State.takePages (pinnedFetch : Bool) : Nat → List Nat → State → Option (List Nat × State)
  | 0, l, s => some (l, s)
  | n + 1, l, s => match s.takePage pinnedFetch l with
    | none => none
    | some (p, s) => State.takePages pinnedFetch n (l ++ [p]) s

/-- Releases pages that no longer hold a cell and are not the fill page (R94); not an eviction. -/
def State.freePages (pages : List Nat) (s : State) : State :=
  pages.foldl (fun s p =>
    if s.cc.fillPage == some p || !(s.pageCells p).isEmpty then s
    else s.updCc fun cc => { cc with used := cc.used.filter (· != p) }) s

/-- A new fill page, with its first granules; the one before is free if it holds no cell (R94). -/
def State.newFill (pinnedFetch : Bool) (granules : Nat) (s : State) : Option (List Nat × Nat × State) :=
  (s.takePage pinnedFetch []).map fun (p, s) =>
    ([p], granules, (s.updCc fun cc => { cc with fillPage := some p, fillUsed := granules }).freePages s.cc.fillPage.toList)

/-- Space for a cell (R93): its pages and granules. -/
def State.allocCell (pinnedFetch : Bool) (rawLen : Nat) (s : State) : Option (List Nat × Nat × State) :=
  if 65536 < rawLen then (s.takePages pinnedFetch (ceilDiv rawLen 65536) []).map fun (l, s) => (l, 0, s)
  else
    let g := ceilDiv rawLen 256
    match s.cc.fillPage with
    | some p =>
      if s.cc.fillUsed + g ≤ 256 then some ([p], g, s.updCc fun cc => { cc with fillUsed := cc.fillUsed + g })
      else s.newFill pinnedFetch g
    | none => s.newFill pinnedFetch g

/-! ## Polder's ring and reports (05) -/

/-- Whether Polder still holds pattern row Y of the ring's stripe (R140 to R142). -/
def Polder.holds (p : Polder) (y : Nat) : Bool := decide (p.freeBelow ≤ y ∧ y < p.enteredTo)

/-- Whether a band is ready for the pair (R153). -/
def State.bandReady (stripe band : Nat) (s : State) : Bool :=
  match s.band stripe band with
  | some b => b.polder == .released || (s.paired && s.pol.coverMode == 0 && b.peerReleased.isSome)
  | none => false

/-- Flash index of mark m of the open stripe (00 R7): the next flash to be committed is that of m_next. -/
def State.flashOfMark (m : Nat) (s : State) : Int := (s.eng.flashNext : Int) + m - s.hem.mNext

/-- The last mark before the footprint's leading edge is at a band: the R25 test. -/
def testMark (bandRows band p : Nat) : Int := (ceilDiv (bandRows * band * 256) p : Int) - 1

/-- Band lead at a release (R155). -/
def State.bandLead (stripe band : Nat) (s : State) : Int :=
  match s.hem.stripe with
  | some st =>
    if st.stripe = stripe then
      s.flashOfMark 0 + testMark s.bandRows band st.p - s.eng.lastFlash
    else Config.leadAhead stripe band
  | none => Config.leadAhead stripe band

def State.polStats (f : PolStats → PolStats) (s : State) : State := { s with pol := { s.pol with stats := f s.pol.stats } }

/-- A band report (R152, R155): an arbiter event, to the peer, and to the host's ring when the mask selects the outcome. -/
def State.report (stripe band outcome : Nat) (failed : Bool) (s : State) : State :=
  match s.band stripe band with
  | none => s
  | some b =>
    let computed := if failed then 0 else b.computed
    let exp := ((s.dirEnt stripe band).map (·.chequin)).getD 0
    let empty := ((s.dirEnt stripe band).map (·.empty)).getD false
    let lead : Int := if outcome = 1 then s.bandLead stripe band else 0
    let (r, c, l) := b.overFirst.getD (0, 0, 0)
    let rec' := leBytes 2 stripe ++ leBytes 2 band ++ [byteOf outcome, byteOf b.attempt] ++
      leBytes 2 (failed.toNat + 2 * empty.toNat + 4 * b.peerReleased.isSome.toNat + 8 * b.retry.toNat) ++
      leBytes 8 computed ++ leBytes 8 exp ++ leBytes 4 b.overCount ++ leBytes 2 r ++ leBytes 2 c ++
      [byteOf l, 0, 0, 0] ++ leSigned 4 lead ++ leBytes 8 (s.seqFor 6) ++ leBytes 8 s.eng.lastFlash ++ leBytes 8 0
    let s := (s.toPeer (.band stripe band outcome b.attempt (BitVec.ofNat 64 computed))).event (.band stripe band outcome)
    if s.pol.reportRing ≠ 0xFF && s.pol.reportMask.testBit (outcome - 1) then
      { s with sl := { s.sl with streamOut := s.sl.streamOut ++ [(s.pol.reportRing, rec')] } }
    else s

/-! ## Units at work (04 R129, R135; 03 R109) -/

/-- Steps of 78.125 ps in whole nanoseconds. -/
def stepsNs (n : Nat) : Nat := n * 5 / 64

def State.loomStats (f : LoomStats → LoomStats) (s : State) : State := { s with loom := { s.loom with stats := f s.loom.stats } }

/-- A unit's wait for a cell ends. -/
def Work.resume (now : Nat) (w : Work) : Work :=
  { w with waiting := none, waited := w.waited + (match w.waiting with
    | some x => now - x.2
    | none => 0) }

/-- A unit's tile leaves it: busy and waiting times count (Tables LOOM-6, CACHE-5). -/
def State.leaveTile (stripe band : Nat) (s : State) (w : Work) : State :=
  let waited := (w.resume s.now).waited
  let s := s.updBand stripe band fun b => { b with working := b.working.filter (·.unit != w.unit) }
  let s := s.loomStats fun l => { l with unitBusyNs := l.unitBusyNs + stepsNs (s.now - w.since - waited) }
  s.ccStats fun c => { c with loomWaitNs := c.loomWaitNs + stepsNs (waited - w.waited) }

/-- Every tile of a band in progress is abandoned. -/
def State.idleUnits (stripe band : Nat) (s : State) : State :=
  match s.band stripe band with
  | some b => b.working.foldl (State.leaveTile stripe band) s
  | none => s

/-- The waits for a cell end: it is Resident. -/
def State.endWaits (id : Nat) (s : State) : State :=
  let ends (w : Work) : Bool := w.waiting.any (·.1 == id)
  let n := (s.bands.flatMap fun b => (b.working.filter ends).map fun w => stepsNs (s.now - ((w.waiting.map (·.2)).getD s.now))).sum
  let s : State := { s with bands := s.bands.map fun (b : Band) => { b with working := b.working.map fun (w : Work) => if ends w then w.resume s.now else w } }
  s.ccStats fun c => { c with loomWaitNs := c.loomWaitNs + n }

/-- LATE_BAND causes clear as their bands are ready in the pair (07 Table HEM-3). -/
def State.clearBandCauses (s : State) : State :=
  { s with hem := { s.hem with causes := s.hem.causes.filter fun c => match c with
    | .lateBand st b => !(s.bandReady st b)
    | _ => true } }

/-- A band's release clears the causes of Seam that its fault or its data left (R149). -/
def State.clearFaultCauses (stripe band : Nat) (s : State) : State :=
  { s with hem := { s.hem with causes := s.hem.causes.filter fun c => c != .bandFault stripe band && c != .bandData stripe band } }

/-- Whether a band's stream can never be staged (R74): it is longer than the staging region. -/
def State.tooLong (stripe band : Nat) (s : State) : Bool :=
  match s.job, s.dirEnt stripe band with
  | some j, some d => decide (j.stagingSize < d.streamLen)
  | _, _ => false

/-- Staging space of a band is freed and its stream is Idle. -/
def State.unstage (stripe band : Nat) (s : State) : State :=
  let n := ((s.dirEnt stripe band).map (·.streamLen)).getD 0
  let holds := match s.band stripe band with
    | some (b : Band) => b.stream != StreamState.idle && !s.tooLong stripe band
    | none => false
  if holds then { s with job := s.job.map fun (j : Job) => { j with stagedUsed := j.stagedUsed - n } } else s

/-- A band leaves codec, Loom and Polder altogether. -/
def State.dropBand (stripe band : Nat) (s : State) : State :=
  let s := (s.unstage stripe band).idleUnits stripe band
  State.demoteQueue { s with bands := s.bands.filter fun b => !(b.stripe == stripe && b.band == band) }

/-- Released or Faulted bands all of whose ring rows are freed leave Polder (Table POLDER-3, R76). -/
def State.leaveBands (s : State) : State :=
  let gone := s.bands.filter fun b => b.stripe == s.pol.stripe && b.polder != .outside &&
    (b.polder == .released || b.polder == .faulted) && decide ((b.band + 1) * s.bandRows ≤ s.pol.freeBelow)
  gone.foldl (fun s b => s.dropBand b.stripe b.band) s

/-- The band's codec starts over from the staged copy (R76): EMPTY bands have nothing to decode. -/
def Band.redecode (b : Band) (empty : Bool) : Band :=
  { b with stream := if empty then .done else .decoding, decoded := [], nextBlock := 0, rest := [], restAt := 0
           records := [], binned := {}, rawTotal := 0, tiles := [], queued := [], working := [], overCount := 0, overFirst := none }

def State.bandEmpty (stripe band : Nat) (s : State) : Bool := ((s.dirEnt stripe band).map (·.empty)).getD false

/-- Fetches of the Bad cells that a band needs are queued: as each starts, its cell goes from Bad to Fetching
(03 Table CACHE-3). -/
def State.retryBad (b : Band) (s : State) : State :=
  (s.bandCells b).foldl (fun s id => match s.cell id with
    | some c => if c.state == .bad then s.updCc (·.enqueue id true) else s
    | none => s) s

/-- A band fault (R148): the band is Faulted and Loom discards it; a cause of Seam when it is not ready
in the pair (R153). -/
def State.bandFault (stripe band : Nat) (failed : Bool) (s : State) : State :=
  let s := ((s.idleUnits stripe band).raise .bandFault (addrBand stripe band)).updBand stripe band fun b =>
    { b.unpin with
      reached := b.reached, polder := .faulted, render := .idle, stream := .kept, tiles := [], queued := [], working := [] }
  let s := s.demoteQueue
  let s := (s.polStats fun t => { t with bandFaults := t.bandFaults + 1 }).report stripe band 3 failed
  if s.bandReady stripe band then s else s.cause (.bandFault stripe band)

/-- A render that failed or did not match (R148): a re-weave in attempt 1 or while Waiting, a band fault
in attempt 2. -/
def State.renderFailed (stripe band : Nat) (failed : Bool) (s : State) : State :=
  match s.band stripe band with
  | none => s
  | some b =>
    if b.polder == .waiting || (b.polder == .rendering && b.attempt == 1) then
      let s := s.raise .bandMismatch (addrBand stripe band)
      let s := (s.polStats fun t => { t with reweaves := t.reweaves + 1 }).report stripe band 2 failed
      let s := s.retryBad b
      let s := s.updBand stripe band fun b =>
        { b.redecode (s.bandEmpty stripe band) with polder := .rendering, attempt := 2, render := .binning }
      if s.tooLong stripe band then s.bandFault stripe band true else s
    else if b.polder == .rendering then s.bandFault stripe band failed
    else s

/-- A stream enters Failed (R77): all of its output is discarded, Loom's work with it. -/
def State.failStream (stripe band : Nat) (s : State) : State :=
  let s := (s.idleUnits stripe band).updBand stripe band fun b =>
    { b with stream := .failed, render := if b.render == .idle then .idle else .discarded, records := [], decoded := []
             rest := [], tiles := [], queued := [], working := [] }
  s.renderFailed stripe band true

/-! ## The window (R142), binning order (R128) -/

/-- The first band that Loom's binner takes next: a band-retry band, else the first in directory order,
once every earlier band in the window has left Binning (R128). -/
def State.nextToBin (s : State) : Option Band :=
  if s.bands.any (·.render == .binning) then none
  else
    match s.bands.find? fun b => b.polder == .rendering && b.render == .idle && (b.stream == .decoding || b.stream == .done) with
    | some b => some b
    | none => (s.bands.find? fun b => b.polder == .waiting && b.render == .idle).filter fun b => b.stream == .staged

/-- Loom accepts the next band: its stream enters Decoding, it enters Binning (R76, R128). -/
def State.pumpBinner (s : State) : State :=
  match s.nextToBin with
  | none => s
  | some b =>
    s.updBand b.stripe b.band fun b =>
      if b.stream == .staged then { b.redecode (s.bandEmpty b.stripe b.band) with render := .binning }
      else { b with render := .binning }

/-- Claims for the prefetch horizon: the H bands after the window in directory order (R101). -/
def State.claimHorizon (s : State) : State :=
  match s.job with
  | none => s
  | some j =>
    let at' := j.index s.pol.stripe (s.pol.enteredTo / j.hdr.bandRows)
    let ahead := ((j.dir.drop at').filter fun d => !j.skips d.stripe).take s.cc.horizon
    ahead.foldl (fun s d => match s.band d.stripe d.band with
      | some b => if b.claimed then s else s.claimBand d.stripe d.band
      | none => s.claimBand d.stripe d.band) s

/-- Bands enter the window in directory order while their ring rows are free (R142). -/
def State.takeInGo : Nat → State → State
  | 0, s => s
  | fuel + 1, s =>
    match s.job with
    | none => s
    | some j =>
      let rows := j.hdr.bandRows
      let b := s.pol.enteredTo / rows
      if s.pol.stripe < j.first || j.hdr.stripeFirst + j.hdr.stripeCount ≤ s.pol.stripe || j.hdr.bandsPerStripe ≤ b ||
          s.pol.freeBelow + 28672 < s.pol.enteredTo + rows then s
      else
        let s := { s with pol := { s.pol with enteredTo := s.pol.enteredTo + rows } }
        let s := (s.pinBand s.pol.stripe b).updBand s.pol.stripe b fun x => { x with polder := .waiting, attempt := 1, retry := false }
        let s := match s.band s.pol.stripe b with
          | some x => if x.stream == .failed then s.renderFailed x.stripe x.band true else s
          | none => s
        State.takeInGo fuel s

/-- Admission, the claims of the new horizon, and the binner. -/
def State.takeIn (s : State) : State := ((s.takeInGo 32).claimHorizon).pumpBinner

/-- Every ring row is freed (R141); the bands admitted next belong to a stripe (R536). -/
def State.restartRing (stripe : Nat) (s : State) : State :=
  let old := s.bands.filter fun b => b.polder != .outside
  let s := old.foldl (fun s b => s.dropBand b.stripe b.band) s
  { s with pol := { s.pol with freeBelow := 0, enteredTo := 0, stripe := stripe } }.takeIn

/-- Ring rows are freed at the issue of mark m (R139, R141). -/
def State.freeRows (m p : Nat) (s : State) : State :=
  let lead := ((m + 1) * p / 256 : Nat)
  let below := max s.pol.freeBelow (lead - 16383)
  ({ s with pol := { s.pol with freeBelow := min below s.pol.enteredTo } }.leaveBands).takeIn

/-! ## Release (R147) -/

/-- The band is released: an arbiter event; Shuttle may read its rows. -/
def State.release (stripe band : Nat) (s : State) : State :=
  let lead := s.bandLead stripe band
  let s := s.updBand stripe band fun b =>
    { b.unpin with polder := .released, stream := .kept, render := .idle, unavailable := false
                   tiles := [], queued := [], working := [] }
  let s := s.demoteQueue
  let s := s.polStats fun t => { t with releases := t.releases + 1, leadMin := some (match t.leadMin with
    | some l => min l lead
    | none => lead) }
  let s := s.report stripe band 1 false
  let s := match s.band stripe band with
    | some b => (match b.peerReleased with
      | some v => if v ≠ b.computed then s.raise .twinChequin (addrBand stripe band) else s
      | none => s)
    | none => s
  ((s.clearFaultCauses stripe band).clearBandCauses.leaveBands).takeIn

end Sys2Proof.Machine
end

