-- ==== Sys2Proof/Machine/Bands.lean ====
section
/-! DEFINITION. What happens to a band on its way to Shuttle: staging, decoding, binning, tiles and the
band check (02 R74 to R79, 04 R126 to R130, 05 R136 to R151), and to the cells it needs (03 R95 to
R105). -/

namespace Sys2Proof.Machine
open Sys2Proof

/-! ## Units (R127, R130) -/

def State.busyUnits (s : State) : List Nat := s.bands.flatMap fun b => b.working.map (·.unit)

/-- Bands that units work on: at most two in rendering, those already begun first (R127). -/
def State.servedBands (s : State) : List Band :=
  let l := s.bands.filter fun b => b.render == .tiling && (!b.working.isEmpty || !b.queued.isEmpty)
  sortBy bandKey ((l.filter (!·.working.isEmpty) ++ l.filter (·.working.isEmpty)).take 2)

/-- An idle unit takes the next queued tile. -/
def State.takeTile (s : State) (unit : Nat) : State :=
  match s.servedBands.find? (!·.queued.isEmpty) with
  | none => s
  | some b => s.updBand b.stripe b.band fun b =>
    match b.queued with
    | [] => b
    | tile :: rest => { b with queued := rest, working := b.working ++ [({ unit := unit, tile := tile, since := s.now } : Work)] }

/-- Every idle unit in service takes a tile, in unit order. -/
def State.assignUnits (s : State) : State :=
  let busy := s.busyUnits
  let idle := (List.range 256).filter fun u => s.loom.inService.getLsbD u && !busy.contains u
  idle.foldl State.takeTile s

/-- The binner and the units go on after a change of a band. -/
def State.bandsOn (s : State) : State := s.pumpBinner.assignUnits

def unitCount (v : BitVec 256) : Nat := ((List.range 256).filter (v.getLsbD ·)).length

/-- UNITS_LOW, once until the number has risen to unit_floor again (R130). -/
def State.testUnits (s : State) : State :=
  let n := unitCount s.loom.inService
  let low := decide (n < s.loom.unitFloor)
  let s := s.raiseUnless (!low || s.loom.unitsLowRaised) .unitsLow n
  { s with loom := { s.loom with unitsLowRaised := low } }

/-! ## Staging (R74) -/

/-- The staging order passes over skipped stripes and EMPTY bands; the latter are Staged with no bytes
(Table PLEAT-10). -/
def State.passEmpties : Nat → State → State
  | 0, s => s
  | fuel + 1, s =>
    match s.job with
    | none => s
    | some j => match j.dir[j.stageAt]? with
      | none => s
      | some d =>
        if j.skips d.stripe || d.empty then
          let s := { s with job := some { j with stageAt := j.stageAt + 1 } }
          let s := if j.skips d.stripe then s
            else (s.ensureBand d.stripe d.band).updBand d.stripe d.band fun b => { b with stream := .staged }
          State.passEmpties fuel s
        else s

def State.passAll (s : State) : State := s.passEmpties ((s.job.map fun j => j.dir.length + 1).getD 0)

/-- Bus address of a file offset's byte in the feed window (R45). -/
def Job.windowByte (j : Job) (f : Nat) : Nat := j.windowAddr + (f - j.hdr.headLen) % j.windowSize

/-- STAGING_START (R74): staging space for the next stream in directory order. The address of STREAM_SIZE is the
stream's file offset (log 57). -/
def State.stagingStart (s : State) : State :=
  let s := s.passAll
  match s.job with
    | none => s
    | some j => match j.dir[j.stageAt]? with
      | none => s
      | some d =>
        if j.stagingSize < d.streamLen then
          let s := { s with job := some { j with stageAt := j.stageAt + 1 } }
          ((s.ensureBand d.stripe d.band).raise .streamSize d.streamOffset).failStream d.stripe d.band
        else if s.sl.halted || j.stagingSize < j.stagedUsed + d.streamLen || j.feedLimit < d.streamOffset + d.streamLen then s
        else
          let s := { s with job := some { j with stageAt := j.stageAt + 1, stagedUsed := j.stagedUsed + d.streamLen } }
          ((s.ensureBand d.stripe d.band).updBand d.stripe d.band fun b => { b with stream := .staging, copyFrom := some (j.windowByte d.streamOffset) }).passAll

/-- STAGING_START (R74). -/
def execStagingStart (t : Nat) (s : State) : Res := .next ((s.atTime t).stagingStart).bandsOn

/-- STAGING_COMPLETE (R76): the stream_len bytes of the earliest stream in Staging are copied. -/
def execStagingComplete (t : Nat) (data : List Byte) (s : State) : Res :=
  let s := s.atTime t
  .next (if s.sl.halted then s
    else match s.bands.find? (·.stream == .staging) with
    | none => s
    | some b =>
      if (s.dirEnt b.stripe b.band).any fun d => d.streamLen != data.length then s
      else (s.updBand b.stripe b.band fun b => { b with stream := .staged, staged := data }).bandsOn)

/-! ## Binning -/

/-- Lookups by Loom: each counts, and stamps its cell (R104). -/
def State.lookups (ids : List Nat) (s : State) : State :=
  ids.foldl (fun s id =>
    let hit := ((s.cell id).map fun c => c.state == .resident).getD false
    let n := s.cc.counter + 1
    let s := s.updCc fun c => { c with counter := n % 2 ^ 64 }
    let s := s.updCell id fun c => { c with stamp := n % 2 ^ 64, lookedUp := true }
    s.ccStats fun t => { t with lookups := satInc 64 t.lookups, hits := if hit then satInc 64 t.hits else t.hits }) s

/-- Cells that Loom reached while rendering a band are pinned with it (R102). -/
def State.reach (stripe band : Nat) (ids : List Nat) (s : State) : State :=
  (s.updBand stripe band fun b => { b with reached := b.reached ++ ids.filter fun c => !b.reached.contains c }).notePins

/-- Loom stops on a cell or on a fault: it waits, or the stream fails (R100, R133). -/
def State.renderStop (stripe band : Nat) (e : RenderStop) (s : State) : State :=
  match e with
  | .fault f addr => (s.raise f addr).failStream stripe band
  | .bad c => (s.reach stripe band [c]).failStream stripe band
  | .wait c => (s.reach stripe band [c]).queueFetch c true

/-- The binner takes what the codec has delivered of the earliest band in Binning (R126). -/
def State.binNow (s : State) : State :=
  match s.bands.find? (·.render == .binning) with
  | none => s
  | some b =>
    let off := ((s.dirEnt b.stripe b.band).map (·.streamOffset)).getD 0
    let (r, stop) := binBand s.look b.stripe b.band s.bandRows off b.records b.binned
    let s := (s.lookups (r.cells.drop b.binned.cells.length)).updBand b.stripe b.band fun b => { b with binned := r }
    let s := (s.reach b.stripe b.band r.cells).loomStats fun l => { l with binRefsPeak := max l.binRefsPeak r.count }
    match stop with
    | none => s
    | some e => s.renderStop b.stripe b.band e

/-! ## Decoding (R59, R535) -/

/-- Raw bytes that the headers of the first k blocks of a stream name. -/
def rawBefore (stored : List Byte) (k : Nat) : Nat :=
  ((List.range k).map fun i => fld stored (blockOffset stored i + 12) 4).sum

/-- What a band's stream is held against. -/
def State.bandKind (stripe band : Nat) (s : State) : StreamKind :=
  match s.job with
  | some j => { cell := false, rasterOnly := j.hdr.rasterOnly, verMinor := j.hdr.verMinor, bandRows := j.hdr.bandRows, id1 := stripe, band := band }
  | none => { cell := false, id1 := stripe, band := band }

/-- The stream's error: reported with its file offset, and the stream fails (R77, R79). -/
def State.streamError (stripe band : Nat) (f : FaultName) (offset : Nat) (s : State) : State :=
  let base := ((s.dirEnt stripe band).map (·.streamOffset)).getD 0
  (s.raise f (base + offset)).failStream stripe band

/-- Passes on the decoded blocks whose turn has come, in stream order. -/
def State.drainBlocks (stripe band : Nat) : Nat → State → State
  | 0, s => s
  | fuel + 1, s =>
    match s.band stripe band with
    | none => s
    | some b =>
      if b.stream != .decoding then s
      else match b.decoded.find? (·.1 == b.nextBlock) with
      | none => s
      | some (k, err, bytes) =>
        let last := fld b.staged (blockOffset b.staged k + 3) 1 % 2 == 1
        match err with
        | some f => s.streamError stripe band f (blockOffset b.staged k)
        | none =>
          let sc := scanRecords (s.bandKind stripe band) last (b.rest.length + bytes.length + 1)
            { records := b.records, rest := b.rest ++ bytes, at' := b.restAt }
          let deliver (done : Bool) (s : State) : State := (s.updBand stripe band fun b =>
              { b with
                decoded := b.decoded.filter (·.1 != k), nextBlock := k + 1, records := sc.records, rest := sc.rest
                restAt := sc.at', rawTotal := b.rawTotal + bytes.length, stream := if done then .done else .decoding }).binNow
          match sc.err with
          | some (f, off) =>
            let s := deliver false s
            if (s.band stripe band).any fun b => b.nextBlock == k + 1 && b.stream == .decoding then s.streamError stripe band f off else s
          | none => State.drainBlocks stripe band fuel (deliver last s)

/-- BLOCK_DECODED: one of the 16 lanes finishes a block of a stream that is Decoding; the lanes take the 16
blocks from the one whose turn it is (log 57). A stream without a byte lacks its END (R61). A damaged staged
copy fails again (14 Table MEM-4). -/
def execBlockDecoded (t stripe band block : Nat) (s : State) : Res :=
  let s := s.atTime t
  .next (match s.band stripe band with
    | none => s
    | some b =>
      if b.stream != .decoding || block < b.nextBlock || b.nextBlock + 16 ≤ block || b.decoded.any (·.1 == block) then s
      else if b.staged.isEmpty then (s.streamError stripe band .recOrder 0).bandsOn
      else if b.staged.length ≤ blockOffset b.staged block then s
      else if b.damaged then (s.failStream stripe band).bandsOn
      else
        let (m, s) := s.inject 1 0
        let d : Nat × Option FaultName × List Byte :=
          match decodeBlockAt b.staged 0 block (rawBefore b.staged block) m with
          | .error f => (block, some f, [])
          | .ok (bytes, _) => (block, none, bytes)
        (s.updBand stripe band fun b => { b with decoded := b.decoded ++ [d] }).drainBlocks stripe band 17 |>.bandsOn)

/-! ## Binning is done -/

def State.tileCount (s : State) : Nat := s.bandRows / 4

/-- All tiles are queued and Polder begins the Chequin value afresh (R127, R129, R145). -/
def State.queueTiles (stripe band : Nat) (s : State) : State :=
  s.updBand stripe band fun b =>
    { b with
      render := .tiling, queued := List.range s.tileCount, tiles := [], working := [], overCount := 0, overFirst := none
      polder := if b.polder == .waiting then .rendering else b.polder }

/-- BINNING_DONE (R126, R128): the stream of the band in Binning is Done, and all of its records are binned. -/
def State.binningDone (s : State) : State :=
  match s.bands.find? (·.render == .binning) with
  | none => s
  | some b =>
    if b.stream != .done then s
    else
      let s := s.binNow
      match s.band b.stripe b.band with
      | none => s
      | some b =>
        if b.render != .binning || b.stream != .done || b.binned.taken < b.records.length then s
        else if b.pinsDropped then s.updBand b.stripe b.band fun b => { b with render := .waitPins }
        else s.queueTiles b.stripe b.band

/-- BINNING_DONE. -/
def execBinningDone (t : Nat) (s : State) : Res := .next (((s.atTime t).binningDone).bandsOn).binNow

/-! ## Tiles (R127, R136 to R138) -/

/-- The canonical form of the SRAM: addresses rise, and no listed word is zero, which an unlisted one reads as. -/
def sramWf (l : List (Nat × Nat)) : Bool := risingKeys l && l.all fun x => !(x.2 == 0)

/-- One row of a tile goes into Polder's SRAM (R136, R137, R534): 128 words as (check and data), with the
guard copies of the first and last; the guard words outside the stripe are zero. -/
def Polder.writeRow (p : Polder) (ring tx : Nat) (words : List Nat) : Polder :=
  let base := (ring * 512 + 8 * tx) * 18
  let cells := (words.zipIdx).flatMap fun (w, i) =>
    let at' := base + i / 16 * 18 + i % 16 + 1
    (if i % 16 = 0 && i ≠ 0 then [(at' - 1 - 18 + 17, w)] else []) ++ [(at', w)] ++
    (if i % 16 = 15 && i ≠ 127 then [(at' + 1 + 1, w)] else [])
  let l := sparseSpan (· == 0) p.sram (base + 1) (base + 7 * 18 + 17) cells
  let first := words.headD 0
  let last := words.getLastD 0
  let l := if tx = 0 then sparseSet l base 0 true else sparseSet l (base - 1) first (first == 0)
  let at' := base + 8 * 18
  let l := if tx = 63 then sparseSet l (at' - 1) 0 true else sparseSet l at' last (last == 0)
  { p with sram := l }

/-- The words of a row of doses, encoded, with injected check-bit masks (R136, R534). -/
def State.encodeRow (slice0 : Nat) (doses : List Nat) (s : State) : List Nat × State :=
  (List.range 128).foldl (fun (acc : List Nat × State) i =>
    let d := doses.getD (2 * i) 0 + 4096 * doses.getD (2 * i + 1) 0
    let (m, s) := acc.2.inject 4 (slice0 + i / 16)
    (acc.1 ++ [(checkBits 24 6 d).xor (m % 64) * 2 ^ 24 + d], s)) ([], s)

/-- One row of a tile goes to Polder, if the ring still holds it (R151). -/
def State.storeRow (stripe band tile : Nat) (doses : List Nat) (s : State) (r : Nat) : State :=
  let y := s.bandRows * band + 256 * (tile / 64) + r
  let (words, s) := s.encodeRow (8 * (tile % 64)) ((doses.drop (256 * r)).take 256)
  if s.pol.stripe = stripe && s.pol.holds y then { s with pol := s.pol.writeRow (y % 28672) (tile % 64) words } else s

/-- A tile goes to Polder. -/
def State.storeTile (stripe band tile : Nat) (doses : List Nat) (s : State) : State :=
  (List.range 256).foldl (State.storeRow stripe band tile doses) s

/-- The first over-covered pair of a render (R124). -/
def firstOver (l : List TileOut) : Option (Nat × Nat × Nat) :=
  minBy (fun (r, c, y) => (r * 16384 + c) * 16 + y) (l.filterMap (·.first))

/-- The last tile of a band is written: over-coverage (R125), then the compare (R147, R148). -/
def State.bandWritten (stripe band : Nat) (s : State) : State :=
  match s.band stripe band with
  | none => s
  | some b =>
    let overs := min 0xFFFFFFFF (b.tiles.map (·.overs)).sum
    let s := s.updBand stripe band fun b => { b with render := .written, overCount := overs, overFirst := firstOver b.tiles }
    let s := s.loomStats fun l => { l with
      renders := l.renders + 1, overcoverBands := l.overcoverBands + (decide (0 < overs)).toNat, overcoverPairs := l.overcoverPairs + overs }
    let s := s.raiseUnless (overs == 0 || s.loom.overMode == 0) .overcover (addrBand stripe band)
    if 0 < overs && s.loom.overMode = 2 then s.failStream stripe band
    else
      let (m, s) := s.inject 3 0
      let v := (chequin stripe band s.bandRows b.tiles).xor (m % 2 ^ 64)
      let s := s.updBand stripe band fun b => { b with computed := v }
      if v = ((s.dirEnt stripe band).map (·.chequin)).getD 0 then s.release stripe band
      else s.renderFailed stripe band false

/-- A unit out of service, with UNIT_PARITY (R130): the stream of the band whose tile it held fails. -/
def State.unitParity (unit : Nat) (s : State) : State :=
  let held := s.bands.find? fun b => b.working.any (·.unit == unit)
  let s := s.raise .unitParity unit
  let s := { s with loom := { s.loom with inService := s.loom.inService &&& ~~~(1#256 <<< unit) } }
  (match held with
    | some b => s.failStream b.stripe b.band
    | none => s).testUnits

/-- A tile counts as written, and with the last one the band. -/
def State.noteTile (stripe band : Nat) (out : TileOut) (s : State) : State :=
  let s := s.updBand stripe band fun b => { b with tiles := b.tiles ++ [out] }
  if ((s.band stripe band).map (·.tiles.length)) = some s.tileCount then s.bandWritten stripe band else s

/-- The tile of a unit is rendered: the cells that it looked up, its counts, and its rows in Polder. An upset
of the encoder fails the stream (R136). -/
def State.tileDone (b : Band) (w : Work) (r : TileRender) (encoderUpset : Bool) (s : State) : State :=
  let s := State.leaveTile b.stripe b.band s w
  let s := (s.lookups (r.reached.filter fun c => !w.looked.contains c)).reach b.stripe b.band r.reached
  let s := s.loomStats fun l => { l with tiles := l.tiles + 1, instanceTests := l.instanceTests + r.tests, rowSteps := l.rowSteps + r.rowSteps }
  if encoderUpset then (s.raise .writeCheck (addrBand b.stripe b.band)).failStream b.stripe b.band
  else (s.storeTile b.stripe b.band w.tile r.out.doses).noteTile b.stripe b.band r.out

/-- The tile of a unit stops: what it has looked up counts and is pinned (R102, R104). It waits for a cell, with
references on those whose placements it is expanding (R96), or the stream fails. -/
def State.tileStops (b : Band) (w : Work) (e : RenderStop) (g : Gather) (s : State) : State :=
  let s := (s.lookups (g.reached.filter fun c => !w.looked.contains c)).reach b.stripe b.band g.reached
  let s := match e with
    | .wait c => s.updBand b.stripe b.band fun b => { b with working := b.working.map fun (w' : Work) =>
        if w'.unit == w.unit then { w' with waiting := some (w'.waiting.getD (c, s.now)), looked := g.reached, refs := g.refs } else w' }
    | _ => s
  s.renderStop b.stripe b.band e

/-- TILE_WRITTEN. -/
def State.tileWritten (unit : Nat) (encoderUpset : Bool) (s : State) : State :=
  match s.bands.find? fun b => b.working.any (·.unit == unit) with
    | none => s
    | some b => match b.working.find? (·.unit == unit) with
      | none => s
      | some w =>
        let off := ((s.dirEnt b.stripe b.band).map (·.streamOffset)).getD 0
        let (parity, s) := s.inject 8 unit
        if parity % 2 = 1 then s.unitParity unit
        else match renderTile s.look b.stripe b.band s.bandRows w.tile off b.binned.refs b.records with
        | .error (e, g) => s.tileStops b w e g
        | .ok r => s.tileDone b w r encoderUpset

/-- TILE_WRITTEN. -/
def execTileWritten (t : Nat) (unit : Nat) (encoderUpset : Bool) (s : State) : Res := .next ((s.atTime t).tileWritten unit encoderUpset).bandsOn

/-- UNIT_PARITY (R130). -/
def execUnitParity (t unit : Nat) (s : State) : Res := .next ((s.atTime t).unitParity (unit % 256)).bandsOn

/-! ## Cells (R95 to R105) -/

/-- A cell becomes Bad (R94, R95, R100): its fault, its pages, and the streams of the bands that need it. One
not yet staged has no output that could fail; it fails as Loom reaches the cell (log 57). -/
def State.cellBad (id : Nat) (f : FaultName) (s : State) : State :=
  let pages := ((s.cell id).map (·.pages)).getD []
  let s := s.raise f id
  let s := s.updCell id fun c => { c with state := .bad, pages := [], body := none, stored := [] }
  let s := (s.ccStats fun c => { c with badCells := c.badCells + 1 }).freePages pages
  let need := s.bands.filter fun b =>
    (b.claimed || b.pinned) && (b.stream == .staged || b.stream == .decoding || b.stream == .done) && (s.bandCells b).contains id
  need.foldl (fun s b => s.failStream b.stripe b.band) s

/-- Drops the pins of a band (R105): its partial render is discarded. -/
def State.dropPins (stripe band : Nat) (s : State) : State :=
  (((s.idleUnits stripe band).updBand stripe band fun b =>
    { b with
      pinned := false, pinsDropped := true, render := if b.render == .tiling then .waitPins else b.render
      tiles := [], queued := [], working := [] }).demoteQueue).ccStats fun c => { c with pinDrops := c.pinDrops + 1 }

/-- The earliest unreleased band of the window. -/
def State.earliestUnreleased (s : State) : Option Band :=
  s.bands.find? fun b => b.polder == .waiting || b.polder == .rendering || b.polder == .faulted

/-- Space for a pinned fetch, dropping pins band by band while some band still pins the cell (R105); the band
that no longer fits, if any. -/
def State.pinnedAlloc (id rawLen : Nat) : Nat → State → Option (List Nat × Nat × State) × State × Option Band
  | 0, s => (none, s, none)
  | fuel + 1, s =>
    match s.allocCell true rawLen with
    | some r => (some r, r.2.2, none)
    | none =>
      let first := s.earliestUnreleased
      let pins := s.bands.filter (·.pinned)
      match (pins.filter fun b => first.map bandKey != some (bandKey b)).getLast? with
      | some b =>
        let s := s.dropPins b.stripe b.band
        if s.pinnedCells.contains id then State.pinnedAlloc id rawLen fuel s else (none, s, none)
      | none => (none, s, pins.head?)

/-- CELL_FETCH_START (R97, R99, R103 to R105). -/
def execCellFetchStart (t : Nat) (s : State) : Res :=
  let s := s.atTime t
  let first := (s.cc.queue.find? (·.2)).orElse fun _ => s.cc.queue.head?
  .next (match first with
    | none => s
    | some (id, pinned) => match s.cell id with
      | none => s.updCc fun cc => { cc with queue := cc.queue.filter (·.1 != id) }
      | some c =>
        let transit := ((s.cc.cells.filter (·.busy)).map (·.ent.storedLen)).sum
        if s.sl.halted || 256 ≤ (s.cc.cells.filter (·.state == .fetching)).length || 2 ^ 28 < transit + c.ent.storedLen then s
        else
          let start (r : List Nat × Nat × State) : State :=
            let s := r.2.2.assignUnits.updCc fun cc => { cc with queue := cc.queue.filter (·.1 != id) }
            let s := s.updCell id fun c =>
              { c with state := .fetching, second := false, pages := r.1, granules := r.2.1, prefetched := !pinned, lookedUp := false }
            (s.ccStats fun k => { k with
              demandFetches := k.demandFetches + pinned.toNat, prefetches := k.prefetches + (!pinned).toNat }).notePins
          if !pinned then
            match s.allocCell false c.ent.rawLen with
            | some r => start r
            | none => s
          else match s.pinnedAlloc id c.ent.rawLen 40 with
            | (some r, _, _) => start r
            | (none, s, some b) => (((s.raise .cellCapacity id).failStream b.stripe b.band)).bandsOn
            | (none, s, none) => s.bandsOn)

/-- PIN_RESTORE (R105): the first band whose pins were dropped takes them again once space allows, that is with
all its cells held or a page to be had for one (log 57), and its render starts over. -/
def execPinRestore (t : Nat) (s : State) : Res :=
  let s := s.atTime t
  .next (match s.bands.find? (·.pinsDropped) with
    | none => s
    | some b =>
      let here := (s.bandCells b).all fun id => ((s.cell id).map Cell.held).getD true
      if !here && (s.takePage true []).isNone then s
      else
        let s := s.pinBand b.stripe b.band
        if b.render == .waitPins then
          (((s.queueTiles b.stripe b.band).loomStats fun l => { l with restarts := l.restarts + 1 })).bandsOn
        else s)

/-- CELL_FETCH_DONE (R97): the stored bytes have arrived. -/
def execCellFetchDone (t cell : Nat) (data : List Byte) (s : State) : Res :=
  let s := s.atTime t
  .next (match s.cell cell with
    | none => s
    | some c =>
      if c.state != .fetching || s.sl.halted then s
      else
        let s := s.ccStats fun k => { k with storedBytes := k.storedBytes + c.ent.storedLen }
        let (m, s) := s.inject 2 0
        if (crc32c data cell).xor (m % 2 ^ 32) = c.ent.check && data.length = c.ent.storedLen then
          s.updCell cell fun c => { c with state := .decoding, stored := data }
        else if !c.second then
          ((s.updCell cell fun c => { c with second := true }).ccStats fun k => { k with retries := k.retries + 1 }).raise .cellRetry cell
        else (s.cellBad cell .cellCheck).bandsOn)

/-- A cell body decoded block by block: its records and decoded total, or its first error (R535). -/
def decodeBody (stored : List Byte) (id : Nat) : Nat → Nat → Nat → RecScan → State → Except FaultName (RecScan × Nat) × State
  | 0, _, total, sc, s => (.ok (sc, total), s)
  | fuel + 1, k, total, sc, s =>
    let (m, s) := s.inject 1 0
    match decodeBlockAt stored 1 k total m with
    | .error f => (.error f, s)
    | .ok (bytes, last) =>
      let sc := scanRecords { cell := true, id1 := id } last (sc.rest.length + bytes.length + 1) { sc with rest := sc.rest ++ bytes }
      match sc.err with
      | some (f, _) => (.error f, s)
      | none => if last then (.ok (sc, total + bytes.length), s) else decodeBody stored id fuel (k + 1) (total + bytes.length) sc s

/-- The body that decoded records make. -/
def cellBodyOf (records : List (Nat × Record)) : Option CellBody :=
  match records.map (fun (p : Nat × Record) => p.2) with
  | Record.cellDef id h x0 y0 x1 y1 :: body => some { id := id, height := h, minX := x0, minY := y0, maxX := x1, maxY := y1, body := body }
  | _ => none

/-- CELL_DECODE_DONE (R98). -/
def execCellDecodeDone (t cell : Nat) (s : State) : Res :=
  let s := s.atTime t
  .next (match s.cell cell with
    | none => s
    | some c =>
      if c.state != .decoding then s
      else match decodeBody c.stored cell 65537 0 0 { records := [], rest := [], at' := 0 } s with
        | (.error f, s) => (s.cellBad cell f).bandsOn
        | (.ok (sc, total), s) =>
          let s := s.ccStats fun k => { k with decodedBytes := k.decodedBytes + total }
          if total ≠ c.ent.rawLen then (s.cellBad cell .cellRaw).bandsOn
          else (((s.updCell cell fun c => { c with state := .resident, stored := [], body := cellBodyOf sc.records }).endWaits cell).binNow).bandsOn)

/-! ## The peer's bands (R152, R153) -/

/-- A band report from the peer. -/
def State.peerBand (stripe band outcome computed : Nat) (s : State) : State :=
  let s := (s.ensureBand stripe band).updBand stripe band fun b =>
    { b with peerReleased := if outcome = 1 then some computed else none }
  match s.band stripe band with
  | none => s
  | some b =>
    let s := s.raiseUnless (!(outcome == 1 && b.polder == .released && b.computed != computed)) .twinChequin (addrBand stripe band)
    let s := s.clearBandCauses
    if b.polder == .faulted && !s.bandReady stripe band then s.cause (.bandData stripe band) else s

end Sys2Proof.Machine
end

