-- ==== Sys2Proof/Machine/Shuttle.lean ====
section
/-! DEFINITION. Shuttle (06): the deflector model, the two flash slots, and the codes of a flash; with the
reads of Polder that it makes (05 R143, R150, R154). -/

namespace Sys2Proof.Machine
open Sys2Proof

/-! ## The slack monitor's measurements (01 R28) -/

/-- A newly measured flash: its work time enters the window of 4,096. -/
def State.noteFlash (f : Option Nat) (w : Nat) (s : State) : State :=
  let l := s.slack.window ++ [(f, w)]
  { s with slack := { s.slack with window := l.drop (l.length - 4096), measured := min 4096 (s.slack.measured + 1) } }

/-- The newest entry of a flash, with a work time that is larger in place of its own. -/
def maxWork (f w : Nat) : List (Option Nat × Nat) → Option (List (Option Nat × Nat))
  | [] => none
  | x :: l => match maxWork f w l with
    | some l' => some (x :: l')
    | none => if x.1 = some f then some ((x.1, max x.2 w) :: l) else none

/-- Another pipeline's work time for a flash; the flash is measured with it when no other has been. -/
def State.noteWork (f w : Nat) (s : State) : State :=
  match maxWork f w s.slack.window with
  | some l => { s with slack := { s.slack with window := l } }
  | none => s.noteFlash (some f) w

/-! ## Tables (R178 to R181) -/

def kGeometry : Nat := 1
def kGain : Nat := 2
def kStandin : Nat := 3
def kDose : Nat := 4
def kLag : Nat := 5

/-- Bytes of an entry of a table kind (Table SHUTTLE-3). -/
def entrySize (kind : Nat) : Nat :=
  match kind with
  | 1 => 8
  | 2 => 2
  | 3 => 16
  | 4 => 2
  | _ => 4

def State.table (kind : Nat) (s : State) : Table := s.sh.tables.getD (kind - 1) {}

/-- First entry of a 64-bit SRAM word of a table. -/
def wordEntry (kind word : Nat) : Nat := word * 8 / entrySize kind

/-- A 64-bit difference in one word, applied to the entries of the table. -/
def flipWord (kind word diff : Nat) (entries : List Nat) : List Nat :=
  let size := entrySize kind
  if diff = 0 then entries
  else if size = 16 then listUpd entries (word / 2) fun e => e.xor (diff * 2 ^ (64 * (word % 2)))
  else (List.range (8 / size)).foldl (fun l i =>
    listUpd l (word * (8 / size) + i) fun e => e.xor (diff / 2 ^ (8 * size * i) % 2 ^ (8 * size))) entries

/-- The words of a table that do not read clean: each with the difference of its returned data, or
none when it is uncorrectable. Upsets come as (kind × 2^20 + word, difference of the word's 72 bits). -/
def State.badWords (kind : Nat) (upsets : List (Nat × Nat)) (s : State) : List (Nat × Option Nat) :=
  let tab := s.table kind
  let ups := (upsets.filter fun u => u.1 / 2 ^ 20 == kind).map fun u => (u.1 % 2 ^ 20, u.2)
  let words := tab.bad.map (·.1) ++ (ups.map (·.1)).filter fun w => !tab.bad.any (·.1 == w)
  words.filterMap fun w =>
    let u := ((ups.find? (·.1 == w)).map (·.2)).getD 0
    let du := u % 2 ^ 64
    let syn := ((sparseGet 0 tab.bad w).xor (u / 2 ^ 64 % 256)).xor (checkBits 64 8 du)
    match eccDecode 64 8 syn with
    | .clean => if du = 0 then none else some (w, some du)
    | .corrected none => some (w, some du)
    | .corrected (some i) => some (w, some (du.xor (2 ^ i)))
    | .uncorrectable => some (w, none)

/-- Reads of table words: corrected ones count, an uncorrectable one voids every flash until the table
is loaded again, and raises TABLE_ECC once for each word until then (R181, log 54). -/
def State.readWords (kind : Nat) (words : List (Nat × Option Nat)) (s : State) : State :=
  words.foldl (fun s w => match w.2 with
    | some _ => { s with sh := { s.sh with stats := { s.sh.stats with eccCorrected := s.sh.stats.eccCorrected + 1 } } }
    | none =>
      if s.sh.eccWords.contains (kind, w.1) then s
      else
        let s := s.raise .tableEcc (kind * 2 ^ 40 + wordEntry kind w.1)
        { s with sh := { s.sh with
            eccWords := s.sh.eccWords ++ [(kind, w.1)]
            voidKinds := if s.sh.voidKinds.contains kind then s.sh.voidKinds else s.sh.voidKinds ++ [kind] } }) s

/-- The entries as they read. -/
def State.entriesRead (kind : Nat) (words : List (Nat × Option Nat)) (s : State) : List Nat :=
  words.foldl (fun l w => match w.2 with
    | some d => flipWord kind w.1 d l
    | none => l) (s.table kind).entries

/-- A geometry entry as (gx, gy). -/
def geomOf (e : Nat) : Int × Int := (wrapS 32 (Int.ofNat (e % 2 ^ 32)), wrapS 32 (Int.ofNat (e / 2 ^ 32)))

/-- A stand-in entry as (dead, stand-in, delta, g2). -/
def standinOf (e : Nat) : Nat × Nat × Int × Nat :=
  (e % 2 ^ 32, e / 2 ^ 32 % 2 ^ 32, wrapS 16 (Int.ofNat (e / 2 ^ 64 % 2 ^ 16)), e / 2 ^ 80 % 4096)

/-- R171 for gy. -/
def gyOk (gy : Int) : Bool := decide (-4193664 ≤ gy ∧ gy ≤ -384)

/-! ## The deflector model (R165) -/

/-- One axis: the new model state and d. -/
def deflStep (mode k : Nat) (resync : Bool) (dm cprev : Int) : Int × Int :=
  if mode = 1 then (dm, 0)
  else
    let dm := if resync then cprev * 65536 else dm + roundHalfUp ((cprev * 65536 - dm) * k) 65536
    (dm, roundHalfUp dm 65536)

/-- The model advances for a record; its residual. -/
def State.deflect (f : FlashRec) (s : State) : (Int × Int) × State :=
  let words := (s.badWords kLag s.sh.lagUpset).filter fun w => w.1 == min f.dt 4095 / 2
  let read := s.sh.deflMode ≠ 1 && !f.resync
  let s := if read then s.readWords kLag words else s
  let k := if read then (s.entriesRead kLag words).getD (min f.dt 4095) 0 else 0
  let x := deflStep s.sh.deflMode k f.resync s.sh.dmx f.cprevx
  let y := deflStep s.sh.deflMode k f.resync s.sh.dmy f.cprevy
  ((f.ex - x.2, f.ey - y.2),
   { s with sh := { s.sh with before := s.sh.before ++ [(f.flash, s.sh.dmx, s.sh.dmy)], dmx := x.1, dmy := y.1 } })

/-! ## Flash slots (R182, R183, R537) -/

def State.updSlot (i : Nat) (f : Slot → Slot) (s : State) : State :=
  { s with sh := { s.sh with slots := listUpd s.sh.slots i f } }

def State.slotState (i : Nat) (s : State) : SlotState := (s.sh.slots.getD i {}).state

/-- The first slot that may take a record: Empty, and the other not Computing. -/
def State.openSlot (s : State) : Option Nat :=
  [0, 1].find? fun i => s.slotState i == SlotState.empty && s.slotState (1 - i) != SlotState.computing

/-- A record enters Computing in a slot. -/
def State.startSlot (i : Nat) (f : FlashRec) (tn : Nat) (s : State) : State :=
  let (r, s) := s.deflect f
  s.updSlot i fun _ => { state := .computing, record := some f, tn := tn, rx := r.1, ry := r.2 }

/-- The waiting record enters a slot once it may. -/
def State.pumpSlots (s : State) : State :=
  match s.sh.waiting, s.openSlot with
  | some (f, tn), some i => { s with sh := { s.sh with waiting := none } }.startSlot i f tn
  | _, _ => s

/-- D_n (08 R241). -/
def frameDeadline (tn : Nat) : Nat := tn - 7168

def State.shStats (f : ShStats → ShStats) (s : State) : State := { s with sh := { s.sh with stats := f s.sh.stats } }

/-- SLOT_LATE (R182, R537). -/
def State.slotLate (flash : Nat) (s : State) : State :=
  (s.raise .slotLate flash).shStats fun t => { t with late := t.late + 1 }

/-- SHUTTLE_RECORD_ARRIVAL (R163, R182, R537). -/
def State.recordArrives (f : FlashRec) (tn : Nat) (s : State) : State :=
  if frameDeadline tn < s.now then (s.deflect f).2.slotLate f.flash
  else match s.openSlot with
    | some i => s.startSlot i f tn
    | none => { s with sh := { s.sh with waiting := some (f, tn) } }

/-- Withdrawal of a flash and every later one (R183). -/
def State.shWithdraw (first : Nat) (s : State) : State :=
  let hit (sl : Slot) : Bool :=
    (sl.state == .computing || sl.state == .complete) && (sl.record.map fun f => decide (first ≤ f.flash)).getD false
  let n := (s.sh.slots.filter hit).length
  let dm := ((s.sh.before.find? fun b => decide (first ≤ b.1)).map (·.2)).getD (s.sh.dmx, s.sh.dmy)
  let waiting := s.sh.waiting.filter fun w => decide (w.1.flash < first)
  ({ s with sh := { s.sh with
    slots := s.sh.slots.map fun (sl : Slot) => if hit sl then ({} : Slot) else sl
    waiting := waiting, dmx := dm.1, dmy := dm.2
    before := s.sh.before.filter fun b => decide (b.1 < first)
    stats := { s.sh.stats with withdrawn := s.sh.stats.withdrawn + n } } }).pumpSlots

/-- Every slot and the record buffer are emptied: stripe-abort, job end, Boot. -/
def State.shClear (s : State) : State :=
  { s with sh := { s.sh with slots := List.replicate 2 {}, waiting := none, before := [] } }

/-! ## Landing points and samples (R167 to R175) -/

/-- What the reads of a flash find besides values: clamps, Polder words that were corrected or
uncorrectable, dose words read that do not read clean. -/
structure Seen where
  clamped : Bool := false
  corrected : List Nat := []
  bad : List Nat := []
  dose : List Nat := []
  deriving DecidableEq, Repr

/-- What is fixed for all beams of a flash. -/
structure FlashIn where
  m : Nat
  p : Nat
  th : Int
  rx : Int
  ry : Int
  sram : List (Nat × Nat)
  upsets : List (Nat × Nat)
  /-- rows of the stripe's bands, and whether Polder answers a row with stored data -/
  rows : Nat
  stored : Nat → Bool
  dose : List Nat
  suspect : List Nat

/-- A row of Polder as Shuttle reads it (05 R143): stored data when the ring holds it and its band is
released. -/
def State.rowStored (stripe : Nat) (released : List Nat) (s : State) (y : Nat) : Bool :=
  s.pol.stripe == stripe && s.pol.holds y && released.contains (y / s.bandRows)

/-- SRAM address of the word of slice j that holds column c of row Y (05 R136). -/
def wordAddr (j : Nat) (c : Int) (y : Nat) : Nat := (y % 28672 * 512 + j) * 18 + (c - (32 * j - 2)).toNat / 2

/-- A word of Polder's SRAM read through its check (05 R150): the pixel of column c, and what was found. -/
def wordRead (v a : Nat) (c : Int) (e : Seen) : Nat × Seen :=
  let d := v % 2 ^ 24
  let half (d : Nat) : Nat := if c % 2 = 0 then d % 4096 else d / 4096
  match eccDecode 24 6 ((v / 2 ^ 24).xor (checkBits 24 6 d)) with
  | .clean => (half d, e)
  | .corrected x =>
    let d := match x with
      | some i => d.xor (2 ^ i)
      | none => d
    (half d, if e.corrected.contains a then e else { e with corrected := e.corrected ++ [a] })
  | .uncorrectable => (0, if e.bad.contains a then e else { e with bad := e.bad ++ [a] })

/-- P(c, Y) through slice j. -/
def pixelRead (f : FlashIn) (j : Nat) (c y : Int) (e : Seen) : Nat × Seen :=
  if y < 0 || (f.rows : Int) ≤ y || !f.stored y.toNat then (0, e)
  else
    let a := wordAddr j c y.toNat
    wordRead ((sparseGet 0 f.sram a).xor (sparseGet 0 f.upsets a % 2 ^ 30)) a c e

/-- The point where an offset (gx, gy) lands, with `dy` added along the scan (R167, R175). -/
def landing (f : FlashIn) (gx gy dy : Int) (e : Seen) : (Int × Int) × Seen :=
  let yx := roundHalfUp (-f.th * (gy + 2097152)) (2 ^ 32)
  let yy := roundHalfUp (f.th * (gx - 2097152)) (2 ^ 32)
  let ux := clampInt (yx + f.rx) (-256) 256
  let uy := clampInt (yy + f.ry) (-256) 256
  ((gx + ux, f.m * f.p + (gy + dy) + uy),
   if ux = yx + f.rx ∧ uy = yy + f.ry then e else { e with clamped := true })

/-- The bilinear sample at (X, Y) through slice j (R169). -/
def sampleAt (f : FlashIn) (j : Nat) (x y : Int) (e : Seen) : Nat × Seen :=
  let u := x - 128
  let v := y - 128
  let c0 := floorDiv u 256
  let fx := (u - 256 * c0).toNat
  let r0 := floorDiv v 256
  let fy := (v - 256 * r0).toNat
  let (p00, e) := pixelRead f j c0 r0 e
  let (p10, e) := pixelRead f j (c0 + 1) r0 e
  let (p01, e) := pixelRead f j c0 (r0 + 1) e
  let (p11, e) := pixelRead f j (c0 + 1) (r0 + 1) e
  (p00 * ((256 - fx) * (256 - fy)) + p10 * (fx * (256 - fy)) + p01 * ((256 - fx) * fy) + p11 * (fx * fy), e)

/-- The code of a beam that is not dead (R169, R175): `share` is its stand-in share, as the dead beam's
geometry, Δ and g2. -/
def beamCode (f : FlashIn) (j gain : Nat) (g : Int × Int) (share : Option ((Int × Int) × Int × Nat)) (e : Seen) : Nat × Seen :=
  let (xy, e) := landing f g.1 g.2 0 e
  let (smp, e) := sampleAt f j xy.1 xy.2 e
  let (t2, e) := match share with
    | none => (0, e)
    | some (gd, delta, g2) =>
      let (xy, e) := landing f gd.1 gd.2 (delta * f.p) e
      let (s2, e) := sampleAt f j xy.1 xy.2 e
      (s2 * g2, e)
  let idx := min 4095 ((smp * gain + t2 + 2 ^ 26) / 2 ^ 27)
  (f.dose.getD idx 0 % 1024,
   if f.suspect.contains (idx / 4) && !e.dose.contains (idx / 4) then { e with dose := e.dose ++ [idx / 4] } else e)

/-- A list cut into rows of n. -/
def rowsOf (n : Nat) : Nat → List Nat → List (List Nat)
  | 0, _ => []
  | k + 1, l => l.take n :: rowsOf n k (l.drop n)

/-- All codes of a flash, row by row. -/
def flashCodes (f : FlashIn) (geom gain : List Nat) (standins : List (Nat × Nat × Int × Nat)) : List (List Nat) × Seen :=
  let r := ((geom.zip gain).zipIdx).foldl (fun (acc : List Nat × Seen) x =>
    let b := x.2
    if x.1.2.testBit 15 then (0 :: acc.1, acc.2)
    else
      let share := (standins.find? fun t => t.2.1 == b).map fun t => (geomOf (geom.getD t.1 0), t.2.2.1, t.2.2.2)
      let (c, e) := beamCode f (b % 512) (x.1.2 % 4096) (geomOf x.1.1) share acc.2
      (c :: acc.1, e)) ([], {})
  (rowsOf 512 512 r.1.reverse, r.2)

/-! ## Polder's side of a flash (05 R150, R154) -/

/-- Lead(m) (05 R139). -/
def leadRow (m p : Nat) : Nat := m * p / 256

/-- Bands of a stripe with a row in the footprint of flash m. -/
def State.footBands (m p : Nat) (s : State) : List Nat :=
  let lead := leadRow m p
  let n := (s.job.map fun j => j.hdr.bandsPerStripe).getD 0
  let lo := (lead - 16383) / s.bandRows
  ((List.range (lead / s.bandRows + 1)).drop lo).filter (· < n)

/-- An uncorrectable word makes its band Faulted (R150, R153); each such word is reported (R152). -/
def State.bandData (stripe band : Nat) (s : State) : State :=
  match s.band stripe band with
  | none => s
  | some b =>
    if b.polder != .released then s.report stripe band 4 false
    else
      let s := (s.updBand stripe band fun b => { b with polder := .faulted }).report stripe band 4 false
      if s.bandReady stripe band then s else s.cause (.bandData stripe band)

/-- The corrected and uncorrectable words of a flash's reads. -/
def State.polderReads (stripe lead : Nat) (e : Seen) (s : State) : State :=
  let addr (a : Nat) : Nat := a / 18 % 512 * 2 ^ 32 + a % 18 * 2 ^ 24 + a / 18 / 512
  -- the pattern row that a ring row holds in this footprint
  let rowOf' (a : Nat) : Nat := let ring := a / 18 / 512; lead - (lead + 28672 - ring) % 28672
  let s := match e.corrected with
    | [] => s
    | a :: _ =>
      let s := s.raiseUnless s.pol.eccRaised .eccCorrected (addr a)
      { s with pol := { s.pol with eccRaised := true, stats := { s.pol.stats with eccCorrected := s.pol.stats.eccCorrected + e.corrected.length } } }
  e.bad.foldl (fun s a =>
    let s := (s.raise .eccUncorrectable (addr a)).polStats fun t => { t with eccUncorrectable := t.eccUncorrectable + 1 }
    s.bandData stripe (rowOf' a / s.bandRows)) s

/-- BAND_UNAVAILABLE, once for each episode of a band (R154). -/
def State.unavailable (stripe flash : Nat) (bands : List Nat) (s : State) : State :=
  bands.foldl (fun s n =>
    let s := s.ensureBand stripe n
    if ((s.band stripe n).map (·.unavailable)).getD false then s
    else (s.updBand stripe n fun b => { b with unavailable := true }).raise .bandUnavailable flash) s

/-! ## LANE_ENGINES_DONE (R182) -/

/-- What the lane engines of a flash deliver: the codes, what they met, and the table words in error that they
read, as `badWords` gives them. -/
structure LaneWork where
  codes : List (List Nat)
  seen : Seen
  geometry : List (Nat × Option Nat)
  gain : List (Nat × Option Nat)
  standin : List (Nat × Option Nat)
  dose : List (Nat × Option Nat)

/-- The lane engines at work on the flash of a slot. -/
def State.laneWork (f : FlashRec) (st : Stripe) (sl : Slot) (pixelUpset tableUpset : List (Nat × Nat)) (s : State) : LaneWork :=
  let gw := s.badWords kGeometry tableUpset
  let nw := s.badWords kGain tableUpset
  let sw := if s.sh.standinEnable = 1 then s.badWords kStandin tableUpset else []
  let qw := s.badWords kDose tableUpset
  let gain := s.entriesRead kGain nw
  let standins := if s.sh.standinEnable = 1 then (s.entriesRead kStandin sw).map standinOf else []
  let live (b : Nat) : Bool := !(gain.getD b 0).testBit 15 || standins.any (·.1 == b)
  let gw := gw.filter fun x => live x.1
  let released := (s.bands.filter fun b => b.stripe == st.stripe && b.polder == .released).map (·.band)
  let fin : FlashIn := {
    m := f.m, p := st.p, th := if s.sh.yawEnable = 1 then f.theta else 0, rx := sl.rx, ry := sl.ry
    sram := s.pol.sram, upsets := pixelUpset
    rows := s.bandRows * ((s.job.map fun j => j.hdr.bandsPerStripe).getD 0)
    stored := s.rowStored st.stripe released
    dose := s.entriesRead kDose qw, suspect := qw.map (·.1) }
  let (codes, e) := flashCodes fin (s.entriesRead kGeometry gw) gain standins
  { codes := codes, seen := e, geometry := gw, gain := nw, standin := sw, dose := qw.filter fun x => e.dose.contains x.1 }

/-- What the lane engines of a flash met is reported, and its slot is Complete. -/
def State.slotComplete (i w : Nat) (f : FlashRec) (st : Stripe) (k : LaneWork) (s : State) : State :=
  let s := (((s.readWords kGeometry k.geometry).readWords kGain k.gain).readWords kStandin k.standin).readWords kDose k.dose
  let s := s.polderReads st.stripe (leadRow f.m st.p) k.seen
  let missing := (s.footBands f.m st.p).filter fun n =>
    !((s.band st.stripe n).map fun b => b.polder == .released).getD false
  let s := s.unavailable st.stripe f.flash missing
  let s := s.raiseUnless (!k.seen.clamped || s.sh.clampRaised) .placeClamp f.flash
  let s := { s with sh := { s.sh with clampRaised := s.sh.clampRaised || k.seen.clamped } }
  let s := s.shStats fun t => { t with wMaxNs := max t.wMaxNs w, clamped := t.clamped + k.seen.clamped.toNat }
  (s.updSlot i fun sl => { sl with
    state := .complete, codes := k.codes, clamped := k.seen.clamped
    unavailable := !missing.isEmpty || !k.seen.bad.isEmpty, tableVoid := !s.sh.voidKinds.isEmpty }).noteFlash (some f.flash) w

/-- All 512 lane engines deliver their codes for a flash. Upsets of Polder words come as (SRAM address,
difference of the word's 30 bits), those of table words as (kind × 2^20 + word, difference of its 72 bits);
the lag table is read at the next update of the deflector model. -/
def State.lanesDone (flash w : Nat) (pixelUpset tableUpset : List (Nat × Nat)) (s : State) : State :=
  let s := { s with sh := { s.sh with lagUpset := tableUpset.filter fun u => u.1 / 2 ^ 20 == kLag } }
  match [0, 1].find? fun i => s.slotState i == SlotState.computing && ((s.sh.slots.getD i {}).record.map (·.flash)) == some flash with
  | none => s
  | some i =>
    let sl := s.sh.slots.getD i {}
    match sl.record, s.hem.stripe with
    | some f, some st => s.slotComplete i w f st (s.laneWork f st sl pixelUpset tableUpset)
    | _, _ => s

end Sys2Proof.Machine
end

