-- ==== Sys2Proof/Machine/Line.lean ====
section
/-! DEFINITION. The line coding of a Cuff transmit lane (08 R230 to R233): its payload words, codeword
groups, Reed–Solomon parity, Gray map, PAM4 levels and precoding, and the word slots of its frames. -/

namespace Sys2Proof.Machine
open Sys2Proof

/-! ## Codewords (R230, R232) -/

/-- Times x in GF(2^10) with x^10 + x^3 + 1, the field of IEEE 802.3 clause 91. -/
def gf10X (a : Nat) : Nat := if a.testBit 9 then (2 * a).xor 0x409 else 2 * a

def gf10Mul (a b : Nat) : Nat := (List.range 10).foldr (fun i acc => (gf10X acc).xor (if b.testBit i then a else 0)) 0

def gf10Alpha : Nat → Nat
  | 0 => 1
  | n + 1 => gf10X (gf10Alpha n)

/-- The product of (x − α^j) for j below n, highest coefficient first. -/
def rsGenerator : Nat → List Nat
  | 0 => [1]
  | n + 1 => List.zipWith Nat.xor (rsGenerator n ++ [0]) (0 :: (rsGenerator n).map (gf10Mul (gf10Alpha n)))

/-- The 30 parity symbols of 514 message symbols. -/
def rsParity (msg : List Nat) : List Nat :=
  let g := (rsGenerator 30).drop 1
  msg.foldl (fun p m => List.zipWith Nat.xor (p.drop 1 ++ [0]) (g.map (gf10Mul (m.xor (p.headD 0))))) (List.replicate 30 0)

/-- A string of bits in pieces of n. -/
def chunks (n : Nat) : Nat → List Bool → List (List Bool)
  | 0, _ => []
  | k + 1, l => l.take n :: chunks n k (l.drop n)

/-- The message bits of a group: its marker, then its payload words (R232). -/
def Lane.groupMessage (ln : Lane) (g : Nat) : List Bool :=
  msbBits 32 (0xB3E61D * 256 + g % 256) ++
    (List.range groupWords).flatMap fun i => msbBits 32 (ln.word (groupWords * g + i))

/-- A codeword on the line: its message symbols, then its parity symbols, each most significant bit first. -/
def codeword (message : List Bool) : List Bool :=
  message ++ (rsParity ((chunks 10 514 message).map bitsNat)).flatMap (msbBits 10)

/-- The line bits of a group. -/
def Lane.groupLine (ln : Lane) (g : Nat) : List Bool := (chunks 5140 8 (ln.groupMessage g)).flatMap codeword

/-! ## PAM4 (R231) -/

/-- The Gray symbol of two line bits. -/
def graySymbol (b : List Bool) : Nat :=
  match b with
  | [false, false] => 0
  | [false, true] => 1
  | [true, true] => 2
  | _ => 3

/-- The symbols sent with precoding, from P(k − 1) on. -/
def precodeFrom (p : Nat) : List Nat → List Nat
  | [] => []
  | g :: l => (g + 4 - p) % 4 :: precodeFrom ((g + 4 - p) % 4) l

/-- The level of a PAM4 symbol. -/
def pamLevel (p : Nat) : Int := 2 * p - 3

/-- The levels that a lane sends in its first n groups after training. -/
def Lane.levels (ln : Lane) (n : Nat) : List Int :=
  let gray := (List.range n).flatMap fun g => (chunks 2 21760 (ln.groupLine g)).map graySymbol
  (if ln.precode then precodeFrom 0 gray else gray).map pamLevel

/-! ## Training (Table CUFF-6) -/

/-- n bits of the pattern PRBS13 of IEEE 802.3, x^13 + x^12 + x^2 + x + 1, after 13 bits, newest first. -/
def prbs13 : Nat → List Bool → List Bool
  | 0, _ => []
  | n + 1, s =>
    let b := ((s.getD 0 false != s.getD 1 false) != s.getD 11 false) != s.getD 12 false
    b :: prbs13 n (b :: s.take 12)

/-- The first n levels of the training pattern PRBS13Q on a physical lane, Gray mapped and not precoded; at
which of its symbols a lane begins is left open. -/
def trainingLevels (phys n : Nat) : List Int :=
  (chunks 2 n (prbs13 (2 * n) (msbBits 13 (Config.prbsStart phys).toNat))).map fun b => pamLevel (graySymbol b)

/-! ## 8b/10b (10 R328)

The code of IEEE 802.3 clause 36. A code group is 10 bits a to j, a first; here a is the most significant.
`rd` is the running disparity before it, true when positive. -/

/-- abcdei of the data groups D0 to D31 at negative disparity. -/
def code6 : List Nat :=
  [0b100111, 0b011101, 0b101101, 0b110001, 0b110101, 0b101001, 0b011001, 0b111000,
   0b111001, 0b100101, 0b010101, 0b110100, 0b001101, 0b101100, 0b011100, 0b010111,
   0b011011, 0b100011, 0b010011, 0b110010, 0b001011, 0b101010, 0b011010, 0b111010,
   0b110011, 0b100110, 0b010110, 0b110110, 0b001110, 0b101110, 0b011110, 0b101011]

/-- fghj of .0 to .7 at negative disparity. -/
def code4 : List Nat := [0b1011, 0b1001, 0b0101, 0b1100, 0b1101, 0b1010, 0b0110, 0b1110]

/-- The disparity after a sub-block of n bits. -/
def rdAfter (n : Nat) (rd : Bool) (c : Nat) : Bool := if 2 * popcount n c = n then rd else !rd

/-- abcdei; K28 has a group of its own. -/
def sub6 (rd k : Bool) (x : Nat) : Nat :=
  let c := if k && x == 28 then 0b001111 else code6.getD x 0
  if rd && (popcount 6 c != 3 || x == 7) then 63 - c else c

/-- fghj; D.x.A7 breaks a run of five, and control groups have it too. -/
def sub4 (rd k : Bool) (x y : Nat) : Nat :=
  let a7 := k || (if rd then [11, 13, 14] else [17, 18, 20]).contains x
  let c := if y == 7 && a7 then 0b0111 else code4.getD y 0
  if k && x == 28 && y == 5 then (if rd then 0b1010 else 0b0101)
  else if rd && (popcount 4 c != 2 || y == 3) then 15 - c else c

/-- A code group, and the disparity after it. -/
def codeGroup (rd k : Bool) (b : Nat) : Nat × Bool :=
  let x := b % 32
  let hi := sub6 rd k x
  let rd6 := rdAfter 6 rd hi
  let lo := sub4 rd6 k x (b / 32)
  (hi * 16 + lo, rdAfter 4 rd6 lo)

/-- Code groups of a sequence of (control, octet). -/
def codeGroups (rd : Bool) : List (Bool × Nat) → List Nat × Bool
  | [] => ([], rd)
  | (k, b) :: l =>
    let (g, rd1) := codeGroup rd k b
    let (gs, rd2) := codeGroups rd1 l
    (g :: gs, rd2)

/-- A frame on an actuator link: /K27.7/, its bytes, /K29.7/. -/
def actGroups (rd : Bool) (bytes : List Byte) : List Nat × Bool :=
  codeGroups rd ((true, 0xFB) :: bytes.map (fun b => (false, b.toNat)) ++ [(true, 0xFD)])

/-- What a link carries between frames: /K28.5/D16.2/ pairs, which leave the disparity as it is. -/
def idlePair (rd : Bool) : List Nat × Bool := codeGroups rd [(true, 0xBC), (false, 0x50)]

end Sys2Proof.Machine
end

