-- ==== Sys2Proof/Machine/Cuff.lean ====
section
/-! DEFINITION. The Cuff blanker link (08): frames and their checks, sending, lane states and spare remap,
and the return lanes; with Dike's clamp on dose codes (15 R467). -/

namespace Sys2Proof.Machine
open Sys2Proof

def State.updCf (f : Cuff → Cuff) (s : State) : State := { s with cf := f s.cf }
def State.cuffStats (f : CuffStats → CuffStats) (s : State) : State := s.updCf fun c => { c with stats := f c.stats }

def State.lane (phys : Nat) (s : State) : Lane := s.cf.lanes.getD phys {}
def State.upLanes (s : State) : List Nat := (List.range 68).filter fun k => (s.lane k).state == .up

/-- The Up physical lane that a logical lane goes on, unless the logical lane is silent (R247). -/
def State.physOf (l : Nat) (s : State) : Option Nat :=
  ((s.cf.map.getD l none).filter fun k => (s.lane k).state == .up && !s.cf.silent.contains l)

/-- Logical lane on a physical lane, or 0xFF. -/
def State.logicalOf (phys : Nat) (s : State) : Nat :=
  ((List.range 64).find? fun l => s.cf.map.getD l none == some phys).getD 0xFF

/-! ## Frames (R233 to R237) -/

/-- A frame goes on a physical lane, at the first word slot at which it may begin (R233, R239). -/
def State.sendFrame (phys : Nat) (bytes : List Byte) (s : State) : State :=
  (s.send (.frame phys ((s.lane phys).nextSlot s.now) bytes)).updCf fun c => { c with
    lanes := listUpd c.lanes phys fun ln => ln.put 4 s.now bytes }

/-- STRIPE of a control frame: the current stripe, else the last one (Table CUFF-4). -/
def State.curStripe (s : State) : Nat := (s.hem.stripe.map (·.stripe)).getD s.cf.lastStripe

/-- The 16-byte header (Table CUFF-4). -/
def State.cuffHead (kind epoch seq stripe band flags : Nat) (tail : List Byte) (s : State) : List Byte :=
  [0xF5, 0xD2, byteOf (kind * 16 + s.eng.twinB.toNat * 8 + s.eng.pairId % 4 * 2 + s.twin.active.toNat), byteOf epoch] ++
  beBytes 4 seq ++ beBytes 2 stripe ++ beBytes 2 band ++ [byteOf flags] ++ tail

/-- A row block's 640 bytes of codes. -/
def packCodes (codes : List Nat) : List Byte := packBits 640 (codes.flatMap (msbBits 10))

/-- R236. -/
def rowCrc (hdr : List Byte) (r : Nat) (codes : List Byte) : Nat :=
  crc32c ([hdr.getD 2 0 &&& 0xF0] ++ (hdr.drop 3).take 13 ++ codes) ((beNat ((hdr.drop 4).take 4)).xor (r * 2 ^ 23))

/-- CTRL_CRC (R237). -/
def ctrlCrc (hdr : List Byte) (kind : Nat) : Nat := crc32c ((hdr.drop 2).take 14) kind

/-- A control frame on a physical lane, with the injected mask of checker 10. -/
def State.sendControl (phys kind epoch seq stripe band flags : Nat) (tail : List Byte) (s : State) : State :=
  let (m, s) := s.inject 10 phys
  let hdr := s.cuffHead kind epoch seq stripe band flags tail
  s.sendFrame phys (hdr ++ beBytes 4 ((ctrlCrc hdr kind).xor (m % 2 ^ 32)))

/-- Header of a DATA or VOID frame. -/
def FlashFrames.head (f : FlashFrames) (void : Bool) (cause : Nat) (s : State) : List Byte :=
  s.cuffHead (if void then 2 else 1) f.epoch (f.record.flash % 2 ^ 32) f.stripe f.band
    (f.record.resync.toNat + 2 * f.clamped.toNat + 4 * f.last.toNat + 32 * (if void then cause else 0))
    (beBytes 3 (toBits 12 f.dx * 4096 + toBits 12 f.dy))

/-- Row codes of a frame: all zero in a VOID frame. -/
def FlashFrames.row (f : FlashFrames) (void : Bool) (r : Nat) : List Nat :=
  if void then List.replicate 512 0 else f.codes.getD r (List.replicate 512 0)

/-- The bytes of a logical lane's frame, with the injected masks of checker 9. -/
def State.frameBytes (f : FlashFrames) (l : Nat) (void : Bool) (cause : Nat) (s : State) : List Byte × State :=
  let hdr := f.head void cause s
  let r := (List.range 8).foldl (fun (acc : List Byte × State) k =>
    let (m, s) := acc.2.inject 9 l
    let block := packCodes (f.row void (8 * l + k))
    (acc.1 ++ block ++ beBytes 4 ((rowCrc hdr (8 * l + k) block).xor (m % 2 ^ 32)), s)) (hdr, s)
  r

/-- The frame digest (01 R40). -/
def FlashFrames.digest (f : FlashFrames) (s : State) : Nat :=
  let hdr := f.head false 0 s
  crc64 f.record.flash ((List.range 512).flatMap fun r => leBytes 4 (rowCrc hdr r (packCodes (f.row false r))))

/-- A standby that has not covered yet sends no DATA or VOID frames, and ENABLE 0 (11 R347). -/
def State.mute (s : State) : Bool := s.standby && !s.paired

/-- A frame digest meets the one of the same key (11 R352), or waits for it. -/
def State.digestArrives (d : Dig) (s : State) : State :=
  match s.twin.digests.find? fun (x : Dig) => x.flash == d.flash && x.epoch == d.epoch && x.own != d.own with
  | none => { s with twin := { s.twin with digests := s.twin.digests ++ [d] } }
  | some x =>
    let s := { s with twin := { s.twin with digests := s.twin.digests.filter (· != x) } }
    s.raiseUnless (d.void || x.void || d.value == x.value) .twinDispatch ((s.member.xor 1) * 2 ^ 40 + d.flash % 2 ^ 40)

/-- The DIGEST of a flash goes to the peer (11 R352); checker 15's injected mask acts on the value sent
(15 Table FAULT-7). -/
def State.sendDigest (f : FlashFrames) (void : Bool) (s : State) : State :=
  if s.twin.pair = .alone || s.mute then s
  else
    let (m, s) := s.inject 15 0
    let v : Nat := if void then 0 else f.digest s
    let sent : Nat := if void then 0 else v.xor (m % 2 ^ 64)
    (s.toPeer (.digest f.record.flash f.epoch void (BitVec.ofNat 64 sent))).digestArrives
      { flash := f.record.flash, epoch := f.epoch, void := void, value := BitVec.ofNat 64 v, at' := s.now, own := true }

/-! ## Taking slots, sending (R238, R239, R241) -/

/-- Dike holds codes to dose_max (15 R467). -/
def State.doseClamp (codes : List (List Nat)) (s : State) : List (List Nat) × State :=
  let n := (codes.map fun r => (r.filter fun c => decide (s.dike.doseMax < c)).length).sum
  let s := s.raiseUnless (n == 0 || s.dike.doseClampedThisStripe) .doseClamp s.flash40
  (codes.map fun r => r.map fun c => min c s.dike.doseMax,
   { s with dike := { s.dike with doseClamps := s.dike.doseClamps + n, doseClampedThisStripe := s.dike.doseClampedThisStripe || n != 0 } })

/-- BAND of the frames of mark m: the band that holds row Lead(m), 0xFFFF if none does. -/
def State.leadBand (m p : Nat) (s : State) : Nat :=
  let b := leadRow m p / s.bandRows
  if b < (s.job.map fun j => j.hdr.bandsPerStripe).getD 0 then b else 0xFFFF

/-- What Cuff sends for a committed flash. -/
def State.framesFor (f : FlashRec) (tn : Nat) (kind : FrameKind) (cause : Nat) (clamped : Bool) (codes : List (List Nat)) (s : State) : FlashFrames :=
  let c := s.hem.committed.find? fun c => c.record.flash == f.flash
  { record := f, tn := tn, epoch := (c.map (·.epoch)).getD s.cf.epoch, stripe := s.curStripe
    band := s.leadBand f.m ((s.hem.stripe.map (·.p)).getD 256)
    clamped := clamped, last := (c.map (·.last)).getD false, dx := (c.map (·.dx)).getD 0, dy := (c.map (·.dy)).getD 0
    kind := kind, cause := cause, codes := codes, ready := [], sent := [] }

/-- Cuff takes a Complete slot: the flash is void when a read was unavailable or a table word was
uncorrectable (06 R182). -/
def State.takeSlot (i : Nat) (s : State) : State :=
  let sl := s.sh.slots.getD i {}
  match sl.record with
  | none => s.updSlot i fun _ => {}
  | some f =>
    let void := sl.unavailable || sl.tableVoid
    let (codes, s) := if void then ([], s) else s.doseClamp sl.codes
    let fr := s.framesFor f sl.tn (if void then .void else .data) (if sl.unavailable then 2 else if sl.tableVoid then 3 else 0) sl.clamped codes
    let s := (s.updSlot i fun _ => {}).updCf fun c => { c with frames := c.frames ++ [fr] }
    let s := s.shStats fun t => { t with
      flashes := t.flashes + 1, unavailable := t.unavailable + sl.unavailable.toNat, tableVoid := t.tableVoid + sl.tableVoid.toNat }
    (s.polStats fun t => { t with voidFlashes := t.voidFlashes + sl.unavailable.toNat }).pumpSlots

/-- A slot that is Complete, the one of the earlier flash first. -/
def State.completeSlot (s : State) : Option Nat :=
  minBy (fun i => ((s.sh.slots.getD i {}).record.map (·.flash)).getD 0)
    ([0, 1].filter fun i => s.slotState i == SlotState.complete)

/-- Cuff takes Complete slots while its buffers of two frames have room (R238). -/
def State.takeSlots : Nat → State → State
  | 0, s => s
  | fuel + 1, s =>
    if 2 ≤ s.cf.frames.length then s
    else match s.completeSlot with
      | some i => State.takeSlots fuel (s.takeSlot i)
      | none => s

/-- A capture of kind 1 takes the frames that its lane sends (13 Table MBOX-13). -/
def State.captureFrame (l flash : Nat) (bytes : List Byte) (s : State) : State :=
  s.updCp fun cp => { cp with capture := cp.capture.map fun (c : Capture) =>
    if c.kind = 1 && c.triggered && c.lane = l && c.ended = 0 && c.entries < c.count then
      { c with entries := c.entries + 1, raw := c.raw ++ leBytes 8 flash ++ bytes, firstFlash := if c.entries = 0 then flash else c.firstFlash }
    else c }

/-- The frame of a flash begins on a logical lane; DATA and VOID frames go out in Writing, Held and Seam
(R244). -/
def State.beginFrame (f : FlashFrames) (l phys : Nat) (void : Bool) (cause : Nat) (s : State) : State :=
  let s := if s.mute || !s.running then s
    else
      let (bytes, s) := s.frameBytes f l void cause
      let s := (s.sendFrame phys bytes).captureFrame l f.record.flash bytes
      s.cuffStats fun k => { k with dataFrames := k.dataFrames + (!void).toNat, voidFrames := k.voidFrames + void.toNat }
  s.updCf fun c => { c with frames := c.frames.map fun (x : FlashFrames) =>
    if x.record.flash == f.record.flash then { x with sent := x.sent ++ [(l, void)] } else x }

/-- Flashes whose frame has begun on every lane that carries one leave the buffers. -/
def State.pruneFrames (s : State) : State :=
  (s.updCf fun c => { c with frames := c.frames.filter (fun (f : FlashFrames) =>
    (List.range 64).any fun l => (s.physOf l).isSome && !f.sent.any (·.1 == l)) }).takeSlots 2

def FlashFrames.void (f : FlashFrames) : Bool := f.kind == .void

/-- A lane's frame of a flash begins, if the map gives the lane a physical one. -/
def State.beginLane (fr : FlashFrames) (void : Bool) (cause : Nat) (s : State) (l : Nat) : State :=
  match s.physOf l with
  | some k => s.beginFrame fr l k void cause
  | none => s

/-- VOID frames of a late flash on every lane (R241). -/
def State.lateFrames (f : FlashRec) (tn : Nat) (s : State) : State :=
  let fr := s.framesFor f tn .void 1 false []
  let s := s.updCf fun c => { c with frames := c.frames ++ [fr] }
  let s := (List.range 64).foldl (fun s l => State.beginLane fr true 1 s l) s
  ((s.sendDigest fr true).updCf fun c => { c with frames := c.frames.filter fun (x : FlashFrames) => x.record.flash != f.flash }).takeSlots 2

/-- The frames of a flash that Cuff holds, at its deadline: those not begun begin now, and a lane whose
assembly is unfinished sends VOID (R241). -/
def State.dueFrames (f : FlashFrames) (s : State) : State :=
  let waiting := (List.range 64).filter fun l => (s.physOf l).isSome && !f.sent.any (·.1 == l)
  let late := waiting.filter fun l => !f.ready.contains l
  let s := late.foldl (fun s l => s.raise .asmLate (l * 2 ^ 40 + f.record.flash % 2 ^ 40)) s
  let s := waiting.foldl (fun s l => if f.ready.contains l then State.beginLane f f.void f.cause s l else State.beginLane f true 4 s l) s
  if f.digested then s else s.sendDigest f (f.void || !late.isEmpty)

/-- LANE_ENGINES_DONE. -/
def execLaneEnginesDone (t flash w : Nat) (pixelUpset tableUpset : List (Nat × Nat)) (s : State) : Res :=
  .next ((((s.atTime t).lanesDone flash w pixelUpset tableUpset).pumpSlots).takeSlots 2)

/-- A flash in a slot, or in Cuff's buffers, reaches its deadline (R241, 06 R182). -/
def State.slotDue (flash : Nat) (s : State) : State :=
  let due (tn : Nat) : Bool := decide (frameDeadline tn ≤ s.now)
  let hit (i : Nat) : Bool := match (s.sh.slots.getD i {}).record with
    | some f => f.flash == flash && due (s.sh.slots.getD i {}).tn
    | none => false
  match [0, 1].find? hit with
  | some i =>
    let sl := s.sh.slots.getD i {}
    if sl.state == .complete then
      let s := s.takeSlot i
      match s.cf.frames.find? (·.record.flash == flash) with
      | some f => (s.dueFrames f).pruneFrames
      | none => s
    else match sl.record with
      | some f => (((s.updSlot i fun _ => {}).slotLate flash).lateFrames f sl.tn).pumpSlots
      | none => s
  | none => match s.cf.frames.find? fun f => f.record.flash == flash && due f.tn with
    | some f => (s.dueFrames f).pruneFrames
    | none => s

/-- FRAME_DEADLINE (R241, 06 R182, R537): of the waiting record first. -/
def State.frameDue (flash : Nat) (s : State) : State :=
  match s.sh.waiting with
  | some (f, tn) =>
    if f.flash = flash && frameDeadline tn ≤ s.now then
      (({ s with sh := { s.sh with waiting := none } }.deflect f).2.slotLate flash).lateFrames f tn
    else s.slotDue flash
  | none => s.slotDue flash

/-- FRAME_DEADLINE. -/
def execFrameDeadline (t flash : Nat) (s : State) : Res := .next ((s.atTime t).frameDue flash)

/-- FRAME_ASSEMBLY_DONE (R238): the frames of some logical lanes are packed; `w` is the largest work
time of the assemblers and of the edge pipelines for the flash. -/
def execFrameAssemblyDone (t flash w : Nat) (lanes : List Nat) (s : State) : Res :=
  let s := s.atTime t
  .next (match s.cf.frames.find? (·.record.flash == flash) with
    | none => s
    | some f =>
      let ready := f.ready ++ (lanes.filter fun l => decide (l < 64) && !f.ready.contains l)
      let full := (List.range 64).all ready.contains
      let s := ((s.updCf fun c => { c with frames := c.frames.map fun (x : FlashFrames) =>
        if x.record.flash == flash then { x with ready := ready, digested := x.digested || full } else x }).cuffStats fun t =>
        { t with asmWMaxNs := max t.asmWMaxNs w }).noteWork flash w
      if full && !f.digested then s.sendDigest f f.void else s)

/-- The next complete frame of a logical lane begins, in commit order. -/
def State.beginNext (s : State) (lane : Nat) : State :=
  match s.physOf lane, s.cf.frames.find? fun f => !f.sent.any (·.1 == lane) with
  | some k, some f => if f.ready.contains lane then s.beginFrame f lane k f.void f.cause else s
  | _, _ => s

/-- FRAME_SEND_START (R239): the lane's previous frame has been sent, and 4 filler words have followed it. -/
def execFrameSendStart (t lane : Nat) (s : State) : Res :=
  let s := s.atTime t
  .next (match s.physOf lane with
    | some k =>
      if s.running && decide ((s.lane k).free ≤ slotAt (s.lane k).origin s.now) then (s.beginNext lane).pruneFrames else s
    | none => s)

/-! ## Withdrawal, STATUS (R240, R242, R243) -/

def State.lastSeq (s : State) : Nat := s.eng.lastFlash % 2 ^ 32

/-- A withdrawal event: the epoch goes up, frames not begun are dropped, WITHDRAW goes on every Up lane. -/
def State.cuffWithdraw (first : Nat) (s : State) : State :=
  let e := (s.cf.epoch + 1) % 256
  let s := s.updCf fun c => { c with epoch := e, frames := c.frames.filter fun (f : FlashFrames) => decide (f.record.flash < first) }
  let s := s.cuffStats fun t => { t with withdrawEvents := t.withdrawEvents + 1 }
  (s.upLanes.foldl (fun s k => s.sendControl k 4 e (first % 2 ^ 32) s.curStripe 0xFFFF 0 [0, 0, 0]) s).takeSlots 2

/-- ENABLE of the STATUS frames (R243, 15 R469). -/
def State.cuffEnable (s : State) : Bool := s.running && !s.dike.wdExpired && !s.mute

/-- The engine state that STATUS frames carry: a standby's is the copied one, in its own Fault too (R243). -/
def State.statusCode (s : State) : Nat :=
  if s.standby && s.twin.ownFault then ((s.twin.snap.map (·.state)).getD s.eng.state).code else s.eng.state.code

/-- Lanes that carry STATUS frames: the Up ones, and those in Align (R243, Table CUFF-6). -/
def State.statusLanes (s : State) : List Nat :=
  (List.range 68).filter fun k => (s.lane k).state == .up || (s.lane k).state == .align

/-- A STATUS frame on every lane that carries them. -/
def State.sendStatus (s : State) : State :=
  let flags := s.cuffEnable.toNat + 2 * s.statusCode
  let s := s.statusLanes.foldl (fun s k =>
    s.sendControl k 3 s.cf.epoch s.lastSeq s.curStripe s.cf.lastBand flags [byteOf (s.logicalOf k), 0, 0]) s
  s.updCf fun c => { c with lastStatus := some (s.cuffEnable, s.statusCode) }

def State.cuffOn (s : State) : Bool := !(s.eng.state == .sleep || s.eng.state == .boot)

/-- STATUS at once when ENABLE or the engine state has changed. -/
def State.cuffStatus (s : State) : State :=
  if s.cuffOn && s.cf.lastStatus != some (s.cuffEnable, s.statusCode) then s.sendStatus else s

/-- STATUS_FRAME: status_interval has passed. The frames wait for a gap: complete DATA and VOID frames go
before them (R243). -/
def execStatusFrame (t : Nat) (s : State) : Res :=
  let s := s.atTime t
  let due := s.cf.statusAt.all fun a => decide (a + s.cf.statusInterval * usSteps ≤ s.now)
  .next (if s.cuffOn && due then
      let s := if s.running then (((List.range 64).foldl State.beginNext ((List.range 64).foldl State.beginNext s))).pruneFrames else s
      s.sendStatus.updCf fun c => { c with statusAt := some s.now }
    else s)

/-! ## Lanes (R245 to R248) -/

def State.setLane (k : Nat) (st : LaneState) (s : State) : State :=
  s.updCf fun c => { c with lanes := listUpd c.lanes k fun l => { l with state := st, since := s.now } }

/-- Entry to Train takes the precoding and the taps in force (R262). -/
def State.trainLane (k : Nat) (s : State) : State :=
  s.updCf fun c => { c with lanes := listUpd c.lanes k fun _ =>
    { state := .train, since := s.now, precode := c.precode.getLsbD k, ffe := (c.ffePre, c.ffeMain, c.ffePost) } }

/-- Entry to Align: codeword groups from group 0 (Table CUFF-6). -/
def State.alignLane (k : Nat) (s : State) : State :=
  (s.setLane k .align).updCf fun c => { c with lanes := listUpd c.lanes k fun l => { l with origin := s.now, sent := [], free := 0 } }

/-- Entry to Lost: filler only. -/
def State.lostLane (k : Nat) (s : State) : State :=
  (s.setLane k .lost).updCf fun c => { c with lanes := listUpd c.lanes k fun l => l.cut s.now }

/-- Lanes that are Off begin to train: the engine enters Calibrate. -/
def State.trainOff (s : State) : State :=
  (List.range 68).foldl (fun s k => if (s.lane k).state == .off then s.trainLane k else s) s

/-- Every lane is Off: Sleep and Boot. -/
def State.lanesOff (s : State) : State := s.updCf fun c => { c with lanes := List.replicate 68 {} }

/-- The Boot assignment comes back once all home lanes are Up (R248). -/
def State.restoreMap (s : State) : State :=
  if s.cf.restoreDue && (List.range 64).all (fun k => (s.lane k).state == .up) then
    s.updCf fun c => { c with restoreDue := false, map := (List.range 64).map some }
  else s

/-- Committed flashes of which a logical lane's frame has not begun: those in the buffers, in Shuttle's slots,
and in its record buffer. -/
def State.unbegun (l : Nat) (s : State) : List Nat :=
  (s.cf.frames.filter fun f => !f.sent.any (·.1 == l)).map (·.record.flash) ++
  (s.sh.slots.filterMap (·.record)).map (·.flash) ++ (s.sh.waiting.map (·.1.flash)).toList

/-- SEQ of the next frame of a logical lane that has not begun (R247). -/
def State.nextSeqOf (l : Nat) (s : State) : Nat := ((minBy id (s.unbegun l)).getD s.eng.flashNext) % 2 ^ 32

/-- An Up lane goes Lost; its logical lane moves to a spare, or is silent (R247). The assignment stays where
there is no remap (R229). -/
def State.loseLane (k : Nat) (s : State) : State :=
  let l := s.logicalOf k
  let s := (s.lostLane k).raise .laneLost k
  if l = 0xFF || s.cf.autoRemap = 0 then s
  else match [64, 65, 66, 67].find? fun x => (s.lane x).state == LaneState.up && s.logicalOf x == 0xFF with
    | none => (s.updCf fun c => { c with silent := insertNat c.silent l }).raise .noSpare l
    | some x =>
      let s := s.sendControl x 5 s.cf.epoch (s.nextSeqOf l) s.curStripe 0xFFFF 0 [byteOf l, 0, 0]
      let s := s.updCf fun c => { c with map := listUpd c.map l fun _ => some x }
      (s.cuffStats fun t => { t with remaps := t.remaps + 1 }).raise .laneRemap (l * 256 + x)

/-- TRAIN_TIMEOUT. -/
def execTrainTimeout (t lane : Nat) (s : State) : Res :=
  let s := s.atTime t
  .next (if (s.lane lane).state == .train && decide ((s.lane lane).since + 100000 * usSteps ≤ s.now) && decide (lane < 68) then
    (s.setLane lane .failed).raise .trainFail lane
  else s)

/-- ALIGN_TIMEOUT. -/
def execAlignTimeout (t lane : Nat) (s : State) : Res :=
  let s := s.atTime t
  .next (if (s.lane lane).state == .align && decide ((s.lane lane).since + 10000 * usSteps ≤ s.now) then s.trainLane lane else s)

/-- LOST_RETRAIN. -/
def execLostRetrain (t lane : Nat) (s : State) : Res :=
  let s := s.atTime t
  .next (if (s.lane lane).state == .lost && decide ((s.lane lane).since + 1000 * usSteps ≤ s.now) &&
      (s.eng.state == .calibrate || s.eng.state == .ready || s.eng.state == .fault) then s.trainLane lane else s)

/-- What the lock and trained bits of a lane do to its state (Table CUFF-6). -/
def State.laneBit (lock trained : BitVec 72) (s : State) (k : Nat) : State :=
  match (s.lane k).state with
  | .train => if trained.getLsbD k then s.alignLane k else s
  | .align => if lock.getLsbD k then s.setLane k .up else s
  | .up => if lock.getLsbD k then s else s.loseLane k
  | _ => s

/-- The receiver's bits move a lane on (Table CUFF-6). -/
def State.laneBits (lock trained : BitVec 72) (s : State) : State :=
  ((List.range 68).foldl (State.laneBit lock trained) s).restoreMap

/-! ## Return lanes (R249 to R253) -/

def State.updRet (f : CuffRet → CuffRet) (s : State) : State := s.updCf fun c => { c with ret := f c.ret }

/-- A discarded message. -/
def State.badReturn (lane : Nat) (s : State) : State :=
  let s := (s.raiseUnless s.cf.ret.crcRaised .retCrc lane).updRet fun r => { r with crcRaised := true }
  s.cuffStats fun t => { t with retBad := t.retBad + 1 }

/-- A return message: it is discarded as bad or as a second copy, or used; the injected mask of checker 11
acts on the received CRC. -/
def State.accept (h : RetHdr) (type : Nat) (body : List Byte) (s : State) : Bool × State :=
  let (m, s) := s.inject 11 h.lane
  if !retIntact h type body (m % 2 ^ 32) then (false, s.badReturn h.lane)
  else
    let s := s.updRet fun r => { r with good := listUpd r.good h.lane fun _ => some s.now, lost := false }
    if s.cf.ret.seen.contains h.mseq then (false, s)
    else (true, s.updRet fun r => { r with seen := (h.mseq :: r.seen).take 16 })

/-- HELLO's CAPS lack precoding that a lane needs (R253). -/
def State.capsBad (s : State) : Bool := s.cf.ret.caps % 2 == 0 && s.cf.lanes.any (·.precode)

/-- RET_CAPS holds. -/
def State.retCaps (s : State) : Bool := !s.cf.ret.helloAt.any (fun a => decide (s.now < a + 10000 * usSteps)) || s.capsBad

/-- RET_CAPS as it begins to hold or ceases. -/
def State.testCaps (s : State) : State :=
  let bad := s.retCaps
  (s.raiseUnless (!bad || s.cf.ret.capsRaised) .retCaps s.cf.ret.caps).updRet fun r => { r with capsRaised := bad }

/-- RX_HELLO. -/
def execRxHello (t : Nat) (h : RetHdr) (rev caps copyMode ident : Nat) (s : State) : Res :=
  let (ok, s) := (s.atTime t).accept h 1 (helloBody rev caps copyMode ident)
  .next (if ok then (s.updRet fun r => { r with rev := rev, caps := caps % 256, copyMode := copyMode, ident := ident, helloAt := some s.now }).testCaps
    else s)

/-- RX_TELEM. -/
def execRxTelem (t : Nat) (h : RetHdr) (temp : Int) (volt pairSel sExp : Nat) (s : State) : Res :=
  let (ok, s) := (s.atTime t).accept h 2 (telemBody temp volt pairSel sExp)
  .next (if ok then
    { (s.updRet fun r => { r with telemAt := some s.now, pairSel := pairSel % 256 }) with
      hem := { s.hem with telem := some (temp, volt, s.now) } }
    else s)

/-- RX_LANE. -/
def execRxLane (t : Nat) (h : RetHdr) (lock trained : BitVec 72) (uncorr corr : Nat) (s : State) : Res :=
  let (ok, s) := (s.atTime t).accept h 3 (laneBody lock trained uncorr corr)
  .next (if ok then
      let s := s.cuffStats fun t => { t with uncorrCodewords := t.uncorrCodewords + uncorr, corrSymbols := t.corrSymbols + corr }
      let s := s.raiseUnless (uncorr == 0 || s.cf.ret.fecRaised) .rxFec 0xFF
      let s := s.updRet fun r => { r with lockBits := lock, trainedBits := trained, fecRaised := r.fecRaised || uncorr != 0 }
      s.laneBits lock trained
    else s)

/-- A receiver's SEQ as a full flash index (R252). -/
def State.extendSeq (seq : Nat) (s : State) : Nat :=
  (s.eng.lastFlash + wrapS 32 ((seq : Int) - s.eng.lastFlash)).toNat

/-- RX_EVENT. -/
def execRxEvent (t : Nat) (h : RetHdr) (kind lane rows seq epoch : Nat) (s : State) : Res :=
  let (ok, s) := (s.atTime t).accept h 4 (eventBody kind lane rows seq epoch)
  let at' := lane % 256 * 2 ^ 40 + s.extendSeq seq % 2 ^ 40
  .next (if ok then
      match kind with
      | 1 => (s.raise .rxMissing at').cuffStats fun t => { t with rxMissing := t.rxMissing + 1 }
      | 2 => (s.raise .rxCompare at').cuffStats fun t => { t with rxCompare := t.rxCompare + 1 }
      | 3 => (s.raise .rxSwitch (rows % 256 * 2 ^ 40 + s.extendSeq seq % 2 ^ 40)).cuffStats fun t => { t with rxSwitch := t.rxSwitch + 1 }
      | 4 => (s.raise .rxUncompared at').cuffStats fun t => { t with rxUncompared := t.rxUncompared + 1 }
      | 5 => (s.raise .rxLate at').cuffStats fun t => { t with rxLate := t.rxLate + 1 }
      | 6 => s.raise .rxFraming lane
      | _ => s
    else s)

/-- RX_STUCK_ON (06 R177): a cause of Fault. -/
def execRxStuckOn (t : Nat) (h : RetHdr) (beam : Nat) (s : State) : Res :=
  let (ok, s) := (s.atTime t).accept h 5 (beBytes 4 beam)
  .next (if ok then ((s.updRet fun r => { r with stuck := true }).raise .stuckOn (beam % 2 ^ 18)).cause .fault else s)

/-- RET_CRC: a message whose CRC, VERSION or block framing is wrong. -/
def execRetCrc (t lane : Nat) (s : State) : Res := .next ((s.atTime t).badReturn lane)

/-- RET_LOST (R253): no good message on either lane for 1 ms. -/
def execRetLost (t : Nat) (s : State) : Res :=
  let s := s.atTime t
  let last := (s.cf.ret.good.filterMap id).foldl max 0
  .next (if s.cf.ret.lost || s.now < last + 1000 * usSteps then s
    else (s.raise .retLost ((s.now - last) / usSteps)).updRet fun r => { r with lost := true })

/-- HELLO_TIMEOUT (R253): no good HELLO for 10 ms. -/
def execHelloTimeout (t : Nat) (s : State) : Res :=
  let s := s.atTime t
  .next (match s.cf.ret.helloAt with
    | some h => if h + 10000 * usSteps ≤ s.now then (s.updRet fun r => { r with helloAt := none }).testCaps else s
    | none => s.testCaps)

end Sys2Proof.Machine
end

