-- ==== Sys2Proof/Machine/Feed.lean ====
section
/-! DEFINITION. Stage feedback (09): position ports, encoders, source states, samples, the channel map,
probe, compare and switch inputs. What a source or a switch does to the servo axes is in Brace. -/

namespace Sys2Proof.Machine
open Sys2Proof

def State.updFeed (f : Feed → Feed) (s : State) : State := { s with feed := f s.feed }
def State.src (n : Nat) (s : State) : Source := s.feed.srcs.getD n {}
def State.updSrc (n : Nat) (f : Source → Source) (s : State) : State :=
  s.updFeed fun d => { d with srcs := listUpd d.srcs n f }

/-! ## Conversion (R268) -/

/-- to_fu without the offset. -/
def Source.scaled (c : Source) (raw : Int) : Int :=
  roundHalfUp ((if c.cfg.invert = 1 then -raw else raw) * c.cfg.scale) (2 ^ 24)

/-- to_fu; none outside P48. -/
def Source.toFu (c : Source) (raw : Int) : Option Int :=
  let v := c.scaled raw + c.offset
  if inP48 v then some v else none

/-- A converted value, with POS_RANGE when there is none. -/
def State.convert (n : Nat) (raw : Int) (s : State) : Option Int × State :=
  match (s.src n).toFu raw with
  | some v => (some v, s)
  | none => (none, s.raise .posRange (s.addrFlash n))

/-! ## Source states (R282) -/

/-- The block of a source that was loaded last. -/
def Source.loaded (c : Source) : SrcCfg := (c.newCfg.map (·.2)).getD c.cfg

/-- Steps of an interval in nanoseconds, rounded. -/
def nsSteps (ns : Nat) : Nat := (roundHalfUp (64 * ns) 5).toNat

/-- A block in force: the time of a word that is in use or waits moves with the latch delay. -/
def Source.force (c : Source) (g : SrcCfg) : Source :=
  let d : Int := (nsSteps g.latchDelay : Int) - nsSteps c.cfg.latchDelay
  let move (t : Nat) : Nat := ((t : Int) + d).toNat
  { c with
    cfg := g, newCfg := none
    port := { c.port with tw := move c.port.tw, next := c.port.next.map fun w => (w.1, move w.2.1, w.2.2.1, w.2.2.2) } }

/-- A loaded block whose sample tick has come is in force (R538). -/
def State.settle (n : Nat) (s : State) : State :=
  match (s.src n).newCfg with
  | some (tick, g) => if tick ≤ s.now then s.updSrc n fun c => c.force g else s
  | none => s

/-- A source that goes Off; its port's counts stay. -/
def Source.off (c : Source) : Source :=
  { c with
    state := .off, suspect := false, y := none, hist := []
    port := { crcErrors := c.port.crcErrors, countErrors := c.port.countErrors } }

/-- Entry to Acquire (Table FEED-3): a port waits for two good words, a quadrature count starts at 0 and
is Valid at once, a sine/cosine source waits for two ticks inside its window. -/
def State.acquire (n : Nat) (s : State) : State :=
  s.updSrc n fun c =>
    if n < 8 then { c with state := .acquire, port := { c.port with goodRun := 0, badRun := 0, lastCnt := none } }
    else if n < 12 then { c with state := .valid, quad := { c.quad with count := 0, lastEdge := none, dir := 0, speed := 0, interval := 0 } }
    else { c with state := .acquire, sc := { c.sc with periods := 0, okTicks := 0 } }

/-- Entry to Lost, with SRC_LOST: 1 TRANSPORT, 2 SENSOR. -/
def State.loseSource (n cause : Nat) (s : State) : State :=
  (s.updSrc n fun c => { c with state := if cause = 1 then .lostTransport else .lostSensor }).raise .srcLost (s.addrSub n cause)

def Source.lost (c : Source) : Bool := c.state == .lostTransport || c.state == .lostSensor

/-- Enabled sources that are Off acquire: the engine is in Calibrate or later. -/
def State.acquireEnabled (s : State) : State :=
  (List.range 16).foldl (fun s n => if (s.src n).cfg.enable = 1 && (s.src n).state == .off then s.acquire n else s) s

/-- Every source goes Off: Sleep and Boot. -/
def State.sourcesOff (s : State) : State :=
  s.updFeed fun d => { d with srcs := d.srcs.map Source.off }

/-! ## Position ports (R269 to R273) -/

/-- A request without a good word: at lost_words of them a Valid port is Lost. -/
def State.missWord (n : Nat) (s : State) : State :=
  let s := s.updSrc n fun c => { c with port := { c.port with goodRun := 0, badRun := c.port.badRun + 1 } }
  let c := s.src n
  if c.state == .valid && decide (c.cfg.lostWords ≤ c.port.badRun) then s.loseSource n 1 else s

/-- Steps of a bit period (R269): 20 ns × clk_div. -/
def SrcCfg.bitSteps (g : SrcCfg) : Nat := 256 * g.clkDiv

/-- Falling edge k of a request on POSn_CLK, the latch edge being k = 0; the rising edge that follows it;
and the instant, in fifths of a step, at which the engine samples bit k (R269). -/
def fallEdge (tReq bit k : Nat) : Nat := tReq + k * bit
def riseEdge (tReq bit k : Nat) : Nat := fallEdge tReq bit k + bit / 2
def sampleAt5 (tReq bit rx k : Nat) : Nat := 5 * fallEdge tReq bit k + 64 * rx

/-- A request is in progress: its reply has not come, and its 83 clock periods (R270) are not over. -/
def Port.busy (q : Port) (now : Nat) : Bool := (q.tReq.map fun t => decide (now < t + 83 * q.bit)).getD false

/-- A port's request is due: at a multiple of 64 × word_period (R269), with none in progress (R538). -/
def Source.requestDue (c : Source) (now : Nat) : Bool :=
  c.cfg.enable == 1 && c.state != .off && now % (64 * c.loaded.wordPeriod) == 0 && !c.port.busy now

/-- POS_REQUEST (R269, R276): the previous request, if it has no word, is missed; the request after a
transport loss makes the port acquire. -/
def State.posRequest (n : Nat) (s : State) : State :=
  let s := s.settle n
  if !(s.src n).requestDue s.now || 8 ≤ n then s
  else
    let lost := (s.src n).state == .lostTransport
    let s := if (s.src n).port.tReq.isSome then s.missWord n else s
    let s := if lost then s.acquire n else s
    let g := (s.src n).loaded
    (s.updSrc n fun c => { c with port := { c.port with tReq := some s.now, bit := g.bitSteps, rx := g.rxDelay } }).send
      (.posClock n s.now g.bitSteps)

/-- Position of the start bit in the sampled bits, or none (R270). -/
def startBit (reply : List Bool) : Option Nat :=
  let z := reply.takeWhile (· == false)
  if 1 ≤ z.length && z.length ≤ 8 && z.length < reply.length then some z.length else none

/-- POS_WORD (R270 to R273): the sampled bits of a reply from bit 1 on; a good word is usable after the
instant at which its last CRC bit is sampled. The injected mask of checker 12
acts on the received CRC. -/
def State.posWord (n : Nat) (reply : List Bool) (s : State) : State :=
  let s := s.settle n
  let c := s.src n
  match c.port.tReq with
  | none => s
  | some tReq =>
    if c.state == .off || 8 ≤ n then s
    else
      let s := s.updSrc n fun c => { c with port := { c.port with tReq := none } }
      match startBit reply with
      | none => ((s.raise .posNostart (s.addrFlash n)).missWord n).send (.posIdle n (min 9 ((reply.takeWhile (· == false)).length + 1)))
      | some k =>
        let s := s.send (.posIdle n (k + 73))
        let bits := (reply.drop (k + 1)).take 72
        let (m, s) := s.inject 12 n
        let crcOk := decide (bits.length = 72 ∧ crc16 (bits.take 56) = (bitsNat (bits.drop 56)).xor (m % 2 ^ 16))
        let cnt := bitsNat ((bits.drop 48).take 4)
        if !crcOk || bits.getD 54 false || bits.getD 55 false then
          let s := s.raiseUnless c.port.crcRaised .posCrc (s.addrFlash n)
          (s.updSrc n fun c => { c with port := { c.port with crcRaised := true, crcErrors := c.port.crcErrors + 1 } }).missWord n
        else if (c.port.lastCnt.map fun x => decide ((x + 1) % 16 ≠ cnt)).getD false then
          let s := s.raiseUnless c.port.countRaised .posCount (s.addrFlash n)
          (s.updSrc n fun c => { c with port := { c.port with countRaised := true, countErrors := c.port.countErrors + 1 } }).missWord n
        else if bits.getD 52 false then
          let s := (s.raise .posSensor (s.addrFlash n)).updSrc n fun c => { c with port := { c.port with lastCnt := some cnt } }
          if c.state == .lostSensor then s else s.loseSource n 2
        else
          let warn := bits.getD 53 false
          let s := s.raiseUnless (!warn || c.port.warnRaised) .posWarn (s.addrFlash n)
          let raw := wrapS 48 (Int.ofNat (bitsNat (bits.take 48)))
          let (_, s) := s.convert n raw
          s.updSrc n fun c =>
            let run := c.port.goodRun + 1
            { c with
              state := if c.state == .acquire && decide (2 ≤ run) then .valid else c.state
              port := { c.port with
                lastCnt := some cnt, goodRun := run, badRun := 0, warnRaised := c.port.warnRaised || warn
                next := some (raw, tReq + nsSteps c.cfg.latchDelay, sampleAt5 tReq c.port.bit c.port.rx (k + 73) / 5 + 1, run) } }

/-- A waiting word comes into use at a tick (R273): v follows when two consecutive requests gave good
words. -/
def Source.useWord (c : Source) (tick : Nat) : Source :=
  match c.port.next with
  | some (raw, tw, usable, run) =>
    if tick < usable then c
    else
      let v := if c.port.haveWord && decide (2 ≤ run) && decide (c.port.tw < tw) then
          roundHalfUp ((c.scaled raw - c.scaled c.port.pw) * 65536) ((tw : Int) - c.port.tw)
        else c.port.v
      { c with port := { c.port with pw := raw, tw := tw, v := v, haveWord := true, next := none } }
  | none => c

/-! ## Samples (R267) -/

/-- The raw value of an encoder (Table FEED-1). -/
def Source.raw (c : Source) (n : Nat) : Int :=
  if n < 12 then c.quad.count else c.sc.periods * 4096 + c.sc.phase

/-- Samples that a source remembers: as far back as the filters of its switch sets reach (R293), and the
probe's glitch filter (R285). -/
def State.histLen (n : Nat) (s : State) : Nat :=
  8 + 20 * s.feed.sets.foldl (fun m (g : SwitchSet) => if g.src = n then max m g.filter else m) 0

/-- The sample of a source at a tick; a Valid port whose word is too old is Lost. -/
def State.sampleSource (tick n : Nat) (s : State) : State :=
  let s := (s.settle n).updSrc n fun c => c.useWord tick
  let c := s.src n
  let keep (y : Option Int) (s : State) : State :=
    s.updSrc n fun c => { c with y := y, hist := (((tick, y) :: c.hist).take (s.histLen n)) }
  if c.cfg.enable ≠ 1 || c.state != .valid then
    if c.state == .off then s else keep none s
  else if n < 8 then
    if !c.port.haveWord then keep none s
    else if 12800 * c.cfg.staleUs < tick - c.port.tw then (keep none s).loseSource n 1
    else
      let (v, s) := s.convert n c.port.pw
      keep (v.map fun v => v + roundHalfUp (c.port.v * ((tick : Int) - c.port.tw)) 65536) s
  else
    let (v, s) := s.convert n (c.raw n)
    keep v s

/-- A source's sample at a tick. -/
def Source.at' (c : Source) (tick : Nat) : Option Int := ((c.hist.find? (·.1 == tick)).map (·.2)).getD none

/-- Interpolation between the ticks that bracket an instant (R286). -/
def Source.interp (c : Source) (te : Nat) : Option Int :=
  let t0 := te / 640 * 640
  match c.at' t0, c.at' (t0 + 640) with
  | some a, some b => some (a + roundHalfUp ((b - a) * ((te : Int) - t0)) 640)
  | _, _ => none

/-- Velocity of a source in 2^-16 fu per step: a port's v, else the last two samples'. -/
def Source.velocity (c : Source) (n : Nat) : Int :=
  if n < 8 then c.port.v
  else match c.hist with
    | (_, some b) :: (_, some a) :: _ => roundHalfUp ((b - a) * 65536) 640
    | _ => 0

/-! ## Encoders (R277 to R281) -/

/-- Place of a pair in the sequence that counts up. -/
def grayPlace (a b : Bool) : Nat :=
  match a, b with
  | false, false => 0
  | false, true => 1
  | true, true => 2
  | true, false => 3

/-- QUAD_EDGE (R277, R278). -/
def State.quadEdge (e : Nat) (a b : Bool) (s : State) : State :=
  let n := 8 + e
  let s := s.settle n
  let c := s.src n
  let q := c.quad
  if c.state == .off || 4 ≤ e then s.updSrc n fun c => { c with quad := { c.quad with a := a, b := b } }
  else if q.a = a ∧ q.b = b then s
  else if q.a ≠ a ∧ q.b ≠ b then
    (s.updSrc n fun c => { c with suspect := true, quad := { c.quad with a := a, b := b, qerr := satInc 8 c.quad.qerr, qerrAt := some (s.now / tickSteps) } }).raise
      .quadIllegal (s.addrFlash n)
  else
    let d : Int := if grayPlace a b = (grayPlace q.a q.b + 1) % 4 then 1 else -1
    let te := s.now - (c.cfg.qf + 1) * 64
    s.updSrc n fun c => { c with quad := { c.quad with
      a := a, b := b, count := wrapS 48 (c.quad.count + d), lastEdge := some te, dir := d
      speed := match q.lastEdge with
        | some p => if q.dir = d ∧ p < te then d * roundHalfUp (2 ^ 32) ((te : Int) - p) else 0
        | none => 0
      interval := match q.lastEdge with
        | some p => if q.dir = d then te - p else 0
        | none => 0 } }

/-- The speed that BRACE_STATUS reports (R278). -/
def Quad.speedAt (q : Quad) (t : Nat) : Int :=
  match q.lastEdge with
  | some p =>
    if q.interval < t - p && p < t then
      let bound := roundHalfUp (2 ^ 32) ((t : Int) - p)
      clampInt q.speed (-bound) bound
    else q.speed
  | none => 0

/-- INDEX_EVENT (R279). -/
def State.indexEvent (e : Nat) (s : State) : State :=
  let n := 8 + e
  let s := s.settle n
  let c := s.src n
  let gate := c.cfg.gate
  if c.state == .off || (gate.testBit 2 && !(c.quad.a == gate.testBit 1 && c.quad.b == gate.testBit 0)) then s
  else s.updSrc n fun c => { c with quad := { c.quad with index := some (c.quad.count, s.now) } }

/-- 2^80 cos and 2^80 sin of 2π / 4,096. -/
def cosStep : Int := 1208924397255013589970078
def sinStep : Int := 1854468253976911810989

/-- 2^80 (cos, sin) of k steps of 2π / 4,096. -/
def stepDir : Nat → Int × Int
  | 0 => (2 ^ 80, 0)
  | k + 1 =>
    let (x, y) := stepDir k
    ((x * cosStep - y * sinStep) / 2 ^ 80, (x * sinStep + y * cosStep) / 2 ^ 80)

/-- Whole steps of 2π / 4,096 in an angle of the first octant, 0 ≤ s ≤ c, below 512; `k` counts down. -/
def octantFloor (s c : Int) : Nat → Nat
  | 0 => 0
  | k + 1 =>
    let (x, y) := stepDir (k + 1)
    if y * c ≤ s * x then k + 1 else octantFloor s c k

/-- floor of atan2(s, c) × 4,096 / 2π in 0 to 4,095, and whether it is exact (R281). -/
def phaseFloor (s c : Int) : Nat × Bool :=
  let quadrant (s c : Int) : Nat × Bool :=
    -- c > 0, s ≥ 0
    if s = 0 then (0, true)
    else if s = c then (512, true)
    else if s < c then (octantFloor s c 511, false)
    else (1023 - octantFloor c s 511, false)
  if s = 0 ∧ c = 0 then (0, true)
  else if 0 < c ∧ 0 ≤ s then quadrant s c
  else if 0 < s ∧ c ≤ 0 then ((quadrant (-c) s).1 + 1024, (quadrant (-c) s).2)
  else if c < 0 ∧ s ≤ 0 then ((quadrant (-s) (-c)).1 + 2048, (quadrant (-s) (-c)).2)
  else ((quadrant c (-s)).1 + 3072, (quadrant c (-s)).2)

/-- The corrected sample (R280). -/
def scCorrect (raw off : Int) (g : Nat) : Int := clampInt (asr ((raw - off) * g) 14) (-8192) 8191

/-- SINCOS_SAMPLE (R280 to R282). The phase is free within its error (log 13). -/
def State.sincosSample (e : Nat) (rawS rawC : Int) (s : State) : State :=
  let n := 12 + e
  let s := s.settle n
  let c := s.src n
  if c.state == .off || 4 ≤ e then s
  else
    let ss := scCorrect rawS c.cfg.offS c.cfg.gS
    let cc := scCorrect rawC c.cfg.offC c.cfg.gC
    let a2 := ss * ss + cc * cc
    let inside := decide ((c.cfg.ampLo * 1024 : Int) ≤ a2 ∧ a2 ≤ (c.cfg.ampHi * 1024 : Int))
    let (fl, exact) := phaseFloor ss cc
    let (k, s) := s.nextFree
    let ph := if exact then fl else (fl + (Config.phaseUp k ss cc).toNat) % 4096
    let old := c.sc.phase
    let diff := wrapS 12 ((ph : Int) - old)
    let turn : Int := if 3072 ≤ old ∧ ph < 1024 then 1 else if old < 1024 ∧ 3072 ≤ ph then -1 else 0
    if c.state == .valid then
      if !inside then (s.raise .scAmp (s.addrFlash n)).loseSource n 2
      else if 1024 < diff.natAbs then (s.raise .scSpeed (s.addrFlash n)).loseSource n 2
      else s.updSrc n fun c => { c with sc := { c.sc with phase := ph, periods := c.sc.periods + turn } }
    else if c.state == .acquire then
      s.updSrc n fun c =>
        let ok := if inside then c.sc.okTicks + 1 else 0
        { c with state := if 2 ≤ ok then .valid else .acquire
                 sc := { c.sc with phase := ph, okTicks := ok, periods := if c.sc.okTicks = 0 then c.sc.periods else c.sc.periods + turn } }
    else s.updSrc n fun c => { c with sc := { c.sc with phase := ph } }

/-! ## Hem channels (R283) -/

/-- The yaw sample of the last tick. -/
def State.yawSample (s : State) : Option Int :=
  let m := s.feed.map
  if m.yawA = m.yawB then some 0
  else match (s.src m.yawA).y, (s.src m.yawB).y with
    | some a, some b => some (clampInt (roundHalfUp ((a - b - m.yawZero) * m.yawK) 65536) (-(2 ^ 47)) (2 ^ 47 - 1))
    | _, _ => none

/-- Scan, cross and yaw samples of the last tick; none is missing. Scan and cross lie in the open stripe's
frame (07 R189); yaw needs no stripe. -/
def State.channels (s : State) : Option Int × Option Int × Option Int :=
  let m := s.feed.map
  let along (n : Nat) (sigma s0 : Stripe → Int) : Option Int :=
    match s.hem.stripe, (s.src n).y with
    | some st, some y => some (sigma st * (y - s0 st))
    | _, _ => none
  (along m.scan (·.sigmaY) (·.s0y), along m.cross (·.sigmaX) (·.s0x), s.yawSample)

/-- Sources named in the channel map that are not ready, as a mask (R284). -/
def State.srcNotReady (s : State) : Nat :=
  let m := s.feed.map
  (((List.range 16).filter fun n =>
    (n == m.scan || n == m.cross || n == m.yawA || n == m.yawB) && ((s.src n).state != SrcState.valid || (s.src n).suspect)).map
      fun n => 2 ^ n).sum

/-! ## Probe (R285 to R287) -/

def State.updProbe (n : Nat) (f : Probe → Probe) (s : State) : State :=
  s.updFeed fun d => { d with probes := listUpd d.probes n f }

/-- The entry that a probe edge makes once both bracketing ticks have come, and the sources of its mask
whose latch is invalid. -/
def State.probeEntry (n te : Nat) (rising : Bool) (flash : Nat) (dropped : Bool) (s : State) : ProbeEntry × List Nat :=
  let p := s.feed.probes.getD n {}
  let l := ((List.range 16).filter p.mask.testBit).map fun k => (k, (s.src k).interp te)
  ({ time := te, flash := flash, probe := n, edge := if rising then 1 else 2
     valid := ((l.zipIdx).map fun x => if x.1.2.isSome then 2 ^ x.2 else 0).sum
     flags := dropped.toNat, pos := l.map fun x => x.2.getD 0 }, (l.filter fun x => x.2.isNone).map (·.1))

/-- The entry of one edge goes into its probe's buffer; PROBE_NOPOS for each source without a position (R286). -/
def State.completeProbe (n : Nat) (s : State) (w : Nat × Bool × Nat × Bool) : State :=
  let r := s.probeEntry n w.1 w.2.1 w.2.2.1 w.2.2.2
  let s := r.2.foldl (fun s k => s.raise .probeNopos (s.addrFlash k)) s
  s.updProbe n fun p => { p with waiting := p.waiting.drop 1, buf := p.buf ++ [r.1] }

/-- Probe entries whose second bracketing tick has come are completed, with PROBE_NOPOS for each source
without a position (R286). -/
def State.completeProbes (s : State) : State :=
  (List.range 2).foldl (fun s n =>
    let p := s.feed.probes.getD n {}
    let done := p.waiting.filter fun w => decide (w.1 / 640 * 640 + 640 ≤ s.feed.lastTick.getD 0) && s.feed.lastTick.isSome
    done.foldl (State.completeProbe n) s) s

/-- PROBE_EDGE: an edge that finds the buffer full is dropped, and PROBE_READ reports it (R287). -/
def State.probeEdge (n te : Nat) (rising : Bool) (s : State) : State :=
  let s := s.updProbe n fun p => { p with level := rising }
  let p := s.feed.probes.getD n {}
  let wanted := p.edge.testBit (if rising then 0 else 1) && (p.mode == 2 || (p.mode == 1 && p.armed))
  if !wanted || 2 ≤ n then s
  else if 16 ≤ p.buf.length + p.waiting.length then s.updProbe n fun p => { p with overflow := true, dropped := true }
  else (s.updProbe n fun p =>
    { p with
      armed := p.mode == 2 && p.armed, dropped := false
      waiting := p.waiting ++ [(te, rising, s.eng.lastFlash, p.dropped)] }).completeProbes

/-! ## Compare (R289 to R292) -/

def State.updCmp (n : Nat) (f : Compare → Compare) (s : State) : State :=
  s.updFeed fun d => { d with cmps := listUpd d.cmps n f }

/-- A value is behind a position in the compare's direction. -/
def Compare.behind (c : Compare) (y : Int) : Bool := if c.dir = 1 then decide (c.value ≤ y) else decide (y ≤ c.value)

/-- Whether and when an Armed compare fires after the sample y at a tick with velocity v (R290). -/
def Compare.firing (c : Compare) (tick : Nat) (y v : Int) : Option Nat :=
  let ahead := if c.dir = 1 then c.value - y else y - c.value
  let v := if c.dir = 1 then v else -v
  if ahead ≤ 0 then some (tick + 64)
  else if 0 < v ∧ ahead * 65536 < v * 640 then
    let x := tick + (-(floorDiv (-(ahead * 65536)) v)).toNat
    some ((x + 63) / 64 * 64)
  else none

/-- Every compare of the active twin meets the samples of a tick. -/
def State.testCompares (tick : Nat) (s : State) : State :=
  if s.standby then s
  else s.updFeed fun d => { d with cmps := d.cmps.map fun (c : Compare) =>
    if c.state != .armed then c
    else match (s.src c.source).y with
      | some y => { c with fireAt := c.firing tick y ((s.src c.source).velocity c.source) }
      | none => { c with fireAt := none } }

/-- COMPARE_FIRE (R290, R291). -/
def State.compareFire (n : Nat) (s : State) : State :=
  let c := s.feed.cmps.getD n {}
  match c.fireAt with
  | none => s
  | some f =>
    if s.now < f || c.state != .armed || s.standby then s
    else
      let s := s.send (.compare n true)
      if c.mode = 0 then s.updCmp n fun c => { c with state := .fired, fireAt := none, highUntil := some (s.now + c.width * 64) }
      else
        let first := { c with value := c.value + c.step, fireAt := none, highUntil := some (s.now + c.width * 64) }
        let y := (s.src c.source).y
        let skip : Nat := match y with
          | some y => if first.behind y then
              (floorDiv (if c.dir = 1 then y - first.value else first.value - y) c.step.natAbs).toNat + 1
            else 0
          | none => 0
        let s := s.raiseUnless (skip == 0 || c.missedRaised) .cmpMissed (s.addrFlash n)
        s.updCmp n fun _ => { first with
          value := first.value + skip * c.step, skipped := c.skipped + skip
          missed := c.missed || skip != 0, missedRaised := c.missedRaised || skip != 0 }

/-- COMPARE_PULSE_END (R291): outputs whose width has passed fall. -/
def State.comparePulseEnd (s : State) : State :=
  (List.range 4).foldl (fun s n => match (s.feed.cmps.getD n {}).highUntil with
    | some h => if h ≤ s.now then (s.updCmp n fun c => { c with highUntil := none }).send (.compare n false) else s
    | none => s) s

/-- All compare outputs fall: a standby, reset (R292). -/
def State.comparesLow (s : State) : State :=
  (List.range 4).foldl (fun s n =>
    let s := if (s.feed.cmps.getD n {}).highUntil.isSome then s.send (.compare n false) else s
    s.updCmp n fun c => { c with highUntil := none, fireAt := none }) s

/-! ## Switch inputs (R293 to R295) -/

def State.swSet (n : Nat) (s : State) : SwitchSet := s.feed.sets.getD n {}
def State.swIn (n input : Nat) (s : State) : Switch := s.feed.sw.getD (3 * n + input) {}
def State.updSw (n input : Nat) (f : Switch → Switch) (s : State) : State :=
  s.updFeed fun d => { d with sw := listUpd d.sw (3 * n + input) f }

/-- An input (0 LIM_P, 1 LIM_M, 2 HOME) is qualified active. -/
def State.swActive (n input : Nat) (s : State) : Bool := (s.swIn n input).qualified == some ((s.swSet n).polarity.testBit input)

/-- Latches whose second bracketing tick has come (R293), and first valid samples after an invalid one. -/
def State.latchSwitches (s : State) : State :=
  (List.range 12).foldl (fun s i =>
    let n := i / 3
    let w := s.swIn n (i % 3)
    let c := s.src (s.swSet n).src
    match w.latchAt with
    | some te =>
      if te / 640 * 640 + 640 ≤ s.feed.lastTick.getD 0 then
        match c.interp te with
        | some p => s.updSw n (i % 3) fun w => { w with latch := some p, latchAt := none, needLatch := false }
        | none => (s.updSw n (i % 3) fun w => { w with latch := none, latchAt := none, needLatch := true }).raise .probeNopos (s.addrFlash n)
      else s
    | none =>
      if w.needLatch && w.latch.isNone then s.updSw n (i % 3) fun w => { w with latch := c.y } else s) s

/-- Whether the hysteresis of R294 lets an edge through. -/
def State.hystOk (n input : Nat) (s : State) : Bool :=
  let w := s.swIn n input
  if w.latchAt.isSome then false
  else match w.latch, (s.src (s.swSet n).src).y with
    | some p, some y => decide ((s.swSet n).hyst ≤ (y - p).natAbs)
    | none, _ => !w.needLatch
    | some _, none => false

/-- An edge of an input is accepted, with the position at its raw transition as far as it is known; both
limits active raise LIM_BOTH (R295). -/
def State.acceptEdge (n input : Nat) (e : HeldEdge) (s : State) : State :=
  let s := s.updSw n input fun w => { w with
    qualified := some e.raw, held := none, latch := e.pos.getD none, latchAt := if e.pos.isNone then some e.tRaw else none
    needLatch := e.pos == some none }
  let s := (s.raiseUnless (e.pos != some none) .probeNopos (s.addrFlash n)).latchSwitches
  if s.swActive n 0 && s.swActive n 1 && decide (input < 2) then s.raise .limBoth (s.addrFlash n) else s

/-- A level has held for sw_filter: whether its edge is accepted, and the state. R294 keeps an edge out
until the source has moved; a return to the qualified level ends it. -/
def State.switchEdge (n input : Nat) (raw : Bool) (tRaw : Nat) (s : State) : Bool × State :=
  let w := s.swIn n input
  if 4 ≤ n || 3 ≤ input || w.qualified.isNone then (false, s)
  else if w.qualified == some raw then (false, s.updSw n input fun w => { w with held := none })
  else if s.hystOk n input then (true, s.acceptEdge n input { raw := raw, tRaw := tRaw })
  else (false, s.updSw n input fun w => { w with held := some { raw := raw, tRaw := tRaw } })

/-- The source of an input's set interpolated at the raw transition of the edge that R294 keeps out, once
its second bracketing tick has come (R293). -/
def State.heldPosition (n input : Nat) (s : State) : State :=
  s.updSw n input fun w => { w with held := w.held.map fun (e : HeldEdge) =>
    if e.pos.isNone && e.tRaw / 640 * 640 + 640 ≤ s.feed.lastTick.getD 0 then { e with pos := some ((s.src (s.swSet n).src).interp e.tRaw) }
    else e }

end Sys2Proof.Machine
end

