-- ==== Sys2Proof/Machine/Plan.lean ====
section
/-! DEFINITION. Trajectories and jerk-limited plans (10 R312 to R315): the cycle update, the choice of
a plan, and what a plan's reference does on its way. -/

namespace Sys2Proof.Machine
open Sys2Proof

/-! ## Trajectory (R312) -/

/-- One cycle at jerk j. Every division is exact: jerks are multiples of 6 and a starts even. -/
def Traj.adv (x : Traj) (j : Int) : Traj :=
  { p := x.p + x.v + Int.fdiv x.a 2 + Int.fdiv j 6, v := x.v + x.a + Int.fdiv j 2, a := x.a + j, j := j }

/-- r, the reference position in fu (R304). -/
def Traj.ref (x : Traj) : Int := roundHalfUp x.p (2 ^ 32)

/-! ## The choice of a plan (R313) -/

/-- The limits of a plan: J, a_max and v_max. -/
structure Limits where
  j : Int
  a : Nat
  v : Nat
  deriving DecidableEq, Repr

/-- The limits of an axis for a plan from its present motion. Where the motion is already outside the
limits, they are widened to what bringing it to rest needs (log 40). -/
def AxisCfg.limits (c : AxisCfg) (x : Traj) : Limits :=
  let j := c.jMax / 6 * 6
  if x.v.natAbs ≤ c.vMax ∧ x.a.natAbs ≤ c.aMax then { j := j, a := c.aMax, v := c.vMax }
  else { j := j, a := max c.aMax x.a.natAbs, v := max c.vMax (x.v.natAbs + x.a.natAbs * (x.a.natAbs / (j + 1) + 2)) }

def Limits.holds (l : Limits) (x : Traj) : Bool := decide (x.a.natAbs ≤ l.a ∧ x.v.natAbs ≤ l.v)

/-- A segment at jerk j that may last up to n cycles: its possible lengths and the states they lead
to, as long as the limits hold. `k` counts the cycles run. -/
def Limits.lengths (l : Limits) (j : Int) : Nat → Nat → Traj → List (Nat × Traj)
  | 0, k, x => [(k, x)]
  | n + 1, k, x => (k, x) :: (if l.holds (x.adv j) then l.lengths j n (k + 1) (x.adv j) else [])

/-- Every way to spend exactly n cycles on the segments of the given jerks within the limits: the
segment lengths, and the end state. -/
def Limits.spend (l : Limits) : List Int → Nat → Traj → List (List Nat × Traj)
  | [], n, x => if n = 0 then [([], x)] else []
  | j :: js, n, x =>
    (l.lengths j n 0 x).flatMap fun k => (l.spend js (n - k.1) k.2).map fun r => (k.1 :: r.1, r.2)

/-- What a plan has to reach: the target in fu, none without position terms (R314), and the final
velocity. -/
structure Goal where
  target : Option Int
  vf : Int
  deriving DecidableEq, Repr

/-- A plan that comes into question: its direction, its segment lengths and its end state before the
correction of the last cycle. -/
structure Option7 where
  dir : Int
  lens : List Nat
  fin : Traj
  deriving DecidableEq, Repr

/-- Distance of the end from the target; 0 without position terms. -/
def Goal.miss (g : Goal) (e : Traj) : Nat := ((g.target.map fun t => (e.p - t * 2 ^ 32).natAbs)).getD 0

/-- The end state lies within one cycle of the goal (rule 1). -/
def Goal.near (g : Goal) (l : Limits) (e : Traj) : Bool :=
  decide (e.a.natAbs < l.j ∧ (e.v - g.vf).natAbs < l.a) && (g.target.isNone || decide (g.miss e < l.v))

/-- The plan's travel has the direction that its s says. -/
def Goal.heading (g : Goal) (x : Traj) (o : Option7) : Bool :=
  let travel := match g.target with
    | some t => t * 2 ^ 32 - x.p
    | none => o.fin.p - x.p
  decide (o.dir = if 0 < travel then 1 else -1)

/-- The first list is greater at the first place where they differ (rule 3). -/
def lensGreater : List Nat → List Nat → Bool
  | a :: as, b :: bs => if a = b then lensGreater as bs else decide (b < a)
  | _, _ => false

/-- o is to be taken before o' (rules 2 and 3). -/
def Goal.before (g : Goal) (o o' : Option7) : Bool :=
  let a := o.fin.a.natAbs
  let a' := o'.fin.a.natAbs
  let v := (o.fin.v - g.vf).natAbs
  let v' := (o'.fin.v - g.vf).natAbs
  if a ≠ a' then decide (a < a')
  else if v ≠ v' then decide (v < v')
  else if g.miss o.fin ≠ g.miss o'.fin then decide (g.miss o.fin < g.miss o'.fin)
  else lensGreater o.lens o'.lens

/-- The seven jerks of a plan in direction s. -/
def jerkSigns (s : Int) : List Int := [s, 0, -s, 0, -s, 0, s]

/-- The plans of exactly n cycles that meet the limits and rule 1. -/
def Goal.options (g : Goal) (l : Limits) (x : Traj) (n : Nat) : List Option7 :=
  ([1, -1].flatMap fun s => (l.spend ((jerkSigns s).map (· * l.j)) n x).map fun r =>
    { dir := s, lens := r.1, fin := r.2 }).filter fun o => g.near l o.fin && g.heading x o

/-- The plan that rules 2 and 3 take. -/
def Goal.best (g : Goal) : List Option7 → Option Option7
  | [] => none
  | o :: os => match g.best os with
    | none => some o
    | some o' => if g.before o o' then some o else some o'

/-- The plan of the fewest cycles, from n cycles up; at most `fuel` more. -/
def Goal.fewest (g : Goal) (l : Limits) (x : Traj) : Nat → Nat → Option Option7
  | 0, n => g.best (g.options l x n)
  | fuel + 1, n => match g.best (g.options l x n) with
    | some o => some o
    | none => g.fewest l x fuel (n + 1)

/-- Cycles beyond which the search for a plan is given up: more than stopping at the least jerk and
then going the whole way at the least speed takes (log 40). -/
def Goal.reach (g : Goal) (l : Limits) (x : Traj) : Nat :=
  let j := l.j.toNat
  if j = 0 ∨ l.a < j ∨ l.v < j then 0
  else 64 + 4 * ((g.miss x) / j) + 8 * ((x.v.natAbs + g.vf.natAbs + x.a.natAbs) / j)

/-- A plan as the axis runs it: its segments that last at least one cycle. -/
def Goal.plan (g : Goal) (l : Limits) (o : Option7) : Plan :=
  { segs := (((jerkSigns o.dir).map (· * l.j)).zip o.lens).filter fun s => decide (0 < s.2)
    target := g.target, vf := g.vf }

/-- The plan to a goal from the present state (R313); none when no plan meets the limits. -/
def AxisCfg.planTo (c : AxisCfg) (x : Traj) (g : Goal) : Option Plan :=
  let l := c.limits x
  (g.fewest l x (g.reach l x) 0).map (g.plan l)

/-! ## What a plan does -/

/-- What the last cycle of a plan leaves. -/
def Plan.finish (pl : Plan) (x : Traj) : Traj :=
  { x with p := (pl.target.map (· * 2 ^ 32)).getD x.p, v := pl.vf, a := 0 }

/-- n cycles at jerk j: every state on the way, the last one first. -/
def Traj.trail (j : Int) : Nat → Traj → List Traj → List Traj
  | 0, _, acc => acc
  | n + 1, x, acc => Traj.trail j n (x.adv j) (x.adv j :: acc)

/-- Every state that a plan leads through, the last one first; the last cycle's is the corrected one. -/
def Plan.trail (pl : Plan) (x : Traj) : List Traj :=
  match pl.segs.foldl (fun (l : List Traj) s => Traj.trail s.1 s.2 (l.headD x) l) [] with
  | [] => [pl.finish x]
  | e :: l => pl.finish e :: l

/-- The state at the end of a plan. -/
def Plan.endsAt (pl : Plan) (x : Traj) : Traj := (pl.trail x).headD x

/-- A stop plan (R314): v_f 0 and no target. With limits that allow none, the reference stops at once
(log 40). -/
def AxisCfg.stopPlan (c : AxisCfg) (x : Traj) : Plan := (c.planTo x { target := none, vf := 0 }).getD {}

/-- A move to a target in fu (R314): where reaching it means reversing, a stop plan and then the plan
from the turning point. -/
def AxisCfg.movePlans (c : AxisCfg) (x : Traj) (target : Int) : Option (Plan × Option Plan) :=
  let m := if x.v = 0 then x.a else x.v
  let stop := c.stopPlan x
  let turn := stop.endsAt x
  let t := target * 2 ^ 32
  if (0 < m ∧ (t < x.p ∨ t < turn.p)) ∨ (m < 0 ∧ (x.p < t ∨ turn.p < t)) then
    (c.planTo turn { target := some target, vf := 0 }).map fun pl => (stop, some pl)
  else (c.planTo x { target := some target, vf := 0 }).map fun pl => (pl, none)

/-- Every state of a plan and of the part that follows it, last first. -/
def trailOf (x : Traj) (pl : Plan) (after : Option Plan) : List Traj :=
  let l := pl.trail x
  match after with
  | some a => a.trail (l.headD x) ++ l
  | none => l

/-- Whether the reference moves in direction d (1 or -1) in any cycle of a trail (R319); a plan that
ends with a velocity goes on in its direction. -/
def movesIn (d : Int) (x : Traj) (vf : Int) (trail : List Traj) : Bool :=
  let l := trail.reverse
  ((x :: l).zip l).any (fun p => decide (0 < d * (p.2.p - p.1.p))) || decide (0 < d * vf)

/-- Whether every reference position of a trail lies within the soft limits (R315). -/
def AxisCfg.softOk (c : AxisCfg) (trail : List Traj) : Bool :=
  trail.all fun x => decide (c.softMin ≤ x.ref ∧ x.ref ≤ c.softMax)

/-! ## One cycle of an axis -/

/-- One cycle of the trajectory, and whether it was the last of the plan (R312, R313). -/
def Axis.advance (x : Axis) : Axis × Bool :=
  match x.plan with
  | none => ({ x with traj := x.traj.adv 0 }, false)
  | some pl =>
    let (t, segs) := match pl.segs with
      | [] => (x.traj, [])
      | (j, n) :: rest => (x.traj.adv j, if n ≤ 1 then rest else (j, n - 1) :: rest)
    if segs.isEmpty then ({ x with traj := pl.finish t, plan := x.after, after := none }, x.after.isNone)
    else ({ x with traj := t, plan := some { pl with segs := segs } }, false)

end Sys2Proof.Machine
end

