-- ==== Sys2Proof/Machine/Brace.lean ====
section
/-! DEFINITION. The servo axes (10): states, limits, the servo chain, the repetitive controller, Dike's
checks on each axis (15), stripe segments, homing, the deflector command and the actuator frames. -/

namespace Sys2Proof.Machine
open Sys2Proof

def State.updBr (f : Brace → Brace) (s : State) : State := { s with br := f s.br }
def State.axis (a : Nat) (s : State) : Axis := s.br.axes.getD a {}
def State.updAxis (a : Nat) (f : Axis → Axis) (s : State) : State :=
  s.updBr fun b => { b with axes := listUpd b.axes a f }
def State.dikeAxis (a : Nat) (s : State) : DikeAxis := s.dike.axes.getD a {}
def State.updDike (f : Dike → Dike) (s : State) : State := { s with dike := f s.dike }
def State.updDikeAxis (a : Nat) (f : DikeAxis → DikeAxis) (s : State) : State :=
  s.updDike fun d => { d with axes := listUpd d.axes a f }

/-- Hold, Move, Home, Stripe or Stop: the states in which ENABLE is 1 (R328). -/
def Axis.live (x : Axis) : Bool := !(x.state == .off || x.state == .coast)

/-- T_s in steps (R301). -/
def State.servoPeriod (s : State) : Nat := 12800 * s.br.g.cycUs

/-- Every axis in turn. -/
def State.eachAxis (f : Nat → State → State) (s : State) : State := (List.range 8).foldl (fun s a => f a s) s

/-! ## Limits (R319) -/

/-- The switch sets of an axis. -/
def State.axisSets (a : Nat) (s : State) : List Nat :=
  (List.range 4).filter fun n => (s.swSet n).src == (s.axis a).cfg.source

/-- A limit input of an axis (0 LIM_P, 1 LIM_M) is qualified active. -/
def State.limActive (a input : Nat) (s : State) : Bool := (s.axisSets a).any fun n => s.swActive n input

/-- A limit input that blocks plans: active, or not yet qualified (R293). -/
def State.limBlocks (a input : Nat) (s : State) : Bool :=
  (s.axisSets a).any fun n => s.swActive n input || (s.swIn n input).qualified.isNone

def State.limBoth (a : Nat) (s : State) : Bool := (s.axisSets a).any fun n => s.swActive n 0 && s.swActive n 1

/-- Why a plan is refused: its soft limits on a homed axis (R315), or a limit (R319, R295). -/
def State.planRefused (a : Nat) (pl : Plan) (after : Option Plan) (s : State) : Option FaultName :=
  let x := s.axis a
  let trail := trailOf x.traj pl after
  if x.homed && !x.cfg.softOk trail then some .softLimit
  else if s.limBoth a || (s.limBlocks a 0 && movesIn 1 x.traj pl.vf trail) || (s.limBlocks a 1 && movesIn (-1) x.traj pl.vf trail) then
    some .limitBlock
  else none

/-! ## Axis states (Table BRACE-4) -/

/-- A plan comes into force. A new target during Stop leaves the state Stop (R322). -/
def State.startPlan (a : Nat) (st : AxisState) (pl : Plan) (after : Option Plan) (s : State) : State :=
  s.updAxis a fun x => { x with
    state := if x.state == .stop && st == .move then .stop else st, plan := some pl, after := after, settling := false }

/-- A plan of the engine's own, if nothing refuses it; else the fault. -/
def State.tryPlan (a : Nat) (st : AxisState) (pl : Plan) (after : Option Plan) (s : State) : Except FaultName State :=
  match s.planRefused a pl after with
  | some f => .error f
  | none => .ok (s.startPlan a st pl after)

/-- A stop plan (R314, R321). -/
def State.stopAxis (a : Nat) (s : State) : State :=
  let x := s.axis a
  (s.startPlan a .stop (x.cfg.stopPlan x.traj) none).updAxis a fun x => { x with homing := none }

/-- The axis follows a plan other than a stop plan. -/
def Axis.moving (x : Axis) : Bool :=
  match x.state with
  | .move => true
  | .home => true
  | .stripe => true
  | .stop => x.after.isSome || x.plan.any fun pl => pl.target.isSome
  | _ => false

/-- The stop command's effect on one axis: Move, Home and Stripe go to Stop; a target given in Stop goes. -/
def State.stopMoving (a : Nat) (s : State) : State := if (s.axis a).moving then s.stopAxis a else s

/-- A controlled stop (R321). -/
def State.controlledStop (s : State) : State :=
  (s.eachAxis State.stopMoving).updBr fun b => { b with segment := .none }

/-- Entry to Off; Dike's override ends there (15 R465). -/
def State.axisOff (a : Nat) (s : State) : State :=
  (s.updAxis a fun x => { x with
    state := .off, plan := none, after := none, homing := none, settling := false, region := .scan, out := 0
    traj := { x.traj with v := 0, a := 0, j := 0 } }).updDikeAxis a fun _ => {}

/-- Every axis goes Off: Sleep, Boot, and R321 with Brace's own fault. -/
def State.axesOff (s : State) : State :=
  (s.eachAxis State.axisOff).updBr fun b => { b with segment := .none }

/-- Entry to Hold from Off or Coast (R322): the trajectory at the measured position, the chain at 0. -/
def State.holdAxis (a : Nat) (s : State) : State :=
  s.updAxis a fun x =>
    let y := ((s.src x.cfg.source).y).getD x.y
    { x with
      state := .hold, region := .hold, plan := none, after := none, settling := false, y := y, e := 0
      traj := { p := y * 2 ^ 32 }, chain := {}, ferrCnt := 0, ferrOk := 0, ferrRaised := false }

/-- Entry to Coast (R320). -/
def State.coastAxis (a : Nat) (s : State) : State :=
  let sensor := (s.src (s.axis a).cfg.source).state == .lostSensor
  (s.updAxis a fun x => { x with
    state := .coast, plan := none, after := none, homing := none, settling := false, region := .scan, out := 0
    homed := x.homed && !sensor, traj := { x.traj with v := 0, a := 0, j := 0 } }).raise .fbLost (s.addrFlash a)

/-- What a Lost source does to an axis (R320): it coasts, in Coast once more at each new loss; an axis that
is Off is no longer homed after a SENSOR loss. -/
def State.axisFollow (a : Nat) (s : State) : State :=
  let x := s.axis a
  let c := s.src x.cfg.source
  let s := s.updAxis a fun x => { x with lostSeen := c.lost }
  if s.standby || !c.lost then s
  else if x.live || (x.state == .coast && !x.lostSeen) then s.coastAxis a
  else s.updAxis a fun x => { x with homed := x.homed && c.state != .lostSensor }

/-- The axes follow their sources; only the active twin decides it (R331). -/
def State.axesFollow (s : State) : State := s.eachAxis State.axisFollow

/-! ## The servo chain (R304) -/

def clamp47 (x : Int) : Int := clampInt x (-(2 ^ 47)) (2 ^ 47 - 1)

def q23 (acc : Int) (sh : Nat) : Int := clamp47 (roundHalfUp (acc * 2 ^ sh) (2 ^ 23))

/-- The cascade of biquads: output and new states. -/
def biquads : List (Int × Int × Int × Int × Int × Nat) → List (Int × Int × Int × Int) → Int →
    Int × List (Int × Int × Int × Int)
  | (b0, b1, b2, a1, a2, sh) :: qs, (x1, x2, y1, y2) :: st, x =>
    let z := q23 (b0 * x + b1 * x1 + b2 * x2 - a1 * y1 - a2 * y2) sh
    let (u, st') := biquads qs st z
    (u, (x, x1, z, y1) :: st')
  | _, st, x => (x, st)

def Region.index : Region → Nat
  | .scan => 0
  | .step => 1
  | .settle => 2
  | .hold => 3

/-- The gain set of the axis's region (R306). -/
def Axis.gains (x : Axis) : Gains := x.cfg.gains.getD x.region.index {}

/-- The chain with measured position y and the repetitive controller's output rc: error, output and
state. The freeze it leaves does not yet know of Dike's clamp (R305). -/
def Axis.runChain (x : Axis) (y rc : Int) : Axis :=
  let g := x.gains
  let c := x.chain
  let e := clamp47 (x.traj.ref - y)
  let up := q23 (g.kp * e) g.shP
  let i := if c.freeze then c.i else clampInt (c.i + q23 (g.ki * e) g.shI) (-g.iLim) g.iLim
  let ud := q23 (g.kd * (e - c.e1)) g.shD
  let (z, bq) := biquads g.bq c.bq (clamp47 (up + i + ud))
  let uff := q23 (g.kaff * roundHalfUp x.traj.a (2 ^ 16)) g.shFF
  let u := z + uff + rc
  let out := clampInt u (-g.outLim) g.outLim
  { x with e := e, out := out, chain := { i := i, e1 := e, bq := bq, freeze := decide (out ≠ u) } }

/-! ## The repetitive controller (R310, R311) -/

/-- Before the chain of a Scan cycle: the table's state and the output. Answers too whether the table
was emptied for a new scan velocity, in the segment's `first` cycle. -/
def Axis.rcBefore (x : Axis) (scan first : Bool) (qref vc : Int) : Axis × Bool :=
  if !scan || x.cfg.rcEnable ≠ 1 || vc ≤ 0 then ({ x with rc := { x.rc with out := 0 } }, false)
  else
    let new : Bool := first && x.rc.state != .empty && x.rc.ve != vc
    let r : Rc := if x.rc.state == .empty || new then { state := .collecting, ve := vc } else x.rc
    let k := ((floorDiv (qref * 2 ^ 32) vc).emod (x.cfg.rcN : Int)).toNat
    ({ x with rc := { r with out := if r.state == .learning then sparseGet 0 r.table k else 0 } }, new)

/-- After the chain: the entry rc_lead cycles earlier learns, and s counts the cycle. -/
def Axis.rcAfter (x : Axis) (frozen scan : Bool) (qref vc : Int) : Axis :=
  if !scan || x.cfg.rcEnable ≠ 1 || vc ≤ 0 then x
  else
    let r := x.rc
    let k := ((floorDiv (qref * 2 ^ 32) vc).emod (x.cfg.rcN : Int)).toNat
    let table := if r.state == .learning && !frozen then
        let kk := (k + x.cfg.rcN - x.cfg.rcLead) % x.cfg.rcN
        let g := floorDiv (x.cfg.rcGain * min (r.s / x.cfg.rcN - 1) x.cfg.rcRamp) x.cfg.rcRamp
        let c := clampInt (q23 (x.cfg.rcQ * sparseGet 0 r.table kk) 0 + q23 (g * x.e) x.cfg.rcSh) (-x.cfg.rcLim) x.cfg.rcLim
        sparseSet r.table kk c (c == 0)
      else r.table
    let st := if r.state == .collecting && r.s + 1 == 2 * x.cfg.rcN then RcState.learning else r.state
    { x with rc := { r with state := st, s := r.s + 1, table := table } }

/-- The table goes Empty. -/
def Axis.rcClear (x : Axis) : Axis := { x with rc := {} }

/-! ## Dike on an axis (15 R464, R465) -/

/-- |x| × 10^n ≤ L × cyc_us^n (15 R461). -/
def withinLim (x : Int) (lim n cyc : Nat) : Bool := decide (x.natAbs * 10 ^ n ≤ lim * cyc ^ n)

/-- The first check of R464 that an axis fails: its fault and sub-field. `y` and `yPrev` are the
measured positions of this cycle and the previous one, none when missing. -/
def dikeCheck (l : DikeLim) (cyc : Nat) (t : Traj) (y yPrev : Option Int) : Option (FaultName × Nat) :=
  if !withinLim t.v l.vLim 1 cyc then some (.dikeMotion, 1)
  else if !withinLim t.a l.aLim 2 cyc then some (.dikeMotion, 2)
  else if !withinLim t.j l.jLim 3 cyc then some (.dikeMotion, 3)
  else if !decide (l.winMin ≤ t.ref ∧ t.ref ≤ l.winMax) then some (.dikeTravel, 1)
  else match y, yPrev with
    | some y, some y0 =>
      if !decide ((y - y0).natAbs * 2 ^ 32 * 10 * 8 ≤ l.vLim * cyc * 9) then some (.dikeMotion, 4)
      else if !decide (l.winMin ≤ y ∧ y ≤ l.winMax) then some (.dikeTravel, 2)
      else none
    | _, _ => none

/-- The brake's setpoint (R465). -/
def DikeLim.brake (l : DikeLim) (dv : Int) : Int :=
  let b := clampInt (roundHalfUp (-(l.brakeK * dv)) 65536) (-l.brakeOut) l.brakeOut
  if l.polarity = 1 then -b else b

/-- Dike after the chain of an axis: its checks, and the brake in place of the setpoint. -/
def State.dikeCycle (a : Nat) (y : Option Int) (s : State) : State :=
  let x := s.axis a
  let d := s.dikeAxis a
  let l := s.dike.lims.getD a {}
  let bad := dikeCheck l s.br.g.cycUs x.traj y d.yPrev
  let s := match bad with
    | some (f, sub) =>
      if s.standby then s.updDikeAxis a fun d => { d with failed := true }
      else if d.ovr then s
      else (s.raise f (s.addrSub a sub)).updDikeAxis a fun d =>
        { d with ovr := true, brake := true, restCount := 0, brakeStart := s.now }
    | none => s
  let dv := match y, d.yPrev with
    | some y, some y0 => y - y0
    | _, _ => d.dvPrev
  let s := s.updDikeAxis a fun d => { d with
    yPrev := y, dvPrev := dv, restCount := if d.ovr && absLe dv s.dike.restFu then d.restCount + 1 else 0 }
  if (s.dikeAxis a).ovr then
    s.updAxis a fun x => { x with out := l.brake dv, chain := { x.chain with freeze := true } }
  else s

/-- BRAKE_TIMEOUT: after rest or brake_ms, ENABLE of the slot is cleared (R465). -/
def State.brakeTimeout (a : Nat) (s : State) : State :=
  let d := s.dikeAxis a
  if d.ovr && d.brake && decide (100 ≤ d.restCount ∨ d.brakeStart + s.dike.brakeMs * 12800000 ≤ s.now) then
    s.updDikeAxis a fun d => { d with brake := false }
  else s

/-! ## Actuator frames (R328) -/

/-- The axis that sends in a slot of a link. -/
def State.slotAxis (link slot : Nat) (s : State) : Option Nat :=
  (List.range 8).find? fun a => let c := (s.axis a).cfg; c.enable == 1 && c.link == link && c.slot == slot

/-- The setpoints of a link, slot 0 first; 0 in a slot without a live axis. -/
def State.setpoints (link : Nat) (s : State) : List Int :=
  (List.range 4).map fun k => match s.slotAxis link k with
    | some a => if (s.axis a).live then (s.axis a).out else 0
    | none => 0

/-- ENABLE of a link's slots (R328, 15 R465). -/
def State.enables (link : Nat) (s : State) : Nat :=
  ((List.range 4).map fun k => match s.slotAxis link k with
    | some a => if (s.axis a).live && (!(s.dikeAxis a).ovr || (s.dikeAxis a).brake) then 2 ^ k else 0
    | none => 0).sum

/-- The frame of the cycle takes the place of the previous one. -/
def State.makeFrame (s : State) : State :=
  s.updBr fun b => { b with
    prev := b.cur
    cur := { cycle := b.cycle, set0 := s.setpoints 0, set1 := s.setpoints 1, ctrl0 := s.enables 0, ctrl1 := s.enables 1 } }

/-- A link's frame goes out; the injected mask of checker 14 acts on its CRC. -/
def State.sendLink (link cycle : Nat) (set : List Int) (ctrl : Nat) (s : State) : State :=
  let (m, s) := s.inject 14 link
  let bytes := actFrame s.eng.twinB s.twin.active link ctrl cycle set m
  let r := actGroups (s.br.rd.getD link false) bytes
  (s.updBr fun b => { b with rd := listUpd b.rd link fun _ => r.2 }).send (.act link bytes r.1)

/-- Both links' frames go out. -/
def State.sendAct (f : ActFrame) (s : State) : State :=
  (s.sendLink 0 f.cycle f.set0 f.ctrl0).sendLink 1 f.cycle f.set1 f.ctrl1

/-- The standby lacks the setpoints of the cycle, for both links (R329). -/
def State.copyMissed (s : State) : State :=
  (if s.br.copyMissRaised then s
   else (s.raise .actCopyMiss (s.addrFlash 0)).raise .actCopyMiss (s.addrFlash 1)).updBr fun b => { b with
     copyMissRaised := true, copyMisses := b.copyMisses + 1 }

/-- The back-up point q_b of 07 Table HEM-2. -/
def Hem.backUpPoint (h : Hem) (st : Stripe) : Int := (((h.mHw.map (· + 1)).getD 0 * st.p : Nat) : Int) - st.dRu

/-- Hem at a takeover (07 R215): the copied state, moved on by the commits received since. -/
def Hem.takeOn (h : Hem) : Hem :=
  let run := h.commitSince && (h.state == .runIn || h.state == .seamRun)
  { h with
    closed := false, commitSince := false, resync := !(run || h.state == .tracking)
    state := if run then .tracking else h.state, seamStep := if run then 0 else h.seamStep
    causes := if run then [] else h.causes, qb := (h.stripe.map h.backUpPoint).getD h.qb }

/-- A standby becomes the active twin (11 R355, R358; 15 R466): its shadow cycles, its loop and the
commits it holds go on as its own, and it takes the replay caches over. -/
def State.becomeActive (s : State) : State :=
  let s := s.mergeCaches
  let s : State := { s with
    twin := { s.twin with
      active := true, swapDue := false, snap := none, image := [], unapplied := 0, ownFault := s.eng.state == .fault }
    br := { s.br with copied := none }
    dike := { s.dike with peerHold := false }
    hem := s.hem.takeOn }
  (if s.eng.state == .seam && s.hem.state == .tracking then s.enter .writing else s).cuffStatus

/-- The output phase of a servo cycle is reached (R301). -/
def State.atOutputPhase (s : State) : Bool := s.now % s.servoPeriod == s.br.g.outPhase

/-- OUTPUT_PHASE (R301, R302, R329; 11 R358). -/
def State.outputPhase (finished : Bool) (s : State) : State :=
  if !s.atOutputPhase then s else
  let s := if s.standby && s.twin.swapDue then s.becomeActive else s
  if s.eng.state == .sleep || s.eng.state == .boot then s
  else if s.standby && s.twin.pair != .alone then
    match s.br.copied with
    | some f =>
      if f.cycle == s.br.cycle then (if s.dike.peerHold then s else s.sendAct f)
      else s.copyMissed
    | none => s.copyMissed
  else if finished then s.sendAct s.br.cur
  else
    let f := { s.br.cur with
      set0 := s.br.prev.set0, set1 := s.br.prev.set1, ctrl0 := s.br.cur.ctrl0 + 16, ctrl1 := s.br.cur.ctrl1 + 16 }
    ((s.raise .outputLate (s.addrFlash 0xFF)).toPeer (.setpoint f.cycle f.ctrl0 f.ctrl1 f.set0 f.set1)).sendAct f

/-! ## Stripe segments (Table BRACE-3) -/

/-- Position of a scan-channel point on the scan axis. -/
def Stripe.scanPos (st : Stripe) (q : Int) : Int := st.s0y + st.sigmaY * q

/-- v_run for a flash rate (R317). -/
def State.vRun (p f : Nat) (s : State) : Int := roundHalfUp ((p * f * s.br.g.cycUs : Nat) * 2 ^ 32) 1000

/-- The scan or cross axis is in Coast: no stopped and no settled report (R320). -/
def State.axesCoast (s : State) : Bool :=
  (s.axis s.br.g.scanAxis).state == .coast || (s.axis s.br.g.crossAxis).state == .coast

/-- The plans of Approach: the cross axis to S0x, the scan axis to q = −D_ru. -/
def State.approachPlans (st : Stripe) (s : State) : List (Nat × Option (Plan × Option Plan)) :=
  let move (a : Nat) (t : Int) := (a, (s.axis a).cfg.movePlans (s.axis a).traj t)
  [move s.br.g.crossAxis st.s0x, move s.br.g.scanAxis (st.scanPos (-st.dRu))]

/-- Approach begins. -/
def State.approach (st : Stripe) (s : State) : State :=
  let s := (s.approachPlans st).foldl (fun s p => match p.2 with
    | some (pl, after) => s.startPlan p.1 .move pl after
    | none => s) s
  s.updBr fun b => { b with
    segment := .approach, deflRaised := false, shadowRaised := false, copyMissRaised := false
    axes := b.axes.map fun (x : Axis) => { x with missRaised := false } }

/-- Approach has ended: both axes have arrived and settled. -/
def State.approached (s : State) : Bool :=
  s.br.segment == .approach && [s.br.g.scanAxis, s.br.g.crossAxis].all fun a =>
    let x := s.axis a
    x.state == .hold && x.plan.isNone && !x.settling &&
    s.hem.stripe.all fun st => x.traj.p == (if a = s.br.g.scanAxis then st.scanPos (-st.dRu) else st.s0x) * 2 ^ 32

/-- Run begins: the scan axis from rest to v_run. A plan that a limit refuses raises its fault, and
the axis stays where it is. -/
def State.runMotion (f : Nat) (s : State) : State :=
  match s.hem.stripe with
  | none => s
  | some st =>
    let a := s.br.g.scanAxis
    let x := s.axis a
    let s := s.updBr fun b => { b with segment := .run }
    if !x.live then s
    else match x.cfg.planTo x.traj { target := none, vf := st.sigmaY * s.vRun st.p f } with
      | some pl => match s.tryPlan a .stripe pl none with
        | .ok s' => s'
        | .error e => s.raise e (s.addrFlash a)
      | none => s

/-- Seam step 2: the scan axis stops from where the Run or Scan stands. -/
def State.seamStopMotion (s : State) : State :=
  let a := s.br.g.scanAxis
  let s := s.updBr fun b => { b with segment := .seamStop }
  if (s.axis a).live then s.stopAxis a else s

/-- Run-out (R317), and a stripe-abort in Scan, Back-up or Approach: stop plans on the axes that
move. -/
def State.runOut (s : State) : State :=
  let s := s.updBr fun b => { b with segment := .runOut }
  [s.br.g.scanAxis, s.br.g.crossAxis].foldl (fun s a => s.stopMoving a) s

/-- Back-up: the scan axis to q_b. -/
def State.backUp (s : State) : State :=
  match s.hem.stripe with
  | none => s
  | some st =>
    let a := s.br.g.scanAxis
    let x := s.axis a
    let s := s.updBr fun b => { b with segment := .backUp }
    match x.cfg.movePlans x.traj (st.scanPos s.hem.qb) with
    | some (pl, after) => match s.tryPlan a .move pl after with
      | .ok s' => s'
      | .error e => s.raise e (s.addrFlash a)
    | none => s

/-- Causes that the stop report clears (07 Table HEM-3). -/
def Cause.stopClears : Cause → Bool
  | .overspeed _ => true
  | .heldAbandon => true
  | _ => false

/-- The Seam stop has ended and Brace reports the stage stopped (07 Tables HEM-2, HEM-3): overspeed and
HELD_ABANDON clear, and the stage backs up. -/
def State.stageStopped (s : State) : State :=
  ({ s with hem := { s.hem with stopped := true, seamStep := 3, causes := s.hem.causes.filter fun c => !c.stopClears } }).backUp

/-- The scan axis is settled at q_b and no limit in the scan direction holds (R319, R320). -/
def State.stageSettled (s : State) : Bool :=
  match s.hem.stripe with
  | none => false
  | some st =>
    let a := s.br.g.scanAxis
    let x := s.axis a
    s.br.segment == .backUp && !s.axesCoast && x.state == .hold && x.plan.isNone && !x.settling &&
    x.traj.p == st.scanPos s.hem.qb * 2 ^ 32 && !s.limActive a (if st.sigmaY = 1 then 0 else 1)

/-! ## Homing (R323) -/

/-- The HOME input of an axis: that of its lowest-numbered set (R319). -/
def State.homeSet (a : Nat) (s : State) : Option Nat := (s.axisSets a).head?

def State.updHoming (a : Nat) (f : Homing → Homing) (s : State) : State :=
  s.updAxis a fun x => { x with homing := x.homing.map f }

/-- HOME_FAIL: the axis stops, unhomed. -/
def State.homeFail (a : Nat) (s : State) : State :=
  ((s.raise .homeFail (s.addrFlash a)).stopAxis a).updAxis a fun x => { x with homed := false }

/-- A homing plan; one that is refused fails the homing. -/
def State.homePlan (a : Nat) (plan : Option (Plan × Option Plan)) (s : State) : State :=
  match plan with
  | none => s.homeFail a
  | some (pl, after) => match s.tryPlan a .home pl after with
    | .ok s' => s'
    | .error e => (s.raise e (s.addrFlash a)).homeFail a

/-- Constant velocity from the present state. -/
def State.homeSpeed (a : Nat) (v : Int) (s : State) : State :=
  let x := s.axis a
  s.homePlan a ((x.cfg.planTo x.traj { target := none, vf := v }).map fun pl => (pl, none))

/-- A stop plan that leaves the axis in homing. -/
def State.homeStop (a : Nat) (seg : HomeSeg) (s : State) : State :=
  let x := s.axis a
  (s.startPlan a .home (x.cfg.stopPlan x.traj) none).updHoming a fun h => { h with seg := seg, edgeAt := none }

/-- A segment that searches for an edge begins at constant velocity. -/
def State.homeSearch (a : Nat) (seg : HomeSeg) (v : Int) (s : State) : State :=
  (s.updHoming a fun h => { h with seg := seg, from' := (s.axis a).traj.p, edgeAt := none, indexes := [] }).homeSpeed a v

/-- H4: the offset moves so that the latched point is home_pos, and with it the reference and every
remembered sample of the source; then a stop plan. -/
def State.homeReference (a : Nat) (h : Homing) (ph : Int) (s : State) : State :=
  let src := (s.axis a).cfg.source
  let d := h.params.homePos - ph
  let s := s.updSrc src fun c => { c with
    offset := c.offset + d, y := c.y.map (· + d), hist := c.hist.map fun p => (p.1, p.2.map (· + d)) }
  let s := s.eachAxis fun b s => if (s.axis b).cfg.source == src then
    (s.updDikeAxis b fun k => { k with yPrev := k.yPrev.map (· + d) }).updAxis b fun x => { x with y := x.y + d } else s
  (s.updAxis a fun x => { x with traj := { x.traj with p := x.traj.p + d * 2 ^ 32 } }).homeStop a .reference

/-- Homing ends: the axis is homed, it goes to Stop, and its source is re-referenced (09 Table FEED-3). -/
def State.homeDone (a : Nat) (s : State) : State :=
  ((s.stopAxis a).updAxis a fun x => { x with homed := true }).updSrc (s.axis a).cfg.source fun c =>
    if c.state == .valid then { c with suspect := false } else c

/-- What the latch of the HOME edge says: none while its second tick has not come, `some none` when it
is invalid (09 R293). -/
def State.homeLatch (a : Nat) (s : State) : Option (Option Int) :=
  match s.homeSet a with
  | none => some none
  | some n =>
    let w := s.swIn n 2
    if w.latchAt.isSome then none else if w.needLatch then some none else some w.latch

/-- An index event while an axis homes (R323). -/
def State.homeIndexEvent (src : Nat) (s : State) : State :=
  if s.standby then s
  else s.eachAxis fun a s =>
    if (s.axis a).cfg.source ≠ src then s
    else match (s.src src).quad.index with
      | some l => if l.2 = s.now then s.updHoming a fun h =>
          if h.seg == .latch || h.seg == .latchIndex then { h with indexes := h.indexes ++ [l] } else h
        else s
      | none => s

/-- H3 with use_index, its HOME edge found: the latched point is that of the first index event after the
edge. -/
def State.homeIndex (a : Nat) (h : Homing) (far : Bool) (s : State) : State :=
  let hit := h.edgeAt.bind fun te => h.indexes.find? fun l => decide (te < l.2)
  match hit with
  | some l => match (s.src (s.axis a).cfg.source).toFu l.1 with
    | some p => s.homeReference a h p
    | none => s.homeFail a
  | none => if far then s.homeFail a else s.updHoming a fun h => { h with seg := .latchIndex }

/-- One cycle of homing (Table BRACE-6); `last` says that the plan has ended. -/
def State.homeStep (a : Nat) (last : Bool) (s : State) : State :=
  let x := s.axis a
  match x.homing with
  | none => s
  | some h =>
    let far := decide ((h.params.range : Int) * 2 ^ 32 < (x.traj.p - h.from').natAbs)
    match h.seg with
    | .search => if h.edgeAt.isSome then s.homeStop a .backStop else if far then s.homeFail a else s
    | .searchStop => if last then s.homeSearch a .search (h.dir * h.params.vSearch) else s
    | .backStop => if last then s.homeSearch a .backMove (-(h.dir * h.params.vSearch)) else s
    | .backMove =>
      if h.edgeAt.isSome then match s.homeLatch a with
        | none => s
        | some none => s.homeFail a
        | some (some p) => (s.updHoming a fun h => { h with seg := .backFurther }).homePlan a (x.cfg.movePlans x.traj (p - h.dir * h.params.backoff))
      else if far then s.homeFail a else s
    | .backFurther => if last then s.homeSearch a .latch (h.dir * h.params.vLatch) else s
    | .latch =>
      if h.edgeAt.isSome then
        if h.params.useIndex then s.homeIndex a h far
        else match s.homeLatch a with
          | none => s
          | some none => s.homeFail a
          | some (some p) => s.homeReference a h p
      else if far then s.homeFail a else s
    | .latchIndex => s.homeIndex a h far
    | .reference => if last then s.homeDone a else s

/-- A qualified edge of HOME while an axis homes: the edge that its segment waits for is noted. -/
def State.homeEdge (n : Nat) (tRaw : Nat) (s : State) : State :=
  s.eachAxis fun a s =>
    if (s.axis a).state == .home && s.homeSet a == some n then
      s.updHoming a fun h =>
        let wanted := match h.seg with
          | .search => s.swActive n 2
          | .latch => s.swActive n 2
          | .backMove => !s.swActive n 2
          | _ => false
        if wanted && h.edgeAt.isNone then { h with edgeAt := some tRaw } else h
    else s

/-! ## Limits becoming active (R319, Table BRACE-6) -/

/-- A limit of an axis (0 LIM_P, 1 LIM_M) has become active. -/
def State.limitHit (a input : Nat) (s : State) : State :=
  let d : Int := if input = 0 then 1 else -1
  let x := s.axis a
  let s := s.raise .limitHit (s.addrFlash a)
  match x.state, x.homing with
  | .home, some h =>
    if h.seg == .search || h.seg == .searchStop then
      if s.limBoth a then s.homeFail a
      else if h.dir ≠ d then s
      else if h.reversed then s.homeFail a
      else (s.updHoming a fun h => { h with dir := -h.dir, reversed := true }).homeStop a .searchStop
    else s.homeFail a
  | _, _ => if x.live && x.state != .hold && (decide (0 < d * x.traj.v) || s.limBoth a) then s.stopAxis a else s

/-! ## The servo cycle (R301) -/

/-- Trajectory and sample of an axis: its measured position, with SAMPLE_MISS at the first miss in a
stripe (R303), and one cycle of its trajectory. `true` in the flag that is added: the plan ended. -/
def State.takeSample (a : Nat) (s : State) : State :=
  let x := s.axis a
  if !x.live then s
  else
    let y := (s.src x.cfg.source).y
    let s := s.raiseUnless (y.isSome || x.missRaised || s.standby || s.hem.stripe.isNone) .sampleMiss (s.addrFlash a)
    let inStripe := s.hem.stripe.isSome
    s.updAxis a fun x => { x with
      y := y.getD x.y, yOk := y.isSome, misses := if y.isSome then x.misses else satInc 32 x.misses
      missRaised := x.missRaised || (inStripe && y.isNone) }

/-- The axes whose plan ends in this cycle, after one cycle of every trajectory. -/
def State.advanceAxes (s : State) : List Nat × State :=
  (List.range 8).foldl (fun (acc : List Nat × State) a =>
    if !(acc.2.axis a).live then acc
    else
      let (x, last) := (acc.2.axis a).advance
      (if last then acc.1 ++ [a] else acc.1, acc.2.updAxis a fun _ => x)) ([], s)

/-- State, settle and region of an axis in this cycle (Tables BRACE-1 and BRACE-4). -/
def State.regionCycle (a : Nat) (last : Bool) (s : State) : State :=
  s.updAxis a fun x =>
    if !x.live then x
    else
      let rest := last && x.traj.v == 0
      let x := if rest && (x.state == .move || x.state == .stop) then
          { x with
            state := .hold
            settling := true, settleCnt := 0, settleStart := s.now, settleLate := false }
        else x
      let region : Region := if s.br.segment == .run || s.br.segment == .scan then .scan
        else if rest || x.settling then .settle
        else if x.plan.isSome || x.state == .home then .step
        else .hold
      { x with region := region }

/-- Following error of an axis (R309), and its settle (R308). -/
def State.errorCycle (a : Nat) (s : State) : State :=
  let x := s.axis a
  let beyond := !absLe x.e x.gains.ferrLim
  let cnt := if beyond then x.ferrCnt + 1 else 0
  let ok := if beyond then 0 else x.ferrOk + 1
  let hit := decide (x.cfg.ferrTime ≤ cnt) && !x.ferrRaised
  let s := s.raiseUnless (!hit) .followErr (s.addrFlash a)
  s.updAxis a fun x =>
    let n := if absLe x.e x.cfg.settleWin then x.settleCnt + 1 else 0
    { x with
      ferrCnt := cnt, ferrOk := ok, ferrEvents := if hit then satInc 32 x.ferrEvents else x.ferrEvents
      ferrRaised := hit || (x.ferrRaised && !decide (x.cfg.ferrTime ≤ ok))
      settleCnt := if x.settling then n else 0, settling := x.settling && decide (n < x.cfg.settleN) }

/-- The chain of an axis, the repetitive controller around it, and Dike after it. -/
def State.chainCycle (a : Nat) (scan first : Bool) (qref vc : Int) (s : State) : State :=
  let x := s.axis a
  if !x.live then s.updDikeAxis a fun d => { d with yPrev := none }
  else
    let frozen := x.chain.freeze
    let (x, new) := x.rcBefore scan first qref vc
    let s := s.raiseUnless (!new || s.standby) .rcDiscard (s.addrFlash a)
    let x := (x.runChain x.y x.rc.out).rcAfter frozen scan qref vc
    let s := (s.updAxis a fun _ => x).dikeCycle a (if x.yOk then some x.y else none)
    if s.standby then s else s.errorCycle a

/-- The scan axis's reference in the scan channel and its velocity there (R310). -/
def State.scanRef (s : State) : Int × Int :=
  match s.hem.stripe with
  | some st =>
    let x := s.axis s.br.g.scanAxis
    (st.sigmaY * (x.traj.ref - st.s0y), st.sigmaY * x.traj.v)
  | none => (0, 0)

/-- What the end of plans and settles does to the segment in force (Table BRACE-3). -/
def State.segmentCycle (lasts : List Nat) (s : State) : State :=
  let a := s.br.g.scanAxis
  match s.br.segment with
  | .run => if lasts.contains a && (s.axis a).state == .stripe then s.updBr fun b => { b with segment := .scan } else s
  | .seamStop => if lasts.contains a && !s.axesCoast then s.stageStopped else s
  | .backUp =>
    if s.stageSettled then { s with hem := { s.hem with settled := true, seamStep := 4 } }
    else { s with hem := { s.hem with settled := false } }
  | .runOut => if (s.axis a).plan.isNone && !(s.axis a).settling then s.updBr fun b => { b with segment := .none } else s
  | _ => s

/-- The standby against the active twin in the cycle just over (R331, 15 R466). -/
def State.shadowCycle (s : State) : State :=
  match s.br.copied with
  | none => s
  | some f =>
    if !s.standby || f.cycle != s.br.cycle then s
    else
      let s := s.eachAxis fun a s =>
        let x := s.axis a
        if !x.live || x.cfg.enable ≠ 1 then s
        else
          let own := (if x.cfg.link = 0 then f.set0 else f.set1).getD x.cfg.slot 0
          let cnt := if absLe (x.out - own) s.br.g.shadowTol then 0 else x.shadowCnt + 1
          let hit := decide (s.br.g.shadowN ≤ cnt) && !s.br.shadowRaised
          let s := s.raiseUnless (!hit) .braceShadow (s.addrFlash a)
          (s.updAxis a fun x => { x with shadowCnt := cnt }).updBr fun b => { b with shadowRaised := b.shadowRaised || hit }
      s.eachAxis fun a s =>
        let d := s.dikeAxis a
        if !d.failed then s
        else
          let s := s.updDikeAxis a fun d => { d with failed := false }
          if d.ovr || s.dike.peerHold then s
          else (s.raise .dikePeer (s.addrFlash a)).updDike fun d => { d with peerHold := true }

/-- A block that waited comes into force (R332). -/
def Axis.force (x : Axis) : Axis := { x with cfg := x.newCfg.getD x.cfg, newCfg := none }

/-- The motion of a servo cycle: samples, trajectories, chains, Dike, segments and homing, and the
cycle's frame. -/
def State.servoMotion (s : State) : State :=
  let s := s.shadowCycle
  let s := s.updBr fun b => { b with cycle := s.now / s.servoPeriod, axes := b.axes.map Axis.force }
  let scan := s.br.segment == .scan
  let (lasts, s) := (s.eachAxis State.takeSample).advanceAxes
  let s := s.eachAxis fun a s => s.regionCycle a (lasts.contains a)
  let (qref, vc) := s.scanRef
  let s := s.eachAxis fun a s => s.chainCycle a scan (scan && !s.br.inScan) qref vc
  let s := s.makeFrame.updBr fun b => { b with inScan := scan }
  if s.standby then s
  else (s.eachAxis fun a s => if (s.axis a).state == .home then s.homeStep a (lasts.contains a) else s).segmentCycle lasts

/-- SETTLE_TIMEOUT (R308). -/
def State.settleTimeout (a : Nat) (s : State) : State :=
  let x := s.axis a
  if x.settling && !x.settleLate && !s.standby && decide (x.settleStart + x.cfg.settleTo * 12800000 < s.now) then
    (s.raise .settleTimeout (s.addrFlash a)).updAxis a fun x => { x with settleLate := true }
  else s

/-! ## The deflector command (R325) -/

/-- The tracking command of a flash with stage errors e after one with e_prev. -/
def State.track (resync : Bool) (ex ey px py : Int) (s : State) : (Int × Int) × State :=
  if s.sh.deflMode = 1 then ((0, 0), s)
  else
    let raw (e p : Int) : Int := roundHalfUp (e * s.br.g.deflK0 + (if resync then 0 else e - p) * s.br.g.deflK1) 65536
    let rx := raw ex px
    let ry := raw ey py
    let cx := clampInt rx (-2048) 2047
    let cy := clampInt ry (-2048) 2047
    let n := (cx != rx).toNat + (cy != ry).toNat
    let s := s.raiseUnless (n == 0 || s.br.deflRaised) .deflClamp (s.addrFlash (if cx != rx then 0 else 1))
    ((cx, cy), s.updBr fun b => { b with deflClamps := b.deflClamps + n, deflRaised := b.deflRaised || n != 0 })

end Sys2Proof.Machine
end

