-- ==== Sys2Proof/Machine/Hem.lean ====
section
/-! DEFINITION. Hem (07): predictors, the flash-phase loop, commits, gates, Held and the Seam procedure,
the rate ceiling, the dose clock, and the issue of flashes. -/

namespace Sys2Proof.Machine
open Sys2Proof

def State.updHem (f : Hem → Hem) (s : State) : State := { s with hem := f s.hem }
def State.hemStats (f : HemStats → HemStats) (s : State) : State := s.updHem fun h => { h with stats := f h.stats }

/-- A count that saturates at 2^64 − 1 (R227). -/
def sat64 (n : Nat) : Nat := min n (2 ^ 64 - 1)

/-! ## Predictors and the loop (R190, R191) -/

/-- pred(c, t), in 2^-16 units. -/
def Pred.at' (c : Pred) (t : Nat) : Int := c.p + roundHalfUp (c.v * ((t : Int) - c.t0)) 65536

/-- A valid sample. -/
def Pred.take (c : Pred) (cfg : HemCfg) (y : Int) (ts : Nat) : Pred :=
  if !c.started then { started := true, p := y * 65536, v := 0, t0 := ts, tValid := ts }
  else
    let pp := c.at' ts
    let res := y * 65536 - pp
    { c with p := pp + roundHalfUp (res * cfg.ka) 65536, v := c.v + roundHalfUp (res * cfg.kb) 65536, t0 := ts, tValid := ts }

/-- Φ(t). -/
def Hem.phase (h : Hem) (t : Nat) : Int := h.phi + roundHalfUp (h.omega * ((t : Int) - h.tl)) 65536

/-- The last valid scan sample is too old at ts (R193, R196). -/
def Hem.staleQ (h : Hem) (ts : Nat) : Bool := !h.q.started || decide (2560 < ts - h.q.tValid)

/-- FLASH_PHASE_LOOP: the loop after the raw update, and whether OVERSPEED_LOCK holds. -/
def Hem.loop (h : Hem) (valid : Bool) (ts : Nat) : Hem × Bool :=
  if h.state == .tracking then
    let ph := h.phase ts
    if valid then
      let err := h.q.p - ph
      let phi := ph + roundHalfUp (err * h.cfg.kp) 65536
      ({ h with phi := phi, omega := h.omega + roundHalfUp (err * h.cfg.ki) 65536, tl := ts },
       !absLe (h.q.p - phi) (h.cfg.lockLimit * 65536))
    else ({ h with phi := ph, tl := ts }, false)
  else ({ h with phi := h.q.p, omega := h.q.v, tl := ts }, false)

/-! ## Ceilings (R201, R202) -/

/-- The module's own f_slack; 0 while TREF is lost (17 R514). -/
def State.ownSlack (s : State) : Nat := if s.eng.trefLost then 0 else s.slack.fSlackKhz

/-- The pair ceiling (01 R31); a module that runs alone has its own value only (R201). -/
def State.fPair (s : State) : Nat :=
  if s.twin.pair = .alone then s.ownSlack
  else match s.slack.peer with
    | some k => min s.ownSlack k
    | none => s.ownSlack

/-- f_ceil_khz (R201). -/
def State.fCeil (s : State) : Nat := min Config.fGrade (min s.dike.fDike s.fPair)

/-- The period of a rate in steps; a rate of 0 has none, and no flash is that far apart. -/
def period (f : Nat) : Nat := if f = 0 then 2 ^ 48 else ceilDiv 12800000 f

def State.pCeil (s : State) : Nat := period s.fCeil
def State.pRun (s : State) : Nat := period s.hem.fRun

/-- The dose window at the largest factor (R220). -/
def State.doseWindow (s : State) : Nat := s.hem.cfg.w0 + ceilDiv (s.hem.edge.entries.getLastD 0 * 17) 4096 + 64

/-! ## Faults of Hem -/

/-- An overspeed of some kind: its fault, and a cause of Seam (R203). -/
def State.overspeed (f : FaultName) (flash : Nat) (s : State) : State := (s.raise f flash).cause (.overspeed f)

/-- LATE_BAND, once while its cause stands. -/
def State.lateBand (stripe band : Nat) (s : State) : State :=
  let c := Cause.lateBand stripe band
  if s.hem.causes.contains c || s.arb.waits c then s
  else (s.raise .lateBand (addrBand stripe band)).cause c

/-! ## Commits (R192 to R195) -/

/-- Bands of the footprint of mark m that are not ready in the pair. -/
def State.unready (stripe m p : Nat) (s : State) : List Nat := (s.footBands m p).filter fun b => !s.bandReady stripe b

/-- run_ok (R193). -/
def State.runOk (p : Nat) (s : State) : Bool :=
  !s.hem.resync ||
  (let per := floorDiv (p * 2 ^ 32) s.hem.omega
   decide ((s.pCeil : Int) ≤ per ∧ per ≤ 256000 ∧ (per - s.pRun).natAbs ≤ s.pRun / 64))

def clamp31 (x : Int) : Int := clampInt x (-(2 ^ 31)) (2 ^ 31 - 1)

/-- The factor of R217 before its clamp. -/
def HemCfg.factor (c : HemCfg) (temp : Int) (volt : Nat) : Int := 2 ^ 32 + c.aT * (temp - c.t0) + c.aV * ((volt : Int) - c.v0)

/-- The correction factor at a commit (R217 to R219), with TELEM_STALE and F_CLAMP once per stripe. -/
def State.doseFactor (s : State) : Int × State :=
  let c := s.hem.cfg
  let (temp, volt, at') := s.hem.telem.getD (c.t0, c.v0, 0)
  let age := s.now - at'
  let stale := decide (c.telemStale * usSteps < age)
  let f := c.factor temp volt
  let g := clampInt f (2 ^ 32 - 2 ^ 28) (2 ^ 32 + 2 ^ 28)
  let s := s.raiseUnless (!stale || s.hem.telemRaised) .telemStale (age / usSteps)
  let s := s.raiseUnless (g == f || s.hem.fClampRaised) .fClamp (toBits 48 f)
  (g, s.updHem fun h => { h with telemRaised := h.telemRaised || stale, fClampRaised := h.fClampRaised || g != f })

/-- e[k] for every edge (R217). -/
def State.edgeOffsets (f : Int) (s : State) : List Nat :=
  s.hem.edge.entries.map fun (e : Nat) => (s.hem.cfg.w0 + roundHalfUp ((e : Int) * f) (2 ^ 40)).toNat

/-- A running capture of kind 1 or 2 meets its trigger at a commit; kind 2 takes the record
(13 Tables MBOX-12, MBOX-13). -/
def State.captureCommit (f : FlashRec) (tn : Nat) (s : State) : State :=
  s.updCp fun cp => { cp with capture := cp.capture.map fun (c : Capture) =>
    if 2 < c.kind || c.ended ≠ 0 then c
    else
      let trig := c.triggered || (match c.trigger with
        | 0 => true
        | 1 => decide (c.start ≤ f.flash)
        | _ => c.faultSeen)
      let c := { c with triggered := trig }
      if c.kind = 2 && trig && c.entries < c.count then
        { c with
          entries := c.entries + 1, firstFlash := if c.entries = 0 then f.flash else c.firstFlash
          raw := c.raw ++ leBytes 8 f.flash ++ leBytes 4 f.m ++ [byteOf f.resync.toNat, 0] ++ leBytes 2 f.dt ++
            leSigned 4 f.theta ++ leSigned 4 f.ex ++ leSigned 4 f.ey ++ leSigned 4 f.cprevx ++ leSigned 4 f.cprevy ++
            leBytes 4 0 ++ leBytes 8 tn }
      else c }

/-- FLASH_COMMIT of mark m at tx (R195, R212, R217; 10 R325): Run-in and Seam-run end at the commit of a
RESYNC flash (Table HEM-5). -/
def State.commit (st : Stripe) (m tx : Nat) (s : State) : State :=
  let h := s.hem
  let prev := h.committed.getLast?
  let cprev := (prev.map fun (c : Committed) => (c.dx, c.dy)).getD (s.br.cLastX, s.br.cLastY)
  let eprev := (prev.map fun (c : Committed) => (c.record.ex, c.record.ey)).getD (s.br.ePrevX, s.br.ePrevY)
  let rec' : FlashRec := {
    flash := s.eng.flashNext, m := m, resync := h.resync
    dt := min 65535 (roundHalfUp ((tx : Int) - h.tPrev) 64).toNat
    theta := clamp31 (roundHalfUp (h.th.at' tx) 65536), ex := clamp31 (roundHalfUp (h.x.at' tx) 65536)
    ey := clamp31 (roundHalfUp (h.q.at' tx) 65536 - m * st.p), cprevx := cprev.1, cprevy := cprev.2 }
  let (f, s) := s.doseFactor
  let (d, s) := s.track rec'.resync rec'.ex rec'.ey eprev.1 eprev.2
  let edges := s.edgeOffsets f
  let c : Committed := {
    record := rec', tn := tx, f := f, edges := edges, endAt := tx + edges.getLastD 0 + 64, epoch := s.cf.epoch
    dx := d.1, dy := d.2, last := decide (m + 1 = st.count) }
  let state := h.state
  let s := s.updHem fun h => { h with
    committed := h.committed ++ [c], mNext := m + 1, resync := false, tPrev := tx, endPrev := c.endAt
    state := .tracking, seamStep := 0, causes := if state == .seamRun then [] else h.causes
    armed := state != .seamRun && h.armed
    stats := { h.stats with eyMaxFu := max h.stats.eyMaxFu rec'.ey.natAbs } }
  let s := { s with eng := { s.eng with flashNext := s.eng.flashNext + 1 } }
  let s := if state == .seamRun then (s.enter .writing).cuffStatus else s
  let s := s.toPeer (.commit rec' tx f)
  ((s.captureCommit rec' tx).recordArrives rec' tx).takeSlots 2

/-- What the deciding sample of the next mark says (R193). -/
inductive Decision where
  | wait
  | late (bands : List Nat)
  | starve
  | rate
  | commit (m tx ahead : Nat) (delayed : Bool)
  deriving DecidableEq, Repr

/-- The commit procedure for m_next at sample ts. -/
def State.decideMark (st : Stripe) (ts : Nat) (s : State) : Decision :=
  let h := s.hem
  let m := h.mNext
  if m = st.count ∨ h.omega ≤ 0 then .wait
  else
    let qm : Int := m * st.p * 65536
    let lead := h.tl + roundHalfUp ((qm - h.phi) * 65536) h.omega - ts
    if 15360 < lead then .wait
    else if !(s.unready st.stripe m st.p).isEmpty then .late (s.unready st.stripe m st.p)
    else if lead < 14656 || h.staleQ ts || !s.runOk st.p || s.fCeil == 0 then .starve
    else
      let tx := ((ts : Int) + lead).toNat
      let tmin := max (h.tPrev + s.pCeil) h.endPrev
      if tx < tmin then
        let ahead := roundHalfUp (h.q.at' tmin) 65536 - m * st.p
        if (h.cfg.rateTol : Int) < ahead then .rate else .commit m tmin ahead.toNat true
      else .commit m tx 0 false

/-- The window of m_next has closed with a fault. -/
def State.closeWindow (s : State) : State := s.updHem fun h => { h with closed := true }

/-- The commit procedure (R193); every commit opens the question of the next mark. -/
def State.commits (st : Stripe) (ts : Nat) : Nat → State → State
  | 0, s => s
  | fuel + 1, s =>
    if s.hem.closed then s
    else match s.decideMark st ts with
      | .wait => s
      | .late bands => (bands.foldl (fun s b => s.lateBand st.stripe b) s).closeWindow
      | .starve => (s.overspeed .overspeedStarve s.eng.flashNext).closeWindow
      | .rate => (s.overspeed .overspeedRate s.eng.flashNext).closeWindow
      | .commit m tx ahead delayed =>
        let s := s.commit st m tx
        State.commits st ts fuel (if delayed then s.hemStats fun t => { t with
          delayed := sat64 (t.delayed + 1), delayMaxFu := max t.delayMaxFu ahead } else s)

/-! ## Gates (R196), withdrawal (R197) -/

/-- The gate of a flash. -/
def Committed.gate (c : Committed) : Nat := c.tn - 1280

/-- The gate has passed before an acceptance that stands at `key` in the arbiter's order: the gate is an
event of Hem, 4 in 01 Table ARCH-6, and one that falls in the same slot is placed by it (R197, R211). -/
def State.gatePassed (key : Nat) (c : Committed) (s : State) : Bool :=
  c.gated || decide (c.gate < s.now) || decide (c.gate * 16 + 4 < key)

/-- A gate re-check of a flash at ts fails. -/
def State.gateFails (st : Stripe) (c : Committed) (ts : Nat) (s : State) : Bool :=
  s.hem.staleQ ts || !absLe (roundHalfUp (s.hem.q.at' c.tn) 65536 - (c.record.m * st.p + c.record.ey)) s.hem.cfg.gateTol

/-- GATE_RECHECK of every committed flash whose gate is still ahead. -/
def State.gates (st : Stripe) (ts : Nat) (s : State) : State :=
  let open' := s.hem.committed.filter fun c => !c.gated && decide (ts ≤ c.gate)
  let s := open'.foldl (fun s c => if s.gateFails st c ts then s.overspeed .overspeedGate c.record.flash else s) s
  s.updHem fun h => { h with committed := h.committed.map fun (c : Committed) =>
    if c.gate = ts then { c with gated := true } else c }

/-- FLASH_WITHDRAW (R197): every committed flash whose gate has not passed; the flash index and the next
mark go back to the first of them (00 R7). -/
def State.withdrawUngated (key : Nat) (s : State) : State :=
  let keep := s.hem.committed.filter (s.gatePassed key ·)
  let gone := s.hem.committed.filter (!s.gatePassed key ·)
  let s := s.updHem fun h => { h with closed := false }
  match gone with
  | [] => s
  | c :: _ =>
    let s := s.updHem fun h => { h with
      committed := keep, mNext := c.record.m, shadowNext := min h.shadowNext c.record.m
      shadow := h.shadow.filter fun x => decide (x.1 < c.record.m)
      tPrev := (keep.getLast?.map (·.tn)).getD h.issuedAt, endPrev := (keep.getLast?.map (·.endAt)).getD h.issuedEnd
      stats := { h.stats with withdrawn := sat64 (h.stats.withdrawn + gone.length) } }
    let s := { s with eng := { s.eng with flashNext := c.record.flash } }
    let s := (s.shWithdraw c.record.flash).cuffWithdraw c.record.flash
    s.toPeer (.withdraw c.record.flash s.cf.epoch)

/-! ## Held (R199, R200) -/

/-- The mark that Held waits at. -/
def State.heldMark (st : Stripe) (s : State) : Int := (s.hem.mHw.getD 0) * st.p

/-- HELD_ENTRY: Hem and the engine enter Held; the cause goes to the arbiter, whose acceptance withdraws
the flashes. -/
def State.enterHeld (s : State) : State :=
  ((((s.updHem fun h => { h with state := .held, heldSince := s.now }).hemStats fun t => { t with heldEntries := sat64 (t.heldEntries + 1) }).enter
    .held).cause .reversal).cuffStatus

/-- A cause is taken from the queue without effect. -/
def State.dropCause (c : Cause) (s : State) : State := { s with arb := { s.arb with causeQ := s.arb.causeQ.filter (·.2 != c) } }

/-- HELD_EXIT: the next flash carries RESYNC. -/
def State.exitHeld (s : State) : State :=
  let s := if s.arb.waits .reversal then (s.dropCause .reversal).withdrawUngated (s.slot 4) else s
  ((s.updHem fun h => { h with state := .runIn, resync := true, armed := true }).enter .writing).cuffStatus

/-- HELD_ABANDON, once. -/
def State.abandonHeld (depth : Int) (s : State) : State :=
  if s.arb.waits .heldAbandon then s else (s.raise .heldAbandon (toBits 48 depth)).cause .heldAbandon

/-- The reversal test (R199). It waits until the stage has reached the high-water mark (log 41). -/
def State.reversal (st : Stripe) (q : Int) (s : State) : State :=
  if s.hem.mHw.isNone then s
  else if s.heldMark st ≤ q then s.updHem fun h => { h with armed := true }
  else if s.hem.armed && decide (q < s.heldMark st - 64) then s.enterHeld
  else s

/-- The reversal test, and Held's own tests, on a scan sample (R193, R199, R200). -/
def State.heldTests (st : Stripe) (y : Option Int) (s : State) : State :=
  match y with
  | none => s
  | some q =>
    match s.hem.state with
    | .held =>
      if s.heldMark st ≤ q then s.exitHeld
      else if (s.hem.cfg.heldDepth : Int) < s.heldMark st - q then s.abandonHeld (s.heldMark st - q)
      else s
    | .runIn => s.reversal st q
    | .tracking => s.reversal st q
    | _ => s

/-- HELD_TIMEOUT (R200): Held has lasted longer than held_time. -/
def State.heldTimeout (s : State) : State :=
  match s.hem.stripe with
  | none => s
  | some st =>
    if s.hem.state == .held && s.twin.active && decide (s.hem.heldSince + s.hem.cfg.heldTime * usSteps < s.now) then
      s.abandonHeld (s.heldMark st - ((s.channels).1.getD (roundHalfUp (s.hem.q.at' s.now) 65536)))
    else s

/-! ## The sample (R193) -/

/-- Whether Hem commits in a state (R193). -/
def HemState.commits : HemState → Bool
  | .runIn => true
  | .tracking => true
  | .seamRun => true
  | _ => false

/-- SHADOW_DIFF, once per stripe, when the shadow crossing and t_n of a mark differ by more than 640
steps (R214). -/
def State.shadowTest (m : Nat) (s : State) : State :=
  match s.hem.shadow.find? (·.1 == m), s.hem.committed.find? (fun (c : Committed) => c.record.m == m) with
  | some (_, tx), some c =>
    if absLe ((tx : Int) - c.tn) 640 then s
    else
      if s.hem.shadowRaised then s
      else ((s.raise .shadowDiff c.record.flash).updHem fun h => { h with shadowRaised := true }).hemStats fun t =>
        { t with shadowDiffs := sat64 (t.shadowDiffs + 1) }
  | _, _ => s

/-- The standby's commit procedure, in shadow (R214): it notes the crossings and commits nothing. -/
def State.shadowCommits (st : Stripe) (ts : Nat) : Nat → State → State
  | 0, s => s
  | fuel + 1, s =>
    let h := s.hem
    if h.omega ≤ 0 ∨ st.count ≤ h.shadowNext then s
    else
      let lead := h.tl + roundHalfUp (((h.shadowNext * st.p * 65536 : Nat) - h.phi) * 65536) h.omega - ts
      if 15360 < lead then s
      else
        let tx := ((ts : Int) + lead).toNat
        let m := h.shadowNext
        State.shadowCommits st ts fuel
          ((s.updHem fun h => { h with shadow := (h.shadow ++ [(m, tx)]).drop (h.shadow.length - 63), shadowNext := m + 1 }).shadowTest m)

/-- A standby keeps track of whether the stage has reached the high-water mark (R199, log 41). -/
def State.shadowArm (st : Stripe) (y : Option Int) (s : State) : State :=
  if s.hem.mHw.isSome && y.any fun q => decide (s.heldMark st ≤ q) then s.updHem fun h => { h with armed := true } else s

/-- Hem at a sample tick: the updates of R190 and R191, then gates, reversal and commits (R193). -/
def State.hemSample (ts : Nat) (s : State) : State :=
  let (q, x, th) := s.channels
  let take (c : Pred) (y : Option Int) : Pred := (y.map fun y => c.take s.hem.cfg y ts).getD c
  let s := s.updHem fun h => { h with q := take h.q q, x := take h.x x, th := take h.th th }
  let (h, lock) := s.hem.loop q.isSome ts
  let s := s.updHem fun _ => h
  match s.hem.stripe with
  | none => s
  | some st =>
    if s.hem.state == .idle then s
    else if s.standby then (let s := s.shadowArm st q; if s.hem.state.commits then s.shadowCommits st ts 64 else s)
    else
      let s := if lock then s.overspeed .overspeedLock s.eng.flashNext else s
      let s := (s.gates st ts).heldTests st q
      if s.hem.state.commits then s.commits st ts 64 else s

/-! ## The end of a stripe -/

/-- A kind 1 or 2 capture ends at a stripe-abort or job end (13 R421). -/
def State.endCapture (s : State) : State := s.updCp fun cp => { cp with capture := cp.capture.map fun (c : Capture) =>
  if c.kind ≤ 2 && c.ended = 0 then { c with ended := 4 } else c }

/-- Twin B's trim goes into the journal store when it differs from the live record (11 R346). -/
def State.storeTrim (s : State) : State :=
  let body := leSigned 2 s.twin.trim
  if !s.eng.twinB || (s.jr.liveBody jConfig 4).getD [0, 0] = body then s else s.append jConfig 4 body none

/-- The open stripe ends: it completes or is aborted (00 R7; 02 R75, R76; 05 R141, R536; 06 R183). The
next stripe is the one above it; what an abort leaves of it is discarded. -/
def State.endStripe (aborted : Bool) (s : State) : State :=
  match s.hem.stripe with
  | none => s
  | some st =>
    let s := s.updHem fun h => { h with
      stripe := none, begun := false, state := .idle, seamStep := 0, causes := [], fRun := 0, mHw := none, closed := false
      stopped := false, settled := false, resync := true, runs := 0, commitSince := false }
    let s := { s with
      ring := { s.ring with sync := none, groupHeld := false, resumeAt := none, dropped := none }
      job := s.job.map fun (j : Job) => { j with
        next := st.stripe + 1, skipped := if aborted then j.skipped ++ [st.stripe] else j.skipped } }
    let s := if aborted then
        (((s.bands.filter (·.stripe == st.stripe)).foldl (fun s b => s.dropBand b.stripe b.band) s).shClear).endCapture
      else s
    (((s.restartRing (st.stripe + 1)).passAll).bandsOn).storeTrim

/-- HEM_TGOOD goes high: the engine is in Ready and a calibration has passed since the last drop
(R225). -/
def State.tgoodUp (s : State) : State :=
  if s.eng.state == .ready && !s.eng.tgoodNeedsCal && !s.dike.wdExpired && !s.eng.trefLost then s.setTgood true else s

/-- Entry to Ready, with HEM_TGOOD (R225). -/
def State.enterReady (s : State) : State := ((s.enter .ready).tgoodUp).cuffStatus

/-- STRIPE_COMPLETE (R210): Run-out begins, Hem is Idle, the engine Ready. A standby's engine state stays
the copy that it is (01 R35). -/
def State.stripeComplete (s : State) : State :=
  if s.standby then s.endStripe false else (s.runOut.endStripe false).enterReady

/-- Hem when the engine enters Fault (R197, R210): every committed flash whose gate has not passed is
withdrawn, and none is issued (R196), so that the next flash takes the index of the first of them (00 R7). -/
def State.hemStop (key : Nat) (s : State) : State :=
  let s := s.withdrawUngated key
  let s := match s.hem.committed with
    | [] => s
    | c :: _ => { s with eng := { s.eng with flashNext := c.record.flash } }
  s.updHem fun h => { h with committed := [], state := .idle, seamStep := 0, causes := [] }

/-! ## The Seam procedure (R204 to R209) -/

/-- A run in step 5 ends without the resume commit (R209). -/
def State.countRun (s : State) : State :=
  let n := s.hem.runs + 1
  let s := s.updHem fun h => { h with runs := n }
  if n = s.hem.cfg.resumeTries then
    (s.raise .resumeFail (s.hem.mHw.getD (2 ^ 48 - 1))).updHem fun h => { h with causes := h.causes ++ [.resumeHold] }
  else s

/-- Steps 1 and 2 of Table HEM-2: q_b is fixed and the stage stops. -/
def State.seamStop (st : Stripe) (s : State) : State :=
  (s.updHem fun h => { h with
    state := .seamStop, seamStep := 2, resync := true, armed := true, stopped := false, settled := false, fitRaised := false
    qb := h.backUpPoint st }).seamStopMotion

/-- The Seam procedure starts or is joined by a cause that stands at `key` in the arbiter's order (R204, R206,
R208, R34); in a synchronous start with hold_group
1 it asks for a group hold (11 R370). -/
def State.acceptSeam (key : Nat) (c : Cause) (s : State) : State :=
  match s.hem.stripe with
  | none => s
  | some st =>
    let add (s : State) : State :=
      (s.updHem fun h => { h with causes := if h.causes.contains c then h.causes else h.causes ++ [c] }).clearBandCauses
    match s.hem.state with
    | .idle => s
    | .seamStop => if c.stopClears && s.hem.seamStep != 2 then s else add s
    | .seamRun => ((add (s.withdrawUngated key)).seamStop st).countRun
    | _ =>
      let s := (add ((s.withdrawUngated key).dropCause .reversal)).seamStop st
      let s := ((s.hemStats fun t => { t with seams := sat64 (t.seams + 1) }).enter .seam).cuffStatus
      match s.ring.sync with
      | some o => if s.twin.cfg.holdGroup = 1 && c != .pause true && s.twin.active then s.sendStitch (.request 2 o.stripe o.mask 0) else s
      | none => s

/-- The resume conditions of step 4, but for the dose window (R207). -/
def State.mayResume (st : Stripe) (s : State) : Bool :=
  let m := (s.hem.mHw.map (· + 1)).getD 0
  let foot := s.footBands m st.p
  let next := (foot.getLast?.map (· + 1)).getD 0
  let nextOk := match s.band st.stripe next with
    | some b => b.polder == .outside || s.bandReady st.stripe next
    | none => true
  decide (m < st.count) && s.hem.state == .seamStop && s.hem.causes.isEmpty && s.stageSettled && foot.all (fun b => s.bandReady st.stripe b) && nextOk &&
  decide (50 ≤ min st.fPlan s.fCeil)

/-- SEAM_RESUME_START (R205 to R207, R220): Hem enters Seam-run with f_run fixed anew, and Brace runs. -/
def State.seamResume (s : State) : State :=
  match s.hem.stripe with
  | none => s
  | some st =>
    if s.standby || !s.mayResume st then s
    else
      let f := min st.fPlan s.fCeil
      if period f < s.doseWindow then
        (s.raiseUnless s.hem.fitRaised .edgeFit s.doseWindow).updHem fun h => { h with fitRaised := true }
      else
        (s.updHem fun h => { h with state := .seamRun, seamStep := 5, fRun := f, resync := true, closed := false }).runMotion f

/-! ## Begin and issue -/

/-- The stripe begins (R26, R210): Hem enters Run-in, the engine Writing, and Brace runs. -/
def State.beginStripe (s : State) : State :=
  let s := s.updHem fun h => { h with state := .runIn, begun := true, resync := true, armed := true, closed := false }
  ((s.enter .writing).runMotion s.hem.fRun).cuffStatus

/-- R26 holds: Approach has ended, and bands 0 and 1 are released, or band 0 alone. -/
def State.mayBegin (s : State) : Bool :=
  match s.hem.stripe, s.job with
  | some st, some j =>
    s.eng.state == .ready && !s.hem.begun && s.approached &&
    ((List.range (min 2 j.hdr.bandsPerStripe)).all fun b => match s.band st.stripe b with
      | some x => x.polder == BandState.released
      | none => false)
  | _, _ => false

/-- The band of the last issued flash, as STATUS frames carry it (08 Table CUFF-4). -/
def State.noteBand (m : Nat) (st : Stripe) (s : State) : State :=
  s.updCf fun c => { c with lastStripe := st.stripe, lastBand := s.leadBand m st.p }

/-- Bands that mark m's footprint reaches first. -/
def State.reachedBy (m p : Nat) (s : State) : List Nat :=
  (s.footBands m p).filter fun b => !(decide (0 < m) && (s.footBands (m - 1) p).contains b)

/-- Dike's bound on the interval between strobes (15 R468): none is far enough apart at f_dike 0. -/
def State.tooSoon (at' : Nat) (s : State) : Bool :=
  s.dike.fDike == 0 || (match s.dike.lastStrobe with
    | some t => decide ((at' : Int) - t < (ceilDiv 12800000 s.dike.fDike : Int) - 64)
    | none => false)

/-- FLASH_ISSUE (R196, R198, R221, R25; 05 R141; 15 R468): the strobe and, unless its edge set is late or
Dike suppresses it, the dose clock. -/
def State.flashIssue (s : State) : State :=
  match s.hem.committed with
  | [] => s
  | c :: rest =>
    if s.now < c.tn then s
    else
      let f := c.record.flash
      let clamp := s.tooSoon c.tn
      let s := if clamp then s.raise .rateClamp (f % 2 ^ 40) else s
      let s := s.send (.strobe f c.tn c.edges (!clamp && !c.edgeLate))
      let s := (s.updDike fun d => { d with lastStrobe := some c.tn }).updBr fun b => { b with
        ePrevX := c.record.ex, ePrevY := c.record.ey, cLastX := c.dx, cLastY := c.dy }
      let s := (s.updHem fun h => { h with committed := rest, mHw := (h.stripe.map fun _ => c.record.m), issuedAt := c.tn, issuedEnd := c.endAt
                                           peerEdgeFlash := none, dropFlash := none }).hemStats fun t => { t with issued := sat64 (t.issued + 1) }
      let s := { s with eng := { s.eng with lastFlash := f }
                        twin := { s.twin with trim := s.twin.trimDue.getD s.twin.trim, trimDue := none }
                        sh := { s.sh with before := s.sh.before.filter fun b => decide (f < b.1) } }
      match s.hem.stripe with
      | none => s
      | some st =>
        let s := (s.freeRows c.record.m st.p).noteBand c.record.m st
        let s := if s.hem.state == .seamStop then s.updHem fun h => { h with qb := h.backUpPoint st } else s
        if c.last && (s.hem.state == .tracking || (s.hem.commitSince && s.hem.state.commits)) then s.stripeComplete
        else
          let s := if s.standby || s.hem.state == .idle then s
            else (s.reachedBy (c.record.m + 1) st.p).foldl (fun s b => if s.bandReady st.stripe b then s else s.lateBand st.stripe b) s
          s.bandsOn

/-- EDGE_LATE (R222): the edge set of the next flash is not queued by the end of the one before. -/
def State.edgeLateOf (s : State) : State :=
  match s.hem.committed with
  | [] => s
  | c :: rest =>
    if c.edgeLate || s.now < s.hem.issuedEnd then s
    else ((s.updHem fun h => { h with committed := { c with edgeLate := true } :: rest }).hemStats fun t =>
      { t with edgeLate := sat64 (t.edgeLate + 1) }).raise .edgeLate c.record.flash

/-- TGOOD_DROP (R223, R225): the module's own check of a flash has failed. -/
def State.tgoodDrop (flash : Nat) (s : State) : State :=
  let s := s.updHem fun h => { h with dropFlash := some flash }
  if !s.eng.tgood then s
  else (({ s with eng := { s.eng with tgoodNeedsCal := true } }.setTgood false).hemStats fun t =>
    { t with tgoodDrops := sat64 (t.tgoodDrops + 1) }).raise .tgoodDrop flash

/-- PEER_EDGE (R224): once per flash, while the module's own check of the flash passes; d in 2^-8 ps. -/
def State.peerEdge (flash : Nat) (d : Int) (s : State) : State :=
  if absLe d (150 * 256) || s.hem.peerEdgeFlash == some flash || s.hem.dropFlash == some flash then s
  else ((s.updHem fun h => { h with peerEdgeFlash := some flash }).hemStats fun t =>
    { t with peerEdges := sat64 (t.peerEdges + 1) }).raise .peerEdge flash

end Sys2Proof.Machine
end

