-- ==== Sys2Proof/Machine/Collector.lean ====
section
/-! DEFINITION. Entry to Fault (01 Table ARCH-5), the fault collector and its reactions, and what of Dike
is not tied to one axis (15). -/

namespace Sys2Proof.Machine
open Sys2Proof

def State.updFc (f : Fc → Fc) (s : State) : State := { s with fc := f s.fc }
def State.updFcSrc (src : Nat) (f : FcSrc → FcSrc) (s : State) : State :=
  s.updFc fun c => { c with srcs := listUpd c.srcs (src - 1) f }
def State.fcSrc (src : Nat) (s : State) : FcSrc := s.fc.srcs.getD (src - 1) {}
def State.fcCfg (src : Nat) (s : State) : FcCfg := s.fc.cfg.getD (src - 1) {}

def State.ceilingOf (src : Nat) (s : State) : Nat := (s.fcCfg src).ceiling

/-! ## Entry to Fault -/

/-- A background calibration is abandoned without a swap (16 Table STORE-1). -/
def State.abandonCal (s : State) : State :=
  { s with cal := { s.cal with mode := .none, swapReady := false, outs := s.cal.outs.map fun (o : Output) =>
    { o with attempts := [0, 0], passed := [false, false], temps := [(0, 0), (0, 0)] } } }

/-- Hem and the open stripe when the engine leaves its running states for good: Hem is Idle (07 R210),
and the write has ended, as by an abort (log 42). A standby only forgets the flashes it held. -/
def State.endWrite (key : Nat) (s : State) : State :=
  if s.standby then ((s.updHem fun h => { h with committed := [], state := .idle }).shClear).updCf fun c => { c with frames := [] }
  else (s.hemStop key).endStripe true

/-- Chip reset and ERROR_N end all escalation (R454). -/
def State.endEscalation (s : State) : State :=
  s.updFc fun c => { c with srcs := c.srcs.map fun (x : FcSrc) => { x with deadline := none } }

/-- The engine enters Fault by an event that stands at `key` in the arbiter's order (01 Table ARCH-5, 07 R210,
R225; 10 R321; 15 R454). `off` says that Brace raised the OUTPUT_LATE or FB_LOST that leads to it. -/
def State.enterFault (key : Nat) (off : Bool) (s : State) : State :=
  if s.eng.state == .sleep || s.eng.inReset then s
  else
    let s := { s with twin := { s.twin with ownFault := true } }
    if s.eng.state == .fault then s
    else
    let s := (s.endWrite key).abandonCal
    let s := if s.standby then s else if off then s.axesOff else s.controlledStop
    let s := { s with arb := { s.arb with causeQ := [] } }
    let s := s.endEscalation
    ((s.setTgood false).enter .fault).cuffStatus

/-! ## Reactions (R452) -/

/-- The stripe-pause cause for an open stripe in Writing, Held or Seam (13 Table MBOX-8; 15 Table
FAULT-2). The gate of flash M − 1 must not have passed (13 R420). -/
def State.lastGatePassed (s : State) : Bool :=
  s.hem.committed.any (fun (c : Committed) => c.last && decide (c.gate ≤ s.now))

def State.pauseStripe (group : Bool) (s : State) : State :=
  if s.standby || !s.running || !s.stripeOpen || s.lastGatePassed then s else s.acceptSeam (s.slot 12) (.pause group)

/-- STOP for a mask of axes (13 Table MBOX-9): with a stripe open the scan and cross axes are excluded. -/
def State.stopAxes (mask : Nat) (s : State) : State :=
  if s.standby then s
  else s.eachAxis fun a s =>
    if mask.testBit a && !(s.stripeOpen && (a == s.br.g.scanAxis || a == s.br.g.crossAxis)) then s.stopMoving a else s

/-- The NMI handler (Table FAULT-2); a halted control processor runs none. -/
def State.nmi (s : State) : State := if s.cp.halted then s else (s.pauseStripe false).stopAxes 0xFF

/-- CUFF_RETRAIN (08 R248): the lanes that are not Up train, and the Boot map comes back. -/
def State.cuffRetrain (s : State) : State :=
  ((List.range 68).foldl (fun s k => if (s.lane k).state == .up then s else s.trainLane k)
    (s.updCf fun c => { c with restoreDue := true, silent := [] })).restoreMap

/-- Block reset: only Cuff has one, and only in Ready (Table FAULT-1). -/
def State.blockReset (src : Nat) (s : State) : State :=
  if src = 8 && s.eng.state == .ready then s.cuffRetrain else s

/-- The collector takes a reaction for a source, on an event at `key` in the arbiter's order. -/
def State.react (key src : Nat) (f : FaultName) (stage : Nat) (s : State) : State :=
  let s := if 1 ≤ stage then s.vector 0 else s
  match stage with
  | 2 => s.nmi
  | 3 => s.nmi.blockReset src
  | 4 => { s.endEscalation with eng := { s.eng with resetDue := some .chipReset } }
  | 5 => s.endEscalation.enterFault key (f == .outputLate || f == .fbLost)
  | _ => s

/-! ## Acceptance (R450, R453) -/

/-- The reaction with which a fault starts. -/
def State.initialReaction (f : FaultName) (s : State) : Nat :=
  match s.fc.overrides.find? fun o => o.1 == f.source && o.2.1 == f.kind with
  | some o => o.2.2
  | none => (s.fcCfg f.source).reaction

/-- When an escalation timer that starts now expires. -/
def State.escDeadline (src : Nat) (s : State) : Option Nat :=
  if (s.fcCfg src).escUs == 0 then none else some (s.now + (s.fcCfg src).escUs * usSteps)

/-- A running capture with trigger 2 sees a fault (13 Table MBOX-12). -/
def State.captureFault (f : FaultName) (s : State) : State :=
  s.updCp fun cp => { cp with capture := cp.capture.map fun (c : Capture) =>
    if c.trigger = 2 && c.trigFault = f.source * 256 + f.kind then { c with faultSeen := true } else c }

/-- The collector accepts a fault. -/
def State.collect (m : Raised) (s : State) : State :=
  let f := m.name
  let src := f.source
  let s := if s.fc.valid then s.updFc fun c => { c with overflow := true }
    else s.updFc fun c => { c with
      valid := true, first := faultMessage f m.addr, firstSeq := m.seq.getD s.arb.seq, firstFlash := s.eng.lastFlash }
  let s := ((s.faultEvent m).updFcSrc src fun x => { x with lastKind := f.kind, lastAddr := m.addr, cnt := satInc 32 x.cnt }).captureFault f
  let r := s.initialReaction f
  let x := s.fcSrc src
  let s := s.updFcSrc src fun x => { x with setAt := if 0 < r then some s.now else x.setAt }
  if (!x.pending && decide (0 < r)) || (x.pending && decide (x.stage < r)) then
    (s.updFcSrc src fun x => { x with
      pending := true, stage := r, escalated := x.pending && x.escalated, deadline := s.escDeadline src }).react m.key src f r
  else s

/-- The fault message that the arbiter accepts next: one that has its number already, by number; else the one
raised first, by source order among those of one instant (01 R37). -/
def Arb.nextFault (a : Arb) : Option Raised :=
  match minBy (fun (r : Raised) => r.seq.getD 0) (a.faultQ.filter (·.seq.isSome)) with
  | some r => some r
  | none => minBy Raised.key a.faultQ

/-- The list without the first element equal to x. -/
def dropFirst {β : Type} [BEq β] (x : β) : List β → List β
  | [] => []
  | y :: l => if y == x then l else y :: dropFirst x l

/-- FAULT_ACCEPT. -/
def State.faultAccept (s : State) : State :=
  match s.arb.nextFault with
  | none => s
  | some r => { s with arb := { s.arb with faultQ := dropFirst r s.arb.faultQ } }.collect r

/-- FAULT_ACCEPT. -/
def execFaultAccept (t : Nat) (s : State) : Res := .next (s.atTime t).faultAccept

/-! ## Escalation (R454) -/

/-- The next reaction above a stage that a source has and its ceiling allows. -/
def nextStage (src stage ceiling : Nat) : Option Nat :=
  ((List.range 6).filter fun r => decide (stage < r ∧ r ≤ ceiling) && (r != 3 || src == 8)).head?

/-- ESCALATION_TIMEOUT. -/
def State.escalate (src : Nat) (s : State) : State :=
  let x := s.fcSrc src
  match x.deadline with
  | none => s
  | some d =>
    if !x.pending || s.now < d then s
    else match nextStage src x.stage (s.ceilingOf src) with
      | none => s.updFcSrc src fun x => { x with deadline := none }
      | some r =>
        let s := s.updFcSrc src fun x => { x with
          stage := r, escalated := true, deadline := if decide (r < s.ceilingOf src) then s.escDeadline src else none }
        (s.react (s.slot 3) src .escalate r).raise .escalate (src * 2 ^ 40 + r * 2 ^ 32)

/-- ESCALATION_TIMEOUT. -/
def execEscalationTimeout (t src : Nat) (s : State) : Res := .next ((s.atTime t).escalate src)

/-! ## Register writes (R451, R455, R471) -/

/-- FC_RELEASE. -/
def execFcRelease (t : Nat) (s : State) : Res :=
  .next ((s.atTime t).updFc fun c => { c with valid := false, overflow := false })

/-- FC_CLR_CNT. -/
def execFcClrCnt (t : Nat) (s : State) : Res :=
  .next ((s.atTime t).updFc fun c => { c with srcs := c.srcs.map fun (x : FcSrc) => { x with cnt := 0 } })

/-- A source is acknowledged. -/
def FcSrc.ack (x : FcSrc) : FcSrc := { x with pending := false, stage := 0, escalated := false, deadline := none }

/-- FC_PEND_ACK: bit s of the mask acknowledges source s, but for one that the collector sets at the same
instant (00 R14). -/
def execFcPendAck (t : Nat) (mask : Word) (s : State) : Res :=
  let s := s.atTime t
  .next (s.updFc fun c => { c with
    srcs := (c.srcs.zipIdx).map fun (p : FcSrc × Nat) =>
      if mask.getLsbD (p.2 + 1) && p.1.setAt != some s.now then p.1.ack else p.1 })

/-! ## Dike (R463, R469) -/

/-- WATCHDOG (R469): timing is suppressed, ENABLE forced to 0, and the engine enters Fault. -/
def State.watchdog (s : State) : State :=
  match s.dike.wdDeadline with
  | none => s
  | some d =>
    if s.now < d || s.dike.wdExpired then s
    else ((s.updDike fun k => { k with wdExpired := true, wdDeadline := none }).raise .watchdog 0).enterFault (s.slot 1) false

/-- WATCHDOG. -/
def execWatchdog (t : Nat) (s : State) : Res := .next (s.atTime t).watchdog

/-- The watchdog runs from now for wd_ms. -/
def State.armWatchdog (s : State) : State :=
  s.updDike fun k => { k with wdDeadline := some (s.now + s.dike.wdMs * 1000 * usSteps) }

/-- WATCHDOG_RESTART: Fleif restarts an armed watchdog. -/
def execWatchdogRestart (t : Nat) (s : State) : Res :=
  let s := s.atTime t
  .next (if s.dike.wdDeadline.isSome && !s.cp.halted then s.armWatchdog else s)

/-- LOCK_EDGE: bit 0 of the address is the new level. -/
def execLockEdge (t : Nat) (high : Bool) (s : State) : Res :=
  let s := s.atTime t
  .next (match s.dike.lock with
    | none => s
    | some l => if l = high then s
      else (s.updDike fun k => { k with lock := some high }).raise .lockEdge high.toNat)

/-- LOCK_FIRST_QUALIFICATION. -/
def execLockFirstQualification (t : Nat) (high : Bool) (s : State) : Res :=
  .next ((s.atTime t).updDike fun k => { k with lock := some (k.lock.getD high) })

/-- BRAKE_TIMEOUT. -/
def execBrakeTimeout (t axis : Nat) (s : State) : Res := .next ((s.atTime t).brakeTimeout axis)

/-! ## Causes of Seam, Held and Fault (07 R197, R204; 01 R34) -/

/-- A waiting cause's place in the arbiter's order: its slot, then its source (01 R37). -/
def causeKey (p : Nat × Cause) : Nat := p.1 * 16 + p.2.order

/-- The arbiter accepts the next cause; one of Fault overrides every other. -/
def State.causeAccept (s : State) : State :=
  if s.arb.waits .fault then s.enterFault (s.slot 0) false
  else match minBy causeKey s.arb.causeQ with
    | none => s
    | some p =>
      let s := { s with arb := { s.arb with causeQ := dropFirst p s.arb.causeQ } }
      if s.standby then s
      else if p.2 = .reversal then (if s.hem.state == .held then s.withdrawUngated (causeKey p) else s)
      else s.acceptSeam (causeKey p) p.2

/-- SEAM_CAUSE_ACCEPT. -/
def execSeamCauseAccept (t : Nat) (s : State) : Res := .next (s.atTime t).causeAccept

end Sys2Proof.Machine
end

