-- ==== Sys2Proof/Machine/Motion.lean ====
section
/-! DEFINITION. The commands of stage feedback, Brace and Hem that come from their own blocks or from
outside the host link (07, 09, 10). SERVO_CYCLE is with the state image it sends, in Twins. -/

namespace Sys2Proof.Machine
open Sys2Proof

/-! ## Feedback (09) -/

/-- The blocks that take samples run: every state but Sleep and Boot (09 Table FEED-3). -/
def State.feedOn (s : State) : Bool := !(s.eng.state == .sleep || s.eng.state == .boot)

/-- Axes of a switch set after a qualified edge: limits that have become active (10 R319), and HOME
(10 R323). -/
def State.switchActs (before : State) (n input tRaw : Nat) (s : State) : State :=
  if s.standby then s
  else if input = 2 then s.homeEdge n tRaw
  else s.eachAxis fun a s => if s.limActive a input && !before.limActive a input then s.limitHit a input else s

/-- An edge that R294 has kept out of one input is accepted at the first sample that lies far enough away. -/
def State.heldEdge (s : State) (i : Nat) : State :=
  let n := i / 3
  let input := i % 3
  let s := s.heldPosition n input
  match (s.swIn n input).held with
  | some e => if s.hystOk n input then State.switchActs s n input e.tRaw (s.acceptEdge n input e) else s
  | none => s

/-- Edges that R294 has kept out are accepted once the source has moved far enough. -/
def State.heldEdges (s : State) : State := (List.range 12).foldl State.heldEdge s

/-- A sample tick (R267): every source, then the latches and probe entries whose bracketing tick it is,
the switch edges that R294 has kept out, the compares, the axes of lost sources, and Hem. -/
def State.sampleAll (s : State) : State :=
  let tick := s.now
  let s := (List.range 16).foldl (fun s n => s.sampleSource tick n) (s.updFeed fun d => { d with lastTick := some tick })
  ((((s.latchSwitches).heldEdges.completeProbes).testCompares tick).axesFollow).hemSample tick

/-- SAMPLE_TICK: at a multiple of 640 steps (R267). -/
def execSampleTick (t : Nat) (s : State) : Res :=
  let s := s.atTime t
  .next (if s.now % 640 = 0 && s.feedOn then s.sampleAll else s)

/-- POS_REQUEST. -/
def execPosRequest (t port : Nat) (s : State) : Res := .next ((s.atTime t).posRequest port).axesFollow

/-- POS_WORD. -/
def execPosWord (t port : Nat) (reply : List Bool) (s : State) : Res := .next ((s.atTime t).posWord port reply).axesFollow

/-- QUAD_EDGE. -/
def execQuadEdge (t enc : Nat) (a b : Bool) (s : State) : Res := .next ((s.atTime t).quadEdge enc a b)

/-- INDEX_EVENT. -/
def execIndexEvent (t enc : Nat) (s : State) : Res := .next (((s.atTime t).indexEvent enc).homeIndexEvent (8 + enc))

/-- SINCOS_SAMPLE. -/
def execSincosSample (t enc : Nat) (rawS rawC : Int) (s : State) : Res := .next ((s.atTime t).sincosSample enc rawS rawC).axesFollow

/-- PROBE_EDGE. -/
def execProbeEdge (t probe te : Nat) (rising : Bool) (s : State) : Res := .next ((s.atTime t).probeEdge probe te rising)

/-- COMPARE_FIRE. -/
def execCompareFire (t cmp : Nat) (s : State) : Res := .next ((s.atTime t).compareFire cmp)

/-- COMPARE_PULSE_END. -/
def execComparePulseEnd (t : Nat) (s : State) : Res := .next (s.atTime t).comparePulseEnd

/-- SWITCH_EDGE. -/
def execSwitchEdge (t set input : Nat) (raw : Bool) (tRaw : Nat) (s : State) : Res :=
  let s := s.atTime t
  let (ok, s') := s.switchEdge set input raw tRaw
  .next (if ok then State.switchActs s set input tRaw s' else s')

/-- The first level of an input (R293): no edge, no LIMIT_HIT; both limits active still raise LIM_BOTH, and
the axis holds (R295). -/
def State.switchFirst (set input : Nat) (raw : Bool) (s : State) : State :=
  if 4 ≤ set || 3 ≤ input || (s.swIn set input).qualified.isSome then s
  else
    let s := s.updSw set input fun w => { w with qualified := some raw, latch := none, latchAt := none, needLatch := false }
    if decide (input < 2) && s.swActive set 0 && s.swActive set 1 then
      let s := s.raise .limBoth (s.addrFlash set)
      if s.standby then s
      else s.eachAxis fun a s =>
        if !s.limBoth a then s
        else if (s.axis a).homing.isSome then s.homeFail a
        else s.stopMoving a
    else s

/-- SWITCH_FIRST_QUALIFICATION. -/
def execSwitchFirstQualification (t set input : Nat) (raw : Bool) (s : State) : Res := .next ((s.atTime t).switchFirst set input raw)

/-- A cleared count of illegal transitions: one that was counted in the same cycle stays (R298). -/
def Quad.clear (q : Quad) (tick : Nat) : Quad := { q with qerr := if q.qerrAt = some tick then 1 else 0 }

/-- FEED_QCLR (R298): bit e zeroes the illegal-transition count of encoder e. -/
def execFeedQclr (t mask : Nat) (s : State) : Res :=
  let s := s.atTime t
  .next (s.updFeed fun d => { d with
    srcs := (d.srcs.zipIdx).map fun (p : Source × Nat) =>
      if 8 ≤ p.2 && p.2 < 12 && mask.testBit (p.2 - 8) then { p.1 with quad := p.1.quad.clear (s.now / tickSteps) } else p.1 })

/-! ## Brace (10) -/

/-- OUTPUT_PHASE. -/
def execOutputPhase (t : Nat) (finished : Bool) (s : State) : Res := .next ((s.atTime t).outputPhase finished)

/-- SETTLE_TIMEOUT. -/
def execSettleTimeout (t axis : Nat) (s : State) : Res := .next ((s.atTime t).settleTimeout axis)

/-! ## Hem (07) -/

/-- FLASH_ISSUE. -/
def execFlashIssue (t : Nat) (s : State) : Res := .next (s.atTime t).flashIssue

/-- EDGE_LATE. -/
def execEdgeLate (t : Nat) (s : State) : Res := .next (s.atTime t).edgeLateOf

/-- TGOOD_DROP. -/
def execTgoodDrop (t flash : Nat) (s : State) : Res := .next ((s.atTime t).tgoodDrop flash)

/-- PEER_EDGE: peer_comp, in ps, joins the measured difference (11 R346). -/
def execPeerEdge (t flash : Nat) (d : Int) (s : State) : Res :=
  .next ((s.atTime t).peerEdge flash (d + 256 * s.twin.cfg.peerComp))

/-- HELD_TIMEOUT. -/
def execHeldTimeout (t : Nat) (s : State) : Res := .next (s.atTime t).heldTimeout

/-- SEAM_RESUME_START. -/
def execSeamResumeStart (t : Nat) (s : State) : Res := .next (s.atTime t).seamResume

/-- STRIPE_BEGIN: a start that is not synchronous (11 R370). -/
def execStripeBegin (t : Nat) (s : State) : Res :=
  let s := s.atTime t
  .next (if s.mayBegin && !s.standby && (s.hem.stripe.any fun st => !st.sync) then s.beginStripe else s)

end Sys2Proof.Machine
end

