-- ==== Sys2Proof/Machine/Power.lean ====
section
/-! DEFINITION. Power, reset and Boot (17, 18 R523 to R528), vernier calibration (16 R472 to R482) and the
slack monitor (01 R28 to R31). -/

namespace Sys2Proof.Machine
open Sys2Proof

def State.updEng (f : Eng → Eng) (s : State) : State := { s with eng := f s.eng }
def State.updCal (f : Cal → Cal) (s : State) : State := { s with cal := f s.cal }
def State.updSlack (f : Slack → Slack) (s : State) : State := { s with slack := f s.slack }
def State.updTu (f : TimeUnit → TimeUnit) (s : State) : State := { s with tu := f s.tu }

/-! ## What a reset leaves (18 R523, R528; log 16) -/

/-- The open journal record completes (16 R495, Table POWER-5); no other is begun. -/
def State.commitOpen (s : State) : State :=
  s.updJr fun j => { (match j.queue with | [] => j | w :: _ => j.store w true) with queue := [] }

/-- TU_PLS outputs fall (17 R510). -/
def State.pulsesLow (s : State) : State :=
  (List.range 2).foldl (fun s n =>
    if ((s.tu.pls.getD n {}).highUntil).isSome then
      (s.send (.pulse n false)).updTu fun u => { u with pls := listUpd u.pls n fun p => { p with highUntil := none } }
    else s) s

/-- A firmware load cut short leaves its slot invalid (16 R495). -/
def Journal.cutShort (j : Journal) : Journal :=
  { j with
    queue := [], compactions := 0, errors := 0, fwLoad := none
    slots := match j.fwLoad with | some (n, _, _) => listUpd j.slots n fun f => { f with imageOk := false } | none => j.slots }

/-- Everything at its reset value but the VSTBY logic, the journal store, the lands, and the model's own
clock, output list, queue and counter. -/
def State.fresh (s : State) : State :=
  { State.reset with
    now := s.now, out := s.out, pending := s.pending, free := s.free, jr := s.jr.cutShort
    eng := { ({} : Eng) with
      resetCause := s.eng.resetCause, shedKind := s.eng.shedKind, endCause := s.eng.endCause
      twinB := s.eng.twinB, pairId := s.eng.pairId, wakeN := s.eng.wakeN, pwrGood := s.eng.pwrGood
      resetN := s.eng.resetN, vinOk := s.eng.vinOk, vstby := s.eng.vstby, railsUp := s.eng.railsUp
      trefLost := s.eng.trefLost, cuffRefLost := s.eng.cuffRefLost } }

/-- A cause that ends the run: the first one detected stays (R528). -/
def State.noteCause (c : ResetCause) (kind : Nat) (s : State) : State :=
  s.updEng fun e => { e with endCause := some (e.endCause.getD (c, kind)) }

/-- RESET_CAUSE takes the cause that ended the previous run. -/
def State.recordCause (c : ResetCause) (s : State) : State :=
  s.updEng fun e => { e with
    resetCause := (e.endCause.getD (c, 0)).1, shedKind := (e.endCause.getD (c, 0)).2, endCause := none }

/-- The module in its internal reset: outputs low, lanes idle, nothing running; faults raised before it can
still be accepted. -/
def State.holdReset (s : State) : State :=
  let q := s.arb.faultQ
  let c := s.fc
  let s := ((s.comparesLow).pulsesLow.commitOpen).fresh
  { s.updEng fun e => { e with inReset := true } with arb := { s.arb with faultQ := q }, fc := c }

/-- Entry to Boot, with the straps as they are at the release (11 R335). -/
def State.enterBoot (c : ResetCause) (twinB : Bool) (pairId : Nat) (s : State) : State :=
  (({ s.fresh with now := 0 }).updEng fun e => { e with railsUp := true, twinB := twinB, pairId := pairId % 4 }).recordCause c

/-- The code of Sleep goes into the audit journal (01 R32), unless power is failing. -/
def State.recordSleep (s : State) : State :=
  if s.jr.powerFail then s
  else s.updJr fun j => j.store { type := jAudit, key := 0, body := s.auditNote 0 EngState.sleep.code } true

/-- Sleep: only VSTBY is up (R509). -/
def State.enterSleep (s : State) : State :=
  (((s.commitOpen).recordSleep).fresh).updEng fun e => { e with state := .sleep, railsUp := false }

/-- The end of a reset: Boot with WAKE_N low, Sleep with WAKE_N high (01 Table ARCH-5). -/
def State.leaveReset (c : ResetCause) (wakeN twinB : Bool) (pairId : Nat) (s : State) : State :=
  let s := s.updEng fun e => { e with wakeN := wakeN }
  if wakeN then (s.enterSleep).recordCause c else s.enterBoot c twinB pairId

/-! ## Power, reset (R502 to R510) -/

/-- POWER_UP: from Sleep, from an unpowered module or after a load shed. -/
def execPowerUp (t : Nat) (wakeN twinB : Bool) (pairId : Nat) (s : State) : Res :=
  let s := s.atTime t
  .next (if s.eng.vstby && (s.eng.state == .sleep || s.eng.shedding) then
    let s := s.updEng fun e => { e with vinOk := true, pwrGood := true, resetN := true, shedding := false, wakeN := wakeN }
    if wakeN then (if s.eng.state == .sleep then s else (s.enterSleep).recordCause .powerUp)
    else s.enterBoot (if s.eng.state == .sleep then .endOfSleep else .powerUp) twinB pairId
  else s)

/-- WAKE_N_FALL: in Sleep, POWER_UP follows once the conditions of R502 have held for 100 ms. -/
def execWakeNFall (t : Nat) (s : State) : Res := .next ((s.atTime t).updEng fun e => { e with wakeN := false })

/-- RESET_N_ASSERT (R510, R528): a module in Sleep has nothing to stop. -/
def execResetNAssert (t : Nat) (s : State) : Res :=
  let s := s.atTime t
  let s := (s.noteCause .resetN 0).updEng fun e => { e with resetN := false }
  .next (if s.eng.state == .sleep || s.eng.inReset then s else s.holdReset)

/-- RESET_N_RELEASE. After a load shed, and in Sleep, the internal reset waits for POWER_UP (R502). -/
def execResetNRelease (t : Nat) (wakeN twinB : Bool) (pairId : Nat) (s : State) : Res :=
  let s := s.atTime t
  .next (if s.eng.resetN then s
  else
    let s := s.updEng fun e => { e with resetN := true }
    if s.eng.state == .sleep || s.eng.shedding || !s.eng.pwrGood then s else s.leaveReset .resetN wakeN twinB pairId)

/-- RESET_ENTRY: the RESET command and the chip-reset reaction (R510). -/
def execResetEntry (t : Nat) (wakeN twinB : Bool) (pairId : Nat) (s : State) : Res :=
  let s := s.atTime t
  .next (match s.eng.resetDue with
    | none => s
    | some c =>
      if s.eng.inReset || s.eng.state == .sleep then s
      else ((s.noteCause c 0).holdReset).leaveReset c wakeN twinB pairId)

/-- The kinds of Table POWER-8 that are power-fail detects. -/
def powerFail (kind : Nat) : Option FaultName :=
  match kind with
  | 1 => some .pfUv
  | 2 => some .pfOv
  | 3 => some .pfGood
  | 4 => some .railFault
  | 6 => some .thermTrip
  | _ => none

/-- The load shed (R505, Table POWER-4): the open record completes, the rest is off. -/
def State.loadShed (kind : Nat) (s : State) : State :=
  let s := s.noteCause .loadShed kind
  if s.eng.state == .sleep then s
  else
    let s := if s.eng.inReset then s else s.holdReset
    (s.updEng fun e => { e with shedding := true }).updJr fun j => { j with powerFail := true }

/-- POWER_FAIL_DETECT: each cause raises its own fault; there is one shed (Table POWER-5). -/
def execPowerFailDetect (t kind addr : Nat) (s : State) : Res :=
  let s := s.atTime t
  .next (match powerFail kind with
    | none => s
    | some f =>
      ((s.updEng fun e => { e with
          vinOk := e.vinOk && decide (kind ≠ 1 ∧ kind ≠ 2), pwrGood := e.pwrGood && decide (kind ≠ 3) }).raise f
        (if kind = 3 then 0 else addr)).loadShed kind)

/-- VSTBY_POWER_UP (18 R528): VIN first rises above 18 V. -/
def execVstbyPowerUp (t : Nat) (s : State) : Res :=
  let s := s.atTime t
  .next (if s.eng.vstby then s
  else s.updEng fun e => { e with
    vstby := true, resetCause := .powerUp, shedKind := 0, endCause := some (.powerUp, 0) })

/-- VSTBY_LOSS (R501): all module state is lost; the journal store keeps what is committed. -/
def execVstbyLoss (t : Nat) (s : State) : Res :=
  .next (((s.atTime t).fresh).updEng fun e => { e with
    state := .sleep, railsUp := false, vinOk := false, vstby := false, resetCause := .powerUp, shedKind := 0, endCause := none })

/-! ## References (R514) -/

/-- A lane in Train, Align or Up becomes Lost. -/
def State.dropLane (s : State) (k : Nat) : State :=
  match (s.lane k).state with
  | .train => s.lostLane k
  | .align => s.lostLane k
  | .up => s.lostLane k
  | _ => s

/-- Every Cuff lane goes Lost: none is left to take a logical lane over. -/
def State.loseLanes (s : State) : State :=
  let ups := s.upLanes
  let s := (List.range 68).foldl State.dropLane s
  ups.foldl (fun s k => s.loseLane k) s

/-- REF_LOST: a reference found lost; with the main rails down nothing looks at it. -/
def execRefLost (t : Nat) (cuff : Bool) (s : State) : Res :=
  let s := s.atTime t
  let s := if s.eng.state == .sleep then s else s.raise .refLost cuff.toNat
  .next (if cuff then (s.updEng fun e => { e with cuffRefLost := true }).loseLanes
  else (s.updEng fun e => { e with trefLost := true, tgoodNeedsCal := true }).setTgood false)

/-- REF_RETURN. -/
def execRefReturn (t : Nat) (cuff : Bool) (s : State) : Res :=
  let s := s.atTime t
  .next (if cuff then s.updEng fun e => { e with cuffRefLost := false }
  else (s.updEng fun e => { e with trefLost := false }).tgoodUp)

/-! ## Calibration (16) -/

/-- D[j] of R474. -/
def tapDelayOf (w n0 nj : Nat) : Int :=
  if n0 = 0 || nj = 0 then Config.tapDelay w n0 nj
  else roundHalfUp (65536 * w * ((n0 : Int) - nj)) (2 * n0 * nj)

/-- The tap nearest to step k beyond tap `best - 1`, of the taps up to 95; ties go to the lower (R475). -/
def nearestTap (d : List Int) (k best : Nat) : Nat :=
  (List.range 96).foldl (fun b j =>
    if best < j && decide ((d.getD j 0 - 1024 * k).natAbs < (d.getD b 0 - 1024 * k).natAbs) then j else b) best

/-- The selection of R475 for the steps from k on: the taps and err_max, or the err_max of a run that
fails. -/
def selectTaps (d : List Int) (tol : Nat) : Nat → Nat → Nat → Nat → List Nat → Except Nat (List Nat × Nat)
  | 0, _, _, err, taps => if tol < err then .error err else .ok (taps.reverse, err)
  | n + 1, k, last, err, taps =>
    if last = 95 then .error err
    else
      let b := nearestTap d k (last + 1)
      selectTaps d tol n (k + 1) b (max err (d.getD b 0 - 1024 * k).natAbs) (b :: taps)

/-- One run: R474 and R475 on 96 counts. -/
def calRun (w tol : Nat) (n : List Nat) : Except Nat (List Nat × Nat) :=
  selectTaps ((List.range 96).map fun j => tapDelayOf w (n.getD 0 0) (n.getD j 0)) tol 63 1 0 0 [0]

/-- First step at which two selections differ by more than 1. -/
def firstDiff (a b : List Nat) : Option Nat :=
  (List.range 64).find? fun k => decide (1 < ((a.getD k 0 : Int) - b.getD k 0).natAbs)

def State.output (o : Nat) (s : State) : Output := s.cal.outs.getD o {}
def State.updOutput (o : Nat) (f : Output → Output) (s : State) : State :=
  s.updCal fun c => { c with outs := listUpd c.outs o f }
def Output.bank (o : Output) (b : Nat) : VBank := o.banks.getD b {}

/-- The body of a CAL record (Table STORE-6). -/
def Output.record (o : Output) : List Byte :=
  let b := o.bank o.active
  leSigned 2 b.tCal ++ [byteOf o.active, 0] ++ leBytes 2 b.errMax ++ [0, 0] ++
    (List.range 64).map fun k => byteOf (b.taps.getD k 0)

/-- A CAL record for each output. -/
def State.appendCal (s : State) : State :=
  (List.range 2).foldl (fun s o => s.append jCal o (s.output o).record none) s

/-- No attempt has been made yet, on either output. -/
def State.clearAttempts (s : State) : State :=
  s.updCal fun c => { c with outs := c.outs.map fun (o : Output) => { o with attempts := [0, 0], passed := [false, false], temps := [(0, 0), (0, 0)] } }

/-- A calibration starts on entry to Calibrate (R478): cold when the store has no live CAL record. -/
def State.startCal (s : State) : State :=
  (s.clearAttempts).updCal fun c => { c with
    mode := .calibrate, passed := false, swapReady := false, bgRef := none
    cold := (s.jr.live jCal 0).isNone && (s.jr.live jCal 1).isNone }

/-- The lanes of Gusset and Stitch at the entry to Calibrate (11 R338, R364): those of Gusset that are Off
train; those of Stitch, of which no message reports LOCK, begin their groups (log 58). -/
def State.ringLanesOn (s : State) : State :=
  { s with
    twin := { s.twin with tx := s.twin.tx.map fun (l : Lane) => if l.state == .off then { state := .train, since := s.now } else l }
    ring := { s.ring with tx := s.ring.tx.map fun (l : Lane) => if l.state == .off then { state := .up, since := s.now, origin := s.now } else l } }

/-- The engine enters Calibrate (01 Table ARCH-4, 08 Table CUFF-6, 09 Table FEED-3). -/
def State.enterCalibrate (s : State) : State :=
  let s := if s.eng.state == .boot then s else s.controlledStop
  ((((s.setTgood false).startCal.enter .calibrate).trainOff).ringLanesOn.acquireEnabled).cuffStatus

/-- The drift of an output: the die against T_cal, or against what replaces it. -/
def State.calDrift (o : Nat) (fresh : Bool) (s : State) : Nat :=
  let out := s.output o
  let ref := (out.bank out.active).tCal
  (s.eng.tCore - (if fresh then ref else s.cal.bgRef.getD ref)).natAbs

/-- A background calibration of the idle banks (R479). -/
def State.startBackground (s : State) : State :=
  if s.cal.auto = 1 && s.cal.mode == .none && !s.cal.swapReady && (s.eng.state == .ready || s.running) &&
      (decide (s.cal.drift < s.calDrift 0 false) || decide (s.cal.drift < s.calDrift 1 false)) then
    (s.clearAttempts).updCal fun c => { c with mode := .background }
  else s

/-- Fourth failure (R476, R478, R479). -/
def State.calFail (o bank : Nat) (s : State) : State :=
  let s := (s.updOutput o fun x => { x with failures := x.failures + 1 }).raise .calFail (o * 2 ^ 40 + bank * 2 ^ 32)
  if s.cal.mode == .calibrate then (s.updCal fun c => { c with mode := .none }).enterFault (s.slot 13) false
  else s.updCal fun c => { c with mode := .none, bgRef := some s.eng.tCore }

/-- An attempt has failed. -/
def State.attemptFailed (o bank : Nat) (s : State) : State :=
  let n := (s.output o).attempts.getD bank 0 + 1
  let s := s.updOutput o fun x => { x with attempts := listUpd x.attempts bank fun _ => n, temps := listUpd x.temps bank fun _ => (0, 0) }
  if n = 4 then s.calFail o bank else s

/-- The banks that the calibration in progress must pass. -/
def State.calDone (s : State) : Bool :=
  (List.range 2).all fun o =>
    let x := s.output o
    if s.cal.mode == .background then x.passed.getD (1 - x.active) false
    else x.passed.all id

/-- An attempt has passed: the bank takes the second run's selection, and a calibration that is whole ends
(R478, R480, Table STORE-1). -/
def State.attemptPassed (o bank : Nat) (taps : List Nat) (err : Nat) (tAvg : Int) (s : State) : State :=
  let sel := s.seqFor 13
  let s := (s.event (.bankPassed o)).updOutput o fun x => { x with
    passed := listUpd x.passed bank fun _ => true
    temps := listUpd x.temps bank fun _ => (0, 0)
    banks := listUpd x.banks bank fun b => { b with tCal := tAvg, errMax := err, taps := taps, selected := sel } }
  if !s.calDone then s
  else
    let s := s.updEng fun e => { e with tgoodNeedsCal := false }
    if s.cal.mode == .background then (s.updCal fun c => { c with mode := .none, swapReady := true, swapAfter := s.hem.issuedEnd }).tgoodUp
    else
      (s.updCal fun c => { c with
        mode := .none, passed := true, outs := c.outs.map fun (x : Output) => { x with active := 0 } }).appendCal.tgoodUp

/-- The line of an output's bank is being measured. -/
def State.measuring (o bank : Nat) (s : State) : Bool :=
  let x := s.output o
  decide (o < 2 ∧ bank < 2) && !x.passed.getD bank false && decide (x.attempts.getD bank 0 < 4) &&
  (s.cal.mode == .calibrate || (s.cal.mode == .background && bank != x.active))

/-- The launch delay of a bank that is not the reference is trimmed before the bank is measured (R473) by how late
its tap 0 is against the reference's, a free value, as is what the trim leaves (log 62). -/
def State.trimLaunch (o bank : Nat) (s : State) : State :=
  if s.cal.mode == .calibrate && bank == 0 then s
  else
    let (k, s) := s.nextFree
    let rest : Int := (Config.trimRest k).val - 16
    s.updOutput o fun x => { x with banks := listUpd x.banks bank fun b => { b with launch := b.launch - Config.launchSkew k + rest, offset := rest } }

/-- The die temperature averaged over a bank's attempt (R477); `tAvg` where no sample fell into it (log 61). -/
def Output.average (x : Output) (bank : Nat) (tAvg : Int) : Int :=
  let (sum, n) := x.temps.getD bank (0, 0)
  if n = 0 then tAvg else roundHalfUp sum n

/-- CAL_ATTEMPT_END (R473 to R477). -/
def execCalAttemptEnd (t output bank : Nat) (n1 n2 : List Nat) (tAvg : Int) (s : State) : Res :=
  let s := s.atTime t
  .next (if !s.measuring output bank then s
  else
    let s := s.trimLaunch output bank
    let w := if s.cal.mode == .calibrate && s.cal.cold then 2 ^ 18 else 2 ^ 16
    let addr := output * 2 ^ 40 + bank * 2 ^ 32
    match calRun w s.cal.tol n1, calRun w s.cal.tol n2 with
    | .error e, _ => (s.raise .calRange (addr + e % 65536)).attemptFailed output bank
    | _, .error e => (s.raise .calRange (addr + e % 65536)).attemptFailed output bank
    | .ok (t1, _), .ok (t2, err) =>
      match firstDiff t1 t2 with
      | some k => (s.raise .calDisagree (addr + k)).attemptFailed output bank
      | none => s.attemptPassed output bank t2 err ((s.output output).average bank tAvg))

/-- BANK_SWAP (R480): not before the end of the flash that was being driven when the swap became ready. The drift
is tested again after it (R482). -/
def execBankSwap (t : Nat) (s : State) : Res :=
  let s := s.atTime t
  .next (if s.cal.swapReady && decide (s.cal.swapAfter ≤ s.now) then
    ((s.updCal fun c => { c with
      swapReady := false, bgRef := none
      outs := c.outs.map fun (x : Output) => { x with
        active := 1 - x.active, swaps := x.swaps + 1, attempts := [0, 0], passed := [false, false], temps := [(0, 0), (0, 0)] } }).appendCal).startBackground
  else s)

/-! ## Temperatures (R477, R481, R518) -/

/-- CAL_STALE during a write: once per stripe. -/
def State.testStale (s : State) : State :=
  let d := max (s.calDrift 0 true) (s.calDrift 1 true)
  if s.running && !s.cal.staleRaised && decide (s.cal.stale < d) then
    (s.raise .calStale (d % 65536)).updCal fun c => { c with staleRaised := true }
  else s

/-- A die temperature sample counts toward the attempts under way (R477). -/
def State.noteTemp (s : State) : State :=
  if s.cal.mode == .none then s
  else s.updCal fun c => { c with outs := c.outs.map fun (x : Output) =>
    { x with temps := x.temps.map fun (p : Int × Nat) => (p.1 + s.eng.tCore, p.2 + 1) } }

/-- The first die above a temperature in 1/64 °C, with the address that reports it. -/
def hotDie (temps : List Int) (lim : Int) : Option Nat :=
  ((List.range 8).find? fun k => decide (lim < temps.getD k 0)).map fun k => k * 2 ^ 40 + toBits 16 (temps.getD k 0)

/-- DIE_TEMP_SAMPLE. -/
def execDieTempSample (t : Nat) (temps : List Int) (s : State) : Res :=
  let s := s.atTime t
  .next (if s.eng.state == .sleep || s.eng.inReset then s
  else
    let s := s.updEng fun e => { e with
      dieTemps := (List.range 8).map fun k => temps.getD k 0
      tCore := temps.getD 0 0, tMax := ((List.range 6).map fun k => temps.getD (k + 2) 0).foldl max (temps.getD 1 0) }
    let s := match hotDie temps (115 * 64) with
      | some a => (s.raiseUnless s.eng.thermWarned .thermWarn a).updEng fun e => { e with thermWarned := true }
      | none => s
    let s := ((s.noteTemp).testStale).startBackground
    match hotDie temps (125 * 64) with
    | some a => (s.raise .thermTrip a).loadShed 6
    | none => s)

/-! ## Boot (R446, R489, R494; 15 R462, R469) -/

/-- A Dike axis block (15 Table FAULT-9). -/
def parseLim (b : List Byte) : DikeLim :=
  { vLim := fld b 0 8, aLim := fld b 8 8, jLim := fld b 16 8, winMin := sfld b 24 8, winMax := sfld b 32 8
    brakeK := fld b 40 4, brakeOut := fld b 44 4, polarity := fld b 48 1 }

/-- The Dike limit block in force (15 Table FAULT-8). -/
def Dike.load (d : Dike) (raw : List Byte) : Dike :=
  { d with
    raw := raw, fDike := fld raw 0 4, doseMax := fld raw 4 2, wdMs := fld raw 6 2, restFu := fld raw 8 4, brakeMs := fld raw 12 2
    lims := (List.range 8).map fun a => parseLim (raw.drop (16 + 64 * a)) }

/-- CAL_CONFIG in force (16 Table STORE-2). -/
def Cal.load (c : Cal) (b : List Byte) : Cal :=
  { c with drift := fld b 0 2, stale := fld b 2 2, tol := fld b 4 2, auto := fld b 6 1 }

/-- The boot ROM (18 R526): the journal store is replayed, and the selected slot starts if it is valid,
else the other; relMajor stays 0 when neither does. It acts once per Boot. -/
def State.bootRom (s : State) : State :=
  if s.eng.relMajor ≠ 0 then s
  else
    let s := s.replayJournal
    let sel := s.jr.selected
    let go (slot : Nat) (fallback : Bool) (s : State) : State :=
      (s.updEng fun e => { e with
        fwBuild := (s.jr.slots.getD slot {}).build, relMajor := 3, relMinor := 2, fallback := fallback
        fwSelected := sel, fwRunning := slot }).updJr fun j => { j with running := slot }
    if s.jr.slotValid sel then go sel false s
    else if s.jr.slotValid (1 - sel) then (go (1 - sel) true s).raise .fwFallback (1 - sel)
    else s

/-- The stored blocks take effect: Dike limits, CAL_CONFIG, DRAM rate and twin B's trim (Table
STORE-6). -/
def State.loadConfig (s : State) : State :=
  let s := match s.jr.liveBody jConfig 1 with | some b => s.updDike fun d => d.load b | none => s
  let s := match s.jr.liveBody jConfig 2 with | some b => s.updCal fun c => c.load b | none => s
  let s := match s.jr.liveBody jConfig 4 with
    | some b => { s with twin := { s.twin with trim := sfld b 0 2 } }
    | none => s
  { s with dram := { s.dram with rate := ((s.jr.liveBody jConfig 3).map fun b => fld b 0 1).getD 0 } }

/-- DRAM initialisation (R446): none when it fails, with the sub-channel and bank that a test found bad. -/
def State.initDram (memFail : Option (Nat × Nat)) (s : State) : Option State :=
  if !s.jr.hasDelay s.dram.rate then none
  else match memFail with
    | some _ => none
    | none => some { s with dram := { s.dram with delays := s.jr.delaySet s.dram.rate, valid := [], filled := [], blocks := [], mapCheck := [] } }

/-- BOOT_COMPLETE (01 R33). -/
def execBootComplete (t : Nat) (memFail : Option (Nat × Nat)) (s : State) : Res :=
  let s := s.atTime t
  .next (if s.eng.state != .boot || s.eng.inReset || s.eng.bootStuck then s
  else
    let s := s.bootRom
    if s.eng.relMajor = 0 then (s.loadConfig).enterFault (s.slot 2) false
    else
      let s := s.loadConfig
      match s.initDram memFail with
      | some s => (s.armWatchdog).enterCalibrate
      | none =>
        let s := if s.jr.hasDelay s.dram.rate then s else s.raise .memNotrain s.dram.rate
        (s.raise .memInit (match memFail with | some (sub, bank) => sub * 2 ^ 44 + bank * 2 ^ 35 | none => 0)).updEng fun e =>
          { e with bootStuck := true })

/-- The pair forms: a standby that has applied a full image is Joining, and the active twin is in Ready
(11 Table TWIN-3). -/
def State.pairUp (s : State) : State :=
  if s.twin.pair == .joining && s.twin.joined && s.eng.state == .ready then { s with twin := { s.twin with pair := .paired } } else s

/-- READY_ENTRY. -/
def execReadyEntry (t : Nat) (s : State) : Res :=
  let s := s.atTime t
  .next (if s.eng.state == .calibrate && s.cal.passed && s.ownSlack != 0 then
    ((s.enterReady).pairUp)
  else s)

/-! ## Slack monitor (01 R28 to R31) -/

/-- f_slack_khz of R28; 0 until 4,096 flashes have been measured. -/
def Slack.publish (k : Slack) : Slack :=
  let w := (k.window.map (·.2)).foldl max 0
  { k with
    wMax := w
    fSlackKhz := if k.measured < 4096 then 0
      else if w = 0 then Config.slackAtZero k.g
      else 256000000 / (w * (256 + k.g)) }

/-- SLACK_PUBLISH. -/
def execSlackPublish (t : Nat) (s : State) : Res := .next ((s.atTime t).updSlack fun k => k.publish)

/-- SYNTHETIC_FLASH: outside Writing (R29). -/
def execSyntheticFlash (t w : Nat) (s : State) : Res :=
  let s := s.atTime t
  .next (if s.eng.state == .writing || s.eng.state == .sleep then s else s.noteFlash none w)

/-- SLACK_PEER_TIMEOUT (R31): three servo cycles without the peer's value. -/
def execSlackPeerTimeout (t : Nat) (s : State) : Res :=
  .next ((s.atTime t).updSlack fun k => if 3 ≤ k.peerAge then { k with peer := none } else k)

end Sys2Proof.Machine
end

