-- ==== Sys2Proof/Machine/Blocks.lean ====
section
/-! DEFINITION. The configuration blocks as their commands carry them (06 Table SHUTTLE-5, 04 LOOM-5, 05
POLDER-6, 07 HEM-7, 08 CUFF-10, 09 FEED-6 to FEED-8, 10 BRACE-8 to BRACE-10, 15 FAULT-4, FAULT-8, FAULT-9,
11 TWIN-9, 16 STORE-2): their ranges, what they set, and the stored bytes that enter the configuration
digest (11 R350). -/

namespace Sys2Proof.Machine
open Sys2Proof

def between (lo x hi : Nat) : Bool := decide (lo ≤ x ∧ x ≤ hi)
def betweenI (lo x hi : Int) : Bool := decide (lo ≤ x ∧ x ≤ hi)

/-! ## Hem (Table HEM-7) -/

def HemCfg.bytes (c : HemCfg) : List Byte :=
  leBytes 4 c.ka ++ leBytes 4 c.kb ++ leBytes 4 c.kp ++ leBytes 4 c.ki ++ leBytes 2 c.lockLimit ++
  leBytes 2 c.gateTol ++ leBytes 2 c.rateTol ++ leBytes 2 c.w0 ++ leBytes 4 c.heldDepth ++ leBytes 4 c.heldTime ++
  leSigned 2 c.t0 ++ leBytes 2 c.v0 ++ leSigned 4 c.aT ++ leSigned 4 c.aV ++ leBytes 2 c.telemStale ++
  [byteOf c.resumeTries, 0]

def parseHem (b : List Byte) : HemCfg :=
  { ka := fld b 0 4, kb := fld b 4 4, kp := fld b 8 4, ki := fld b 12 4, lockLimit := fld b 16 2, gateTol := fld b 18 2
    rateTol := fld b 20 2, w0 := fld b 22 2, heldDepth := fld b 24 4, heldTime := fld b 28 4, t0 := sfld b 32 2
    v0 := fld b 34 2, aT := sfld b 36 4, aV := sfld b 40 4, telemStale := fld b 44 2, resumeTries := fld b 46 1 }

def hemBlockOk (b : List Byte) : Bool :=
  let c := parseHem b
  between 1 c.ka 65536 && decide (c.kb ≤ 16777216) && decide (c.kp ≤ 65536) && decide (c.ki ≤ 65536) &&
  between 16 c.lockLimit 256 && between 4 c.gateTol 128 && between 8 c.rateTol 128 && between 128 c.w0 16383 &&
  between 128 c.heldDepth 16777216 && between 10 c.heldTime 100000 && between 10 c.telemStale 10000 &&
  between 1 c.resumeTries 15 && zeroAt b 47 1

/-! ## Servo (Tables BRACE-8 to BRACE-10) -/

def BrGlobal.bytes (g : BrGlobal) : List Byte :=
  [byteOf g.cycUs, byteOf g.scanAxis, byteOf g.crossAxis, byteOf g.shadowN] ++ leBytes 4 g.outPhase ++
  leSigned 4 g.deflK0 ++ leSigned 4 g.deflK1 ++ leBytes 4 g.shadowTol ++ List.replicate 12 0

def parseGlobal (b : List Byte) : BrGlobal :=
  { cycUs := fld b 0 1, scanAxis := fld b 1 1, crossAxis := fld b 2 1, shadowN := fld b 3 1, outPhase := fld b 4 4
    deflK0 := sfld b 8 4, deflK1 := sfld b 12 4, shadowTol := fld b 16 4 }

def globalOk (b : List Byte) : Bool :=
  let g := parseGlobal b
  between 10 g.cycUs 100 && decide (g.scanAxis ≤ 7 ∧ g.crossAxis ≤ 7 ∧ g.scanAxis ≠ g.crossAxis) &&
  decide (1 ≤ g.shadowN) && between 6400 g.outPhase (6400 * g.cycUs) && zeroAt b 20 12

def Gains.bytes (g : Gains) : List Byte :=
  leSigned 3 g.kp ++ [byteOf g.shP] ++ leSigned 3 g.ki ++ [byteOf g.shI] ++ leSigned 3 g.kd ++ [byteOf g.shD] ++
  leSigned 3 g.kaff ++ [byteOf g.shFF] ++
  (g.bq.flatMap fun q => leSigned 3 q.1 ++ leSigned 3 q.2.1 ++ leSigned 3 q.2.2.1 ++ leSigned 3 q.2.2.2.1 ++ leSigned 3 q.2.2.2.2.1) ++
  (g.bq.map fun q => byteOf q.2.2.2.2.2) ++ leSigned 8 g.iLim ++ leSigned 4 g.outLim ++ leBytes 4 g.ferrLim

def parseGains (b : List Byte) : Gains :=
  { kp := sfld b 0 3, shP := fld b 3 1, ki := sfld b 4 3, shI := fld b 7 1, kd := sfld b 8 3, shD := fld b 11 1
    kaff := sfld b 12 3, shFF := fld b 15 1
    bq := (List.range 4).map fun n =>
      (sfld b (16 + 15 * n) 3, sfld b (19 + 15 * n) 3, sfld b (22 + 15 * n) 3, sfld b (25 + 15 * n) 3,
       sfld b (28 + 15 * n) 3, fld b (76 + n) 1)
    iLim := sfld b 80 8, outLim := fld b 88 4, ferrLim := fld b 92 4 }

def gainsOk (g : Gains) : Bool :=
  decide (g.shP ≤ 24 ∧ g.shI ≤ 24 ∧ g.shD ≤ 24 ∧ g.shFF ≤ 24) && g.bq.all (fun q => decide (q.2.2.2.2.2 ≤ 7)) &&
  betweenI 0 g.iLim (2 ^ 47 - 1) && betweenI 1 g.outLim (2 ^ 31 - 1) && decide (1 ≤ g.ferrLim)

def AxisCfg.bytes (c : AxisCfg) : List Byte :=
  [byteOf c.enable, byteOf c.source, byteOf c.link, byteOf c.slot] ++ leBytes 4 c.settleWin ++ leBytes 2 c.settleN ++
  leBytes 2 c.settleTo ++ leBytes 2 c.ferrTime ++ [byteOf c.rcEnable, byteOf c.rcRamp] ++ leBytes 8 c.vMax ++
  leBytes 8 c.aMax ++ leBytes 8 c.jMax ++ leSigned 8 c.softMin ++ leSigned 8 c.softMax ++ leBytes 2 c.rcN ++
  leBytes 2 c.rcLead ++ leSigned 3 c.rcGain ++ [byteOf c.rcSh] ++ leSigned 3 c.rcQ ++ [0] ++ leBytes 4 c.rcLim ++
  List.replicate 8 0 ++ c.gains.flatMap (·.bytes)

def parseAxis (b : List Byte) : AxisCfg :=
  { enable := fld b 0 1, source := fld b 1 1, link := fld b 2 1, slot := fld b 3 1, settleWin := fld b 4 4
    settleN := fld b 8 2, settleTo := fld b 10 2, ferrTime := fld b 12 2, rcEnable := fld b 14 1, rcRamp := fld b 15 1
    vMax := fld b 16 8, aMax := fld b 24 8, jMax := fld b 32 8, softMin := sfld b 40 8, softMax := sfld b 48 8
    rcN := fld b 56 2, rcLead := fld b 58 2, rcGain := sfld b 60 3, rcSh := fld b 63 1, rcQ := sfld b 64 3
    rcLim := fld b 68 4, gains := (List.range 4).map fun g => parseGains (b.drop (80 + 96 * g)) }

/-- An axis block (R332): the reserved fields of every block, the others of an enabled one. -/
def axisBlockOk (b : List Byte) : Bool :=
  let c := parseAxis b
  decide (c.enable ≤ 1) && zeroAt b 67 1 && zeroAt b 72 8 &&
  (c.enable == 0 ||
    (decide (c.source ≤ 15 ∧ c.link ≤ 1 ∧ c.slot ≤ 3 ∧ 1 ≤ c.settleN ∧ 1 ≤ c.ferrTime ∧ c.rcEnable ≤ 1) &&
     between 1 c.settleTo 10000 && between 1 c.rcRamp 64 && c.aMax % 2 == 0 && decide (6 ≤ c.jMax) && inP48 c.softMin &&
     inP48 c.softMax && decide (c.softMin < c.softMax) && between 16 c.rcN 4096 && decide (c.rcLead < c.rcN) &&
     decide (c.rcSh ≤ 24) && c.gains.all gainsOk))

/-- The axis blocks of a servo configuration. -/
def servoAxes (b : List Byte) : List AxisCfg := (List.range 8).map fun a => parseAxis (b.drop (32 + 464 * a))

/-- The link slots of the enabled axes, which no two share (R300). -/
def servoSlots (b : List Byte) : List (Nat × Nat) := ((servoAxes b).filter (·.enable == 1)).map fun c => (c.link, c.slot)

def noRepeat {β : Type} [BEq β] : List β → Bool
  | [] => true
  | x :: l => !l.contains x && noRepeat l

def servoOk (b : List Byte) : Bool :=
  globalOk b && (List.range 8).all (fun a => axisBlockOk (b.drop (32 + 464 * a))) && noRepeat (servoSlots b)

/-- The block of an axis that was loaded last. -/
def Axis.loaded (x : Axis) : AxisCfg := x.newCfg.getD x.cfg

def Brace.bytes (b : Brace) : List Byte := b.g.bytes ++ b.axes.flatMap fun (x : Axis) => x.loaded.bytes

/-! ## Loom, Polder, Shuttle, Cuff -/

def loomBlockOk (b : List Byte) : Bool :=
  decide (fld b 0 1 ≤ 2) && zeroAt b 1 1 && between 1 (fld b 2 2) 256 && zeroAt b 4 4

def polderBlockOk (b : List Byte) : Bool :=
  (between 16 (fld b 0 1) 31 || fld b 0 1 == 0xFF) && decide (fld b 1 1 ≤ 0x0F) && decide (fld b 2 1 ≤ 1) && zeroAt b 3 5

def shuttleBlockOk (b : List Byte) : Bool := decide (fld b 0 1 ≤ 1 ∧ fld b 1 1 ≤ 1 ∧ fld b 2 1 ≤ 1) && zeroAt b 3 5

def cuffBlockOk (b : List Byte) : Bool :=
  decide (fld b 8 1 ≤ 15) && betweenI (-16) (sfld b 9 1) 0 && between 24 (fld b 10 1) 63 && betweenI (-24) (sfld b 11 1) 0 &&
  decide (fld b 12 1 ≤ 1) && between 1 (fld b 13 1) 25 && zeroAt b 14 2

/-! ## Feedback (Tables FEED-6 to FEED-8) -/

def parseSrc (b : List Byte) : SrcCfg :=
  { enable := fld b 0 1, invert := fld b 1 1, wordPeriod := fld b 2 2, scale := sfld b 4 4, clkDiv := fld b 8 1
    rxDelay := fld b 9 1, latchDelay := fld b 10 2, staleUs := fld b 12 2, lostWords := fld b 14 1, gate := fld b 15 1
    qf := fld b 16 1, offS := sfld b 18 2, offC := sfld b 20 2, gS := fld b 22 2, gC := fld b 24 2, ampLo := fld b 28 2
    ampHi := fld b 30 2 }

/-- A source block: reserved fields always, the fields of the source's kind while it is enabled (log
24). -/
def srcBlockOk (n : Nat) (b : List Byte) : Bool :=
  let c := parseSrc b
  decide (c.enable ≤ 1 ∧ c.gate < 8) && zeroAt b 17 1 && zeroAt b 26 2 &&
  (c.enable == 0 || decide (c.invert ≤ 1) &&
    (if n < 8 then
      between 1 c.clkDiv 50 && decide (c.latchDelay ≤ 10000) && between 1 c.staleUs 100 && decide (1 ≤ c.lostWords) &&
      decide (83 * 20 * c.clkDiv + 200 ≤ 5 * c.wordPeriod)
     else if n < 12 then decide (c.qf ≤ 15)
     else between 8192 c.gS 32767 && between 8192 c.gC 32767 && decide (c.ampLo < c.ampHi)))

def parseMap (b : List Byte) : ChanMap :=
  { scan := fld b 512 1, cross := fld b 513 1, yawA := fld b 514 1, yawB := fld b 515 1, yawK := fld b 516 4
    yawZero := sfld b 520 8 }

def feedBlockOk (b : List Byte) : Bool :=
  let m := parseMap b
  (List.range 16).all (fun n => srcBlockOk n (b.drop (32 * n))) &&
  decide (m.scan ≤ 15 ∧ m.cross ≤ 15 ∧ m.yawA ≤ 15 ∧ m.yawB ≤ 15) && inP48 m.yawZero

def probeOk (b : List Byte) : Bool :=
  between 1 (fld b 0 1) 3 && decide (fld b 1 1 ≤ 2) && decide (fld b 2 1 ≤ 15) && zeroAt b 3 1 && zeroAt b 6 2 &&
  decide (popcount 16 (fld b 4 2) ≤ 4)

def switchOk (b : List Byte) : Bool :=
  decide (fld b 0 1 ≤ 15) && decide (fld b 1 1 ≤ 7) && decide (fld b 2 2 ≤ 1000) && decide (fld b 4 4 ≤ 16777216)

def probeSwitchOk (b : List Byte) : Bool :=
  probeOk b && probeOk (b.drop 8) && (List.range 4).all fun n => switchOk (b.drop (16 + 8 * n))

def parseSwitch (b : List Byte) : SwitchSet :=
  { src := fld b 0 1, polarity := fld b 1 1, filter := fld b 2 2, hyst := fld b 4 4 }

/-! ## Dike (Tables FAULT-8, FAULT-9) -/

def limOk (b : List Byte) : Bool :=
  let l := parseLim b
  inP48 l.winMin && inP48 l.winMax && decide (l.winMin ≤ l.winMax) && between 1 l.brakeOut (2 ^ 31 - 1) &&
  decide (l.polarity ≤ 1) && zeroAt b 49 15

def dikeBlockOk (b : List Byte) : Bool :=
  decide (fld b 0 4 ≤ 2500 ∧ fld b 4 2 ≤ 1023) && between 1 (fld b 6 2) 1000 && between 1 (fld b 12 2) 10000 &&
  zeroAt b 14 2 && (List.range 8).all fun a => limOk (b.drop (16 + 64 * a))

/-! ## Twin and time (Table TWIN-9), CAL_CONFIG (Table STORE-2) -/

def twinBlockOk (b : List Byte) : Bool :=
  betweenI (-2000) (sfld b 0 2) 2000 &&
  decide (fld b 2 1 ≤ 1 ∧ fld b 3 1 ≤ 1 ∧ fld b 4 1 ≤ 1 ∧ fld b 5 1 ≤ 127 ∧ fld b 6 1 ≤ 1 ∧ fld b 7 1 ≤ 1) && zeroAt b 12 4

def parseTwin (b : List Byte) : TwinCfg :=
  { raw := b, peerComp := sfld b 0 2, ptpEnable := fld b 2 1, ptpDelay := fld b 3 1, ptpTransport := fld b 4 1
    ptpDomain := fld b 5 1, ringEnable := fld b 6 1, holdGroup := fld b 7 1, ipv4 := fld b 8 4 }

def calBlockOk (b : List Byte) : Bool :=
  between 64 (fld b 0 2) 1280 && between (fld b 0 2) (fld b 2 2) 2560 && between 256 (fld b 4 2) 1024 &&
  decide (fld b 6 1 ≤ 1) && zeroAt b 7 9

/-! ## FAULT_CONFIG (15 R456, R457, Table FAULT-4) -/

/-- Every fault kind. -/
def allFaults : List FaultName := List.flatten [
  [.dikeMotion, .dikeTravel, .doseClamp, .rateClamp, .watchdog, .lockEdge, .dikePeer, .escalate],
  [.lateBand, .overspeedRate, .overspeedLock, .overspeedGate, .overspeedStarve, .heldAbandon, .resumeFail, .edgeLate],
  [.tgoodDrop, .peerEdge, .phaseDrift, .shadowDiff, .telemStale, .fClamp, .edgeFit, .edgeTable],
  [.rateLow, .outputLate, .sampleMiss, .fbLost, .followErr, .settleTimeout, .limitHit, .softLimit],
  [.runupShort, .notHomed, .axisMap, .trajLimits, .rcDiscard, .homeFail, .braceShadow, .deflClamp],
  [.actCopyMiss, .limitBlock, .posCrc, .posNostart, .posCount, .posSensor, .posWarn, .posRange],
  [.srcLost, .quadIllegal, .scAmp, .scSpeed, .probeOverflow, .probeNopos, .cmpStale, .cmpMissed],
  [.limBoth, .srcNotready, .bandMismatch, .bandFault, .eccCorrected, .eccUncorrectable, .writeCheck, .twinChequin],
  [.bandUnavailable, .p48Range, .expandLimit, .binFull, .unitParity, .unitsLow, .overcover, .unitSelftest],
  [.tableHdr, .geomRange, .gainRule, .tableRule, .standinRule, .standinReach, .placeClamp, .tableEcc],
  [.slotLate, .tableMissing, .asmLate, .laneLost, .laneRemap, .noSpare, .trainFail, .lanesDown],
  [.retCrc, .retLost, .retCaps, .rxMissing, .rxCompare, .rxUncompared, .rxSwitch, .rxLate],
  [.rxFraming, .rxFec, .stuckOn, .twinIdent, .twinConfig, .twinDispatch, .gusLane, .gusGap],
  [.peerLost, .gusLost, .takeover, .twinSplit, .liveLost, .stiQuarantine, .stiTime, .stiLeader],
  [.stiStart, .dirHdr, .dirEntry, .dirTag, .dirSpace, .cellMissing, .cellRetry, .cellCheck],
  [.cellBus, .cellRaw, .cellCapacity, .hdrId, .hdrCrc, .hdrField, .dirErr, .blkHdr],
  [.blkSeq, .blkLen, .defSyntax, .defShort, .defExhaust, .blkCrc, .streamSize, .recType],
  [.recLen, .recOrder, .recField, .recIdent, .nest, .busErr, .bmeOff, .linkDown],
  [.fnReset, .descErr, .indexErr, .rangeErr, .dmaEcc, .cqHead, .barAccess, .streamDrop],
  [.mbDrop, .seqConflict, .auditFail, .memCe, .memUe, .memMap, .memHot, .refreshForced],
  [.memInit, .memNotrain, .calDisagree, .calRange, .calFail, .calStale, .jCorrupt, .jProgram],
  [.auditLost, .fwVerify, .fwFallback, .pfUv, .pfOv, .pfGood, .railFault, .thermWarn],
  [.thermTrip, .refLost]]

/-- A source's entry. Only Cuff has a block reset (Table FAULT-1). -/
def sourceBlockOk (src : Nat) (b : List Byte) : Bool :=
  decide (fld b 0 1 ≤ fld b 1 1 ∧ fld b 1 1 ≤ 5) && (fld b 0 1 != 3 || src == 8) && (src != 2 || zeroAt b 2 2) && zeroAt b 4 4

/-- An override entry, with the sources' ceilings. -/
def overrideOk (b : List Byte) (ceiling : Nat → Nat) : Bool :=
  let src := fld b 0 1
  let r := fld b 2 1
  zeroAt b 3 1 &&
  (if src = 0 then zeroAt b 1 2
   else decide (src ≤ 16) && allFaults.any (fun f => f.code == (src, fld b 1 1)) && decide (r ≤ 5 ∧ r ≤ ceiling src) &&
     (r != 3 || src == 8))

/-- The overrides in use, as (source, kind, reaction). -/
def overridesOf (b : List Byte) : List (Nat × Nat × Nat) :=
  ((List.range 32).map fun i => (fld b (128 + 4 * i) 1, fld b (129 + 4 * i) 1, fld b (130 + 4 * i) 1)).filter (·.1 != 0)

def faultBlockOk (b : List Byte) : Bool :=
  (List.range 16).all (fun i => sourceBlockOk (i + 1) (b.drop (8 * i))) &&
  (List.range 32).all (fun i => overrideOk (b.drop (128 + 4 * i)) fun src => fld b (8 * (src - 1) + 1) 1) &&
  noRepeat ((overridesOf b).map fun o => (o.1, o.2.1))

def parseFc (b : List Byte) : List FcCfg :=
  (List.range 16).map fun i => { reaction := fld b (8 * i) 1, ceiling := fld b (8 * i + 1) 1, escUs := fld b (8 * i + 2) 2 }

/-! ## The configuration digest (11 R350, Table TWIN-6) -/

/-- The bytes that enter it. -/
def State.digestBytes (s : State) : List Byte :=
  s.loom.raw.take 8 ++ List.replicate 32 0 ++ [byteOf s.pol.coverMode] ++
  ([byteOf s.sh.deflMode, byteOf s.sh.yawEnable, byteOf s.sh.standinEnable] ++ List.replicate 5 0) ++
  (s.sh.tables.flatMap fun (x : Table) => leBytes 4 x.crc.toNat) ++ leBytes 4 s.hem.edge.crc.toNat ++ s.hem.cfg.bytes ++
  s.br.bytes ++ s.dike.raw

def State.configDigest (s : State) : Nat := crc64 3 s.digestBytes

/-- The digest of the Stitch bytes (R365). -/
def State.ringDigest (s : State) : Nat := crc64 3 [byteOf s.twin.cfg.ringEnable, byteOf s.twin.cfg.holdGroup]

/-- CHECK item 3 goes to the peer when the digest has changed since `before` (R350). -/
def State.digestChanged (before : State) (s : State) : State :=
  if before.digestBytes = s.digestBytes then s else s.toPeer (.check 3 (BitVec.ofNat 64 s.configDigest))

end Sys2Proof.Machine
end

