-- ==== Sys2Proof/Machine/Jobs.lean ====
section
/-! DEFINITION. Opening and closing a job, accepting and ending a stripe: what the host's commands and a
standby's state image share (02 R75; 05 R141, R536; 07 R209; 13 R418 to R420; 11 R348). -/

namespace Sys2Proof.Machine
open Sys2Proof

/-! ## The job (R75, R85, R141; 08 R240; 00 R7) -/

/-- A job opens: the flash index and the deflector model start, job_tag goes into the audit journal (02 Table
PLEAT-1, log 53), the ring belongs to its first stripe, and staging may begin. -/
def State.openJob (j : Job) (s : State) : State :=
  let s := s.append jAudit 0 (s.auditNote 0x0302 j.hdr.jobTag) none
  let s := { s with
    job := some j, eng := { s.eng with flashNext := j.flashStart }, sh := { s.sh with dmx := 0, dmy := 0, before := [] } }
  let s := s.updCf fun c => { c with epoch := 0 }
  (((s.restartRing j.first).passAll).bandsOn)

/-- A job ends: staging, claims, pins, queued fetches and ring rows go; resident cells stay. -/
def State.closeJob (s : State) : State :=
  let s := s.bands.foldl (fun s b => s.idleUnits b.stripe b.band) s
  let s := { s with job := none, bands := [], pol := { s.pol with freeBelow := 0, enteredTo := 0 } }
  ((s.updCc fun c => { c with dirFresh := false, queue := [] }).shClear).endCapture

/-! ## The stripe -/

/-- What is reported once per stripe may be reported again. -/
def State.newStripeFlags (s : State) : State :=
  let s := s.updHem fun h => { h with fClampRaised := false, telemRaised := false, shadowRaised := false, driftRaised := false, fitRaised := false }
  let s := s.updBr fun b => { b with
    deflRaised := false, shadowRaised := false, copyMissRaised := false
    axes := b.axes.map fun (x : Axis) => { x with missRaised := false } }
  let s := s.updFeed fun d => { d with srcs := d.srcs.map fun (c : Source) =>
    { c with port := { c.port with crcRaised := false, countRaised := false, warnRaised := false } } }
  let s := s.updRet fun r => { r with crcRaised := false, fecRaised := false }
  let s := (s.updDike fun d => { d with doseClampedThisStripe := false, peerHold := false }).updCal fun c => { c with staleRaised := false }
  { s with
    pol := { s.pol with eccRaised := false }, sh := { s.sh with clampRaised := false }
    dram := { s.dram with forcedRaised := false }, eng := { s.eng with thermWarned := false } }

/-- The stripes from the next one to a named one are skipped (R75): nothing of them stays in codec, Loom,
Polder or cache claims. -/
def State.skipTo (stripe : Nat) (s : State) : State :=
  match s.job with
  | none => s
  | some j =>
    let gone := (List.range (stripe - j.next)).map (· + j.next)
    let s := { s with job := some { j with skipped := j.skipped ++ gone, next := stripe } }
    let s := (s.bands.filter fun (b : Band) => decide (b.stripe < stripe)).foldl (fun s b => s.dropBand b.stripe b.band) s
    if s.pol.stripe = stripe then s else s.restartRing stripe

/-- A stripe is accepted (R419, 07 R202, R205): Hem waits for R26. -/
def State.stripeAccepted (st : Stripe) (s : State) : State :=
  let s := s.newStripeFlags.skipTo st.stripe
  let s := s.updHem fun h => { h with
    stripe := some st, begun := false, state := .idle, fRun := min st.fPlan s.fCeil, mNext := 0, closed := false, tPrev := 0
    endPrev := 0, issuedAt := 0, issuedEnd := 0, mHw := none, armed := true, resync := true, seamStep := 0, causes := []
    runs := 0, stopped := false, settled := false, shadow := [], shadowNext := 0, commitSince := false }
  (s.passAll).bandsOn

/-- D_min of R318. -/
def State.runupMin (st : Stripe) (s : State) : Nat :=
  let c := (s.axis s.br.g.scanAxis).cfg
  let v := (s.vRun st.p st.fPlan).toNat
  ceilDiv (v * (v * c.jMax + c.aMax * c.aMax)) (2 ^ 33 * c.aMax * c.jMax) + ceilDiv v (2 ^ 30) + 16 * st.p

end Sys2Proof.Machine
end

