-- ==== Sys2Proof/Machine/Clock.lean ====
section
/-! DEFINITION. The time unit's commands (11 R360 to R363, R372): snapshot, increment, step, the pulse
outputs, and IEEE 1588 messages. The ticks themselves are `State.atTime`. -/

namespace Sys2Proof.Machine
open Sys2Proof

/-! ## Registers (R363) -/

/-- TU_SNAP. -/
def execTuSnap (t : Nat) (s : State) : Res :=
  .next ((s.atTime t).updTu fun u => { u with snapSec := u.sec, snapNs := u.ns, snapFrac := u.frac })

/-- TU_INC_WRITE: the low 40 bits, ignored in a time follower (R361). -/
def execTuIncWrite (t : Nat) (value : Word) (s : State) : Res :=
  let s := s.atTime t
  .next (if s.timeFollower then s else s.updTu fun u => { u with inc := value.toNat % 2 ^ 40 })

/-- TU_STEP: added at the next tick, ignored in a time follower; steps before one tick add up (log 27). -/
def execTuStep (t : Nat) (value : Word) (s : State) : Res :=
  let s := s.atTime t
  .next (if s.timeFollower then s else s.updTu fun u => { u with step := u.step + value.toInt })

/-! ## Pulses (R362) -/

def State.updPls (n : Nat) (f : Pulse → Pulse) (s : State) : State := s.updTu fun u => { u with pls := listUpd u.pls n f }
def State.pls (n : Nat) (s : State) : Pulse := s.tu.pls.getD n {}

/-- WIDTH in force. -/
def Pulse.ticks (p : Pulse) : Nat := max 1 p.width
/-- PER in force, for a periodic pulse. -/
def Pulse.period (p : Pulse) : Nat := max 100 p.per

/-- The time unit has passed a time in ns. -/
def TimeUnit.passed (u : TimeUnit) (ns : Nat) : Bool := decide (ns * 2 ^ 32 < u.total)
/-- The time unit has reached a time in ns. -/
def TimeUnit.reached (u : TimeUnit) (ns : Nat) : Bool := decide (ns * 2 ^ 32 ≤ u.total)

/-- PULSE_ARM: a write of TU_PLSn_CTRL. A bit that is set at the same instant stays (00 R14). -/
def execPulseArm (t n : Nat) (value : BitVec 32) (s : State) : Res :=
  let s := s.atTime t
  .next (s.updPls n fun p =>
    let p := { p with
      width := bitsOf value.toNat 31 16, missed := p.missed && (!value.getLsbD 3 || p.missedAt == some s.now)
      fired := p.fired && (!value.getLsbD 1 || p.firedAt == some s.now) }
    let at' := p.sec * 1000000000 + p.ns
    if !value.getLsbD 0 then { p with arm := false }
    else if s.tu.passed at' then { p with arm := false, stale := true }
    else { p with arm := true, stale := false, target := at' })

/-- A pulse at its firing: a single one is disarmed, a periodic one goes to its next time ahead. -/
def Pulse.fire (p : Pulse) (now : Nat) (u : TimeUnit) : Pulse :=
  let p := { p with fired := true, firedAt := some now, highUntil := some (now + tickSteps * p.ticks) }
  if p.per = 0 then { p with arm := false }
  else
    let next := p.target + p.period
    let more := if u.reached next then (u.nowNs - next) / p.period + 1 else 0
    let target := next + more * p.period
    { p with target := target, missed := p.missed || more != 0, missedAt := if more != 0 then some now else p.missedAt, sec := target / 1000000000, ns := target % 1000000000 }

/-- PULSE_FIRE: only the active twin drives its outputs. FIRED sends vector 6 (12 Table HOST-3). -/
def execPulseFire (t n : Nat) (s : State) : Res :=
  let s := s.atTime t
  let p := s.pls n
  .next (if !p.arm || s.standby || !s.tu.reached p.target then s
  else
    let s := if p.highUntil.isSome then s else s.send (.pulse n true)
    (s.updPls n fun p => p.fire s.now s.tu).vector 6)

/-- PULSE_END. -/
def execPulseEnd (t n : Nat) (s : State) : Res :=
  let s := s.atTime t
  .next (match (s.pls n).highUntil with
    | some e => if e ≤ s.now then (s.send (.pulse n false)).updPls n fun p => { p with highUntil := none } else s
    | none => s)

/-! ## IEEE 1588 (R372) -/

/-- The module that PTP steers: the ring's time leader, or a module that time-follows none. -/
def State.ptpSteered (s : State) : Bool := !s.timeFollower && s.ring.leader.all (· == s.member)

/-- INC takes the value that brings an offset to zero (log 25). -/
def State.steer (offset : Int) (s : State) : State :=
  s.updTu fun u => { u with inc := (Config.steerInc offset u.inc).toNat }

/-- PTP_MESSAGE: the offset to the grandmaster and the path delay, in 2^-16 ns, and the port's state. -/
def execPtpMessage (t : Nat) (offset pathDelay : Int) (portState : Nat) (s : State) : Res :=
  let s := s.atTime t
  .next (if s.twin.cfg.ptpEnable = 0 then s
  else
    let s := s.updTu fun u => { u with gmOffset := offset, pathDelay := pathDelay, portState := portState % 256 }
    if s.ptpSteered then s.steer offset else s)

end Sys2Proof.Machine
end

