-- ==== Sys2Proof/Machine/Stitch.lean ====
section
/-! DEFINITION. Stitch, the ring of up to four pairs (11 R364 to R371): forwarding, quarantine, the ring
leader, the ring's time, synchronous starts and group holds. -/

namespace Sys2Proof.Machine
open Sys2Proof

def State.updRing (f : RingNet → RingNet) (s : State) : State := { s with ring := f s.ring }
def State.updTwin (f : Twin → Twin) (s : State) : State := { s with twin := f s.twin }

/-- Stitch is in use (Table TWIN-9). -/
def State.ringOn (s : State) : Bool := s.twin.cfg.ringEnable == 1 && !(s.eng.state == .sleep || s.eng.state == .boot || s.eng.inReset)

/-! ## Receiving and forwarding (R364) -/

/-- Lanes of the sides of the ring. -/
def sideLanes (east west : Bool) : List Nat := (if east then [0, 1] else []) ++ (if west then [2, 3] else [])

/-- A message of another origin goes on out of the opposite side, with one HOPS less. A kind 4 TIME takes the
residence time and the delay of the hop that it came on into its correction (R368). -/
def State.forward (h : MsgHdr) (m : SMsg) (s : State) : State :=
  let (k, s) := s.nextFree
  let m := match m with
    | .time 4 ta tb c => SMsg.time 4 ta tb (c + s.ring.hopDelay + Config.residence k)
    | m => m
  let bytes := wireMessage m.type h.src h.active (h.hops - 1) h.mseq m.body 0
  (s.send (.stitch h.west (!h.west) h.src h.mseq (h.hops - 1) m bytes)).updRing fun r => { r with
    tx := putMessage r.tx ((lanesUp r.tx).filter (sideLanes h.west (!h.west)).contains) s.now bytes }

/-- A Stitch message on arrival: whether it is the first good copy of a message, and the state with the
message forwarded. Messages between neighbours come with HOPS 0. -/
def State.stitchRx (h : MsgHdr) (m : SMsg) (s : State) : Bool × State :=
  if !s.ringOn || !m.good h || s.ring.rxLast.contains (h.src, h.mseq) then (false, s)
  else
    let s := s.updRing fun r => { r with rxLast := ((h.src, h.mseq) :: r.rxLast).take 256 }
    (true, if h.hops = 0 || h.src = s.member then s else s.forward h m)

/-! ## HELLO, quarantine, the leader (R365, R366) -/

/-- The module's own HELLO. Role: bit 0 active, bit 1 a job is open (log 23). -/
def State.hello (s : State) : Hello :=
  { build := s.eng.fwBuild, role := s.twin.active.toNat + 2 * s.jobOpen.toNat
    pairState := match s.twin.pair with | .alone => 0 | .pairing => 1 | .joining => 2 | .paired => 3
    engineState := s.eng.state.code, configDigest := s.configDigest, ringDigest := s.ringDigest }

/-- The latest HELLO of every member, the own one among them, by member number. -/
def State.allHellos (s : State) : List (Nat × Hello) :=
  sortBy (·.1) ((s.member, s.hello) :: s.ring.hellos.filter (·.1 != s.member))

/-- Members whose build or ring digest differs from the leader's. -/
def State.differing (s : State) : List Nat :=
  match s.ring.leader.bind fun l => s.allHellos.find? (·.1 == l) with
  | none => []
  | some (_, l) => (s.allHellos.filter fun (p : Nat × Hello) => p.2.build != l.build || p.2.ringDigest != l.ringDigest).map (·.1)

/-- Every pair is compared with the leader; STI_QUARANTINE for each that is newly quarantined. -/
def State.quarantine (s : State) : State :=
  let bad := s.differing
  let pairs := (List.range 4).filter fun k => bad.any (· / 2 == k)
  let s := (pairs.filter fun k => !s.ring.quarantined.contains k).foldl (fun s k =>
    s.raise .stiQuarantine (s.addrFlash ((bad.find? (· / 2 == k)).getD (2 * k)))) s
  s.updRing fun r => { r with quarantined := pairs }

/-- The leader that the latest HELLOs give: the active twin of the lowest-numbered pair that is neither
quarantined nor in Fault. -/
def State.bestLeader (s : State) : Option Nat :=
  (s.allHellos.find? fun (p : Nat × Hello) =>
    p.2.role % 2 == 1 && p.2.engineState != 7 && !s.ring.quarantined.contains (p.1 / 2)).map (·.1)

/-- The module is the ring leader: the active twin of a pair that is neither quarantined nor in Fault. -/
def State.isLeader (s : State) : Bool :=
  s.ringOn && s.ring.leader == some s.member && s.twin.active && s.eng.state != .fault && !s.ring.quarantined.contains s.eng.pairId

/-- A HELLO on Stitch. -/
def State.stitchHello (src : Nat) (h : Hello) (s : State) : State :=
  (s.updRing fun r => { r with hellos := (src, h) :: r.hellos.filter (·.1 != src) }).quarantine

/-- LEAD. -/
def execLead (t : Nat) (h : MsgHdr) (leader order : Nat) (s : State) : Res :=
  let (new, s) := (s.atTime t).stitchRx h (.lead leader order)
  .next (if new then (s.updRing fun r => { r with leader := some leader, leadAt := s.now }).quarantine else s)

/-- LEAD_TIMEOUT (R366): three LEAD periods have passed without a good LEAD, and the leader is computed
anew. -/
def execLeadTimeout (t : Nat) (s : State) : Res :=
  let s := s.atTime t
  .next (if !s.ringOn || s.isLeader || decide (s.now < s.ring.leadAt + 30 * usSteps) then s
  else
    let l := s.bestLeader
    let s := (s.updRing fun r => { r with leader := l, leadAt := s.now }).quarantine
    match l with
    | some m => s.raise .stiLeader (m * 2 ^ 40 + s.flash40)
    | none => s)

/-- LEAD_BROADCAST: every 10 µs the ring leader sends LEAD with its last order number. -/
def execLeadBroadcast (t : Nat) (s : State) : Res :=
  let s := s.atTime t
  .next (if s.isLeader && s.dueAfter s.ring.leadSent (10 * usSteps) then
      (s.sendStitch (.lead s.member s.ring.orderSeen)).updRing fun r => { r with leadSent := some s.now }
    else s)

/-! ## Time on the ring (R367 to R369) -/

/-- The signed difference of two T8 values. -/
def t8Diff (a b : Nat) : Int := wrapS 40 ((a : Int) - b)

/-- An offset from the ring leader, in 2^-8 ns: admission to synchronous starts (R369), the reported
offset, and the member's steering. The standby takes its time from the active twin instead. -/
def State.ringTime (offset : Int) (s : State) : State :=
  if s.standby then s
  else
    let near := absLe offset 25600
    let s := s.updTu fun u => { u with ringOffset := offset * 256, locked := near }
    let s := if near then
        let n := s.ring.okCount + 1
        (s.updRing fun r => { r with okCount := n }).updTu fun u => { u with excluded := u.excluded && decide (n < 1000) }
      else
        ((s.raiseUnless s.tu.excluded .stiTime (toBits 48 (asr offset 8))).updRing fun r => { r with okCount := 0 }).updTu fun u =>
          { u with excluded := true }
    if s.timeFollower then s.steer offset else s

/-- TIME of kinds 3 and 4 on Stitch. -/
def State.stitchTime (h : MsgHdr) (kind ta tb : Nat) (correction : Int) (s : State) : State :=
  let (new, s) := s.stitchRx h (.time kind ta tb correction)
  if !new then s
  else match kind with
  | 3 => s.updRing fun r => { r with hopDelay := Config.hopDelay ta tb s.tu.t8 }
  | 4 => if h.src = s.member then s
    else s.ringTime (wrapS 40 ((s.tu.t8 : Int) - ta - roundHalfUp correction 256))
  | _ => s

/-- TIME_BROADCAST (R368): every 100 µs kind 3 goes to the neighbours, and kind 4 from the ring leader. -/
def execTimeBroadcast (t : Nat) (s : State) : Res :=
  let s := s.atTime t
  .next (if !s.ringOn || !s.dueAfter s.ring.timeSent (100 * usSteps) then s
  else
    let s := (s.updRing fun r => { r with timeSent := some s.now }).sendStitch (.time 3 s.tu.t8 0 0)
    if s.isLeader then s.sendStitch (.time 4 s.tu.t8 0 0) else s)

/-! ## Ordered events (R370, R371) -/

/-- T8 counts in 100 µs. -/
def t8Ahead : Nat := 25600000

/-- An ORDER of the leader: to the ring, and to itself. -/
def State.orderOut (event member stripe mask at' : Nat) (s : State) : State :=
  s.sendStitch (.order { order := s.ring.orderSeen + 1, event := event, member := member, stripe := stripe, mask := mask, at' := at' })

/-- The instant of an ORDER: the one asked for when it is at least 100 µs ahead. -/
def State.instantFor (asked : Nat) (s : State) : Nat :=
  if (t8Ahead : Int) ≤ t8Diff asked s.tu.t8 then asked else (s.tu.t8 + t8Ahead) % 2 ^ 40

/-- Pairs of a start whose group-resume request the leader waits for: all but those quarantined, out of
the running states (in Fault, or with the stripe aborted), or excluded as far as it knows (log 19). -/
def State.awaited (mask : Nat) (s : State) : List Nat :=
  (List.range 4).filter fun k =>
    mask.testBit k && !s.ring.quarantined.contains k && !(k == s.eng.pairId && s.tu.excluded) &&
    s.allHellos.any fun (p : Nat × Hello) => p.1 / 2 == k && p.2.role % 2 == 1 && decide (4 ≤ p.2.engineState ∧ p.2.engineState ≤ 6)

/-- A group hold takes effect (R371). -/
def State.groupHold (s : State) : State :=
  let s' := (s.updHem fun h => { h with causes := h.causes.filter (· != .pause false) }).pauseStripe true
  if s'.hem.causes.contains (.pause true) then s'.updRing fun r => { r with groupHeld := true } else s

/-- An ORDER in its turn; a quarantined pair takes no part (R365). -/
def State.act (o : OrderMsg) (s : State) : State :=
  let s := s.updRing fun r => { r with orderSeen := o.order }
  if !o.mask.testBit s.eng.pairId || s.ring.quarantined.contains s.eng.pairId then s
  else match o.event with
  | 1 => s.updRing fun r => { r with sync := some { stripe := o.stripe, mask := o.mask, at' := o.at' }, dropped := none }
  | 2 => if s.ring.sync.any (·.stripe == o.stripe) then s.groupHold else s
  | 3 => if s.ring.groupHeld then s.updRing fun r => { r with resumeAt := some { stripe := o.stripe, mask := o.mask, at' := o.at' } } else s
  | _ => s

/-- ORDERs held until their turn. -/
def State.actHeld : Nat → State → State
  | 0, s => s
  | fuel + 1, s =>
    match s.ring.orderHeld.find? fun (o : OrderMsg) => o.order == s.ring.orderSeen + 1 with
    | none => s
    | some o => State.actHeld fuel ((s.updRing fun r => { r with orderHeld := r.orderHeld.filter (· != o) }).act o)

/-- Every member acts on ORDERs in order-number order; the first that a module ever sees begins its
count. -/
def State.takeOrder (o : OrderMsg) (s : State) : State :=
  if o.order ≤ s.ring.orderSeen && s.ring.orderSeen != 0 then s
  else if s.ring.orderSeen = 0 || o.order = s.ring.orderSeen + 1 then (s.act o).actHeld 64
  else s.updRing fun r => { r with orderHeld := (r.orderHeld ++ [o]).take 64 }

/-- The leader gives an ORDER and acts on it. -/
def State.giveOrder (event member stripe mask at' : Nat) (s : State) : State :=
  (s.orderOut event member stripe mask at').takeOrder
    { order := s.ring.orderSeen + 1, event := event, member := member, stripe := stripe, mask := mask, at' := at' }

/-- A request at the ring leader. One start is ordered once, however many of its pairs ask for it. -/
def State.leaderRequest (src event stripe mask asked : Nat) (s : State) : State :=
  let s := s.event (.ringRequest event)
  match event with
  | 1 =>
    if s.ring.started.any fun o => o.stripe == stripe && o.mask == mask && decide (0 < t8Diff o.at' s.tu.t8) then s
    else
      let at' := s.instantFor asked
      (s.updRing fun r => { r with started := some { stripe := stripe, mask := mask, at' := at' }, resumeReqs := [] }).giveOrder 1 src stripe mask at'
  | 2 => (s.updRing fun r => { r with resumeReqs := [] }).giveOrder 2 src stripe mask 0
  | 3 =>
    let s := s.updRing fun r => { r with resumeReqs := insertNat r.resumeReqs (src / 2) }
    if (s.awaited mask).all s.ring.resumeReqs.contains then
      (s.updRing fun r => { r with resumeReqs := [] }).giveOrder 3 src stripe mask (s.instantFor 0)
    else s
  | _ => s

/-- REQUEST. The leader's own requests come to it here too. -/
def execRequest (t : Nat) (h : MsgHdr) (event stripe mask instant : Nat) (s : State) : Res :=
  let (new, s) := (s.atTime t).stitchRx h (.request event stripe mask instant)
  .next (if new && s.isLeader then s.leaderRequest h.src event stripe mask instant else s)

/-- ORDER. -/
def execOrder (t : Nat) (h : MsgHdr) (order event member stripe mask instant : Nat) (s : State) : Res :=
  let o : OrderMsg := { order := order, event := event, member := member, stripe := stripe, mask := mask, at' := instant }
  let (new, s) := (s.atTime t).stitchRx h (.order o)
  .next (if new && !(s.isLeader && h.src == s.member) then s.takeOrder o else s)

/-- SYNC_START_INSTANT (R370): the member pair begins Run, waits for R26, or is dropped. -/
def State.syncStart (s : State) : State :=
  match s.ring.sync with
  | none => s
  | some o =>
    if s.standby || decide (t8Diff s.tu.t8 o.at' < 0) || s.hem.begun then s
    else
      let accepted := s.hem.stripe.any fun st => st.sync && st.stripe == o.stripe
      if accepted && !s.tu.excluded && !s.ring.quarantined.contains s.eng.pairId then (if s.mayBegin then s.beginStripe else s)
      else
        (s.raiseUnless accepted .stiStart (s.member * 2 ^ 40 + o.stripe)).updRing fun r => { r with sync := none, dropped := some o.stripe }

/-- SYNC_START_INSTANT. -/
def execSyncStartInstant (t : Nat) (s : State) : Res := .next (s.atTime t).syncStart

/-- What an accepted STRIPE_RESUME clears (07 Table HEM-3, R209), for a pause of the group or of the host. -/
def State.clearPause (group : Bool) (s : State) : State :=
  s.updHem fun h => { h with causes := h.causes.filter fun c => c != .pause group && c != .resumeHold, runs := 0 }

/-- GROUP_RESUME_INSTANT (R371). -/
def execGroupResumeInstant (t : Nat) (s : State) : Res :=
  let s := s.atTime t
  .next (match s.ring.resumeAt with
    | some o =>
      if decide (t8Diff s.tu.t8 o.at' < 0) || s.standby then s
      else (s.updRing fun r => { r with resumeAt := none, groupHeld := false }).clearPause true
    | none => s)

end Sys2Proof.Machine
end

