-- ==== Sys2Proof/Machine/Twins.lean ====
section
/-! DEFINITION. The twin pair on Gusset (11 R338 to R359): pairing, the state image, the copies that the
standby follows, agreement checks, heartbeats and takeover; and SERVO_CYCLE, which ends by sending the
image. -/

namespace Sys2Proof.Machine
open Sys2Proof

/-- Member number of the other twin of the pair. -/
def State.peerMember (s : State) : Nat := s.member.xor 1

/-- The Gusset lanes are in use: every state but Sleep and Boot (R338). -/
def State.gussetOn (s : State) : Bool := !(s.eng.state == .sleep || s.eng.state == .boot || s.eng.inReset)

/-! ## Leaving the pair (Table TWIN-3) -/

/-- The pair state goes to Alone; a module that is Alone is active (R336), and compares and holds nothing
of a peer (R357). -/
def State.alone (s : State) : State :=
  { s with
    twin := { s.twin with
      pair := .alone, active := true, peer := none, applied := none, joined := false, rxNext := none, rxHeld := [], image := []
      unapplied := 0, snap := none, peerDigest := none, peerHead := none, peerDir := none, digests := [], missed := 0, slotSeen := false
      swapDue := false, timeExch := none, lastApplied := 0 }
    slack := { s.slack with peer := none }
    br := { s.br with copied := none }
    bands := s.bands.map fun (b : Band) => { b with peerReleased := none } : State }.cuffStatus

/-! ## The state image (R348, Table TWIN-5) -/

/-- Section 4: the collector's latch, pending set, stages and remaining microseconds (15 R459). -/
def State.fcCopy (s : State) : FcCopy :=
  { valid := s.fc.valid, overflow := s.fc.overflow, first := s.fc.first, firstSeq := s.fc.firstSeq, firstFlash := s.fc.firstFlash
    pend := s.fc.srcs.map fun (x : FcSrc) => (x.pending, x.stage, x.deadline.map fun d => (d - s.now) / usSteps) }

/-- The image of this cycle. -/
def State.image (s : State) : Image :=
  let h := s.hem
  { state := s.eng.state, jobOpen := s.jobOpen, causes := h.causes, runs := h.runs, flashNext := s.eng.flashNext
    epoch := s.cf.epoch, stripe := h.stripe, begun := h.begun, hemState := h.state, seamStep := h.seamStep, mHw := h.mHw
    mNext := h.mNext, tPrev := h.tPrev, endPrev := h.endPrev, q := h.q, x := h.x, th := h.th, phi := h.phi, omega := h.omega
    tl := h.tl, fRun := h.fRun, axes := s.br.axes, segment := s.br.segment
    offsets := s.br.axes.map fun (x : Axis) => (s.src x.cfg.source).offset
    limits := (List.range 8).map fun a => (s.limActive a 0, s.limActive a 1)
    cmps := s.feed.cmps, fc := s.fcCopy, dikeAxes := s.dike.axes, caches := s.mb.map (·.imageCache)
    sec := s.tu.sec, ns := s.tu.ns, frac := s.tu.frac, inc := s.tu.inc, step := s.tu.step, pls := s.tu.pls }

/-- The greatest lengths of sections 1 to 6. -/
def sectionMax : List Nat := [1024, 8192, 16384, 2048, 16384, 128]

/-- The bytes of a section of an image: free, since the manual does not lay them out (log 18). -/
def sectionBytes (k sect : Nat) : List Byte :=
  (List.range (min (Config.sectionLen k sect) (sectionMax.getD (sect - 1) 0))).map (Config.sectionByte k sect)

/-- The STATE messages of a section that begins at an offset of the image: pieces of at most 1,000 bytes. -/
def statePieces (cycle sect offset : Nat) : Nat → List Byte → List GMsg
  | 0, _ => []
  | n + 1, l => if l.isEmpty then [] else .state cycle sect offset (l.take 1000) :: statePieces cycle sect (offset + 1000) n (l.drop 1000)

/-- The bytes of an image, and its STATE messages. -/
def imageParts (k cycle : Nat) : List Byte × List GMsg :=
  (List.range 6).foldl (fun acc i =>
    let b := sectionBytes k (i + 1)
    (acc.1 ++ b, acc.2 ++ statePieces cycle (i + 1) acc.1.length 17 b)) ([], [])

/-- The image of the cycle as STATE messages, then STATE_END with their count and the CRC-64 of the image's
bytes, with the mask of checker 16. STATE_END carries the image in structured form too (log 18). -/
def State.sendImage (s : State) : State :=
  let im := s.image
  let (m, s) := s.inject 16 0
  let (k, s) := s.nextFree
  let (bytes, msgs) := imageParts k s.br.cycle
  (msgs.foldl (fun s m => s.toPeer m) s).toPeer
    (.stateEnd s.br.cycle msgs.length (BitVec.ofNat 64 (crc64 s.br.cycle bytes ^^^ m)) im)

/-! ## Applying an image -/

/-- The engine state that an image carries (01 R35): the standby's own Fault stays. -/
def State.copyState (im : Image) (s : State) : State :=
  if (s.eng.state == .fault && s.twin.ownFault) || s.eng.state == im.state then s
  else if im.state = .fault then (s.enterFault (s.slot 8) false).updTwin fun w => { w with ownFault := false }
  else
    let s := if im.state == .calibrate then s.setTgood false else s
    ((s.enter im.state).tgoodUp).cuffStatus

/-- The stripe that an image carries opens or ends in the standby. One that has ended here already, by its
last flash, does not open again. -/
def State.copyStripe (im : Image) (s : State) : State :=
  match s.hem.stripe, im.stripe with
  | none, some st => if s.job.any fun (j : Job) => decide (j.next ≤ st.stripe) then s.stripeAccepted st else s
  | some own, some st => if own = st then s else (s.endStripe true).stripeAccepted st
  | some _, none => s.endStripe true
  | none, none => s

/-- Section 1 for the stripe that both hold. -/
def State.copyHem (im : Image) (s : State) : State :=
  if s.hem.stripe != im.stripe || s.eng.state == .fault then s
  else
    let run := im.hemState == .seamRun || im.hemState == .seamStop
    let s := (s.updHem fun h => { h with
      heldSince := if im.hemState == .held && h.state != .held then s.now else h.heldSince
      resync := im.hemState != .tracking, armed := !run && h.armed, commitSince := false
      causes := im.causes, runs := im.runs, begun := im.begun, state := im.hemState, seamStep := im.seamStep
      mHw := match h.mHw, im.mHw with | some a, some b => some (max a b) | none, b => b | a, none => a
      mNext := im.mNext, tPrev := im.tPrev, endPrev := im.endPrev, q := im.q, x := im.x, th := im.th, phi := im.phi
      omega := im.omega, tl := im.tl, fRun := im.fRun, shadowNext := max h.shadowNext im.mNext }).updCf fun c => { c with epoch := im.epoch }
    let s := s.updHem fun h => { h with qb := (h.stripe.map h.backUpPoint).getD h.qb }
    { s with eng := { s.eng with flashNext := im.flashNext } }

/-- An axis as the image has it, with the module's own block, sample and counts. -/
def Axis.copy (own im : Axis) : Axis :=
  { im with
    cfg := own.cfg, newCfg := own.newCfg, lostSeen := own.lostSeen, y := own.y, yOk := own.yOk, misses := own.misses, missRaised := own.missRaised, ferrEvents := own.ferrEvents
    shadowCnt := own.shadowCnt, e := own.e, out := own.out }

/-- A source's offset moves, and its remembered samples with it. -/
def Source.moveTo (c : Source) (offset : Int) : Source :=
  let d := offset - c.offset
  { c with offset := offset, y := c.y.map (· + d), hist := c.hist.map fun p => (p.1, p.2.map (· + d)) }

/-- Sections 2 and 3. -/
def State.copyBrace (im : Image) (s : State) : State :=
  let s := s.eachAxis fun a s => s.updSrc (s.axis a).cfg.source fun c => c.moveTo (im.offsets.getD a c.offset)
  let s := s.eachAxis fun a s => s.updAxis a fun x => x.copy (im.axes.getD a x)
  { s.updBr fun b => { b with segment := im.segment } with feed := { s.feed with cmps := im.cmps.map fun (c : Compare) => { c with highUntil := none } } }

/-- Dike's state of an axis, with the module's own samples. -/
def DikeAxis.copy (own im : DikeAxis) : DikeAxis := { im with yPrev := own.yPrev, dvPrev := own.dvPrev, failed := own.failed }

/-- Section 6: the time at the cycle's first tick, brought to now. The outputs of a standby stay low. -/
def State.copyTime (im : Image) (cycle : Nat) (s : State) : State :=
  s.updTu fun u =>
    { ({ u with sec := im.sec, ns := im.ns, frac := im.frac, inc := im.inc, step := im.step
                pls := im.pls.map fun (p : Pulse) => { p with highUntil := none } } : TimeUnit).ticks
        (s.now / tickSteps - cycle * s.servoPeriod / tickSteps) with locked := true }

/-- The whole image, at once. -/
def State.applyImage (im : Image) (cycle : Nat) (s : State) : State :=
  let s := if !im.jobOpen && s.jobOpen then s.closeJob else s
  let s := (((s.copyStripe im).copyHem im).copyBrace im).copyTime im cycle
  let s := s.updFc fun c => { c with copied := some im.fc }
  let s := s.updDike fun d => { d with axes := (d.axes.zipIdx).map fun (p : DikeAxis × Nat) => p.1.copy (im.dikeAxes.getD p.2 p.1) }
  let s := (s.copyState im).updTwin fun w => { w with
    snap := some im, lastApplied := cycle, unapplied := 0, joined := true, image := [] }
  if s.twin.pair == .joining && im.state == .ready then (s.updTwin fun w => { w with pair := .paired }).cuffStatus else s

/-- An image that is not whole: the previous one stays (R348). -/
def State.imageLost (s : State) : State :=
  let n := s.twin.unapplied + 1
  let s := (s.raise .gusGap (s.addrFlash s.peerMember)).updTwin fun w => { w with unapplied := n, image := [] }
  if n = 3 then
    (s.updTwin fun w => { w with pair := if w.pair == .paired then .joining else w.pair, joined := false, unapplied := 0 }).cuffStatus
  else s

/-- STATE_END at the standby: its count, every message, and the CRC over their bytes. -/
def State.stateEnd (cycle count : Nat) (crc : Word) (im : Image) (s : State) : State :=
  if !s.standby || s.twin.pair == .alone || s.twin.pair == .pairing then s
  else
    let parts := sortBy (fun (p : Nat × Nat × Nat × List Byte) => p.2.1 * 2 ^ 32 + p.2.2.1) (s.twin.image.filter (·.1 == cycle))
    let bytes := parts.flatMap fun (p : Nat × Nat × Nat × List Byte) => p.2.2.2
    if parts.length = count && crc64 cycle bytes == crc.toNat then s.applyImage im cycle else s.imageLost

/-! ## Copies of the active twin's decisions (R213, R329) -/

/-- A standby that follows. -/
def State.follows (s : State) : Bool := s.standby && (s.twin.pair == .joining || s.twin.pair == .paired)
/-- A standby in Fault issues no flashes. -/
def State.followsWrite (s : State) : Bool := s.follows && s.eng.state != .fault

/-- COMMIT: the flash is scheduled with edges from the received factor and the standby's own table, and its
record goes to Shuttle (07 R213, 06 R164). -/
def State.peerCommit (r : FlashRec) (tn : Nat) (f : Int) (s : State) : State :=
  match s.hem.stripe with
  | none => s
  | some st =>
    if !s.followsWrite then s
    else
      let prev := s.hem.committed.getLast?
      let eprev := (prev.map fun (c : Committed) => (c.record.ex, c.record.ey)).getD (s.br.ePrevX, s.br.ePrevY)
      let (d, s) := s.track r.resync r.ex r.ey eprev.1 eprev.2
      let edges := s.edgeOffsets f
      let c : Committed := {
        record := r, tn := tn, f := f, edges := edges, endAt := tn + edges.getLastD 0 + 64, epoch := s.cf.epoch
        dx := d.1, dy := d.2, last := decide (r.m + 1 = st.count) }
      let s := s.updHem fun h => { h with
        committed := h.committed ++ [c], mNext := r.m + 1, resync := false, tPrev := tn, endPrev := c.endAt, commitSince := true }
      let s := { s with eng := { s.eng with flashNext := r.flash + 1 } }
      ((((s.captureCommit r tn).recordArrives r tn).takeSlots 2).shadowTest r.m)

/-- WITHDRAW: every flash from the named one is withdrawn under the new epoch (07 R213, 08 R240). -/
def State.peerWithdraw (flash epoch : Nat) (s : State) : State :=
  if !s.followsWrite then s
  else
    let keep := s.hem.committed.filter fun (c : Committed) => decide (c.record.flash < flash)
    let gone := s.hem.committed.filter fun (c : Committed) => decide (flash ≤ c.record.flash)
    let s := s.updHem fun h =>
      let m := (gone.head?.map fun (c : Committed) => c.record.m).getD h.mNext
      { h with
        committed := keep, mNext := m, shadowNext := min h.shadowNext m, shadow := h.shadow.filter fun x => decide (x.1 < m)
        tPrev := (keep.getLast?.map (·.tn)).getD h.issuedAt, endPrev := (keep.getLast?.map (·.endAt)).getD h.issuedEnd
        resync := true, commitSince := h.commitSince && !keep.isEmpty, stats := { h.stats with withdrawn := sat64 (h.stats.withdrawn + gone.length) } }
    let s := { s with eng := { s.eng with flashNext := flash } }
    (s.updCf fun c => { c with epoch := (epoch + 255) % 256 }).shWithdraw flash |>.cuffWithdraw flash

/-- SETPOINT: the frame that the standby sends unchanged at the output phase. -/
def State.peerSetpoint (cycle ctrl0 ctrl1 : Nat) (set0 set1 : List Int) (s : State) : State :=
  if s.follows then s.updBr fun b => { b with copied := some { cycle := cycle, set0 := set0, set1 := set1, ctrl0 := ctrl0, ctrl1 := ctrl1 } }
  else s

/-- TAKEOVER from the peer: a swap makes the standby active at its next output phase; any other leaves an
active twin Alone (R358, Table TWIN-3). -/
def State.peerTakeover (cause : Nat) (s : State) : State :=
  if cause = 2 && s.standby then s.updTwin fun w => { w with swapDue := true }
  else if cause = 1 && s.twin.active && s.twin.pair != .alone then s.alone
  else s

/-- CHECK (R350, R351). -/
def State.peerCheck (item : Nat) (value : Word) (s : State) : State :=
  s.updTwin fun w => match item with
    | 1 => { w with peerHead := some value }
    | 2 => { w with peerDir := some value }
    | 3 => { w with peerDigest := some value }
    | _ => w

/-! ## Pairing (R343, R344) -/

/-- A HELLO of the peer: from Alone, roles are fixed (R336) and Pairing begins. -/
def State.peerHello (h : Hello) (s : State) : State :=
  let s := s.updTwin fun w => { w with peer := some h, peerDigest := some (BitVec.ofNat 64 h.configDigest) }
  if s.twin.pair != .alone then s
  else
    let own := s.jobOpen
    let theirs := h.role / 2 % 2 == 1
    if own && theirs then (if s.eng.twinB && s.eng.state != .fault then (s.raise .twinSplit (s.addrFlash s.peerMember)).enterFault (s.slot 8) false else s)
    else
      let active := own || (!theirs && !s.eng.twinB)
      (s.updTwin fun w => { w with pair := .pairing, active := active, missed := 0, slotSeen := true }).sendGusset (.time 1 s.now 0 0)

/-- TIME of kind 1: the active twin answers with the stamps, then names the servo cycle boundary and the
time there in a TIME of kind 2. -/
def State.pairTime (kind ta : Nat) (s : State) : State :=
  if kind != 1 || s.twin.pair != .pairing then s
  else
    let s := s.updTwin fun w => { w with timeExch := some (ta, s.now) }
    if s.standby then s
    else
      let s := s.sendGusset (.time 1 s.now s.now 0)
      let b := (s.now / s.servoPeriod + 1) * s.servoPeriod
      let u := s.tu.ticks (b / tickSteps - s.now / tickSteps)
      s.sendGusset (.timeLoad b u.sec u.ns u.frac u.inc)

/-! ## Receiving on Gusset (R341) -/

/-- What a message does once it is delivered. -/
def State.deliver (m : GMsg) (s : State) : State :=
  match m with
  | .heartbeat _ _ _ _ _ _ => s
  | .slack khz => if s.twin.pair = .alone then s else s.updSlack fun k => { k with peer := some khz, peerAge := 0 }
  | .hello h => s.peerHello h
  | .state cycle sect offset data => s.updTwin fun w => { w with image := (w.image.filter (·.1 == cycle)) ++ [(cycle, sect, offset, data)] }
  | .stateEnd cycle count crc im => s.stateEnd cycle count crc im
  | .setpoint cycle c0 c1 s0 s1 => s.peerSetpoint cycle c0 c1 s0 s1
  | .commit r tn f => s.peerCommit r tn f
  | .withdraw flash epoch => s.peerWithdraw flash epoch
  | .band stripe band outcome _ computed => s.peerBand stripe band outcome computed.toNat
  | .digest flash epoch void value =>
    if s.twin.pair = .alone then s
    else s.digestArrives { flash := flash, epoch := epoch, void := void, value := value, at' := s.now, own := false }
  | .check item value => s.peerCheck item value
  | .time kind ta _ _ => s.pairTime kind ta
  | .timeLoad _ _ _ _ _ => s
  | .takeover _ cause => s.peerTakeover cause

/-- Messages held until their turn. -/
def State.deliverHeld : Nat → State → State
  | 0, s => s
  | fuel + 1, s =>
    match s.twin.rxNext.bind fun n => s.twin.rxHeld.find? (·.1 == n) with
    | none => s
    | some (n, _, m) =>
      State.deliverHeld fuel ((s.updTwin fun w => { w with
        rxNext := some ((n + 1) % 2 ^ 32), rxHeld := w.rxHeld.filter (·.1 != n) }).deliver m)

/-- A message of the peer: the first good copy of each MSEQ, delivered in MSEQ order. -/
def State.gussetRx (h : MsgHdr) (m : GMsg) (s : State) : State :=
  if !s.gussetOn || !m.good h || h.src != s.peerMember then s
  else
    let n := s.twin.rxNext.getD h.mseq
    let d := wrapS 32 ((h.mseq : Int) - n)
    if d < 0 then s
    else if d = 0 then ((s.updTwin fun w => { w with rxNext := some ((n + 1) % 2 ^ 32) }).deliver m).deliverHeld 64
    else if s.twin.rxHeld.any (·.1 == h.mseq) then s
    else s.updTwin fun w => { w with rxHeld := w.rxHeld ++ [(h.mseq, s.now, m)] }

/-- GUS_GAP: a gap that no copy filled within 2 µs is skipped, up to the first message held. -/
def execGusGap (t : Nat) (s : State) : Res :=
  let s := s.atTime t
  .next (match s.twin.rxNext, minBy (fun (p : Nat × Nat × GMsg) => (wrapS 32 ((p.1 : Int) - s.twin.rxNext.getD 0)).toNat) s.twin.rxHeld with
    | some _, some (k, _) =>
      if !s.twin.rxHeld.any (fun p => decide (p.2.1 + 2 * usSteps ≤ s.now)) then s
      else ((s.raise .gusGap (s.addrFlash s.peerMember)).updTwin fun w => { w with rxNext := some k }).deliverHeld 64
    | _, _ => s)

/-- GUSSET_HELLO. -/
def execGussetHello (t : Nat) (h : MsgHdr) (stitch : Bool) (build role pairState engineState configDigest ringDigest : Nat) (s : State) : Res :=
  let s := s.atTime t
  let m : Hello := { build := build, role := role, pairState := pairState, engineState := engineState, configDigest := configDigest, ringDigest := ringDigest }
  .next (if stitch then
    let (new, s) := s.stitchRx h (.hello m)
    if new && h.src != s.member then s.stitchHello h.src m else s
  else if !s.gussetOn || !(GMsg.hello m).good h then s
  else if h.src != s.peerMember then (if s.twin.pair = .alone then s.raise .twinIdent (s.addrFlash (h.src % 8)) else s)
  else s.gussetRx h (.hello m))

/-- SLACK. -/
def execSlack (t : Nat) (h : MsgHdr) (khz : Nat) (s : State) : Res := .next ((s.atTime t).gussetRx h (.slack khz))

/-- STATE. -/
def execState (t : Nat) (h : MsgHdr) (cycle sect offset : Nat) (data : List Byte) (s : State) : Res :=
  .next ((s.atTime t).gussetRx h (.state cycle sect offset data))

/-- STATE_END. -/
def execStateEnd (t : Nat) (h : MsgHdr) (cycle count : Nat) (crc : Word) (image : Image) (s : State) : Res :=
  .next ((s.atTime t).gussetRx h (.stateEnd cycle count crc image))

/-- SETPOINT. -/
def execSetpoint (t : Nat) (h : MsgHdr) (cycle ctrl0 ctrl1 : Nat) (set0 set1 : List Int) (s : State) : Res :=
  .next ((s.atTime t).gussetRx h (.setpoint cycle ctrl0 ctrl1 set0 set1))

/-- COMMIT. -/
def execCommit (t : Nat) (h : MsgHdr) (record : FlashRec) (tn : Nat) (f : Int) (s : State) : Res :=
  .next ((s.atTime t).gussetRx h (.commit record tn f))

/-- WITHDRAW. -/
def execWithdraw (t : Nat) (h : MsgHdr) (flash epoch : Nat) (s : State) : Res := .next ((s.atTime t).gussetRx h (.withdraw flash epoch))

/-- BAND. -/
def execBand (t : Nat) (h : MsgHdr) (stripe band outcome attempt : Nat) (computed : Word) (s : State) : Res :=
  .next ((s.atTime t).gussetRx h (.band stripe band outcome attempt computed))

/-- DIGEST. -/
def execDigest (t : Nat) (h : MsgHdr) (flash epoch : Nat) (void : Bool) (digest : Word) (s : State) : Res :=
  .next ((s.atTime t).gussetRx h (.digest flash epoch void digest))

/-- CHECK. -/
def execCheck (t : Nat) (h : MsgHdr) (item : Nat) (value : Word) (s : State) : Res := .next ((s.atTime t).gussetRx h (.check item value))

/-- TIME: kinds 1 and 2 on Gusset, 3 and 4 on Stitch. -/
def execTime (t : Nat) (h : MsgHdr) (stitch : Bool) (kind ta tb : Nat) (correction : Int) (s : State) : Res :=
  let s := s.atTime t
  .next (if stitch then s.stitchTime h kind ta tb correction else s.gussetRx h (.time kind ta tb correction))

/-- GUSSET_TAKEOVER. -/
def execGussetTakeover (t : Nat) (h : MsgHdr) (cycle cause : Nat) (s : State) : Res :=
  .next ((s.atTime t).gussetRx h (.takeover cycle cause))

/-- DIGEST_TIMEOUT (R352): 10 µs after the own digest, the peer's is counted missing. -/
def execDigestTimeout (t flash epoch : Nat) (s : State) : Res :=
  let s := s.atTime t
  let due (d : Dig) : Bool := d.flash == flash && d.epoch == epoch && d.own && decide (d.at' + 10 * usSteps ≤ s.now)
  .next (if s.twin.digests.any due then
    s.updTwin fun w => { w with digests := w.digests.filter (!due ·), digestMissing := w.digestMissing + 1 }
  else s)

/-- A HELLO on Gusset. -/
def State.gussetHello (s : State) : State := (s.sendGusset (.hello s.hello)).updTwin fun w => { w with helloAt := some s.now }

/-- HELLO_BROADCAST: every 100 µs on Gusset, every 1 ms on Stitch. -/
def execHelloBroadcast (t : Nat) (stitch : Bool) (s : State) : Res :=
  let s := s.atTime t
  .next (if stitch then
    (if s.ringOn && s.dueAfter s.ring.helloSent (1000 * usSteps) then
      (s.sendStitch (.hello s.hello)).updRing fun r => { r with helloSent := some s.now }
    else s)
  else if s.gussetOn && s.dueAfter s.twin.helloAt (100 * usSteps) then s.gussetHello
  else s)

/-! ## The standby's load (R344) -/

/-- Step counts of a predictor, a feedback source and a lane, moved. -/
def Pred.shift (f : Nat → Nat) (c : Pred) : Pred := { c with t0 := f c.t0, tValid := f c.tValid }

def Source.shift (f : Nat → Nat) (c : Source) : Source :=
  { c with
    newCfg := c.newCfg.map fun p => (f p.1, p.2), hist := c.hist.map fun p => (f p.1, p.2)
    port := { c.port with
      tReq := c.port.tReq.map f, tw := f c.port.tw, next := c.port.next.map fun w => (w.1, f w.2.1, f w.2.2.1, w.2.2.2) }
    quad := { c.quad with lastEdge := c.quad.lastEdge.map f, index := c.quad.index.map fun p => (p.1, f p.2) } }

def Lane.shift (f : Nat → Nat) (l : Lane) : Lane := { l with since := f l.since, origin := f l.origin }

/-- The step counts that the module keeps move with its own count. -/
def State.shiftSteps (d : Int) (s : State) : State :=
  let f (t : Nat) : Nat := ((t : Int) - d).toNat
  { s with
    now := f s.now
    dike := { s.dike with wdDeadline := s.dike.wdDeadline.map f }
    fc := { s.fc with srcs := s.fc.srcs.map fun (x : FcSrc) => { x with deadline := x.deadline.map f, setAt := x.setAt.map f } }
    arb := { s.arb with faultQ := s.arb.faultQ.map fun (r : Raised) => { r with at' := f r.at' }, causeQ := s.arb.causeQ.map fun p => (f p.1, p.2) }
    hem := { s.hem with
      telem := s.hem.telem.map fun x => (x.1, x.2.1, f x.2.2), q := s.hem.q.shift f, x := s.hem.x.shift f, th := s.hem.th.shift f }
    feed := { s.feed with srcs := s.feed.srcs.map (Source.shift f) }
    twin := { s.twin with
      tx := s.twin.tx.map (Lane.shift f), helloAt := s.twin.helloAt.map f, rxHeld := s.twin.rxHeld.map fun p => (p.1, f p.2.1, p.2.2)
      digests := s.twin.digests.map fun (d : Dig) => { d with at' := f d.at' } }
    ring := { s.ring with
      tx := s.ring.tx.map (Lane.shift f), leadAt := f s.ring.leadAt, leadSent := s.ring.leadSent.map f
      timeSent := s.ring.timeSent.map f, helloSent := s.ring.helloSent.map f }
    cf := { s.cf with
      lanes := s.cf.lanes.map (Lane.shift f), statusAt := s.cf.statusAt.map f
      ret := { s.cf.ret with
        telemAt := s.cf.ret.telemAt.map f, helloAt := s.cf.ret.helloAt.map f, good := s.cf.ret.good.map fun (g : Option Nat) => g.map f } } }

/-- PAIRING_COMPLETE: the standby's step count takes the offset, rounded to a whole number of TREF ticks,
and its time unit what the active twin's TIME of kind 2 carries. -/
def execPairingComplete (t s1 r1 s2 r2 sec ns frac inc : Nat) (s : State) : Res :=
  let s := s.atTime t
  .next (if s.twin.pair != .pairing then s
  else
    let s := if s.standby then
        let off := roundHalfUp (((r1 : Int) - s1) - ((r2 : Int) - s2)) 128 * 64
        (s.shiftSteps off).updTu fun u => { u with sec := sec % 2 ^ 48, ns := ns % 1000000000, frac := frac % 2 ^ 32, inc := inc % 2 ^ 40 }
      else s
    s.updTwin fun w => { w with pair := .joining, joined := false, applied := none, lastApplied := 0 })

/-! ## Heartbeats, takeover (R353 to R358) -/

/-- The new active twin's collector (15 R459): its own latch if VALID, else the copied one; what is pending
only in the copy becomes pending at the copied stage and time. -/
def State.takeFc (s : State) : State :=
  match s.fc.copied with
  | none => s
  | some c =>
    let s := if s.fc.valid then s else s.updFc fun f => { f with
      valid := c.valid, overflow := c.overflow, first := c.first, firstSeq := c.firstSeq, firstFlash := c.firstFlash }
    s.updFc fun f => { f with
      copied := none
      srcs := (f.srcs.zipIdx).map fun (p : FcSrc × Nat) => match c.pend[p.2]? with
        | some (true, stage, left) =>
          if p.1.pending then p.1 else { p.1 with pending := true, stage := stage, deadline := left.map fun u => s.now + u * usSteps }
        | _ => p.1 }

/-- R355: the standby takes control. -/
def State.takeOver (s : State) : State :=
  let s := (s.raise .takeover (s.addrFlash s.peerMember)).sendGusset (.takeover s.br.cycle 1)
  ((s.takeFc).becomeActive).alone

/-- Three slots in a row have been missed (R355 to R357). -/
def State.peerGone (peerLive : Bool) (s : State) : State :=
  if s.twin.pair == .pairing then s.alone
  else if s.twin.active then (s.raise .peerLost (s.addrFlash s.peerMember)).alone
  else if peerLive then ((s.raise .gusLost (s.addrFlash s.peerMember)).alone).enterFault (s.slot 8) false
  else if s.paired then s.takeOver
  else s.alone

/-- A transmit lane whose time in its state has run out (08 Table CUFF-6, 11 R338). -/
def State.gussetTimer (s : State) (l : Lane) : Lane :=
  let after (us : Nat) : Bool := decide (l.since + us * usSteps ≤ s.now)
  match l.state with
  | .train => if after 100000 then { l with state := .failed, since := s.now } else l
  | .align => if after 10000 then { state := .train, since := s.now } else l
  | .lost =>
    if after 1000 && (s.eng.state == .calibrate || s.eng.state == .ready || s.eng.state == .fault) then { state := .train, since := s.now }
    else l
  | _ => l

/-- HEARTBEAT_SLOT, at the start of a slot. -/
def execHeartbeatSlot (t : Nat) (peerLive : Bool) (lanes : Nat) (s : State) : Res :=
  let s := s.atTime t
  .next (if !s.gussetOn || s.now % usSteps ≠ 0 then s
  else
    let s := s.updTwin fun w => { w with tx := w.tx.map s.gussetTimer }
    let s := if s.cp.halted then s
      else
        let h := s.hello
        (s.sendGusset (.heartbeat (s.now / usSteps) h.engineState h.role h.pairState (lanes % 256) s.twin.lastApplied)).updTwin fun w =>
          { w with gusLive := !w.gusLive }
    if s.twin.pair = .alone then s
    else
      let n := if s.twin.slotSeen then 0 else s.twin.missed + 1
      let s := s.updTwin fun w => { w with slotSeen := false, missed := n }
      if n = 3 then s.peerGone peerLive else s)

/-- What the peer's LOCK and TRAINED of a lane do to it (08 Table CUFF-6); GUS_LANE when it is lost, HELLO
when it comes Up (Table TWIN-4). -/
def State.gussetLane (lanes : Nat) (s : State) (k : Nat) : State :=
  let l := s.twin.tx.getD k {}
  let set (f : Lane → Lane) (s : State) : State := s.updTwin fun w => { w with tx := listUpd w.tx k f }
  match l.state with
  | .train => if lanes.testBit (4 + k) then set (fun _ => { state := .align, since := s.now, origin := s.now }) s else s
  | .align => if lanes.testBit k then (set (fun l => { l with state := .up, since := s.now }) s).gussetHello else s
  | .up =>
    if lanes.testBit k then s
    else (set (fun l => { l.cut s.now with state := .lost, since := s.now }) s).raise .gusLane (s.addrSub s.peerMember k)
  | _ => s

/-- The lane bits of a peer's HEARTBEAT. -/
def State.gussetLanes (lanes : Nat) (s : State) : State :=
  ((List.range 4).foldl (State.gussetLane lanes) s).updTwin fun w => { w with lanes := lanes }

/-- HEARTBEAT: it is not delivered in MSEQ order, since its MSEQ is the slot. -/
def execHeartbeat (t : Nat) (h : MsgHdr) (slot engineState role pairState lanes applied : Nat) (s : State) : Res :=
  let s := s.atTime t
  .next (if !s.gussetOn || !(GMsg.heartbeat slot engineState role pairState lanes applied).good h || h.src != s.peerMember then s
  else
    let s := (s.gussetLanes (lanes % 256)).updTwin fun w => { w with slotSeen := true }
    if s.twin.pair == .joining || s.twin.pair == .paired then
      (s.updTwin fun w => { w with
        applied := some applied, joined := w.joined || (w.active && applied != 0) }).pairUp
    else s)

/-- LIVE_LOST (R356). -/
def execLiveLost (t : Nat) (s : State) : Res :=
  let s := s.atTime t
  .next (if s.twin.pair = .alone then s else s.raise .liveLost (s.addrFlash s.peerMember))

/-! ## The timing outputs' phase (R346) -/

/-- PHASE_TRIM: the mean of 65,536 differences, in 2^-8 ps, with peer_comp. -/
def execPhaseTrim (t : Nat) (meanD : Int) (s : State) : Res :=
  let s := s.atTime t
  let d := meanD + 256 * s.twin.cfg.peerComp
  let drift := !absLe d 10240
  let s := (s.raiseUnless (!drift || s.hem.driftRaised) .phaseDrift (toBits 48 d)).updHem fun h => { h with driftRaised := h.driftRaised || drift }
  .next (if s.eng.twinB && s.inWriting then
    s.updTwin fun w => { w with
      trimDue := some (clampInt (w.trimDue.getD w.trim + clampInt (roundHalfUp d 2500) (-4) 4) (-512) 511) }
  else s)

/-! ## The servo cycle (R301, R348, R31, R358) -/

/-- The end of a role swap at the active twin: it follows from here on, and sends this cycle's frame. -/
def State.becomeStandby (s : State) : State :=
  ((s.comparesLow.pulsesLow).updTwin fun w => { w with active := false, swapDue := false, applied := none }).updBr fun b => { b with copied := some b.cur }

/-- What the twins tell each other in a cycle. -/
def State.tellPeer (s : State) : State :=
  let s := (s.toPeer (.slack s.ownSlack)).updSlack fun k => { k with peerAge := k.peerAge + 1 }
  if !s.twin.active || s.twin.pair == .alone || s.twin.pair == .pairing then s
  else
    let c := s.br.cur
    let s := (s.toPeer (.setpoint c.cycle c.ctrl0 c.ctrl1 c.set0 c.set1)).sendImage
    if s.twin.swapDue then (s.toPeer (.takeover s.br.cycle 2)).becomeStandby else s

/-- SERVO_CYCLE: at a multiple of T_s. -/
def execServoCycle (t : Nat) (s : State) : Res :=
  let s := s.atTime t
  .next (if s.now % s.servoPeriod = 0 && s.feedOn then s.servoMotion.tellPeer else s)

end Sys2Proof.Machine
end

