-- ==== Sys2Proof/Machine/Sluice.lean ====
section
/-! DEFINITION. Sluice (12): BAR accesses, MSI-X, the DMA rings and their descriptors, stream rings, the
all-channel halt and its end. -/

namespace Sys2Proof.Machine
open Sys2Proof

def State.updSl (f : Sluice → Sluice) (s : State) : State := { s with sl := f s.sl }
def State.ring' (n : Nat) (s : State) : Ring := s.sl.rings.getD n {}
def State.updRing' (n : Nat) (f : Ring → Ring) (s : State) : State := s.updSl fun k => { k with rings := listUpd k.rings n f }

/-! ## The host transfer area (R383) -/

def transferBase : Nat := 0x40000000
def transferEnd : Nat := 0x80000000
def inTransfer (addr len : Nat) : Bool := decide (transferBase ≤ addr ∧ addr + len ≤ transferEnd)
def dramSize : Nat := 2 ^ 37

/-! ## Descriptors (Table HOST-5, R386 to R389) -/

def Desc.src (d : Desc) : Nat := fld d.raw 0 8
def Desc.dst (d : Desc) : Nat := fld d.raw 8 8
def Desc.len (d : Desc) : Nat := fld d.raw 16 4
def Desc.flags (d : Desc) : Nat := fld d.raw 20 4
def Desc.swap (d : Desc) : Nat := bitsOf d.flags 1 0
def Desc.index (d : Desc) : Bool := d.flags.testBit 2
def Desc.int (d : Desc) : Bool := d.flags.testBit 3
def Desc.last (d : Desc) : Bool := d.flags.testBit 4
def Desc.idxN (d : Desc) : Nat := bitsOf d.flags 31 16
def Desc.next (d : Desc) : Nat := fld d.raw 24 8

/-- Bytes of a SWAP unit (Table HOST-6). -/
def swapUnit (m : Nat) : Nat := if m = 0 then 1 else if m = 1 then 2 else 4

/-- One unit, rearranged. -/
def swapOne (m : Nat) (u : List Byte) : List Byte :=
  match m, u with
  | 1, [a, b] => [b, a]
  | 2, [a, b, c, d] => [d, c, b, a]
  | 3, [a, b, c, d] => [c, d, a, b]
  | _, u => u

/-- R388, over the units of a transfer. -/
def swapBytes (m : Nat) : Nat → List Byte → List Byte
  | 0, l => l
  | fuel + 1, l => if l.isEmpty then [] else swapOne m (l.take (swapUnit m)) ++ swapBytes m fuel (l.drop (swapUnit m))

/-- Index entries (Table HOST-7), as (address, length, reserved). -/
def Desc.entries (d : Desc) : List (Nat × Nat × Nat) :=
  (List.range (d.idxN + 1)).map fun i => (fld d.table (16 * i) 8, fld d.table (16 * i + 8) 4, fld d.table (16 * i + 12) 4)

/-- The host ranges of a descriptor, whose host-side field is `host`. -/
def Desc.ranges (d : Desc) (host : Nat) : List (Nat × Nat) :=
  if d.index then d.entries.map fun e => (e.1, e.2.1) else [(host, d.len)]

/-! ## Requests (R387) -/

/-- A range in pieces; `room` is what a request that begins at an address may carry, at least one byte. -/
def cutRange (room : Nat → Nat) : Nat → Nat → Nat → List (Nat × Nat)
  | 0, _, _ => []
  | fuel + 1, a, n => if n = 0 then [] else (a, min n (room a)) :: cutRange room fuel (a + room a) (n - room a)

/-- Room up to the next 4,096-byte boundary and within Max_Read_Request_Size, and up to the next boundary of
Max_Payload_Size. -/
def readRoom (a : Nat) : Nat := min (4096 - a % 4096) (128 * 2 ^ Config.readExp.val)
def writeRoom (a : Nat) : Nat := 128 * 2 ^ Config.payloadExp.val - a % (128 * 2 ^ Config.payloadExp.val)

/-- Double words of a request, and the enables of its first and last one; a request of one double word has no
last one. -/
def requestDws (a n : Nat) : Nat := (a % 4 + n + 3) / 4
def firstEnable (a n : Nat) : Nat := (2 ^ min n (4 - a % 4) - 1) * 2 ^ (a % 4)
def lastEnable (a n : Nat) : Nat := if requestDws a n = 1 then 0 else 2 ^ ((a + n - 1) % 4 + 1) - 1

/-- The read requests of a host range. -/
def readRequests (a n : Nat) : List Out := (cutRange readRoom n a n).map fun p => .hostRead p.1 p.2

/-- The write requests of bytes at a host address. -/
def writeRequests (a : Nat) (data : List Byte) : List Out :=
  (cutRange writeRoom data.length a data.length).map fun p => .hostWrite p.1 ((data.drop (p.1 - a)).take p.2)

/-- Requests to the host, in order. -/
def State.sendAll (l : List Out) (s : State) : State := { s with out := s.out ++ l }

/-- Completion status (Table HOST-11). -/
def csOk : Nat := 0
def csBusErr : Nat := 1
def csHalted : Nat := 2
def csDescErr : Nat := 3
def csIndexErr : Nat := 4
def csRangeErr : Nat := 5
def csDmaEcc : Nat := 6
def csAborted : Nat := 7

def Ring.stream (r : Ring) (n : Nat) : Bool := decide (16 ≤ n) && r.mode == 1

/-- What is wrong with a descriptor of ring n: its completion status and fault. -/
def Desc.wrong (d : Desc) (n : Nat) (stream : Bool) : Option (Nat × FaultName) :=
  let host := if n < 16 then d.src else d.dst
  let lens := d.entries.map (·.2.1)
  if bitsOf d.flags 15 5 ≠ 0 || (!d.index && d.idxN != 0) || d.len = 0 || 16777216 < d.len || d.len % swapUnit d.swap ≠ 0 ||
      d.next % 32 ≠ 0 || (d.index && host % 16 != 0) || (!d.index && decide (2 ^ 64 < host + d.len)) ||
      (stream && (d.src != 0 || d.swap != 0 || d.index || decide (d.len < 64))) then some (csDescErr, .descErr)
  else if (decide (n < 16) && !inTransfer d.dst d.len) || (decide (16 ≤ n) && !stream && decide (dramSize < d.src + d.len)) then
    some (csRangeErr, .rangeErr)
  else if d.index && (d.entries.any (fun e => e.2.1 == 0 || decide (16777216 < e.2.1) || e.2.2 != 0) || lens.sum != d.len) then
    some (csIndexErr, .indexErr)
  else if d.index && d.entries.any (fun e => decide (2 ^ 64 < e.1 + e.2.1)) then some (csDescErr, .descErr)
  else none

/-- Ring and descriptor as the faults of R402 carry them. -/
def ringAddr (n desc : Nat) : Nat := n * 2 ^ 40 + bitsOf desc 44 5

/-! ## Completion records (R394, R395) -/

/-- A slot is free for the ring's next record. -/
def Ring.slotFree (r : Ring) : Bool := decide ((r.cqTail + 2 ^ 32 - r.cqHead) % 2 ^ 32 < 2 ^ r.cqSize)

/-- Writes a ring's record for a descriptor, and sends its vector. -/
def State.record (n : Nat) (d : Desc) (status bytes stream : Nat) (s : State) : State :=
  let r := s.ring' n
  let phase := if r.records.testBit r.cqSize then 0 else 1
  let rec' := leBytes 8 d.addr ++ leBytes 4 bytes ++
    [byteOf status, byteOf (phase + 2 * d.int.toNat + 4 * d.last.toNat)] ++ leBytes 2 (r.records + 1) ++
    leBytes 8 (s.seqFor 11) ++ [byteOf stream, 0, 0, 0, 0, 0, 0, 0]
  let s := ((s.event (.dmaRecord n)).send (.hostWrite (r.cqBase + 32 * (r.records % 2 ^ r.cqSize)) rec')).updRing' n fun r => { r with
    records := r.records + 1, cqTail := (r.cqTail + 1) % 2 ^ 32, lastSt := status }
  if d.int || status != csOk then s.vector r.vector else s

/-- A transfer that fails leaves its destination range undefined (log 28). -/
def State.scramble (n : Nat) (d : Desc) (s : State) : State :=
  if n < 16 && inTransfer d.dst d.len then
    let (k, s) := s.nextFree
    s.writeBytes 2 1 d.dst ((List.range d.len).map (Config.failedByte k))
  else s

/-! ## Ring states (Table HOST-8) -/

/-- A ring without work. -/
def Ring.rest (r : Ring) (st : RingState) : Ring :=
  { r with state := st, abort := false, fetch := none, desc := none, started := false, rereads := 0, free := [] }

/-- The ring goes to Idle. -/
def Ring.idle (r : Ring) : Ring := { r.rest .idle with enable := false }

/-- The ring runs at a descriptor: its fetch is a read of its next field (R392). -/
def Ring.runAt (r : Ring) (addr : Nat) : Ring :=
  { r with state := .running, fetch := some addr, cur := addr, desc := none, started := false, rereads := 0, dbPending := false }

/-- The re-read of the tail's next field is issued (R391, R392). -/
def Ring.askNext (r : Ring) : Ring := { r with rereads := r.rereads + 1, dbPending := false }

/-- A descriptor of the ring fails: its record, its fault, and the ring is Halted. -/
def State.failDesc (n : Nat) (d : Desc) (status : Nat) (f : FaultName) (s : State) : State :=
  ((((s.raise f (ringAddr n d.addr)).scramble n d).record n d status 0 0)).updRing' n fun r => r.rest .halted

/-- After a descriptor that completed OK: the end of the chain, the next one, or the re-read of its next
field. -/
def State.follow (n : Nat) (d : Desc) (s : State) : State :=
  s.updRing' n fun r =>
    if r.state == .stopping || d.last then r.idle
    else if d.next ≠ 0 then (if r.stream n then { r with cur := d.next } else r.runAt d.next)
    else { r with desc := none, started := false }.askNext

/-- A fetched descriptor starts once a slot is free for its record; its checks come first (R386, R394). -/
def State.startDesc (n : Nat) (s : State) : State :=
  let r := s.ring' n
  match r.desc with
  | none => s
  | some d =>
    if r.started || !r.slotFree || r.state != .running || s.sl.halted then s
    else match d.wrong n false with
      | some (st, f) => s.failDesc n d st f
      | none => (s.updRing' n fun r => { r with started := true }).sendAll
          (if n < 16 then (d.ranges d.src).flatMap fun p => readRequests p.1 p.2 else [])

/-! ## Stream rings (R397) -/

/-- A stream record is dropped; the records are Polder's, which counts them too (05 R155, R156). -/
def State.dropRecord (n : Nat) (s : State) : State :=
  ((s.polStats fun t => { t with reportsDropped := t.reportsDropped + 1 }).raiseUnless (s.sl.drops != 0) .streamDrop (n * 2 ^ 40)).updSl fun k => { k with drops := satInc 16 k.drops }

/-- Queued records go into free descriptors, one each. -/
def State.pumpStream (n : Nat) : Nat → State → State
  | 0, s => s
  | fuel + 1, s =>
    let r := s.ring' n
    match r.streamQ, r.free with
    | (_, bytes) :: q, d :: free =>
      if !r.slotFree || s.sl.halted then s
      else
        let s := (s.updRing' n fun r => { r with streamQ := q, free := free, cur := d.addr }).sendAll (writeRequests d.dst bytes)
        State.pumpStream n fuel ((s.record n d csOk bytes.length 1).follow n d)
    | _, _ => s

/-- STREAM_RECORD: the oldest record on its way to the ring arrives. -/
def execStreamRecord (t n : Nat) (s : State) : Res :=
  let s := s.atTime t
  .next (match s.sl.streamOut.find? (·.1 == n) with
    | none => s
    | some x =>
      let s := s.updSl fun k => { k with streamOut := dropFirst x k.streamOut }
      let r := s.ring' n
      if s.sl.halted || !r.stream n || !(r.state == .running || r.state == .parked) || 16 ≤ r.streamQ.length then s.dropRecord n
      else (s.updRing' n fun r => { r with streamQ := r.streamQ ++ [(s.now, x.2)] }).pumpStream n 16)

/-- STREAM_RECORD_TIMEOUT: the oldest queued record has found no free descriptor for 4 µs. -/
def execStreamRecordTimeout (t n : Nat) (s : State) : Res :=
  let s := s.atTime t
  .next (match (s.ring' n).streamQ with
    | (at', _) :: q =>
      if at' + 4 * usSteps ≤ s.now && (s.ring' n).free.isEmpty then (s.updRing' n fun r => { r with streamQ := q }).dropRecord n else s
    | [] => s)

/-! ## Descriptors at work (R386, R391, R396) -/

/-- A stream ring takes a fetched descriptor among its free ones, and goes on along next. -/
def State.takeFree (n : Nat) (d : Desc) (s : State) : State :=
  match d.wrong n true with
  | some (st, f) => s.failDesc n d st f
  | none => (s.updRing' n fun r => { r with
      free := r.free ++ [d], dbPending := false, fetch := if d.last || d.next = 0 then none else some d.next }).pumpStream n 16

/-- DESCRIPTOR_FETCHED: the descriptor that the ring asked for, with its index table. -/
def execDescriptorFetched (t n addr : Nat) (bytes index : List Byte) (s : State) : Res :=
  let s := s.atTime t
  let r := s.ring' n
  let d : Desc := { addr := addr, raw := bytes, table := index }
  .next (if s.sl.halted || r.state != .running || r.fetch != some addr then s
  else if r.stream n then (if r.free.length < 8 then s.takeFree n d else s)
  else (s.updRing' n fun r => { r with desc := some d, fetch := none, started := false }).startDesc n)

/-- The pieces of a transfer over its host ranges. -/
def cutRanges : List (Nat × Nat) → List Byte → List (Nat × List Byte)
  | [], _ => []
  | (a, n) :: l, data => (a, data.take n) :: cutRanges l (data.drop n)

/-- The data of a descriptor moves: into engine DRAM for rings 0 to 15, to the host for the others; none
when a DRAM block is uncorrectable (R399). -/
def State.moveData (n : Nat) (d : Desc) (data : List Byte) (s : State) : Option State :=
  if n < 16 then some (s.writeBytes 2 1 d.dst (swapBytes d.swap d.len (padTo d.len (data.take d.len))))
  else match s.readBytes 2 d.src d.len with
    | (some b, s) => some ((cutRanges (d.ranges d.dst) (swapBytes d.swap d.len b)).foldl (fun s p => s.sendAll (writeRequests p.1 p.2)) s)
    | (none, _) => none

/-- DESCRIPTOR_COMPLETE: every response has arrived; `data` is what the host reads returned. -/
def execDescriptorComplete (t n : Nat) (data : List Byte) (s : State) : Res :=
  let s := s.atTime t
  let r := s.ring' n
  .next (match r.desc with
    | none => s
    | some d =>
      if !r.started || s.sl.halted then s
      else if r.abort then ((s.scramble n d).record n d csAborted 0 0).updRing' n fun r => r.idle
      else match s.moveData n d data with
        | some s => (s.record n d csOk d.len 0).follow n d
        | none => (s.readBytes 2 d.src d.len).2.failDesc n d csDmaEcc .dmaEcc)

/-- NEXT_REREAD: a re-read of the tail's next field returns. -/
def execNextReread (t n next : Nat) (s : State) : Res :=
  let s := s.atTime t
  let r := s.ring' n
  .next (if r.rereads = 0 || s.sl.halted || !(r.state == .running || r.state == .parked) then s
  else s.updRing' n fun r =>
    let r := { r with rereads := r.rereads - 1 }
    if next ≠ 0 then r.runAt next
    else if r.state == .running then
      let r := { r with state := .parked }
      if r.dbPending then r.askNext else r
    else r)

/-! ## Ring registers (R390 to R394) -/

/-- RING_ENABLE. -/
def execRingEnable (t n : Nat) (s : State) : Res :=
  .next ((s.atTime t).updRing' n fun r =>
    if r.state == .idle then
      { r with enable := true, cqHead := 0, cqTail := 0, records := 0, abort := false, free := [] }.runAt (r.head / 32 * 32)
    else r)

/-- RING_DISABLE. A ring with no transfer in progress has nothing to wait for. -/
def execRingDisable (t n : Nat) (s : State) : Res :=
  let s := s.atTime t
  .next (s.updRing' n fun r =>
    match r.state with
    | .running => if r.started then { r with state := .stopping, enable := false } else r.idle
    | .parked => r.idle
    | .halted => if s.sl.halted then { r with enable := false } else r.idle
    | _ => { r with enable := false })

/-- RING_ABORT. -/
def execRingAbort (t n : Nat) (s : State) : Res :=
  .next ((s.atTime t).updRing' n fun r =>
    match r.state with
    | .running => if r.started then { r with state := .stopping, abort := true } else r.idle
    | .stopping => { r with abort := true }
    | _ => r)

/-- RING_DOORBELL (R392). -/
def execRingDoorbell (t n : Nat) (s : State) : Res :=
  let s := s.atTime t
  .next (s.updRing' n fun r => if r.state == .parked && !s.sl.halted then r.askNext else { r with dbPending := true })

/-- CQ_HEAD_WRITE (R394). -/
def execCqHeadWrite (t n value : Nat) (s : State) : Res :=
  let s := s.atTime t
  let v := value % 2 ^ 32
  let r := s.ring' n
  .next (if 2 ^ r.cqSize < (r.cqTail + 2 ^ 32 - v) % 2 ^ 32 then s.raise .cqHead (n * 2 ^ 40)
  else ((s.updRing' n fun r => { r with cqHead := v }).startDesc n).pumpStream n 16)

/-! ## The halt (R398, Table HOST-12) -/

/-- A ring at the halt; `own` says that the failing request carried its descriptor's data. -/
def State.haltRing (n : Nat) (own : Bool) (s : State) : State :=
  let r := s.ring' n
  let s := (r.streamQ).foldl (fun s _ => s.dropRecord n) s
  let s := s.updRing' n fun r => { r with streamQ := [] }
  if r.state == .idle || r.state == .halted then s
  else
    let s := match r.desc with
      | some d =>
        if r.started then
          let s := s.scramble n d
          if s.sl.bme && s.sl.linkUp then s.record n d (if own then csBusErr else csHalted) 0 0 else s
        else s
      | none => s
    s.updRing' n fun r => r.rest .halted

/-- A command copy in progress fails with BUS_ERR; its head names the fault of the halt (13 R414). A
capture ends with zero valid bytes. -/
def State.haltCopies (f : FaultName) (addr : Nat) (s : State) : State :=
  let s := s.updCp fun cp => { cp with capture := cp.capture.map fun (c : Capture) => if c.ended = 0 then { c with ended := 3 } else c }
  match s.cp.current with
  | some cur => if cur.phase == .ready then s else s.complete cur.req false stBusErr (some (f, addr)) []
  | none => s

/-- Every channel halts. -/
def State.haltAll (f : FaultName) (cause addr chan req : Nat) (s : State) : State :=
  let s := (s.raise f (addr % 2 ^ 48)).updSl fun k => { k with
    halted := true, haltAddr := addr % 2 ^ 64, haltChan := chan % 256, haltReq := req % 16, haltCause := cause % 16 }
  let s := (List.range 32).foldl (fun s n => s.haltRing n (chan == n && req == 0)) s
  let s := (s.cc.cells.filter (·.state == .fetching)).foldl (fun s (c : Cell) => s.cellBad c.ent.id .cellBus) s
  (s.haltCopies f (addr % 2 ^ 48)).bandsOn

/-- An event of R377: a zero address, no channel and no request. -/
def State.haltEvent (f : FaultName) (cause : Nat) (s : State) : State := s.haltAll f cause 0 0xFF 0xF

/-- A reset or a link loss: ring registers, MSI-X table and BAR2_WIN return to their reset values; the
function is in D0 with Bus Master Enable clear, as the PCI Express base specification has it (log 29). -/
def State.resetSluice (s : State) : State :=
  s.updSl fun k => { k with rings := ({} : Sluice).rings, msix := ({} : Sluice).msix, pba := 0, fnMask := false, bar2Win := 0, bme := false, d0 := true }

/-- FN_RESET. -/
def execFnReset (t : Nat) (s : State) : Res := .next ((s.atTime t).haltEvent .fnReset 10).resetSluice

/-- LINK_DOWN. -/
def execLinkDown (t : Nat) (s : State) : Res :=
  .next (((s.atTime t).updSl fun k => { k with linkUp := false }).haltEvent .linkDown 9).resetSluice

/-- BME_OFF. -/
def execBmeOff (t : Nat) (d3hot : Bool) (s : State) : Res :=
  let s := s.atTime t
  .next (if d3hot then (s.updSl fun k => { k with d0 := false }).haltEvent .bmeOff 8
  else (s.updSl fun k => { k with bme := false }).haltEvent .bmeOff 7)

/-- BUS_ERR: cause 1 UR, 2 CA, 3 poisoned, 4 malformed, 6 unexpected; an unexpected completion belongs to no
request. -/
def execBusErr (t cause addr chan req : Nat) (s : State) : Res :=
  let s := s.atTime t
  .next (if cause = 6 then s.haltEvent .busErr 6 else s.haltAll .busErr cause addr chan req)

/-- COMPLETION_TIMEOUT. -/
def execCompletionTimeout (t addr chan req : Nat) (s : State) : Res := .next ((s.atTime t).haltAll .busErr 5 addr chan req)

/-- The conditions of R400 hold. -/
def State.linkReady (s : State) : Bool := s.sl.bme && s.sl.linkUp && s.sl.d0

/-- DMA_RESUME. -/
def execDmaResume (t : Nat) (s : State) : Res :=
  let s := s.atTime t
  .next (if s.linkReady then s.updSl fun k => { k with halted := false } else s)

/-- DMA_CLR_DROP. -/
def execDmaClrDrop (t : Nat) (s : State) : Res := .next ((s.atTime t).updSl fun k => { k with drops := 0 })

/-- LINK_UP. -/
def execLinkUp (t : Nat) (s : State) : Res := .next ((s.atTime t).updSl fun k => { k with linkUp := true })

/-- BUS_MASTER_ENABLE_SET. -/
def execBusMasterEnableSet (t : Nat) (s : State) : Res := .next ((s.atTime t).updSl fun k => { k with bme := true })

/-- D0_ENTRY. -/
def execD0Entry (t : Nat) (s : State) : Res := .next ((s.atTime t).updSl fun k => { k with d0 := true })

/-! ## BAR accesses (R379, R380) -/

/-- BAR_ACCESS: an access that is discarded. -/
def execBarAccess (t bar offset : Nat) (_isWrite : Bool) (s : State) : Res :=
  .next ((s.atTime t).raise .barAccess (bar % 16 * 2 ^ 44 + offset % 2 ^ 40))

/-- BAR2_ACCESS. -/
def execBar2Access (t offset : Nat) (isWrite : Bool) (len : Nat) (data : List Byte) (s : State) : Res :=
  let s := s.atTime t
  let a := s.sl.bar2Win * 2 ^ 36 + offset % 2 ^ 36
  .next (if isWrite then
    (if inTransfer a data.length then s.writeBytes 3 1 a data else s.raise .barAccess (2 * 2 ^ 44 + offset % 2 ^ 40))
  else
    let (r, s) := s.readBytes 3 a len
    s.send (.barRead a r))

/-! ## MSI-X (R381) -/

/-- Recorded messages whose masks are lifted are sent. -/
def State.sendPending (s : State) : State :=
  if s.sl.fnMask then s
  else (List.range 64).foldl (fun s v =>
    let e := s.sl.msix.getD v {}
    if s.sl.pba.testBit v && !e.mask then
      (s.updSl fun k => { k with pba := k.pba ^^^ 2 ^ v }).send (.msix v e.addr e.data)
    else s) s

/-- MSIX_VECTOR_UNMASK: the function mask is lifted, or a vector's. -/
def execMsixVectorUnmask (t : Nat) (vector : Option Nat) (s : State) : Res :=
  .next ((s.atTime t).updSl fun k => match vector with
    | none => { k with fnMask := false }
    | some v => { k with msix := listUpd k.msix v fun e => { e with mask := false } }).sendPending

end Sys2Proof.Machine
end

