-- ==== Sys2Proof/Machine/CmdSystem.lean ====
section
/-! DEFINITION. The system group and the configuration-tables group of the command set (13 Tables MBOX-4
and MBOX-5), but for LOAD_TABLE. -/

namespace Sys2Proof.Machine
open Sys2Proof

/-! ## What commands share -/

/-- Byte 0 bit 0 of a status block. -/
def clearBit (r : Request) : Bool := fld r.params 0 1 == 1

/-- A row of the command set that returns a status body (R417). -/
def statusSpec (opcode : Nat) : CmdSpec := { opcode := opcode, plen := 8, status := true, standby := true }

/-- Counters in a status body, each a u64 that saturates. -/
def u64s (l : List Nat) : List Byte := l.flatMap fun n => leBytes 8 (min n (2 ^ 64 - 1))

/-- A status command: the body is copied before the clear takes effect (R417). -/
def CmdSpec.status' (c : CmdSpec) (body : State → List Byte) (clear : State → State) (s : State) : State :=
  c.run s fun r _ s => c.done r (body s) (if clearBit r then clear s else s)

def State.isReady (s : State) : Bool := s.eng.state == .ready
def State.readyNoJob (s : State) : Bool := s.isReady && !s.jobOpen
def State.readyNoStripe (s : State) : Bool := s.isReady && !s.stripeOpen

/-! ## System group -/

def specReset : CmdSpec := { opcode := 0x0101, standby := true, audited := true }

/-- RESET: posts; RESET_ENTRY follows 100 µs later. -/
def execReset (t : Nat) (s : State) : Res :=
  .next (specReset.run (s.atTime t) fun r _ s =>
    specReset.done r [] (s.updEng fun e => { e with resetDue := some .resetCommand }))

def specSleep : CmdSpec :=
  { opcode := 0x0102, standby := true, audited := true, stateOk := fun _ s => s.isReady && s.eng.wakeN }

/-- Every record that waits is committed, as a posting that they precede requires (13 R415). -/
def State.commitAll (s : State) : State :=
  s.jr.queue.foldl (fun s w => s.updJr fun j => j.store w true) s

/-- SLEEP (17 R509): posts, then enters Sleep; `wakeN` is the level of WAKE_N. -/
def execSleep (t : Nat) (wakeN : Bool) (s : State) : Res :=
  .next (specSleep.run ((s.atTime t).updEng fun e => { e with wakeN := wakeN }) fun r _ s =>
    let s := (specSleep.done r [] (((s.setTgood false).comparesLow).pulsesLow)).commitAll
    let s := match (s.mb.getD r.mb {}).held with
      | some c => s.post r.mb { c with audit := none }
      | none => s
    s.enterSleep)

/-- A fatal fault is latched: a source is pending at ERROR_N (log 45). -/
def State.fatalLatched (s : State) : Bool := s.fc.srcs.any fun (x : FcSrc) => x.pending && x.stage == 5

/-- No axis has a plan to run. -/
def State.stageStill (s : State) : Bool :=
  s.br.axes.all fun (x : Axis) => x.state == .off || x.state == .hold || x.state == .coast

def specClearFault : CmdSpec :=
  { opcode := 0x0103, standby := true, audited := true
    stateOk := fun _ s => s.eng.state == .fault && !s.fatalLatched && s.stageStill && s.cal.passed }

/-- Fault is left for Ready (01 Table ARCH-5); Dike's suppression ends (15 R469). -/
def State.clearFault (s : State) : State :=
  let s := if s.dike.wdExpired then (s.updDike fun k => { k with wdExpired := false }).armWatchdog else s
  ((s.enterReady).pairUp).updRet fun r => { r with stuck := false }

/-- CLEAR_FAULT. -/
def execClearFault (t : Nat) (s : State) : Res :=
  .next (specClearFault.run (s.atTime t) fun r _ s => specClearFault.done r [] s.clearFault)

def specRoleSwap : CmdSpec :=
  { opcode := 0x0104, audited := true, stateOk := fun _ s => s.isReady && s.paired }

/-- ROLE_SWAP (11 R358): control passes at the end of the servo cycle. -/
def execRoleSwap (t : Nat) (s : State) : Res :=
  .next (specRoleSwap.run (s.atTime t) fun r _ s =>
    specRoleSwap.done r [] (s.updTwin fun w => { w with swapDue := true }))

def specTwinTime : CmdSpec :=
  { opcode := 0x0105, plen := 16, standby := true, audited := true
    stateOk := fun _ s => s.readyNoJob, fieldsOk := fun r _ => twinBlockOk r.params }

/-- TWIN_TIME_CONFIG (11 R373). A module that leaves the ring forgets what the ring told it. -/
def execTwinTimeConfig (t : Nat) (s : State) : Res :=
  .next (specTwinTime.run (s.atTime t) fun r _ s =>
    let s := s.updTwin fun w => { w with cfg := parseTwin r.params }
    specTwinTime.done r [] (if s.twin.cfg.ringEnable = 0 then { s with ring := { txMseq := s.ring.txMseq } } else s))

def specTimeStatus : CmdSpec := statusSpec 0x0106

/-- What steers the time unit: 0 PTP, 1 ring, 2 peer twin, 3 nothing. A port whose clock is slaved has
portState 9 (IEEE 1588). -/
def State.timeSource (s : State) : Nat :=
  if s.standby then 2
  else if s.timeFollower then 1
  else if s.twin.cfg.ptpEnable == 1 && s.tu.portState == 9 then 0
  else 3

/-- TIME_STATUS (Table MBOX-4). -/
def execTimeStatus (t : Nat) (s : State) : Res :=
  .next (specTimeStatus.status' (fun s =>
    leSigned 8 s.tu.gmOffset ++ leSigned 8 s.tu.pathDelay ++ [byteOf s.tu.portState, byteOf s.timeSource] ++
    List.replicate 6 0 ++ leSigned 8 s.tu.ringOffset) id (s.atTime t))

def specFaultConfig : CmdSpec :=
  { opcode := 0x0107, plen := 256, standby := true, audited := true, fieldsOk := fun r _ => faultBlockOk r.params }

/-- FAULT_CONFIG (15 R457): pending sources keep their stages and running timers. -/
def execFaultConfig (t : Nat) (s : State) : Res :=
  .next (specFaultConfig.run (s.atTime t) fun r _ s =>
    specFaultConfig.done r [] (s.updFc fun c => { c with cfg := parseFc r.params, overrides := overridesOf r.params }))

/-- Width of a checker's mask, and its units from a lowest to a highest one (15 Table FAULT-7); none where
the table shows a dash. -/
def checkerOf (n : Nat) : Option (Nat × Option (Nat × Nat)) :=
  match n with
  | 1 => some (32, none)
  | 2 => some (32, none)
  | 3 => some (64, none)
  | 4 => some (6, some (0, 511))
  | 5 => some (128, some (0, 15))
  | 6 => some (8, none)
  | 7 => some (8, some (1, 5))
  | 8 => some (1, some (0, 255))
  | 9 => some (32, some (0, 63))
  | 10 => some (32, some (0, 67))
  | 11 => some (32, some (0, 1))
  | 12 => some (16, some (0, 7))
  | 13 => some (32, some (0, 1))
  | 14 => some (32, some (0, 1))
  | 15 => some (64, none)
  | 16 => some (64, none)
  | _ => none

/-- The 24 bytes of R460. -/
def injectOk (b : List Byte) : Bool :=
  match checkerOf (fld b 0 1) with
  | none => false
  | some (w, units) =>
    zeroAt b 1 1 && zeroAt b 6 2 && decide (fld b 8 16 < 2 ^ w) &&
    (fld b 4 2 == 0xFFFF || (match units with
      | some (lo, hi) => between lo (fld b 4 2) hi
      | none => fld b 4 2 == 0))

def specFaultInject : CmdSpec :=
  { opcode := 0x0108, plen := 24, standby := true, audited := true, fieldsOk := fun r _ => injectOk r.params }

/-- FAULT_INJECT (15 R460). A checker without units has one instance, which 0 and 0xFFFF both select. -/
def execFaultInject (t : Nat) (s : State) : Res :=
  .next (specFaultInject.run (s.atTime t) fun r _ s =>
    let b := r.params
    let unit := match checkerOf (fld b 0 1) with
      | some (_, some _) => fld b 4 2
      | _ => 0xFFFF
    specFaultInject.done r [] (s.updFc fun c => { c with
      inject := listUpd c.inject (fld b 0 1 - 1) fun _ => { count := fld b 2 2, unit := unit, mask := fld b 8 16 } }))

def specCuffRetrain : CmdSpec := { opcode := 0x0109, standby := true, stateOk := fun _ s => s.isReady }

/-- CUFF_RETRAIN (08 R248). -/
def execCuffRetrain (t : Nat) (s : State) : Res :=
  .next (specCuffRetrain.run (s.atTime t) fun r _ s => specCuffRetrain.done r [] s.cuffRetrain)

/-! ## Configuration blocks -/

def specLoomConfig : CmdSpec :=
  { opcode := 0x0202, plen := 40, standby := true, audited := true
    stateOk := fun _ s => s.readyNoJob, fieldsOk := fun r _ => loomBlockOk r.params }

/-- The units that a block leaves in service, with the outcome of the self-tests that it starts (04 R130):
an enabled unit in service stays, one out of service returns if it passes. -/
def State.unitsEnabled (enable selfTest : BitVec 256) (s : State) : State :=
  let failed := enable &&& ~~~s.loom.inService &&& ~~~selfTest
  let s := { s with loom := { s.loom with unitEnable := enable, inService := enable &&& (s.loom.inService ||| selfTest) } }
  ((List.range 256).filter (failed.getLsbD ·)).foldl (fun s u => s.raise .unitSelftest u) s

/-- LOOM_CONFIG (04 R134); bit u of `selfTest` is the outcome of unit u's self-test. -/
def execLoomConfig (t : Nat) (selfTest : BitVec 256) (s : State) : Res :=
  .next (specLoomConfig.run (s.atTime t) fun r _ s0 =>
    let b := r.params
    let s := { s0 with loom := { s0.loom with raw := b, overMode := fld b 0 1, unitFloor := fld b 2 2 } }
    let s := (s.unitsEnabled (BitVec.ofNat 256 (fld b 8 32)) selfTest).testUnits
    specLoomConfig.done r [] (State.digestChanged s0 s.bandsOn))

def specPolderConfig : CmdSpec :=
  { opcode := 0x0203, plen := 8, standby := true, audited := true
    stateOk := fun _ s => s.readyNoJob, fieldsOk := fun r _ => polderBlockOk r.params }

/-- POLDER_CONFIG (05 R157). -/
def execPolderConfig (t : Nat) (s : State) : Res :=
  .next (specPolderConfig.run (s.atTime t) fun r _ s =>
    let b := r.params
    specPolderConfig.done r [] (State.digestChanged s { s with pol := { s.pol with
      reportRing := fld b 0 1, reportMask := fld b 1 1, coverMode := fld b 2 1 } }))

def specShuttleConfig : CmdSpec :=
  { opcode := 0x0204, plen := 8, standby := true, audited := true
    stateOk := fun _ s => s.readyNoStripe, fieldsOk := fun r _ => shuttleBlockOk r.params }

/-- SHUTTLE_CONFIG (06 R185). -/
def execShuttleConfig (t : Nat) (s : State) : Res :=
  .next (specShuttleConfig.run (s.atTime t) fun r _ s =>
    let b := r.params
    specShuttleConfig.done r [] (State.digestChanged s { s with sh := { s.sh with
      deflMode := fld b 0 1, yawEnable := fld b 1 1, standinEnable := fld b 2 1 } }))

def specHemConfig : CmdSpec :=
  { opcode := 0x0205, plen := 48, standby := true, audited := true
    stateOk := fun _ s => s.readyNoStripe, fieldsOk := fun r _ => hemBlockOk r.params }

/-- HEM_CONFIG (07 R226). -/
def execHemConfig (t : Nat) (s : State) : Res :=
  .next (specHemConfig.run (s.atTime t) fun r _ s =>
    specHemConfig.done r [] (State.digestChanged s (s.updHem fun h => { h with cfg := parseHem r.params })))

def specCuffConfig : CmdSpec :=
  { opcode := 0x0206, plen := 16, standby := true, audited := true
    stateOk := fun _ s => s.readyNoJob, fieldsOk := fun r _ => cuffBlockOk r.params }

/-- CUFF_CONFIG (08 R262): precode and the taps act at a lane's next entry to Train. -/
def execCuffConfig (t : Nat) (s : State) : Res :=
  .next (specCuffConfig.run (s.atTime t) fun r _ s =>
    let b := r.params
    specCuffConfig.done r [] (s.updCf fun c => { c with
      precode := BitVec.ofNat 72 (fld b 0 9), ffePre := sfld b 9 1, ffeMain := fld b 10 1, ffePost := sfld b 11 1
      autoRemap := fld b 12 1, statusInterval := fld b 13 1 }))

/-- The directory region (03 R92): 48 bytes per entry, rounded up to 64 KiB. -/
def dirRegion (entries : Nat) : Nat := ceilDiv (48 * entries) 65536 * 65536

/-- Entries of the directory accepted last. -/
def Cache.dirEntries (c : Cache) : Nat := (c.dir.map fun d => d.entries.length).getD 0

/-- The three regions fit in 120 GiB (03 R92). -/
def regionsFit (cacheGib staging entries : Nat) : Bool := decide (cacheGib * 2 ^ 30 + staging + dirRegion entries ≤ 120 * 2 ^ 30)

def specCacheConfig : CmdSpec :=
  { opcode := 0x0207, plen := 8, standby := true, audited := true, stateOk := fun _ s => s.readyNoJob
    fieldsOk := fun r _ => between 8 (fld r.params 0 1) 96 && decide (fld r.params 1 1 ≤ 64) && zeroAt r.params 2 6 }

/-- A change of size makes every cell Absent, whatever its state (03 R91, Table CACHE-3). -/
def Cache.resize (c : Cache) (gib : Nat) : Cache :=
  if c.sizeGib = gib then c
  else { c with
    sizeGib := gib, used := [], fillPage := none, fillUsed := 0, cells := c.cells.map fun (x : Cell) => { ent := x.ent } }

/-- CACHE_CONFIG (03 R91, R92, R101). -/
def execCacheConfig (t : Nat) (s : State) : Res :=
  .next (specCacheConfig.run (s.atTime t) fun r _ s =>
    let gib := fld r.params 0 1
    if regionsFit gib 0 s.cc.dirEntries then
      specCacheConfig.done r [] (s.updCc fun c => { c.resize gib with horizon := fld r.params 1 1 })
    else specCacheConfig.checkFail r .dirSpace 0 s)

def specSlackConfig : CmdSpec :=
  { opcode := 0x0208, plen := 8, standby := true, audited := true, stateOk := fun _ s => s.readyNoStripe
    fieldsOk := fun r _ => between 8 (fld r.params 0 1) 64 && zeroAt r.params 1 7 }

/-- SLACK_CONFIG (01 R30). -/
def execSlackConfig (t : Nat) (s : State) : Res :=
  .next (specSlackConfig.run (s.atTime t) fun r _ s =>
    specSlackConfig.done r [] (s.updSlack fun k => { k with g := fld r.params 0 1 }))

def specDikeLimits : CmdSpec :=
  { opcode := 0x0209, plen := 528, standby := true, audited := true, stateOk := fun _ s => s.readyNoStripe
    locked := fun s => s.dike.lock != some true, fieldsOk := fun r _ => dikeBlockOk r.params }

/-- DIKE_LIMITS (15 R462, R463): the block is stored and in force. -/
def execDikeLimits (t : Nat) (s : State) : Res :=
  .next (specDikeLimits.run (s.atTime t) fun r _ s =>
    let s' := (s.updDike fun d => d.load r.params).append jConfig 1 r.params none
    specDikeLimits.done r [] (State.digestChanged s s'))

def specConfigDigest : CmdSpec := statusSpec 0x020A

/-- CONFIG_DIGEST (11 R350). -/
def execConfigDigest (t : Nat) (s : State) : Res :=
  .next (specConfigDigest.status' (fun s =>
    leBytes 8 s.configDigest ++ leBytes 8 ((s.twin.peerDigest.map (·.toNat)).getD 0)) id (s.atTime t))

/-! ## Status of the blocks -/

def specCacheStats : CmdSpec := statusSpec 0x030B

/-- CACHE_STATS (03 R109). -/
def execCacheStats (t : Nat) (s : State) : Res :=
  .next (specCacheStats.status' (fun s =>
    let c := s.cc.stats
    u64s [c.lookups, c.hits, c.demandFetches, c.prefetches, c.prefetchUnused, c.evictions, c.storedBytes,
      c.decodedBytes, c.retries, c.badCells, c.pinDrops, (s.cc.used.filter fun p => !(s.pageCells p).isEmpty).length, c.pinnedPeak, c.loomWaitNs])
    (fun s => s.updCc fun c => { c with stats := {} }) (s.atTime t))

def specLoomStats : CmdSpec := statusSpec 0x030C

/-- LOOM_STATS (04 R135). -/
def execLoomStats (t : Nat) (s : State) : Res :=
  .next (specLoomStats.status' (fun s =>
    let c := s.loom.stats
    u64s [c.renders, c.restarts, c.tiles, c.instanceTests, c.rowSteps, c.overcoverBands, c.overcoverPairs,
      c.unitBusyNs, unitCount s.loom.inService, c.binRefsPeak] ++ leBytes 32 s.loom.inService.toNat)
    (fun s => s.loomStats fun _ => {}) (s.atTime t))

/-- The footprint's leading edge has reached a row: the window has left the row's band behind (01 R24). -/
def State.footReached (row : Nat) (s : State) : Bool :=
  match s.hem.stripe, s.hem.mHw with
  | some st, some m => s.pol.stripe == st.stripe && decide (row ≤ leadRow m st.p)
  | _, _ => false

/-- Bands in the window that are released (Table POLDER-5). -/
def State.bandsReady (s : State) : Nat :=
  (s.bands.filter fun (b : Band) => b.polder == .released && !s.footReached (b.band * s.bandRows)).length

def specPolderStatus : CmdSpec := statusSpec 0x030D

/-- POLDER_STATUS (05 R156). -/
def execPolderStatus (t : Nat) (s : State) : Res :=
  .next (specPolderStatus.status' (fun s =>
    let c := s.pol.stats
    u64s [c.releases, c.reweaves, c.bandFaults, c.eccCorrected, c.eccUncorrectable, c.voidFlashes, c.reportsDropped] ++
    (match c.leadMin with | some d => leSigned 8 d | none => List.replicate 8 255) ++ u64s [s.bandsReady])
    (fun s => s.polStats fun _ => {}) (s.atTime t))

def specShuttleStatus : CmdSpec := statusSpec 0x030E

/-- SHUTTLE_STATUS (06 R186). -/
def execShuttleStatus (t : Nat) (s : State) : Res :=
  .next (specShuttleStatus.status' (fun s =>
    let c := s.sh.stats
    u64s [c.flashes, c.withdrawn, c.late, c.clamped, c.unavailable, c.tableVoid, c.eccCorrected, c.wMaxNs])
    (fun s => s.shStats fun _ => {}) (s.atTime t))

def specHemStatus : CmdSpec := statusSpec 0x030F

/-- HEM_STATUS (07 R227). -/
def execHemStatus (t : Nat) (s : State) : Res :=
  .next (specHemStatus.status' (fun s =>
    let c := s.hem.stats
    u64s [c.issued, c.withdrawn, c.delayed, c.delayMaxFu, c.eyMaxFu, c.heldEntries, c.seams, c.tgoodDrops, c.peerEdges,
      c.shadowDiffs, c.edgeLate, s.fCeil, if s.stripeOpen then s.hem.fRun else 0, s.hem.mHw.getD (2 ^ 64 - 1)])
    (fun s => s.hemStats fun _ => {}) (s.atTime t))

def specCuffStatus : CmdSpec := statusSpec 0x0310

/-- CUFF_STATUS (08 R263). -/
def execCuffStatus (t : Nat) (s : State) : Res :=
  .next (specCuffStatus.status' (fun s =>
    let c := s.cf.stats
    u64s [c.dataFrames, c.voidFrames, c.withdrawEvents, c.remaps, c.rxMissing, c.rxCompare, c.rxUncompared, c.rxSwitch,
      c.rxLate, c.uncorrCodewords, c.corrSymbols, c.retBad, c.asmWMaxNs])
    (fun s => s.cuffStats fun _ => {}) (s.atTime t))

def specSlackStatus : CmdSpec := statusSpec 0x0311

/-- SLACK_STATUS (01 R28). -/
def execSlackStatus (t : Nat) (s : State) : Res :=
  .next (specSlackStatus.status' (fun s =>
    leBytes 4 s.ownSlack ++ leBytes 4 s.fPair ++ leBytes 4 s.slack.wMax ++ [byteOf s.slack.g, 0, 0, 0]) id (s.atTime t))

end Sys2Proof.Machine
end

