-- ==== Sys2Proof/Machine/CmdTables.lean ====
section
/-! DEFINITION. LOAD_TABLE (06 R171 to R181, 07 R216; 13 Table MBOX-5): the table image, the checks of each
kind, and its SEC-DED words. -/

namespace Sys2Proof.Machine
open Sys2Proof

def tableMagic : List Byte := [0x53, 0x48, 0x54, 0x4C, 0x54, 0x42, 0x0D, 0x0A]
def kEdge : Nat := 6

/-- Whether a kind takes an entry count (Table SHUTTLE-3, R216). -/
def entryCountOk (kind n : Nat) : Bool :=
  match kind with
  | 1 => n == 262144
  | 2 => n == 262144
  | 3 => decide (n ≤ 4096)
  | 4 => n == 4096
  | 5 => n == 4096
  | _ => n == 1024

/-- Entries of a size from an image. -/
def tableEntries (size : Nat) : Nat → List Byte → List Nat
  | 0, _ => []
  | n + 1, b => leNat (b.take size) :: tableEntries size n (b.drop size)

/-- The image's header and its entries' check value are right (Table SHUTTLE-2). -/
def tableImageOk (kind : Nat) (b : List Byte) : Bool :=
  let n := fld b 12 4
  b.take 8 == tableMagic && fld b 8 2 == kind && fld b 10 2 == 1 && entryCountOk kind n && fld b 16 4 == entrySize kind &&
  zeroAt b 20 4 && crc32c (b.take 28) 0 == fld b 28 4 &&
  crc32c ((b.drop 32).take (n * entrySize kind)) kind == fld b 24 4

/-- R171 for the entry of beam b. -/
def geomEntryOk (b e : Nat) : Bool :=
  let j : Int := (b % 512 : Nat)
  let g := geomOf e
  betweenI (8192 * j - 128) g.1 (8192 * j + 8319) && gyOk g.2

/-- First entry that breaks a test of its number and itself. -/
def firstBad (test : Nat → Nat → Bool) (entries : List Nat) : Option Nat :=
  (entries.zipIdx.find? fun p => !test p.2 p.1).map (·.2)

/-- First gain entry that has reserved bits, or is a dead beam too many (R172). -/
def gainBad : Nat → Nat → List Nat → Option Nat
  | _, _, [] => none
  | b, dead, e :: l =>
    let d := dead + (e / 2 ^ 15 % 2)
    if bitsOf e 14 12 ≠ 0 || 4096 < d then some b else gainBad (b + 1) d l

/-- Lag entries rise from 0 to 65,536 (Table SHUTTLE-3). -/
def lagBad (entries : List Nat) : Option Nat :=
  firstBad (fun i e =>
    (i != 0 || e == 0) && decide (e ≤ 65536) && (i == 0 || decide (entries.getD (i - 1) 0 ≤ e)) && (i != 4095 || e == 65536))
    entries

/-- First edge entry that breaks R216. -/
def edgeBad (entries : List Nat) : Option Nat :=
  firstBad (fun i e =>
    (i != 0 || e == 0) && (i == 0 || decide (entries.getD (i - 1) 0 + 1024 ≤ e)) && (i != 1023 || decide (e ≤ 67108864)))
    entries

/-- A beam is dead in a gain table. -/
def deadIn (gain : List Nat) (b : Nat) : Bool := (gain.getD b 0).testBit 15

/-- A stand-in entry against R174, given the entries before it. -/
def standinOk (gain before : List Nat) (e : Nat) : Bool :=
  let (d, t, delta, _) := standinOf e
  let col := before.filter fun x => (standinOf x).2.1 % 512 == t % 512
  decide (d < 262144 ∧ t < 262144) && deadIn gain d && !deadIn gain t && t % 512 == d % 512 && decide (delta ≠ 0) &&
  !before.any (fun x => (standinOf x).1 == d) && !before.any (fun x => (standinOf x).2.1 == t) && decide (col.length < 64)

/-- The first stand-in entry that is malformed or out of order, or breaks R174. -/
def standinsBad (gain : List Nat) : List Nat → List Nat → Option (FaultName × Nat)
  | _, [] => none
  | before, e :: l =>
    let d := (standinOf e).1
    let prev := (before.getLast?.map fun x => (standinOf x).1).getD 0
    if bitsOf e 95 92 ≠ 0 || e / 2 ^ 96 ≠ 0 || d < prev then some (.tableRule, 3 * 2 ^ 40 + before.length)
    else if !standinOk gain before e then some (.standinRule, d)
    else standinsBad gain (before ++ [e]) l

/-- The checks of a kind (Table SHUTTLE-3, R216): the fault that refuses the entries, with its address. -/
def tableBad (kind : Nat) (gain entries : List Nat) : Option (FaultName × Nat) :=
  match kind with
  | 1 => (firstBad geomEntryOk entries).map fun b => (.geomRange, b)
  | 2 => (gainBad 0 0 entries).map fun b => (.gainRule, b)
  | 3 => standinsBad gain [] entries
  | 4 => (firstBad (fun i e => (i != 0 || e == 0) && decide (e < 1024)) entries).map fun i => (.tableRule, 4 * 2 ^ 40 + i)
  | 5 => (lagBad entries).map fun i => (.tableRule, 5 * 2 ^ 40 + i)
  | _ => (edgeBad entries).map fun i => (.edgeTable, i)

/-- The words of a loaded table whose check bits an injected mask spoils (R181, 15 Table FAULT-7 checker
7). -/
def State.loadWords (kind words : Nat) (s : State) : List (Nat × Nat) × State :=
  if (s.fc.inject.getD 6 {}).count = 0 then ([], s)
  else (List.range words).foldl (fun (acc : List (Nat × Nat) × State) w =>
    let (m, s) := acc.2.inject 7 kind
    (if m % 256 = 0 then acc.1 else acc.1 ++ [(w, m % 256)], s)) ([], s)

def State.updTable (kind : Nat) (f : Table → Table) (s : State) : State :=
  { s with sh := { s.sh with tables := listUpd s.sh.tables (kind - 1) f } }

/-- A gain table that unmarks a dead beam of the loaded stand-in table discards that table (R179). -/
def State.dropStandins (s : State) : State :=
  let gain := (s.table kGain).entries
  match (s.table kStandin).entries.find? fun e => !deadIn gain (standinOf e).1 with
  | none => s
  | some e => (s.updTable kStandin fun _ => { loaded := true, crc := 3, entries := [], bad := [] }).raise .standinRule (standinOf e).1

/-- A checked table takes the place of the one before (R178). -/
def State.storeTable (kind : Nat) (crc : Nat) (entries : List Nat) (s : State) : State :=
  if kind = kEdge then
    s.updHem fun h => { h with edge := { loaded := true, crc := BitVec.ofNat 32 crc, entries := entries, bad := [] } }
  else
    let (bad, s) := s.loadWords kind (ceilDiv (entries.length * entrySize kind) 8)
    let s := s.updTable kind fun _ => { loaded := true, crc := BitVec.ofNat 32 crc, entries := entries, bad := bad }
    let s := { s with sh := { s.sh with
      voidKinds := s.sh.voidKinds.filter (· != kind), eccWords := s.sh.eccWords.filter (·.1 != kind)
      lagUpset := if kind = kLag then [] else s.sh.lagUpset } }
    if kind = kGain then s.dropStandins else s

def specLoadTable : CmdSpec :=
  { opcode := 0x0201, plen := 16, standby := true, audited := true, copies := 1, stateOk := fun _ s => s.readyNoStripe
    fieldsOk := fun r _ => between 1 (fld r.params 0 2) 6 && zeroAt r.params 2 6 }

/-- LOAD_TABLE. -/
def execLoadTable (t : Nat) (s : State) : Res :=
  .next (specLoadTable.run (s.atTime t) fun r b s =>
    let kind := fld r.params 0 2
    if !tableImageOk kind b then specLoadTable.checkFail r .tableHdr (kind * 2 ^ 40) s
    else
      let entries := tableEntries (entrySize kind) (fld b 12 4) (b.drop 32)
      match tableBad kind (s.table kGain).entries entries with
      | some (f, addr) => specLoadTable.checkFail r f addr s
      | none =>
        let crc := fld b 24 4
        specLoadTable.done r (leBytes 4 crc ++ leBytes 4 0) (State.digestChanged s (s.storeTable kind crc entries)))

end Sys2Proof.Machine
end

