-- ==== Sys2Proof/Machine/CmdJob.lean ====
section
/-! DEFINITION. The job and stripe group of the command set (13 Table MBOX-6), but for the status of the
blocks. -/

namespace Sys2Proof.Machine
open Sys2Proof

/-! ## The cell directory (03 R85 to R88, R92, R106) -/

def dirMagic : List Byte := [0x50, 0x4C, 0x43, 0x44, 0x49, 0x52, 0x0D, 0x0A]

/-- The directory header (Table CACHE-1). -/
def dirHeaderOk (b : List Byte) : Bool :=
  b.take 8 == dirMagic && fld b 8 2 == 1 && zeroAt b 10 2 && fld b 12 4 == 32 && between 1 (fld b 16 4) 16777216 &&
  zeroAt b 20 4 && zeroAt b 36 24 && crc32c (b.take 60) 0 == fld b 60 4

/-- An entry as Table CACHE-2 lays it out. -/
def parseCell (b : List Byte) : CellEnt :=
  { id := fld b 0 4, hostAddr := fld b 8 8, storedLen := fld b 16 4, rawLen := fld b 20 4, check := fld b 24 4 }

/-- An entry's ranges and reserved fields, and its place after the identity before it (R87). -/
def cellEntryOk (prev : Nat) (b : List Byte) : Bool :=
  let e := parseCell b
  decide (prev < e.id) && decide (e.id ≤ 0xFFFFFFFE) && zeroAt b 4 4 && e.hostAddr % 4 == 0 && e.storedLen % 4 == 0 &&
  between 24 e.storedLen 268435456 && e.rawLen % 4 == 0 && between 48 e.rawLen 268435456 && zeroAt b 28 4

/-- The entries from number i on, or the number of the first bad one. -/
def parseCells : Nat → Nat → Nat → List Byte → Except Nat (List CellEnt)
  | 0, _, _, _ => .ok []
  | n + 1, i, prev, b =>
    if cellEntryOk prev b then (parseCells n (i + 1) (parseCell b).id (b.drop 32)).map (parseCell b :: ·) else .error i

/-- The directory, or the fault that refuses it with its address (R88). -/
def parseCellDir (b : List Byte) : Except (FaultName × Nat) CellDir :=
  let n := fld b 16 4
  if !dirHeaderOk b then .error (.dirHdr, 0)
  else if crc32c ((b.drop 64).take (32 * n)) 0 ≠ fld b 32 4 then .error (.dirEntry, 0)
  else match parseCells n 0 0 (b.drop 64) with
    | .error i => .error (.dirEntry, i)
    | .ok l => .ok { jobTag := fld b 24 8, headerCrc := BitVec.ofNat 32 (fld b 60 4), entries := l }

/-- A cell under a new entry: Resident stays Resident when its body is the same (R106). -/
def keptCell (old : List Cell) (e : CellEnt) : Cell :=
  match old.find? fun (c : Cell) => c.ent.id == e.id with
  | some c =>
    if c.state == .resident && c.ent.storedLen == e.storedLen && c.ent.rawLen == e.rawLen && c.ent.check == e.check then { c with ent := e }
    else { ent := e }
  | none => { ent := e }

/-- The accepted directory takes the place of the one before; pages without a cell are free again at once, which is
no eviction (log 57). -/
def State.acceptDir (d : CellDir) (s : State) : State :=
  let s := s.updCc fun c => { c with dir := some d, dirFresh := true, cells := d.entries.map (keptCell c.cells), queue := [] }
  s.freePages s.cc.used

def specSetCellDir : CmdSpec :=
  { opcode := 0x0301, plen := 8, standby := true, audited := true, copies := 1, stateOk := fun _ s => s.readyNoJob }

/-- SET_CELL_DIR; CHECK item 2 carries header_crc (11 R351). -/
def execSetCellDir (t : Nat) (s : State) : Res :=
  .next (specSetCellDir.run (s.atTime t) fun r b s =>
    match parseCellDir b with
    | .error (f, addr) => specSetCellDir.checkFail r f addr s
    | .ok d =>
      if regionsFit s.cc.sizeGib 0 d.entries.length then
        specSetCellDir.done r [] ((s.acceptDir d).toPeer (.check 2 (BitVec.ofNat 64 d.headerCrc.toNat)))
      else specSetCellDir.checkFail r .dirSpace 0 s)

/-! ## The job (R418, Table MBOX-7) -/

/-- FIRST_SET and FLASH_SET. -/
def firstSet (p : List Byte) : Bool := (fld p 40 1).testBit 1
def flashSet (p : List Byte) : Bool := (fld p 40 1).testBit 0

/-- The fields of JOB_START that need no head. -/
def jobFieldsOk (p : List Byte) : Bool :=
  fld p 8 8 % 4096 == 0 && fld p 16 8 % 4096 == 0 && decide (64 * 2 ^ 20 ≤ fld p 16 8) && fld p 24 8 % 2 ^ 30 == 0 &&
  between (2 ^ 30) (fld p 24 8) (112 * 2 ^ 30) && decide (fld p 40 1 < 4) && zeroAt p 41 1 && (firstSet p || zeroAt p 42 2) && zeroAt p 44 4

def specJobStart : CmdSpec :=
  { opcode := 0x0302, plen := 48, standby := true, audited := true, copies := 1, stateOk := fun _ s => s.readyNoJob
    fieldsOk := fun r _ => jobFieldsOk r.params, busy := fun _ s => s.cp.deciding.isSome }

/-- The job that a start names. -/
def jobOf (p : List Byte) (head : List Byte) (h : Header) (dir : List DirEnt) : Job :=
  let first := if firstSet p then fld p 42 2 else h.stripeFirst
  { hdr := h, head := head.take h.headLen, headAddr := fld p 0 8, headCrc := BitVec.ofNat 32 (crc32c (head.take h.headLen) 0), dir := dir, windowAddr := fld p 8 8
    windowSize := fld p 16 8, stagingSize := fld p 24 8, flashStart := if flashSet p then fld p 32 8 else 0
    first := first, next := first, feedLimit := h.headLen }

/-- The directory is missing for a job that needs one, or is another job's (03 R85, R88). -/
def State.dirTagBad (h : Header) (s : State) : Bool :=
  !h.rasterOnly && !(s.cc.dirFresh && s.cc.dir.any fun d => d.jobTag == h.jobTag)

/-- A module's own values for CHECK items 1 and 2 (11 R351, 03 R89). -/
def State.checkValues (j : Job) (s : State) : Option Word × Option Word :=
  (some (BitVec.ofNat 64 j.headCrc.toNat), s.cc.dir.map fun d => BitVec.ofNat 64 d.headerCrc.toNat)

/-- A job start whose own checks have passed tells the peer its values and goes on in the background. -/
def State.startDeciding (r : Request) (j : Job) (s : State) : State :=
  let v := s.checkValues j
  let s := match v.1 with | some w => s.toPeer (.check 1 w) | none => s
  let s := match v.2 with | some w => s.toPeer (.check 2 w) | none => s
  ((s.updCp fun cp => { cp with deciding := some (j, s.now) }).toBackground r)

/-- JOB_START: the copied head is validated. -/
def execJobStart (t : Nat) (s : State) : Res :=
  .next (specJobStart.run (s.atTime t) fun r b s =>
    match parseHead b with
    | .error (f, addr) => specJobStart.checkFail r f addr s
    | .ok (h, dir) =>
      let j := jobOf r.params b h dir
      if j.first < h.stripeFirst || h.stripeFirst + h.stripeCount ≤ j.first then specJobStart.refuse r stBadParam s
      else if s.dirTagBad h then specJobStart.checkFail r .dirTag 0 s
      else if !regionsFit s.cc.sizeGib j.stagingSize s.cc.dirEntries then specJobStart.checkFail r .dirSpace 0 s
      else s.startDeciding r j)

/-- The job start that waits for its decision ends. -/
def State.endDeciding (s : State) : State := s.updCp fun cp => { cp with deciding := none }

/-- TWIN_CONFIG over an item (11 R350, R351). -/
def State.twinConfigAddr (item : Nat) (s : State) : Nat := s.addrSub s.peerMember item

/-- The item over which the twins differ, if any. -/
def State.headDiffers (j : Job) (s : State) : Option Nat :=
  let v := s.checkValues j
  if v.1 ≠ s.twin.peerHead then some 1 else if v.2 ≠ s.twin.peerDir then some 2 else none

/-- The decision on a job start: an active twin that is Paired compares, and one that is not opens the
job; a standby opens it when the copied image shows it open (R351, R418). -/
def State.decideJob (r : Request) (j : Job) (s : State) : State :=
  let refuse (item : Nat) : State := specJobStart.checkFail r .twinConfig (s.twinConfigAddr item) s.endDeciding
  let open' : State := specJobStart.done r [] (s.endDeciding.openJob j)
  if s.standby then
    if s.twin.snap.any fun (im : Image) => im.jobOpen then open'
    else match s.twin.peerHead, s.headDiffers j with
      | some _, some item => refuse item
      | _, _ => s
  else if !s.readyNoJob then specJobStart.refuse r stBadState s.endDeciding
  else match (if s.paired then s.headDiffers j else none) with
    | some item => refuse item
    | none => open'

/-- JOB_DECISION. -/
def execJobDecision (t : Nat) (s : State) : Res :=
  let s := s.atTime t
  .next (match s.cp.deciding, s.background 0x0302 with
    | some (j, _), some r => if s.cp.halted then s else s.decideJob r j
    | _, _ => s)

/-- JOB_START_TIMEOUT (R418): a standby that has waited 100 ms. -/
def execJobStartTimeout (t : Nat) (s : State) : Res :=
  let s := s.atTime t
  .next (match s.cp.deciding, s.background 0x0302 with
    | some (_, since), some r =>
      if s.cp.halted || !s.standby || s.now < since + 100000 * usSteps then s
      else specJobStart.checkFail r .twinConfig (s.twinConfigAddr 1) s.endDeciding
    | _, _ => s)

def specFeed : CmdSpec :=
  { opcode := 0x0303, plen := 8, standby := true, stateOk := fun _ s => s.jobOpen
    fieldsOk := fun r s => s.job.any fun (j : Job) => between j.feedLimit (fld r.params 0 8) j.hdr.fileLen }

/-- FEED (02 R46). -/
def execFeed (t : Nat) (s : State) : Res :=
  .next (specFeed.run (s.atTime t) fun r _ s =>
    specFeed.done r [] ({ s with job := s.job.map fun (j : Job) => { j with feedLimit := fld r.params 0 8 } }).bandsOn)

/-- Directory entry k is released (02 R47): copied into staging, in no stream, or of a skipped stripe below
the feed limit. A stream of a written stripe that is longer than the staging region is never copied. -/
def State.entryReleased (j : Job) (k : Nat) (d : DirEnt) (s : State) : Bool :=
  d.empty || d.streamLen == 0 ||
  (if j.skips d.stripe then decide (d.streamOffset + d.streamLen ≤ j.feedLimit)
   else decide (k < j.stageAt) && decide (d.streamLen ≤ j.stagingSize) && !(s.band d.stripe d.band).any fun (b : Band) => b.stream == .staging)

/-- The feed release offset (02 R47). -/
def State.releaseOffset (j : Job) (s : State) : Nat :=
  ((j.dir.zipIdx.find? fun (p : DirEnt × Nat) => !s.entryReleased j p.2 p.1).map fun p => p.1.streamOffset).getD j.hdr.fileLen

def specJobStatus : CmdSpec := statusSpec 0x0304

/-- JOB_STATUS. -/
def execJobStatus (t : Nat) (s : State) : Res :=
  .next (specJobStatus.status' (fun s =>
    let stripe := (s.hem.stripe.map (·.stripe)).getD 0xFFFF
    match s.job with
    | some j => u64s [j.hdr.jobTag, j.feedLimit, s.releaseOffset j, j.stagedUsed] ++ leBytes 2 stripe ++ [1] ++ List.replicate 5 0
    | none => u64s [0, 0, 0, 0] ++ leBytes 2 stripe ++ [0] ++ List.replicate 5 0) id (s.atTime t))

def specJobEnd : CmdSpec := { opcode := 0x0305, stateOk := fun _ s => s.isReady && s.jobOpen && !s.stripeOpen }

/-- JOB_END. -/
def execJobEnd (t : Nat) (s : State) : Res :=
  .next (specJobEnd.run (s.atTime t) fun r _ s => specJobEnd.done r [] s.closeJob)

/-! ## Stripe start (R419, Table MBOX-8) -/

def parseStripe (p : List Byte) : Stripe :=
  { stripe := fld p 0 2, sigmaX := sfld p 2 1, sigmaY := sfld p 3 1, p := fld p 4 2, sync := (fld p 6 1).testBit 0
    syncMask := fld p 7 1, count := fld p 8 4, fPlan := fld p 12 4, s0x := sfld p 16 8, s0y := sfld p 24 8, dRu := fld p 32 8 }

/-- The ranges of Table MBOX-8. -/
def stripeFieldsOk (p : List Byte) (s : State) : Bool :=
  let st := parseStripe p
  (s.job.any fun (j : Job) => decide (j.next ≤ st.stripe) && decide (st.stripe < j.hdr.stripeFirst + j.hdr.stripeCount)) &&
  (st.sigmaX == 1 || st.sigmaX == -1) && (st.sigmaY == 1 || st.sigmaY == -1) && between 128 st.p 4096 &&
  decide (fld p 6 1 ≤ 1) && (if st.sync then st.syncMask.testBit s.eng.pairId else st.syncMask == 0) && decide (1 ≤ st.count) &&
  between 50 st.fPlan 2500 && inP48 st.s0x && inP48 st.s0y && decide (st.dRu < 2 ^ 48) && zeroAt p 40 8

/-- The first refusal of several. -/
def firstOf {β : Type} (l : List (Option β)) : Option β := l.findSome? id

/-- 06 R176. -/
def State.checkReach (st : Stripe) (s : State) : Option (FaultName × Nat) :=
  if !(s.table kGeometry).loaded then none
  else ((s.table kStandin).entries.find? fun e =>
    let (d, _, delta, _) := standinOf e
    !gyOk ((geomOf ((s.table kGeometry).entries.getD d 0)).2 + delta * st.p)).map fun e => (.standinReach, (standinOf e).1)

/-- 06 R179, 07 R216. -/
def State.checkTables (s : State) : Option (FaultName × Nat) :=
  ([1, 2, 4, 5, 6].find? fun k => !(if k = kEdge then s.hem.edge else s.table k).loaded).map fun k => (.tableMissing, k * 2 ^ 40)

/-- 07 R202, R219, R220. -/
def State.checkHem (st : Stripe) (s : State) : Option (FaultName × Nat) :=
  let f := min st.fPlan s.fCeil
  let age := s.now - ((s.hem.telem.map fun x => x.2.2).getD 0)
  if f < 50 then some (.rateLow, f)
  else if s.hem.telem.isNone || s.hem.cfg.telemStale * usSteps ≤ age then some (.telemStale, age / usSteps)
  else if period f < s.doseWindow then some (.edgeFit, s.doseWindow)
  else none

/-- 08 R246, R253. -/
def State.checkCuff (s : State) : Option (FaultName × Nat) :=
  let down := ((List.range 64).filter fun l => !(s.cf.map.getD l none).any fun k => (s.lane k).state == .up).length
  let last := (s.cf.ret.good.filterMap id).foldl max 0
  if 0 < down then some (.lanesDown, down)
  else if s.cf.ret.lost || last + 1000 * usSteps ≤ s.now then some (.retLost, (s.now - last) / usSteps)
  else if s.retCaps then some (.retCaps, s.cf.ret.caps)
  else none

/-- 09 R284. -/
def State.checkSources (s : State) : Option (FaultName × Nat) :=
  if s.srcNotReady = 0 then none else some (.srcNotready, s.srcNotReady)

/-- The scan and cross axes, and the sources that the channel map asks for (10 R300). -/
def State.checkMap (s : State) : Option (FaultName × Nat) :=
  ([(s.br.g.scanAxis, s.feed.map.scan), (s.br.g.crossAxis, s.feed.map.cross)].find? fun p =>
    let x := s.axis p.1
    x.cfg.enable != 1 || !x.live || x.cfg.source != p.2).map fun p => (.axisMap, s.addrFlash p.1)

/-- The plans of Approach (10 R315, R319). -/
def State.checkApproach (st : Stripe) (s : State) : Option (FaultName × Nat) :=
  (s.approachPlans st).findSome? fun p => match p.2 with
    | some (pl, after) => (s.planRefused p.1 pl after).map fun f => (f, s.addrFlash p.1)
    | none => none

/-- 10 R318. An axis without acceleration or jerk has no D_min that is long enough (log 46). -/
def State.checkRunup (st : Stripe) (s : State) : Option (FaultName × Nat) :=
  let a := s.br.g.scanAxis
  let c := (s.axis a).cfg
  let d := if c.aMax = 0 || c.jMax = 0 then 2 ^ 48 - 1 else s.runupMin st
  let ends := [st.scanPos (-st.dRu), st.scanPos (((st.count - 1) * st.p + d : Nat) : Int)]
  if st.dRu < d then some (.runupShort, d)
  else if ends.all fun y => betweenI c.softMin y c.softMax then none
  else some (.softLimit, s.addrFlash a)

/-- 10 R324; an axis whose homing still runs is not homed (log 60). -/
def State.checkHomed (s : State) : Option (FaultName × Nat) :=
  ([s.br.g.scanAxis, s.br.g.crossAxis].find? fun a => !(s.axis a).homed || (s.axis a).state == .home).map fun a => (.notHomed, s.addrFlash a)

/-- 11 R350. -/
def State.checkDigest (s : State) : Option (FaultName × Nat) :=
  if s.paired && s.twin.peerDigest != some (BitVec.ofNat 64 s.configDigest) then some (.twinConfig, s.twinConfigAddr 3) else none

/-- 16 R481. -/
def State.checkStale (s : State) : Option (FaultName × Nat) :=
  let d := max (s.calDrift 0 true) (s.calDrift 1 true)
  if s.cal.stale < d then some (.calStale, d % 65536) else none

/-- The checks of R419 in their order, then R481. -/
def State.stripeRefused (st : Stripe) (s : State) : Option (FaultName × Nat) :=
  firstOf [s.checkReach st, s.checkTables, s.checkHem st, s.checkCuff, s.checkSources, s.checkMap, s.checkApproach st,
    s.checkRunup st, s.checkHomed, s.checkDigest, s.checkStale]

/-- The stripe is accepted: Approach begins, and a synchronous one is asked for on the ring (11 R370). -/
def State.acceptStripe (st : Stripe) (s : State) : State :=
  let s := (s.stripeAccepted st).approach st
  if st.sync && s.ring.dropped != some st.stripe then s.sendStitch (.request 1 st.stripe st.syncMask 0) else s

def specStripeStart : CmdSpec :=
  { opcode := 0x0306, plen := 48, stateOk := fun _ s => s.isReady && s.jobOpen && !s.stripeOpen
    fieldsOk := fun r s => stripeFieldsOk r.params s }

/-- STRIPE_START. -/
def execStripeStart (t : Nat) (s : State) : Res :=
  .next (specStripeStart.run (s.atTime t) fun r _ s =>
    let st := parseStripe r.params
    match s.stripeRefused st with
    | some (f, addr) => specStripeStart.checkFail r f addr s
    | none => specStripeStart.done r [] (s.acceptStripe st))

/-! ## Stripe pause, resume, abort, band retry (R420; 07 Table HEM-3; 05 R149) -/

/-- A block that names the open stripe, and nothing else in its 8 bytes. -/
def namesStripe (r : Request) (s : State) : Bool :=
  (s.hem.stripe.any fun (st : Stripe) => st.stripe == fld r.params 0 2) && zeroAt r.params 2 6

/-- The stripe is written, and its last gate has not passed. -/
def State.mayStop (s : State) : Bool := s.stripeOpen && s.running && !s.lastGatePassed

def specStripePause : CmdSpec := { opcode := 0x0307, plen := 8, stateOk := fun _ s => s.mayStop, fieldsOk := namesStripe }

/-- STRIPE_PAUSE. -/
def execStripePause (t : Nat) (s : State) : Res :=
  .next (specStripePause.run (s.atTime t) fun r _ s => specStripePause.done r [] (s.pauseStripe false))

def specStripeResume : CmdSpec :=
  { opcode := 0x0308, plen := 8, stateOk := fun _ s => s.stripeOpen && s.eng.state == .seam, fieldsOk := namesStripe }

/-- The pause and the resume hold clear; for a pause that the group holds, a group resume is asked for
(11 R371). -/
def State.resumeStripe (s : State) : State :=
  if s.ring.groupHeld then
    match s.ring.sync with
    | some o => s.sendStitch (.request 3 o.stripe o.mask 0)
    | none => s
  else s.clearPause false

/-- STRIPE_RESUME. -/
def execStripeResume (t : Nat) (s : State) : Res :=
  .next (specStripeResume.run (s.atTime t) fun r _ s => specStripeResume.done r [] s.resumeStripe)

def specStripeAbort : CmdSpec :=
  { opcode := 0x0309, plen := 8, stateOk := fun _ s => s.mayStop || (s.stripeOpen && s.isReady), fieldsOk := namesStripe }

/-- The abort: in Writing and Held after the entry to Seam, in Ready of a stripe not begun. -/
def State.abortStripe (s : State) : State :=
  if s.isReady then s.runOut.endStripe true
  else
    let s := if s.eng.state == .seam then s.withdrawUngated (s.slot 12) else s.pauseStripe false
    (s.runOut.endStripe true).enterReady

/-- STRIPE_ABORT. -/
def execStripeAbort (t : Nat) (s : State) : Res :=
  .next (specStripeAbort.run (s.atTime t) fun r _ s => specStripeAbort.done r [] s.abortStripe)

/-- The named band of the open stripe is Faulted; a block that names another stripe fails on its fields. -/
def State.retryOk (r : Request) (s : State) : Bool :=
  match s.hem.stripe with
  | none => false
  | some st => s.eng.state == .seam && (st.stripe != fld r.params 0 2 ||
      (s.band st.stripe (fld r.params 2 2)).any fun (b : Band) => b.polder == .faulted)

def specBandRetry : CmdSpec :=
  { opcode := 0x030A, plen := 8, stateOk := fun r s => s.retryOk r
    fieldsOk := fun r s => (s.hem.stripe.any fun (st : Stripe) => st.stripe == fld r.params 0 2) && zeroAt r.params 4 4 }

/-- The band renders again with two fresh attempts (05 Table POLDER-3, 03 R102): its claims and pins are
taken again, and its bad cells fetched again. -/
def State.bandRetry (stripe band : Nat) (s : State) : State :=
  match s.band stripe band with
  | none => s
  | some b =>
    let s := (s.retryBad b).pinBand stripe band
    (s.updBand stripe band fun b =>
      { b.redecode (s.bandEmpty stripe band) with polder := .rendering, attempt := 1, retry := true, render := .idle }).bandsOn

/-- BAND_RETRY. -/
def execBandRetry (t : Nat) (s : State) : Res :=
  .next (specBandRetry.run (s.atTime t) fun r _ s =>
    specBandRetry.done r [] (s.bandRetry (fld r.params 0 2) (fld r.params 2 2)))

end Sys2Proof.Machine
end

