-- ==== Sys2Proof/Machine/CmdMotion.lean ====
section
/-! DEFINITION. The motion group of the command set (13 Table MBOX-9): feedback, probe, compare, switch and
servo configuration, and the motions of single axes (09, 10). -/

namespace Sys2Proof.Machine
open Sys2Proof

/-! ## Configuration -/

/-- One source under its new block (09 R538, Table FEED-3): disabled it goes Off, newly enabled it acquires,
and one that stays enabled keeps its state, the new fields coming into force at the next sample tick. -/
def State.sourceConfig (n : Nat) (g : SrcCfg) (s : State) : State :=
  if g.enable ≠ 1 then s.updSrc n fun c => { c.off with cfg := g, newCfg := none }
  else if (s.src n).state == .off then (s.updSrc n fun c => c.force g).acquire n
  else s.updSrc n fun c => { c with newCfg := some ((s.now / 640 + 1) * 640, g) }

def specFeedConfig : CmdSpec :=
  { opcode := 0x0401, plen := 528, standby := true, audited := true
    stateOk := fun _ s => s.readyNoStripe, fieldsOk := fun r _ => feedBlockOk r.params }

/-- FEED_CONFIG (09 R297, R538). -/
def execFeedConfig (t : Nat) (s : State) : Res :=
  .next (specFeedConfig.run (s.atTime t) fun r _ s =>
    let s := (List.range 16).foldl (fun s n => s.sourceConfig n (parseSrc (r.params.drop (32 * n)))) s
    specFeedConfig.done r [] (s.updFeed fun d => { d with map := parseMap r.params }))

/-- A probe with its new fields; it stays armed only in single mode. -/
def Probe.reconfig (p : Probe) (b : List Byte) : Probe :=
  { p with edge := fld b 0 1, mode := fld b 1 1, pf := fld b 2 1, mask := fld b 4 2, armed := p.armed && fld b 1 1 == 1 }

/-- A switch set with its new fields: after a change of source, polarity or filter its inputs have no
qualified level (09 R293). -/
def State.switchConfig (n : Nat) (g : SwitchSet) (s : State) : State :=
  let old := s.swSet n
  let s := s.updFeed fun d => { d with sets := listUpd d.sets n fun _ => g }
  if old.src = g.src ∧ old.polarity = g.polarity ∧ old.filter = g.filter then s
  else [0, 1, 2].foldl (fun s k => s.updSw n k fun _ => {}) s

def specProbeSwitch : CmdSpec :=
  { opcode := 0x0402, plen := 48, standby := true, audited := true
    stateOk := fun _ s => s.readyNoStripe, fieldsOk := fun r _ => probeSwitchOk r.params }

/-- PROBE_SWITCH_CONFIG (09 R293, R297). -/
def execProbeSwitchConfig (t : Nat) (s : State) : Res :=
  .next (specProbeSwitch.run (s.atTime t) fun r _ s =>
    let b := r.params
    let s := [0, 1].foldl (fun s n => s.updProbe n fun p => p.reconfig (b.drop (8 * n))) s
    specProbeSwitch.done r [] ((List.range 4).foldl (fun s n => s.switchConfig n (parseSwitch (b.drop (16 + 8 * n)))) s))

/-- The fields of the repetitive controller. -/
def AxisCfg.rcFields (c : AxisCfg) : List Int := [c.rcEnable, c.rcRamp, c.rcN, c.rcLead, c.rcGain, c.rcSh, c.rcQ, c.rcLim]

/-- An axis with its new block: disabled it goes Off; one that stays enabled takes the new fields at the
next servo cycle; other repetitive fields empty its table (10 R311, R332). -/
def State.axisConfig (a : Nat) (c : AxisCfg) (s : State) : State :=
  let s := s.updAxis a fun x =>
    let x := if x.loaded.rcFields = c.rcFields then x else x.rcClear
    if x.cfg.enable = 1 && c.enable = 1 then { x with newCfg := some c } else { x with cfg := c, newCfg := none }
  if c.enable ≠ 1 && (s.axis a).state != .off then s.axisOff a else s

/-- A block's limits within Dike's (10 R316, 15 R461). -/
def AxisCfg.withinDike (c : AxisCfg) (l : DikeLim) (cyc : Nat) : Bool :=
  withinLim c.vMax l.vLim 1 cyc && withinLim c.aMax l.aLim 2 cyc && withinLim c.jMax l.jLim 3 cyc

/-- The first axis of a servo block whose limits exceed Dike's. -/
def State.trajLimits (b : List Byte) (s : State) : Option Nat :=
  (((servoAxes b).zipIdx).find? fun (p : AxisCfg × Nat) =>
    p.1.enable == 1 && !p.1.withinDike (s.dike.lims.getD p.2 {}) (parseGlobal b).cycUs).map (·.2)

def specServoConfig : CmdSpec :=
  { opcode := 0x0403, plen := 3744, standby := true, audited := true
    stateOk := fun _ s => s.readyNoStripe, fieldsOk := fun r _ => servoOk r.params }

/-- SERVO_CONFIG (10 R316, R332). -/
def execServoConfig (t : Nat) (s : State) : Res :=
  .next (specServoConfig.run (s.atTime t) fun r _ s0 =>
    match s0.trajLimits r.params with
    | some a => specServoConfig.checkFail r .trajLimits (s0.addrFlash a) s0
    | none =>
      let s := s0.updBr fun b => { b with g := parseGlobal r.params }
      let s := ((servoAxes r.params).zipIdx).foldl (fun s p => s.axisConfig p.2 p.1) s
      specServoConfig.done r [] (State.digestChanged s0 s))

/-! ## Axes -/

/-- The axes of a mask byte at offset 0. -/
def maskAxes (r : Request) : List Nat := (List.range 8).filter (fld r.params 0 1).testBit

/-- A block of 8 bytes that holds one byte. -/
def oneByte (r : Request) : Bool := zeroAt r.params 1 7

/-- The scan or the cross axis. -/
def State.isStripeAxis (a : Nat) (s : State) : Bool := a == s.br.g.scanAxis || a == s.br.g.crossAxis

/-- AXIS_ENABLE may name the axis: its block's enable is 1 and, in Off and Coast, its source is Valid; the
scan and cross axes in Ready. -/
def State.enableOk (a : Nat) (s : State) : Bool :=
  let x := s.axis a
  x.cfg.enable == 1 && (!s.isStripeAxis a || s.isReady) && (x.live || (s.src x.cfg.source).state == .valid)

def specAxisEnable : CmdSpec :=
  { opcode := 0x0404, plen := 8, stateOk := fun r s => (maskAxes r).all fun a => s.enableOk a, fieldsOk := fun r _ => oneByte r }

/-- AXIS_ENABLE (10 Table BRACE-4): Off and Coast go to Hold. -/
def execAxisEnable (t : Nat) (s : State) : Res :=
  .next (specAxisEnable.run (s.atTime t) fun r _ s =>
    specAxisEnable.done r [] ((maskAxes r).foldl (fun s a => if (s.axis a).live then s else s.holdAxis a) s))

def specAxisDisable : CmdSpec :=
  { opcode := 0x0405, plen := 8, fieldsOk := fun r _ => oneByte r
    stateOk := fun r s => !(s.stripeOpen && (maskAxes r).any fun a => s.isStripeAxis a) }

/-- AXIS_DISABLE. -/
def execAxisDisable (t : Nat) (s : State) : Res :=
  .next (specAxisDisable.run (s.atTime t) fun r _ s =>
    specAxisDisable.done r [] ((maskAxes r).foldl (fun s a => s.axisOff a) s))

/-- MOVE may name the axis (10 R322). -/
def State.moveOk (a : Nat) (s : State) : Bool :=
  let x := s.axis a
  (!s.isStripeAxis a || (s.isReady && !s.stripeOpen)) && (x.state == .hold || x.state == .move || x.state == .stop)

def specMove : CmdSpec :=
  { opcode := 0x0406, plen := 16
    stateOk := fun r s => decide (7 < fld r.params 0 1) || s.moveOk (fld r.params 0 1)
    fieldsOk := fun r _ => decide (fld r.params 0 1 ≤ 7) && zeroAt r.params 1 7 && inP48 (sfld r.params 8 8) }

/-- MOVE (10 R314, R315, R319). A target that no plan reaches is a field out of range (log 40). -/
def execMove (t : Nat) (s : State) : Res :=
  .next (specMove.run (s.atTime t) fun r _ s =>
    let a := fld r.params 0 1
    match (s.axis a).cfg.movePlans (s.axis a).traj (sfld r.params 8 8) with
    | none => specMove.refuse r stBadParam s
    | some (pl, after) => match s.tryPlan a .move pl after with
      | .error f => specMove.checkFail r f (s.addrFlash a) s
      | .ok s' => specMove.done r [] s')

/-- Table BRACE-5. -/
def parseHome (b : List Byte) : HomeParams :=
  { dir := sfld b 1 1, useIndex := fld b 2 1 == 1, vSearch := fld b 8 8, vLatch := fld b 16 8, backoff := fld b 24 8
    range := fld b 32 8, homePos := sfld b 40 8 }

def homeFieldsOk (b : List Byte) (s : State) : Bool :=
  let c := (s.axis (fld b 0 1)).cfg
  let h := parseHome b
  decide (fld b 0 1 ≤ 7) && (h.dir == 1 || h.dir == -1) && decide (fld b 2 1 ≤ 1) && zeroAt b 3 5 &&
  (!h.useIndex || between 8 c.source 11) && between 1 h.vSearch c.vMax && between 1 h.vLatch h.vSearch && decide (1 ≤ h.range) &&
  inP48 h.homePos

def specHome : CmdSpec :=
  { opcode := 0x0407, plen := 48
    stateOk := fun r s => s.isReady && (decide (7 < fld r.params 0 1) || (s.axis (fld r.params 0 1)).state == .hold)
    fieldsOk := fun r s => homeFieldsOk r.params s }

/-- Homing begins with H1 (10 Table BRACE-6). A source that lost its sensor acquires (09 Table FEED-3). -/
def State.startHoming (a : Nat) (h : HomeParams) (s : State) : State :=
  let n := (s.axis a).cfg.source
  let s := if (s.src n).state == .lostSensor then s.acquire n else s
  s.updAxis a fun x => { x with homing := some { params := h, seg := .search, dir := h.dir, reversed := false, from' := x.traj.p } }

/-- HOME (10 R323): posts at acceptance. -/
def execHome (t : Nat) (s : State) : Res :=
  .next (specHome.run (s.atTime t) fun r _ s =>
    let a := fld r.params 0 1
    let h := parseHome r.params
    let x := s.axis a
    match x.cfg.planTo x.traj { target := none, vf := h.dir * h.vSearch } with
    | none => specHome.refuse r stBadParam s
    | some pl => match (s.startHoming a h).tryPlan a .home pl none with
      | .error f => specHome.checkFail r f (s.addrFlash a) s
      | .ok s' => specHome.done r [] s')

def specStop : CmdSpec := { opcode := 0x0408, plen := 8, fieldsOk := fun r _ => oneByte r }

/-- STOP: with a stripe open the scan and cross axes are left out (Table MBOX-9). -/
def execStop (t : Nat) (s : State) : Res :=
  .next (specStop.run (s.atTime t) fun r _ s =>
    specStop.done r [] ((maskAxes r).foldl (fun s a => if s.stripeOpen && s.isStripeAxis a then s else s.stopMoving a) s))

def specRcClear : CmdSpec := { opcode := 0x040D, plen := 8, fieldsOk := fun r _ => oneByte r }

/-- RC_CLEAR (10 Table BRACE-2). -/
def execRcClear (t : Nat) (s : State) : Res :=
  .next (specRcClear.run (s.atTime t) fun r _ s =>
    specRcClear.done r [] ((maskAxes r).foldl (fun s a => s.updAxis a fun x => x.rcClear) s))

def specBraceStatus : CmdSpec := statusSpec 0x040E

/-- BRACE_STATUS (Table MBOX-9). -/
def execBraceStatus (t : Nat) (s : State) : Res :=
  .next (specBraceStatus.status' (fun s => s.br.axes.flatMap fun (x : Axis) =>
    let n := x.cfg.source
    let v := if between 8 n 11 then (s.src n).quad.speedAt s.now else 0
    leSigned 8 x.e ++ leSigned 4 x.out ++ leBytes 4 0 ++ leSigned 8 v ++ leBytes 4 x.misses ++ leBytes 4 x.ferrEvents)
    (fun s => s.updBr fun b => { b with axes := b.axes.map fun (x : Axis) => { x with misses := 0, ferrEvents := 0 } }) (s.atTime t))

/-! ## Probes, compares, sources -/

/-- A probe of a block of 8 bytes is in a mode. -/
def State.probeMode (r : Request) (mode : Nat) (s : State) : Bool :=
  decide (1 < fld r.params 0 1) || (s.feed.probes.getD (fld r.params 0 1) {}).mode == mode

def specProbeArm : CmdSpec :=
  { opcode := 0x0409, plen := 8, stateOk := fun r s => s.probeMode r 1
    fieldsOk := fun r _ => decide (fld r.params 0 1 ≤ 1) && oneByte r }

/-- PROBE_ARM (09 R287). -/
def execProbeArm (t : Nat) (s : State) : Res :=
  .next (specProbeArm.run (s.atTime t) fun r _ s =>
    specProbeArm.done r [] (s.updProbe (fld r.params 0 1) fun p => { p with armed := true }))

/-- 09 Table FEED-4. -/
def ProbeEntry.bytes (e : ProbeEntry) : List Byte :=
  leBytes 8 e.time ++ leBytes 8 e.flash ++ [byteOf e.probe, byteOf e.edge, byteOf e.valid, byteOf e.flags] ++ leBytes 4 0 ++
  padTo 32 (e.pos.flatMap fun p => leSigned 8 p)

def specProbeRead : CmdSpec :=
  { opcode := 0x040A, plen := 8, standby := true, fieldsOk := fun r _ => decide (fld r.params 0 1 ≤ 1) && oneByte r }

/-- PROBE_READ (09 R287): the entries are returned and removed; a read that finds the overflow bit reports
it. -/
def execProbeRead (t : Nat) (s : State) : Res :=
  .next (specProbeRead.run (s.atTime t) fun r _ s =>
    let n := fld r.params 0 1
    let p := s.feed.probes.getD n {}
    let s := s.raiseUnless (!p.overflow) .probeOverflow (s.addrFlash n)
    let body := [byteOf p.buf.length, byteOf p.overflow.toNat] ++ List.replicate 6 0 ++ p.buf.flatMap (·.bytes)
    specProbeRead.done r body (s.updProbe n fun p => { p with buf := [], overflow := false }))

def compareFieldsOk (b : List Byte) : Bool :=
  let dir := sfld b 2 1
  let step := sfld b 16 8
  decide (fld b 0 1 ≤ 3 ∧ fld b 1 1 ≤ 15 ∧ fld b 3 1 ≤ 1 ∧ 1 ≤ fld b 4 2) && (dir == 1 || dir == -1) && zeroAt b 6 2 &&
  inP48 (sfld b 8 8) && (fld b 3 1 == 0 || decide (0 < dir * step))

def specCompareLoad : CmdSpec := { opcode := 0x040B, plen := 24, fieldsOk := fun r _ => compareFieldsOk r.params }

/-- A compare as its load names it (09 Table FEED-5); a pulse that is high runs on. -/
def Compare.load (c : Compare) (b : List Byte) : Compare :=
  { state := .armed, source := fld b 1 1, dir := sfld b 2 1, mode := fld b 3 1, width := fld b 4 2, value := sfld b 8 8
    step := sfld b 16 8, highUntil := c.highUntil }

/-- COMPARE_LOAD (09 R289). -/
def execCompareLoad (t : Nat) (s : State) : Res :=
  .next (specCompareLoad.run (s.atTime t) fun r _ s =>
    let n := fld r.params 0 1
    let c := (s.feed.cmps.getD n {}).load r.params
    let stale (s : State) : State := s.updCmp n fun _ => { c with state := .stale }
    let s := match (s.src c.source).y with
      | none => stale s
      | some y => if c.behind y then stale (s.raise .cmpStale (s.addrFlash n)) else s.updCmp n fun _ => c
    specCompareLoad.done r [] s)

/-- A re-reference of the source has something to do (09 Table FEED-3). -/
def State.rerefOk (n : Nat) (s : State) : Bool :=
  let c := s.src n
  c.state == .lostSensor || (c.state == .valid && c.suspect)

def specRereference : CmdSpec :=
  { opcode := 0x040C, plen := 8, stateOk := fun r s => decide (15 < fld r.params 0 1) || s.rerefOk (fld r.params 0 1)
    fieldsOk := fun r _ => decide (fld r.params 0 1 ≤ 15) && oneByte r }

/-- REREFERENCE (09 Table FEED-3). -/
def execRereference (t : Nat) (s : State) : Res :=
  .next (specRereference.run (s.atTime t) fun r _ s =>
    let n := fld r.params 0 1
    specRereference.done r [] (if (s.src n).state == .lostSensor then s.acquire n else s.updSrc n fun c => { c with suspect := false }))

end Sys2Proof.Machine
end

