-- ==== Sys2Proof/Machine/CmdStore.lean ====
section
/-! DEFINITION. The calibration, journal and capture groups of the command set (13 Tables MBOX-10, MBOX-12,
MBOX-13; 16 R483, R484, R492 to R494, R497; 14 R444, R445). -/

namespace Sys2Proof.Machine
open Sys2Proof

/-! ## Calibration -/

def specCalibrate : CmdSpec := { opcode := 0x0501, standby := true, stateOk := fun _ s => s.isReady }

/-- CALIBRATE (16 R478). -/
def execCalibrate (t : Nat) (s : State) : Res :=
  .next (specCalibrate.run (s.atTime t) fun r _ s => specCalibrate.done r [] s.enterCalibrate)

def specCalConfig : CmdSpec :=
  { opcode := 0x0502, plen := 16, standby := true, audited := true
    stateOk := fun _ s => s.isReady, fieldsOk := fun r _ => calBlockOk r.params }

/-- CAL_CONFIG (16 R483): in force and stored. -/
def execCalConfig (t : Nat) (s : State) : Res :=
  .next (specCalConfig.run (s.atTime t) fun r _ s =>
    specCalConfig.done r [] ((s.updCal fun c => c.load r.params).append jConfig 2 r.params none))

def specCalStatus : CmdSpec := statusSpec 0x0503

/-- One output of Table STORE-3. -/
def Output.bytes (o : Output) (state : Nat) : List Byte :=
  let b := o.bank o.active
  [byteOf o.active, byteOf state] ++ leSigned 2 b.tCal ++ leBytes 2 b.errMax ++ [0, 0] ++ u64s [o.swaps, o.failures, b.selected]

/-- CAL_STATUS (16 R484). -/
def execCalStatus (t : Nat) (s : State) : Res :=
  .next (specCalStatus.status' (fun s =>
    let state := if s.cal.mode != .none then 1 else if s.cal.swapReady then 2 else 0
    (s.output 0).bytes state ++ (s.output 1).bytes state ++ leSigned 2 s.eng.tCore ++ List.replicate 6 0)
    (fun s => s.updCal fun c => { c with outs := c.outs.map fun (o : Output) => { o with swaps := 0, failures := 0 } }) (s.atTime t))

/-! ## DRAM rate (14 R444) -/

/-- The running capture. -/
def State.capturing (kind : Nat) (s : State) : Bool := s.cp.capture.any fun (c : Capture) => c.kind == kind

def specMemFreq : CmdSpec :=
  { opcode := 0x0504, plen := 8, standby := true, audited := true, stateOk := fun _ s => s.readyNoJob
    fieldsOk := fun r _ => decide (fld r.params 0 1 ≤ 2) && zeroAt r.params 1 7, busy := fun _ s => s.capturing 5 }

/-- MEM_FREQ: the queues drain, and the rate is stored. -/
def execMemFreq (t : Nat) (s : State) : Res :=
  .next (specMemFreq.run (s.atTime t) fun r _ s =>
    let rate := fld r.params 0 1
    if !s.jr.hasDelay rate then specMemFreq.checkFail r .memNotrain rate s
    else
      let s := { s with dram := { s.dram with
        rate := rate, delays := s.jr.delaySet rate, sub := s.dram.sub.map fun (c : SubCh) => { c.refresh with queue := [], active := none } } }
      specMemFreq.done r [] (s.append jConfig 3 [byteOf rate] none))

/-! ## Firmware images (16 R493, R494) -/

/-- Slot, length and address of a load: the image lies in the host transfer area (12 R383). -/
def fwFieldsOk (p : List Byte) : Bool :=
  decide (fld p 0 1 ≤ 1) && zeroAt p 1 3 && between 64 (fld p 4 4) (64 * 2 ^ 20) && inTransfer (fld p 8 8) (fld p 4 4)

def specFwLoad : CmdSpec :=
  { opcode := 0x0601, plen := 16, standby := true, audited := true, fieldsOk := fun r _ => fwFieldsOk r.params
    busy := fun _ s => s.jr.fwLoad.isSome
    stateOk := fun r s => (s.isReady || s.eng.state == .fault) && !s.stripeOpen && fld r.params 0 1 != s.jr.running }

/-- FW_LOAD: the slot is erased, and the load goes on in the background. -/
def execFwLoad (t : Nat) (s : State) : Res :=
  .next (specFwLoad.run (s.atTime t) fun r _ s =>
    let slot := fld r.params 0 1
    (s.updJr fun j => { j with
      slots := listUpd j.slots slot fun _ => {}, fwLoad := some (slot, fld r.params 4 4, fld r.params 8 8) }).toBackground r)

def fwMagic : List Byte := [0x46, 0x4C, 0x45, 0x49, 0x46, 0x0D, 0x0A, 0x1A]

/-- A slot that holds an image; bytes that it does not reach stay erased. -/
def fwSlot (b : List Byte) : FwSlot :=
  let build := fld b 8 4
  let len := fld b 12 4
  let body := ((b ++ List.replicate (len - b.length) 0xFF).take len).drop 64
  let ok := b.take 8 == fwMagic && between 64 len (64 * 2 ^ 20) && crc32c (b.take 60) 0 == fld b 60 4 && crc32c body build == fld b 16 4
  { build := build, length := len, imageCrc := fld b 16 4, imageOk := ok }

/-- The body of an FW_META record. -/
def FwSlot.meta (f : FwSlot) : List Byte := leBytes 4 f.build ++ leBytes 4 f.length ++ leBytes 4 f.imageCrc ++ leBytes 4 0

/-- Address of the uncorrectable read reported last. -/
def State.lastUe (s : State) : Nat := ((s.arb.faultQ.reverse.find? fun x => x.name == .memUe).map (·.addr)).getD 0

/-- The load in the background ends. -/
def State.endLoad (s : State) : State := s.updJr fun j => { j with fwLoad := none }

/-- The image has been read, written and verified, or not. -/
def State.fwDone (r : Request) (slot len addr : Nat) (s : State) : State :=
  match s.readBytes 3 addr len with
  | (none, s) => s.endLoad.complete r true stCheckFail (some (.memUe, s.lastUe)) []
  | (some b, s) =>
    let f := fwSlot b
    let s := s.endLoad.updJr fun j => { j with slots := listUpd j.slots slot fun _ => f }
    if f.imageOk then specFwLoad.done r [] (s.append jFwMeta slot f.meta none)
    else specFwLoad.checkFail r .fwVerify slot s

/-- FW_LOAD_DONE. -/
def execFwLoadDone (t : Nat) (s : State) : Res :=
  let s := s.atTime t
  .next (match s.jr.fwLoad, s.background 0x0601 with
    | some (slot, len, addr), some r => if s.cp.halted then s else s.fwDone r slot len addr
    | _, _ => s)

def specFwSelect : CmdSpec :=
  { opcode := 0x0602, plen := 8, standby := true, audited := true
    fieldsOk := fun r _ => decide (fld r.params 0 1 ≤ 1) && zeroAt r.params 1 7 }

/-- FW_SELECT: the slot starts at the next Boot. -/
def execFwSelect (t : Nat) (s : State) : Res :=
  .next (specFwSelect.run (s.atTime t) fun r _ s =>
    let slot := fld r.params 0 1
    if s.jr.slotValid slot then specFwSelect.done r [] (s.append jFwSel 0 (leBytes 8 slot) none)
    else specFwSelect.checkFail r .fwVerify slot s)

/-! ## Audit trail and journal status -/

def specAuditRead : CmdSpec :=
  { opcode := 0x0603, plen := 32, standby := true, copies := 2
    fieldsOk := fun r _ => between 1 (fld r.params 8 4) 65536 && zeroAt r.params 12 4 }

/-- AUDIT_READ (16 R492): the records from the cursor on, as many as were asked for and as the buffer
takes. -/
def execAuditRead (t : Nat) (s : State) : Res :=
  .next (specAuditRead.run (s.atTime t) fun r _ s =>
    let p := r.params
    let l := s.jr.audits.filter fun x => decide (fld p 0 8 ≤ x.jseq)
    let l := l.take (min (fld p 8 4) (fld p 24 8 / 48))
    match l.getLast? with
    | none => specAuditRead.done r (leBytes 8 0 ++ leBytes 8 (fld p 0 8)) s
    | some last =>
      let s := (s.sendAll (writeRequests (fld p 16 8) (l.flatMap (·.body)))).append jMark 0 (leBytes 8 (max s.jr.mark last.jseq)) none
      specAuditRead.done r (leBytes 4 l.length ++ leBytes 4 0 ++ leBytes 8 (last.jseq + 1)) s)

def specJournalStatus : CmdSpec := statusSpec 0x0604

/-- JOURNAL_STATUS (16 R497). -/
def execJournalStatus (t : Nat) (s : State) : Res :=
  .next (specJournalStatus.status' (fun s =>
    let j := s.jr
    let build (n : Nat) : Nat := if (j.slots.getD n {}).imageOk then (j.slots.getD n {}).build else 0
    let top := (j.activeBasin.good.map (·.jseq)).foldl max 0
    [byteOf j.active, byteOf j.running, byteOf j.selected, byteOf ((j.slotValid 0).toNat + 2 * (j.slotValid 1).toNat)] ++
    leBytes 4 0 ++ u64s [j.activeBasin.generation, j.activeBasin.append, top] ++ leBytes 4 j.audits.length ++
    leBytes 4 (j.audits.filter fun x => decide (j.mark < x.jseq)).length ++ u64s [j.compactions, j.errors] ++
    leBytes 4 (build 0) ++ leBytes 4 (build 1))
    (fun s => s.updJr fun j => { j with compactions := 0, errors := 0 }) (s.atTime t))

/-! ## Captures (R421, R445) -/

def parseCapture (p : List Byte) : Capture :=
  { kind := fld p 0 1, effort := if fld p 1 1 = 0xFF then 6 else fld p 1 1, trigger := fld p 2 1, lane := fld p 3 1
    trigFault := fld p 4 2, start := fld p 8 8, count := fld p 16 4, bufAddr := fld p 24 8, bufSize := fld p 32 8 }

/-- Tables MBOX-12 and MBOX-13. -/
def captureFieldsOk (p : List Byte) : Bool :=
  let c := parseCapture p
  between 1 c.kind 5 && (decide (fld p 1 1 ≤ 9) || fld p 1 1 == 0xFF) && decide (c.trigger ≤ if c.kind ≤ 2 then 2 else 0) &&
  decide (c.lane ≤ if c.kind = 1 then 63 else 0) && zeroAt p 6 2 && zeroAt p 20 4 &&
  (match c.kind with
  | 1 => between 1 c.count 50000
  | 2 => between 1 c.count 1048576
  | 3 => decide (c.start < 2 ^ 32)
  | 4 => decide (1 ≤ c.count) && decide (c.start + c.count ≤ 128 * 2 ^ 30)
  | _ => decide (c.start < 16) && c.count == 0)

/-- A band of the current stripe that is Released and whose rows the ring holds. -/
def State.bandCapturable (c : Capture) (s : State) : Bool :=
  let stripe := bitsOf c.start 31 16
  let band := bitsOf c.start 15 0
  (s.band stripe band).any (fun (b : Band) => b.polder == .released) && s.pol.stripe == stripe &&
  (List.range s.bandRows).all fun y => s.pol.holds (band * s.bandRows + y)

def specCapture : CmdSpec :=
  { opcode := 0x0701, plen := 40, standby := true, copies := 2, fieldsOk := fun r _ => captureFieldsOk r.params
    busy := fun _ s => s.cp.capture.isSome
    stateOk := fun r s => fld r.params 0 1 != 3 || s.bandCapturable (parseCapture r.params) }

/-- CAPTURE: it runs in the background. -/
def execCapture (t : Nat) (s : State) : Res :=
  .next (specCapture.run (s.atTime t) fun r _ s =>
    (s.updCp fun cp => { cp with capture := some (parseCapture r.params) }).toBackground r)

/-- The capture ends with a status and a body. -/
def State.captureEnds (r : Request) (status : Nat) (fault : Option (FaultName × Nat)) (valid first : Nat) (s : State) : State :=
  (s.updCp fun cp => { cp with capture := none }).complete r false status fault (leBytes 8 valid ++ leBytes 8 first)

/-- The dose of a pattern pixel as Polder returns it (05 R136, R150). -/
def State.doseAt (y c : Nat) (e : Seen) (s : State) : Nat × Seen :=
  let a := wordAddr (c / 32) c y
  wordRead (sparseGet 0 s.pol.sram a) a c e

/-- Row and column of a band's pixels in the order of 05 R144. -/
def State.bandPixels (s : State) : List (Nat × Nat) :=
  (List.range s.tileCount).flatMap fun tile => (List.range 256).flatMap fun r => (List.range 256).map fun c =>
    (256 * (tile / 64) + r, 256 * (tile % 64) + c)

/-- The doses of a band, each a u16; what the reads find is counted and reported as a flash's reads are
(05 R150). -/
def State.bandDoses (stripe band : Nat) (s : State) : List Byte × State :=
  let r := s.bandPixels.foldl (fun (acc : List Nat × Seen) x =>
    let (d, e) := s.doseAt (s.bandRows * band + x.1) x.2 acc.2
    (d :: acc.1, e)) ([], {})
  (r.1.reverse.flatMap (leBytes 2), s.polderReads stripe (s.bandRows * (band + 1) - 1) r.2)

/-- What a capture has taken, before compression; `sweep` is the content of a read-eye capture, whose
mismatch counts come from the samplers. -/
def State.captureContent (c : Capture) (sweep : List Byte) (s : State) : Option (List Byte) × State :=
  match c.kind with
  | 1 => (some c.raw, s)
  | 2 => (some c.raw, s)
  | 3 => ((s.bandDoses (bitsOf c.start 31 16) (bitsOf c.start 15 0)).map some id)
  | 4 => s.readBytes 3 c.start c.count
  | _ => (some ((([byteOf c.start, byteOf s.dram.rate] ++ List.replicate 6 0 ++ leBytes 6 s.tu.sec ++ [0, 0]) ++ sweep).take 163856), s)

/-- The place in its stream of the block that a buffer cannot hold (02 R83), if there is one. -/
def overflowAt (effort size : Nat) : Nat → Nat → Nat → List Byte → Option Nat
  | 0, _, _, _ => none
  | fuel + 1, seq, off, data =>
    let last := decide (data.length ≤ 262144)
    let n := (captureBlock effort seq last (data.take 262144)).length
    if size < off + n then some off
    else if last then none
    else overflowAt effort size fuel (seq + 1) (off + n) (data.drop 262144)

/-- The content is compressed and written to the host buffer (02 R81 to R83); nothing is written of a capture that
the buffer cannot hold (log 57). -/
def State.captureWrite (r : Request) (c : Capture) (data : List Byte) (s : State) : State :=
  let fuel := data.length / 262144 + 1
  match overflowAt c.effort c.bufSize fuel 0 0 data with
  | some off => (s.raise .defExhaust off).captureEnds r stCheckFail (some (.defExhaust, off)) 0 0
  | none =>
    let out := captureStream c.effort fuel 0 data
    (s.sendAll (writeRequests c.bufAddr out)).captureEnds r stOk none out.length c.firstFlash

/-- The fault of the halt in force (12 Table HOST-13). -/
def State.haltFault (s : State) : FaultName × Nat :=
  ((match s.sl.haltCause with
    | 7 => .bmeOff
    | 8 => .bmeOff
    | 9 => .linkDown
    | 10 => .fnReset
    | _ => .busErr), s.sl.haltAddr % 2 ^ 48)

/-- The place of the first of the blocks already full that the buffer cannot hold, of a capture that goes on. -/
def Capture.outgrown (c : Capture) : Option Nat :=
  let n := c.raw.length / 262144
  overflowAt c.effort c.bufSize n 0 0 (c.raw.take (262144 * n) ++ List.replicate 262144 0)

/-- A capture of kind 1 or 2 goes on while nothing has ended it and entries are missing. -/
def Capture.running (c : Capture) : Bool := decide (c.kind ≤ 2) && c.ended == 0 && decide (c.entries < c.count)

/-- The end of a capture; one that still runs fails once a block of it does not fit the buffer (02 R83). -/
def State.captureEnd (r : Request) (c : Capture) (sweep : List Byte) (s : State) : State :=
  if c.ended = 3 then s.captureEnds r stBusErr (some s.haltFault) 0 0
  else if c.running then
    match c.outgrown with
    | some off => (s.raise .defExhaust off).captureEnds r stCheckFail (some (.defExhaust, off)) 0 0
    | none => s
  else if c.kind = 3 && !s.bandCapturable c then s.captureEnds r stBadState none 0 0
  else match s.captureContent c sweep with
    | (none, s) => s.captureEnds r stCheckFail (some (.memUe, s.lastUe)) 0 0
    | (some data, s) => s.captureWrite r c data

/-- CAPTURE_END. -/
def execCaptureEnd (t : Nat) (content : List Byte) (s : State) : Res :=
  let s := s.atTime t
  .next (match s.cp.capture, s.background 0x0701 with
    | some c, some r => if s.cp.halted then s else s.captureEnd r c content
    | _, _ => s)

def specCaptureCancel : CmdSpec := { opcode := 0x0702, standby := true, stateOk := fun _ s => s.cp.capture.isSome }

/-- CAPTURE_CANCEL. -/
def execCaptureCancel (t : Nat) (s : State) : Res :=
  .next (specCaptureCancel.run (s.atTime t) fun r _ s =>
    let s := match s.background 0x0701 with
      | some c => s.captureEnds c stCancelled none 0 0
      | none => s.updCp fun cp => { cp with capture := none }
    specCaptureCancel.done r [] s)

end Sys2Proof.Machine
end

