-- ==== Sys2Proof/Machine/Begin.lean ====
section
/-! DEFINITION. COMMAND_BEGIN and COMMAND_COPY_DONE (13 R404, R409 to R413, R531, R532): how the control
processor takes a request up; and DRAM_READ with what its requester does about an uncorrectable block (14
R431 to R442). -/

namespace Sys2Proof.Machine
open Sys2Proof

/-! ## The command set -/

/-- Every row of 13 Tables MBOX-4 to MBOX-10. -/
def allSpecs : List CmdSpec :=
  [specReset, specSleep, specClearFault, specRoleSwap, specTwinTime, specTimeStatus, specFaultConfig, specFaultInject, specCuffRetrain] ++
  [specLoadTable, specLoomConfig, specPolderConfig, specShuttleConfig, specHemConfig, specCuffConfig, specCacheConfig, specSlackConfig] ++
  [specDikeLimits, specConfigDigest] ++
  [specSetCellDir, specJobStart, specFeed, specJobStatus, specJobEnd, specStripeStart, specStripePause, specStripeResume] ++
  [specStripeAbort, specBandRetry, specCacheStats, specLoomStats, specPolderStatus, specShuttleStatus, specHemStatus, specCuffStatus] ++
  [specSlackStatus] ++
  [specFeedConfig, specProbeSwitch, specServoConfig, specAxisEnable, specAxisDisable, specMove, specHome, specStop, specProbeArm] ++
  [specProbeRead, specCompareLoad, specRereference, specRcClear, specBraceStatus] ++
  [specCalibrate, specCalConfig, specCalStatus, specMemFreq, specFwLoad, specFwSelect, specAuditRead, specJournalStatus] ++
  [specCapture, specCaptureCancel]

/-- The row of an opcode. -/
def specOf (opcode : Nat) : Option CmdSpec := allSpecs.find? fun (c : CmdSpec) => c.opcode == opcode

/-! ## Taking up a request -/

/-- The replay cache's entry for a request (R410). -/
def State.cached (r : Request) (s : State) : Option CacheEnt :=
  (s.mb.getD r.mb {}).cache.find? fun (e : CacheEnt) => e.tag == r.tag && e.seq == r.seq

/-- A cached result is posted again: nothing is executed and no event is accepted. -/
def State.replay (r : Request) (e : CacheEnt) (s : State) : State :=
  let c : Completion := { req := r, status := e.status, head := e.result.take 16, body := e.result.drop 16
                          cycle := s.br.cycle, time := s.now, replay := true }
  (s.updMb r.mb fun m => { m with held := some c }).updCp fun cp => { cp with current := none }

/-- The request that the control processor works on. -/
def State.setCurrent (c : Current) (s : State) : State := s.updCp fun cp => { cp with current := some c }

/-- Checks 2 to 9 of R531, and the start of a command copy (R532). -/
def State.takeUp (r : Request) (s : State) : State :=
  let s := s.setCurrent { req := r, phase := .ready }
  match s.cached r with
  | some e =>
    if e.opcode = r.opcode ∧ e.digest.toNat = r.digest then s.replay r e
    else (s.raise .seqConflict (r.mb * 2 ^ 40 + r.tag)).complete r false stSeqConflict none []
  | none => match specOf r.opcode with
    | none => s.complete r false stBadOpcode none []
    | some c => match c.refusal r s with
      | some st => c.refuse r st s
      | none =>
        if c.copies ≠ 0 && s.sl.halted then s.complete r false stBusErr none []
        else if c.copies = 1 then s.setCurrent { req := r, phase := .copyData }
        else s

/-- A request begins: with INDIRECT set its parameters are copied first. -/
def State.beginRequest (r : Request) (s : State) : State :=
  if !r.indirect then s.takeUp r
  else
    let s := s.setCurrent { req := r, phase := .copyParams }
    if s.sl.halted then s.complete r false stBusErr none [] else s

/-- The control processor can take a request up: its firmware runs, and it has none at work. -/
def State.cpFree (s : State) : Bool :=
  !s.cp.halted && s.cp.current.isNone && !s.eng.inReset && s.eng.state != .sleep && s.eng.relMajor != 0

/-- COMMAND_BEGIN: the boot ROM has started the firmware before it takes the first request up (18 R526). -/
def execCommandBegin (t : Nat) (s : State) : Res :=
  let s := s.atTime t
  .next (match s.cp.accepted with
    | [] => s
    | r :: rest =>
      let s := if s.eng.state == .boot && !s.eng.inReset then s.bootRom else s
      if s.cpFree then (s.updCp fun cp => { cp with accepted := rest }).beginRequest r else s)

/-- A command copy is in hand. -/
def State.copyDone (cur : Current) (data : List Byte) (s : State) : State :=
  match cur.phase with
  | .ready => s
  | .copyParams => s.takeUp { cur.req with params := data.take cur.req.plen }
  | .copyData => s.setCurrent { cur with phase := .ready, data := data }

/-- COMMAND_COPY_DONE: nothing arrives while Sluice is halted. -/
def execCommandCopyDone (t : Nat) (data : List Byte) (s : State) : Res :=
  let s := s.atTime t
  .next (match s.cp.current with
    | some cur => if s.sl.halted || s.cp.halted then s else s.copyDone cur data
    | none => s)

/-! ## DRAM_READ -/

/-- The code of a 64 KiB region of the running firmware. -/
def codeRegion (build region : Nat) : List Byte := (List.range 65536).map fun i => Config.codeByte build (region * 65536 + i)

/-- A code region is written again, and the fault there is noted. -/
def State.rewriteCode (region : Nat) (code : List Byte) (s : State) : State :=
  let s := s.writeBytes 0 2 (region * 65536) code
  { s with dram := { s.dram with fetchFaults := s.dram.fetchFaults ++ [region] } }

/-- Code 0: the trap handler rewrites the 64 KiB code region that holds the block; a second uncorrectable
fetch there halts the control processor. -/
def State.fetchTrap (block : Nat) (s : State) : State :=
  let region := block / 1024
  if s.dram.fetchFaults.contains region then s.updCp fun cp => { cp with halted := true }
  else s.rewriteCode region (codeRegion s.eng.fwBuild region)

/-- Code 1: a block of a command's copied parameters or of a buffer that it only moves (`moved`) fails that
command; else the control processor halts. -/
def State.dataTrap (moved : Bool) (s : State) : State :=
  match s.cp.current with
  | some cur =>
    if moved then s.complete cur.req ((specOf cur.req.opcode).any fun (c : CmdSpec) => c.audited) stCheckFail (some (.memUe, s.lastUe)) []
    else s.updCp fun cp => { cp with halted := true }
  | none => s.updCp fun cp => { cp with halted := true }

/-- Code 3: 0 the capture, 1 the firmware load, else BAR2, whose read completes poisoned. -/
def State.sluiceUe (who : Nat) (s : State) : State :=
  if who = 0 then match s.background 0x0701 with
    | some r => s.captureEnds r stCheckFail (some (.memUe, s.lastUe)) 0 0
    | none => s
  else if who = 1 then match s.background 0x0601 with
    | some r => s.endLoad.complete r true stCheckFail (some (.memUe, s.lastUe)) []
    | none => s
  else s

/-- Code 2: the descriptor at work fails and its ring halts. -/
def State.ringUe (n : Nat) (s : State) : State :=
  match (s.ring' n).desc with
  | some d => if (s.ring' n).started then s.failDesc n d csDmaEcc .dmaEcc else s
  | none => s

/-- What a requester does about an uncorrectable read (14 Table MEM-4). -/
def State.readFailed (requester who1 who2 block : Nat) (s : State) : State :=
  match requester with
  | 0 => s.fetchTrap block
  | 1 => s.dataTrap (who1 != 0)
  | 2 => s.ringUe who1
  | 3 => s.sluiceUe who1
  | 4 => ((s.updBand who1 who2 fun b => { b with damaged := true }).failStream who1 who2).bandsOn
  | 5 => (s.cellBad who1 .cellCheck).bandsOn
  | 6 => (s.failStream who1 who2).bandsOn
  | _ => s

/-- DRAM_READ: the piece is queued, and a requester whose block is uncorrectable reacts. `who1` and `who2`
say which of its kind the requester is: a ring, a capture or a load, a stripe and band, a cell. Loom's reads of
the records of a Resident cell are RT. -/
def execDramRead (t requester who1 who2 block : Nat) (err : List Word) (mapUpset : Nat) (s : State) : Res :=
  let s := s.atTime t
  let requester := requester % 8
  let block := block % blockCount
  let cls := requesterClass requester (s.pinnedCells.contains who1 || (s.cell who1).any fun (c : Cell) => c.state == .resident)
  let (r, s) := s.readBlock requester block err mapUpset
  let s := if s.dram.written (block / 64) then s.enqueue block 1 cls false else s
  .next (if r.isSome then s else s.readFailed requester who1 who2 block)

/-- A write's class (Table MEM-2): staged bytes, job heads and directories come with Sluice. -/
def State.writeClass (requester who : Nat) (s : State) : Nat :=
  if requester = 4 then 1 else requesterClass requester (s.pinnedCells.contains who)

/-- DRAM_WRITE (R425, R431, R436, R437, R440): a write of any length is accepted and queued in pieces; a
narrow one waits in the merge buffer. `who` is the cell of requester code 5. -/
def execDramWrite (t requester who addr : Nat) (data : List Byte) (err : List Word) (s : State) : Res :=
  let s := s.atTime t
  let requester := requester % 8
  let cls := s.writeClass requester who
  let first := if cls = 2 then addr / 64 else (addr + 63) / 64
  let last := if cls = 2 then (addr + data.length + 63) / 64 else (addr + data.length) / 64
  .next ((s.writeRange requester cls err (data.length / 64 + 2) addr data).enqueueAll cls true
    ((last - first) / 8 + 2) first (last - first))

end Sys2Proof.Machine
end

