-- ==== Sys2Proof/Machine/Flags.lean ====
section
/-! DEFINITION. Status registers: what the read-only and status fields of BAR0 show of the state (08, 09, 10,
11, 12, 13, 15, 18). -/

namespace Sys2Proof.Machine
open Sys2Proof

/-- Fields laid one above the other: (width, value), lowest first. -/
def packFields : List (Nat × Nat) → Nat
  | [] => 0
  | (w, v) :: l => v % 2 ^ w + 2 ^ w * packFields l

/-- A bit for each of n numbers. -/
def maskOf (n : Nat) (p : Nat → Bool) : Nat := packFields ((List.range n).map fun k => (1, (p k).toNat))

/-! ## Identity and engine (18 R525) -/

def State.regGrade (_ : State) : Nat := packFields [(16, Config.fGrade), (1, Config.plate.toNat)]

def State.regFwInfo (s : State) : Nat :=
  packFields [(1, s.eng.fwRunning), (1, s.eng.fwSelected), (6, 0), (1, s.eng.fallback.toNat), (7, 0), (8, s.eng.relMinor), (8, s.eng.relMajor)]

def State.regStrap (s : State) : Nat := packFields [(2, s.eng.pairId), (1, s.eng.twinB.toNat), (1, 0), (3, s.member)]

/-- PAIR_STATE (11 Table TWIN-3). -/
def PairState.code : PairState → Nat
  | .alone => 0
  | .pairing => 1
  | .joining => 2
  | .paired => 3

def State.regEngStatus (s : State) : Nat :=
  packFields [(3, s.eng.state.code), (4, 0), (1, s.twin.active.toNat), (2, s.twin.pair.code), (1, s.jobOpen.toNat),
    (1, s.stripeOpen.toNat), (3, 0), (1, s.eng.tgood.toNat)]

/-- CAUSE (18 RESET_CAUSE). -/
def ResetCause.code : ResetCause → Nat
  | .powerUp => 0
  | .resetN => 1
  | .resetCommand => 2
  | .chipReset => 3
  | .endOfSleep => 4
  | .loadShed => 5

def State.regResetCause (s : State) : Nat := packFields [(3, s.eng.resetCause.code), (5, 0), (8, s.eng.shedKind)]

def State.regTemp (s : State) : Nat := packFields [(16, toBits 16 s.eng.tCore), (16, toBits 16 s.eng.tMax)]

/-! ## Mailboxes (13 R403) -/

def MbState.code : MbState → Nat
  | .free => 0
  | .executing => 1
  | .posted => 2

def Mailbox.rhdr (m : Mailbox) : Nat :=
  packFields [(16, m.gen), (1, m.replay.toNat), (7, 0), (8, m.status), (16, m.result.length), (16, m.seq)]

def Mailbox.stateReg (m : Mailbox) : Nat := packFields [(2, m.state.code), (14, 0), (16, m.drops)]

/-- MBn_RESk: words at or beyond RLEN read zero. -/
def Mailbox.res (m : Mailbox) (k : Nat) : Nat := fld m.result (8 * k) 8

/-! ## Sluice (12 R401) -/

def RingState.code : RingState → Nat
  | .idle => 0
  | .running => 1
  | .parked => 2
  | .stopping => 3
  | .halted => 4

def Sluice.status (k : Sluice) : Nat := packFields [(1, k.halted.toNat), (1, k.bme.toNat), (1, k.d0.toNat), (13, 0), (16, k.drops)]
def Sluice.haltInfo (k : Sluice) : Nat := packFields [(4, k.haltCause), (4, k.haltReq), (8, k.haltChan)]

def State.dmaRun (s : State) : Nat := maskOf 32 fun n => (s.ring' n).state == .running || (s.ring' n).state == .stopping
def State.dmaPark (s : State) : Nat := maskOf 32 fun n => (s.ring' n).state == .parked

def Ring.ctrl (r : Ring) : Nat := packFields [(1, r.enable.toNat), (2, 0), (1, r.mode), (4, 0), (6, r.vector)]
def Ring.status (r : Ring) : Nat := packFields [(3, r.state.code), (1, r.dbPending.toNat), (4, 0), (8, r.lastSt), (16, r.records)]

/-! ## Fault collector (15 R471, R458) -/

/-- ERROR_N is driven low (R458): in Fault. -/
def State.errorN (s : State) : Bool := s.eng.state == .fault && !s.eng.inReset

def State.fcStatus (s : State) : Nat := packFields [(1, s.fc.valid.toNat), (1, s.fc.overflow.toNat), (1, s.errorN.toNat)]
def State.fcPend (s : State) : Nat := packFields [(1, 0), (16, maskOf 16 fun k => (s.fcSrc (k + 1)).pending)]
def State.fcEsc (s : State) : Nat := packFields [(1, 0), (16, maskOf 16 fun k => (s.fcSrc (k + 1)).pending && (s.fcSrc (k + 1)).escalated)]

def State.fcDike (s : State) : Nat :=
  packFields [(1, (s.dike.lock == some false).toNat), (1, s.dike.wdExpired.toNat), (6, 0),
    (8, maskOf 8 fun a => (s.dikeAxis a).ovr && (s.dikeAxis a).brake), (8, maskOf 8 fun a => (s.dikeAxis a).ovr)]

def FcSrc.last (x : FcSrc) : Nat := packFields [(48, x.lastAddr), (8, x.lastKind)]

/-- STAGE, and the microseconds until escalation. -/
def FcSrc.stageReg (x : FcSrc) (now : Nat) : Nat :=
  let left := match x.deadline with
    | some d => ceilDiv (d - now) usSteps
    | none => 0
  packFields [(3, if x.pending then x.stage else 0), (13, 0), (16, left)]

/-! ## Time unit (11 R363) -/

/-- The module is a time leader (R361), and the ring's. -/
def State.ringTimeLeader (s : State) : Bool :=
  !s.timeFollower && (match s.ring.leader with | some l => l / 2 == s.eng.pairId | none => true)

/-- LOCKED reads 1 on the ring's time leader. -/
def State.tuStatus (s : State) : Nat :=
  packFields [(1, (s.ringTimeLeader || s.tu.locked).toNat), (1, (!s.timeFollower).toNat), (1, (s.ring.leader == some s.member).toNat),
    (1, s.tu.excluded.toNat)]

def TimeUnit.nsReg (u : TimeUnit) : Nat := packFields [(32, u.snapFrac), (32, u.snapNs)]

def Pulse.ctrl (p : Pulse) : Nat :=
  packFields [(1, p.arm.toNat), (1, p.fired.toNat), (1, p.stale.toNat), (1, p.missed.toNat), (12, 0), (16, p.width)]

/-! ## Cuff (08 R264) -/

def State.cuffUp (s : State) : Nat := maskOf 64 fun k => (s.lane k).state == .up

def State.cuffSpare (s : State) : Nat :=
  packFields [(4, maskOf 4 fun k => (s.lane (64 + k)).state == .up), (28, 0), (8, s.logicalOf 64), (8, s.logicalOf 65), (8, s.logicalOf 66),
    (8, s.logicalOf 67)]

/-- A return lane has delivered a good message in the last 1 ms. -/
def State.rxOk (k : Nat) (s : State) : Bool := (s.cf.ret.good.getD k none).any fun t => decide (s.now < t + 1000 * usSteps)

def State.cuffRet (s : State) : Nat :=
  let age := match s.cf.ret.telemAt with
    | some t => min 0xFFFF ((s.now - t) / usSteps)
    | none => 0xFFFF
  packFields [(1, (s.rxOk 0).toNat), (1, (s.rxOk 1).toNat), (1, s.cf.ret.stuck.toNat), (1, (s.cf.ret.helloAt.isSome && !s.retCaps).toNat),
    (2, s.cf.ret.copyMode), (2, 0), (8, s.cf.ret.pairSel), (16, age)]

/-! ## Feedback and Brace (09 R298, 10 R333) -/

def State.feedSrc (s : State) : Nat :=
  packFields [(16, maskOf 16 fun n => (s.src n).state == .valid), (16, maskOf 16 fun n => (s.src n).suspect)]

def State.feedIo (s : State) : Nat :=
  packFields [(4, maskOf 4 fun n => s.swActive n 0), (4, maskOf 4 fun n => s.swActive n 1), (4, maskOf 4 fun n => s.swActive n 2),
    (2, maskOf 2 fun n => (s.feed.probes.getD n {}).level), (2, 0), (4, maskOf 4 fun n => (s.feed.cmps.getD n {}).highUntil.isSome)]

def CmpState.code : CmpState → Nat
  | .idle => 0
  | .armed => 1
  | .stale => 2
  | .fired => 3

def State.feedCmp (s : State) : Nat :=
  packFields ((List.range 4).flatMap fun n =>
    let c := s.feed.cmps.getD n {}
    [(2, c.state.code), (1, c.missed.toNat), (1, 0)])

def State.feedQerr (s : State) : Nat := packFields ((List.range 4).map fun e => (8, (s.src (8 + e)).quad.qerr))

def AxisState.code : AxisState → Nat
  | .off => 0
  | .hold => 1
  | .move => 2
  | .home => 3
  | .stripe => 4
  | .stop => 5
  | .coast => 6

def State.braceAxis (s : State) : Nat := packFields ((List.range 8).map fun a => (4, (s.axis a).state.code))

def State.braceFlags (s : State) : Nat :=
  packFields [(16, packFields ((List.range 8).map fun a => (2, (s.axis a).region.index))), (8, maskOf 8 fun a => (s.axis a).homed),
    (8, maskOf 8 fun a => (s.axis a).chain.freeze)]

def RcState.code : RcState → Nat
  | .empty => 0
  | .collecting => 1
  | .learning => 2

def State.braceRc (s : State) : Nat := packFields ((List.range 8).map fun a => (2, (s.axis a).rc.state.code))

end Sys2Proof.Machine
end

