-- ==== Sys2Proof/Machine/Registers.lean ====
section
/-! DEFINITION. The BAR0 map (18 Table REGS-1): what a read of each register returns, and REGISTER_WRITE (00
R13; 12 R379 to R381, R401; 13 R403; 11 R363). -/

namespace Sys2Proof.Machine
open Sys2Proof

/-- What a block of the map holds: registers of their own, or the i-th of a repeated block at an inner
offset. -/
inductive RegAt where
  /-- a register that does not repeat -/
  | plain (offset : Nat)
  /-- mailbox n -/
  | mailbox (n inner : Nat)
  /-- ring n -/
  | ring (n inner : Nat)
  /-- source s of the fault collector -/
  | source (s inner : Nat)
  /-- pulse n -/
  | pulse (n inner : Nat)
  /-- MSI-X vector v -/
  | msix (v inner : Nat)
  deriving DecidableEq, Repr

/-- The block of an offset. -/
def regAt (off : Nat) : RegAt :=
  if 0x10000 ≤ off ∧ off < 0x20000 then .mailbox ((off - 0x10000) / 0x4000) ((off - 0x10000) % 0x4000)
  else if 0x20100 ≤ off ∧ off < 0x20900 then .ring ((off - 0x20100) / 0x40) ((off - 0x20100) % 0x40)
  else if 0x30110 ≤ off ∧ off < 0x30210 then .source ((off - 0x30100) / 0x10) ((off - 0x30100) % 0x10)
  else if 0x40040 ≤ off ∧ off < 0x40080 then .pulse ((off - 0x40040) / 0x20) ((off - 0x40040) % 0x20)
  else if 0x50000 ≤ off ∧ off < 0x50400 then .msix ((off - 0x50000) / 0x10) ((off - 0x50000) % 0x10)
  else .plain off

/-! ## Reads -/

/-- A mailbox register; none where the map has none. -/
def Mailbox.reg (m : Mailbox) (o : Nat) : Option Nat :=
  if 0x1000 ≤ o ∧ o < 0x2000 then (if o % 8 = 0 then some (sparseGet 0#64 m.params ((o - 0x1000) / 8)).toNat else none)
  else if 0x2000 ≤ o ∧ o < 0x2800 then (if o % 8 = 0 then some (m.res ((o - 0x2000) / 8)) else none)
  else match o with
    | 0x00 => some m.cmd.toNat
    | 0x08 => some m.arg.toNat
    | 0x10 => some m.paddr.toNat
    | 0x18 => some 0
    | 0x1C => some 0
    | 0x20 => some m.rhdr
    | 0x28 => some m.rtag
    | 0x2C => some m.stateReg
    | _ => none

def Ring.reg (r : Ring) (o : Nat) : Option Nat :=
  match o with
  | 0x00 => some r.ctrl
  | 0x04 => some r.status
  | 0x08 => some r.head
  | 0x10 => some 0
  | 0x14 => some r.cqSize
  | 0x18 => some r.cqBase
  | 0x20 => some r.cqHead
  | 0x24 => some r.cqTail
  | 0x28 => some (r.cur / 32 * 32)
  | _ => none

def FcSrc.reg (x : FcSrc) (now o : Nat) : Option Nat :=
  match o with
  | 0x0 => some x.last
  | 0x8 => some x.cnt
  | 0xC => some (x.stageReg now)
  | _ => none

def Pulse.reg (p : Pulse) (o : Nat) : Option Nat :=
  match o with
  | 0x00 => some p.sec
  | 0x08 => some p.ns
  | 0x0C => some p.per
  | 0x10 => some p.ctrl
  | _ => none

def Msix.reg (e : Msix) (o : Nat) : Option Nat :=
  match o with
  | 0x0 => some e.addr
  | 0x4 => some (e.addr / 2 ^ 32)
  | 0x8 => some (packFields [(32, e.data), (1, e.mask.toNat)])
  | 0xC => some e.mask.toNat
  | _ => none

/-- A register that does not repeat. -/
def State.plainReg (o : Nat) (s : State) : Option Nat :=
  match o with
  | 0x00000 => some 0x51200042
  | 0x00004 => some s.regGrade
  | 0x00008 => some Config.serial.toNat
  | 0x00010 => some s.eng.fwBuild
  | 0x00014 => some s.regFwInfo
  | 0x00018 => some s.regStrap
  | 0x00020 => some s.regEngStatus
  | 0x00024 => some s.regResetCause
  | 0x00028 => some s.regTemp
  | 0x00030 => some s.eng.lastFlash
  | 0x20000 => some 0
  | 0x20004 => some s.sl.status
  | 0x20008 => some s.sl.haltAddr
  | 0x20010 => some s.sl.haltInfo
  | 0x20014 => some s.dmaRun
  | 0x20018 => some s.dmaPark
  | 0x2001C => some s.sl.bar2Win
  | 0x30000 => some s.fcStatus
  | 0x30008 => some s.fc.first
  | 0x30010 => some s.fc.firstSeq
  | 0x30018 => some s.fc.firstFlash
  | 0x30020 => some 0
  | 0x30028 => some s.fcPend
  | 0x30030 => some s.fcEsc
  | 0x30040 => some s.fcDike
  | 0x40000 => some s.tuStatus
  | 0x40004 => some 0
  | 0x40008 => some s.tu.snapSec
  | 0x40010 => some s.tu.nsReg
  | 0x40018 => some s.tu.inc
  | 0x40020 => some 0
  | 0x50800 => some s.sl.pba
  | 0x80000 => some s.cuffUp
  | 0x80008 => some s.cuffSpare
  | 0x80010 => some s.cuffRet
  | 0x80014 => some s.cf.epoch
  | 0xC0000 => some s.feedSrc
  | 0xC0004 => some s.feedIo
  | 0xC0008 => some s.feedCmp
  | 0xC000C => some s.feedQerr
  | 0xC0010 => some s.braceAxis
  | 0xC0014 => some s.braceFlags
  | 0xC0018 => some s.br.cycle
  | 0xC0020 => some s.braceRc
  | 0xC0024 => some 0
  | _ => none

/-- What a read of a register's full width returns; none at an offset that holds no register (12 R379). -/
def State.readReg (off : Nat) (s : State) : Option Nat :=
  match regAt off with
  | .mailbox n o => (s.mb.getD n {}).reg o
  | .ring n o => (s.ring' n).reg o
  | .source n o => (s.fcSrc n).reg s.now o
  | .pulse n o => (s.pls n).reg o
  | .msix v o => (s.sl.msix.getD v {}).reg o
  | .plain o => s.plainReg o

/-! ## Writes -/

/-- A mailbox's request slot (13 R403). MBn_ARG[30:17] and MBn_PADDR[2:0] are reserved. -/
def Mailbox.write (m : Mailbox) (o v : Nat) : Mailbox :=
  if 0x1000 ≤ o ∧ o < 0x2000 ∧ o % 8 = 0 then
    { m with params := sparseSet m.params ((o - 0x1000) / 8) (BitVec.ofNat 64 v) (BitVec.ofNat 64 v == 0#64) }
  else match o with
    | 0x00 => { m with cmd := BitVec.ofNat 64 v }
    | 0x08 => { m with arg := BitVec.ofNat 64 (v / 2 ^ 31 * 2 ^ 31 + v % 2 ^ 17) }
    | 0x10 => { m with paddr := BitVec.ofNat 64 (v / 8 * 8) }
    | _ => m

/-- The fields of a ring that Idle and Halted leave open (12 R401). -/
def Ring.write (r : Ring) (n o v : Nat) : Ring :=
  if !(r.state == .idle || r.state == .halted) then r
  else match o with
    | 0x00 => { r with
        vector := if 8 ≤ bitsOf v 13 8 then bitsOf v 13 8 else r.vector
        mode := if 16 ≤ n then bitsOf v 3 3 else r.mode }
    | 0x08 => { r with head := v / 32 * 32 }
    | 0x14 => { r with cqSize := if between 6 (v % 32) 16 then v % 32 else r.cqSize }
    | 0x18 => { r with cqBase := v / 64 * 64 }
    | _ => r

/-- The programmed time and period of a pulse (11 R363). -/
def Pulse.write (p : Pulse) (o v : Nat) : Pulse :=
  match o with
  | 0x00 => { p with sec := v % 2 ^ 48 }
  | 0x08 => { p with ns := v % 2 ^ 30 }
  | 0x0C => { p with per := v % 2 ^ 32 }
  | _ => p

/-- An MSI-X entry: 8 bytes at the address and at data and control, 4 at the upper halves (log 47). -/
def Msix.write (e : Msix) (o v : Nat) : Msix :=
  match o with
  | 0x0 => { e with addr := v }
  | 0x4 => { e with addr := e.addr % 2 ^ 32 + v % 2 ^ 32 * 2 ^ 32 }
  | 0x8 => { e with data := v % 2 ^ 32, mask := v.testBit 32 }
  | 0xC => { e with mask := v.testBit 0 }
  | _ => e

/-- A write of v to the register at an offset. The registers whose write is a command of its own are not
changed here (log 47). -/
def State.writeReg (off v : Nat) (s : State) : State :=
  match regAt off with
  | .mailbox n o => s.updMb n fun m => m.write o v
  | .ring n o => s.updRing' n fun r => r.write n o v
  | .pulse n o => s.updPls n fun p => p.write o v
  | .msix k o => (s.updSl fun x => { x with msix := listUpd x.msix k fun e => e.write o v }).sendPending
  | .source _ _ => s
  | .plain o => if o = 0x2001C then s.updSl fun x => { x with bar2Win := v % 2 } else s

/-- REGISTER_WRITE: an offset without a register ignores it and raises BAR_ACCESS (12 R379). -/
def execRegisterWrite (t offset : Nat) (value : Word) (s : State) : Res :=
  let s := s.atTime t
  .next (if (s.readReg offset).isSome then s.writeReg offset value.toNat else s.raise .barAccess (offset % 2 ^ 40))

end Sys2Proof.Machine
end

