-- ==== Sys2Proof/Machine/Dispatch.lean ====
section
/-! DEFINITION. One arm per command of the table: a direct call of its meaning. -/

namespace Sys2Proof.Machine
open Sys2Proof

def exec (i : Instr) (s : State) : Host.Outcome State Fault Refusal :=
  match i with
  | .powerUp t wakeN twinB pairId => Sys2Proof.Machine.execPowerUp t wakeN twinB pairId s
  | .wakeNFall t => Sys2Proof.Machine.execWakeNFall t s
  | .resetNAssert t => Sys2Proof.Machine.execResetNAssert t s
  | .resetNRelease t wakeN twinB pairId => Sys2Proof.Machine.execResetNRelease t wakeN twinB pairId s
  | .resetEntry t wakeN twinB pairId => Sys2Proof.Machine.execResetEntry t wakeN twinB pairId s
  | .powerFailDetect t kind addr => Sys2Proof.Machine.execPowerFailDetect t kind addr s
  | .refLost t cuff => Sys2Proof.Machine.execRefLost t cuff s
  | .dieTempSample t temps => Sys2Proof.Machine.execDieTempSample t temps s
  | .bootComplete t memFail => Sys2Proof.Machine.execBootComplete t memFail s
  | .calAttemptEnd t output bank n1 n2 tAvg => Sys2Proof.Machine.execCalAttemptEnd t output bank n1 n2 tAvg s
  | .readyEntry t => Sys2Proof.Machine.execReadyEntry t s
  | .bankSwap t => Sys2Proof.Machine.execBankSwap t s
  | .slackPublish t => Sys2Proof.Machine.execSlackPublish t s
  | .syntheticFlash t w => Sys2Proof.Machine.execSyntheticFlash t w s
  | .slack t h khz => Sys2Proof.Machine.execSlack t h khz s
  | .slackPeerTimeout t => Sys2Proof.Machine.execSlackPeerTimeout t s
  | .faultAccept t => Sys2Proof.Machine.execFaultAccept t s
  | .escalationTimeout t src => Sys2Proof.Machine.execEscalationTimeout t src s
  | .fcRelease t => Sys2Proof.Machine.execFcRelease t s
  | .fcClrCnt t => Sys2Proof.Machine.execFcClrCnt t s
  | .fcPendAck t mask => Sys2Proof.Machine.execFcPendAck t mask s
  | .watchdog t => Sys2Proof.Machine.execWatchdog t s
  | .lockEdge t high => Sys2Proof.Machine.execLockEdge t high s
  | .lockFirstQualification t high => Sys2Proof.Machine.execLockFirstQualification t high s
  | .sampleTick t => Sys2Proof.Machine.execSampleTick t s
  | .posRequest t port => Sys2Proof.Machine.execPosRequest t port s
  | .posWord t port reply => Sys2Proof.Machine.execPosWord t port reply s
  | .quadEdge t enc a b => Sys2Proof.Machine.execQuadEdge t enc a b s
  | .indexEvent t enc => Sys2Proof.Machine.execIndexEvent t enc s
  | .sincosSample t enc rawS rawC => Sys2Proof.Machine.execSincosSample t enc rawS rawC s
  | .probeEdge t probe te rising => Sys2Proof.Machine.execProbeEdge t probe te rising s
  | .compareFire t cmp => Sys2Proof.Machine.execCompareFire t cmp s
  | .switchEdge t set input raw tRaw => Sys2Proof.Machine.execSwitchEdge t set input raw tRaw s
  | .switchFirstQualification t set input raw => Sys2Proof.Machine.execSwitchFirstQualification t set input raw s
  | .servoCycle t => Sys2Proof.Machine.execServoCycle t s
  | .outputPhase t finished => Sys2Proof.Machine.execOutputPhase t finished s
  | .settleTimeout t axis => Sys2Proof.Machine.execSettleTimeout t axis s
  | .brakeTimeout t axis => Sys2Proof.Machine.execBrakeTimeout t axis s
  | .flashIssue t => Sys2Proof.Machine.execFlashIssue t s
  | .edgeLate t => Sys2Proof.Machine.execEdgeLate t s
  | .tgoodDrop t flash => Sys2Proof.Machine.execTgoodDrop t flash s
  | .peerEdge t flash d => Sys2Proof.Machine.execPeerEdge t flash d s
  | .phaseTrim t meanD => Sys2Proof.Machine.execPhaseTrim t meanD s
  | .seamCauseAccept t => Sys2Proof.Machine.execSeamCauseAccept t s
  | .heldTimeout t => Sys2Proof.Machine.execHeldTimeout t s
  | .seamResumeStart t => Sys2Proof.Machine.execSeamResumeStart t s
  | .stripeBegin t => Sys2Proof.Machine.execStripeBegin t s
  | .syncStartInstant t => Sys2Proof.Machine.execSyncStartInstant t s
  | .laneEnginesDone t flash w pixelUpset tableUpset => Sys2Proof.Machine.execLaneEnginesDone t flash w pixelUpset tableUpset s
  | .frameDeadline t flash => Sys2Proof.Machine.execFrameDeadline t flash s
  | .frameAssemblyDone t flash w lanes => Sys2Proof.Machine.execFrameAssemblyDone t flash w lanes s
  | .frameSendStart t lane => Sys2Proof.Machine.execFrameSendStart t lane s
  | .statusFrame t => Sys2Proof.Machine.execStatusFrame t s
  | .trainTimeout t lane => Sys2Proof.Machine.execTrainTimeout t lane s
  | .alignTimeout t lane => Sys2Proof.Machine.execAlignTimeout t lane s
  | .lostRetrain t lane => Sys2Proof.Machine.execLostRetrain t lane s
  | .rxHello t h rev caps copyMode ident => Sys2Proof.Machine.execRxHello t h rev caps copyMode ident s
  | .rxTelem t h temp volt pairSel sExp => Sys2Proof.Machine.execRxTelem t h temp volt pairSel sExp s
  | .rxLane t h lock trained uncorr corr => Sys2Proof.Machine.execRxLane t h lock trained uncorr corr s
  | .rxEvent t h kind lane rows seq epoch => Sys2Proof.Machine.execRxEvent t h kind lane rows seq epoch s
  | .rxStuckOn t h beam => Sys2Proof.Machine.execRxStuckOn t h beam s
  | .retCrc t lane => Sys2Proof.Machine.execRetCrc t lane s
  | .retLost t => Sys2Proof.Machine.execRetLost t s
  | .gussetHello t h stitch build role pairState engineState configDigest ringDigest => Sys2Proof.Machine.execGussetHello t h stitch build role pairState engineState configDigest ringDigest s
  | .pairingComplete t s1 r1 s2 r2 sec ns frac inc => Sys2Proof.Machine.execPairingComplete t s1 r1 s2 r2 sec ns frac inc s
  | .heartbeatSlot t peerLive lanes => Sys2Proof.Machine.execHeartbeatSlot t peerLive lanes s
  | .heartbeat t h slot engineState role pairState lanes applied => Sys2Proof.Machine.execHeartbeat t h slot engineState role pairState lanes applied s
  | .liveLost t => Sys2Proof.Machine.execLiveLost t s
  | .state t h cycle sect offset data => Sys2Proof.Machine.execState t h cycle sect offset data s
  | .stateEnd t h cycle count crc image => Sys2Proof.Machine.execStateEnd t h cycle count crc image s
  | .setpoint t h cycle ctrl0 ctrl1 set0 set1 => Sys2Proof.Machine.execSetpoint t h cycle ctrl0 ctrl1 set0 set1 s
  | .commit t h record tn f => Sys2Proof.Machine.execCommit t h record tn f s
  | .withdraw t h flash epoch => Sys2Proof.Machine.execWithdraw t h flash epoch s
  | .band t h stripe band outcome attempt computed => Sys2Proof.Machine.execBand t h stripe band outcome attempt computed s
  | .digest t h flash epoch void digest => Sys2Proof.Machine.execDigest t h flash epoch void digest s
  | .digestTimeout t flash epoch => Sys2Proof.Machine.execDigestTimeout t flash epoch s
  | .check t h item value => Sys2Proof.Machine.execCheck t h item value s
  | .time t h stitch kind ta tb correction => Sys2Proof.Machine.execTime t h stitch kind ta tb correction s
  | .timeBroadcast t => Sys2Proof.Machine.execTimeBroadcast t s
  | .gussetTakeover t h cycle cause => Sys2Proof.Machine.execGussetTakeover t h cycle cause s
  | .gusGap t => Sys2Proof.Machine.execGusGap t s
  | .lead t h leader order => Sys2Proof.Machine.execLead t h leader order s
  | .leadTimeout t => Sys2Proof.Machine.execLeadTimeout t s
  | .request t h event stripe mask instant => Sys2Proof.Machine.execRequest t h event stripe mask instant s
  | .order t h order event member stripe mask instant => Sys2Proof.Machine.execOrder t h order event member stripe mask instant s
  | .tuSnap t => Sys2Proof.Machine.execTuSnap t s
  | .tuIncWrite t value => Sys2Proof.Machine.execTuIncWrite t value s
  | .tuStep t value => Sys2Proof.Machine.execTuStep t value s
  | .pulseArm t n value => Sys2Proof.Machine.execPulseArm t n value s
  | .pulseFire t n => Sys2Proof.Machine.execPulseFire t n s
  | .fnReset t => Sys2Proof.Machine.execFnReset t s
  | .linkDown t => Sys2Proof.Machine.execLinkDown t s
  | .bmeOff t d3hot => Sys2Proof.Machine.execBmeOff t d3hot s
  | .busErr t cause addr chan req => Sys2Proof.Machine.execBusErr t cause addr chan req s
  | .completionTimeout t addr chan req => Sys2Proof.Machine.execCompletionTimeout t addr chan req s
  | .barAccess t bar offset isWrite => Sys2Proof.Machine.execBarAccess t bar offset isWrite s
  | .bar2Access t offset isWrite len data => Sys2Proof.Machine.execBar2Access t offset isWrite len data s
  | .dmaResume t => Sys2Proof.Machine.execDmaResume t s
  | .dmaClrDrop t => Sys2Proof.Machine.execDmaClrDrop t s
  | .ringEnable t n => Sys2Proof.Machine.execRingEnable t n s
  | .ringDisable t n => Sys2Proof.Machine.execRingDisable t n s
  | .ringAbort t n => Sys2Proof.Machine.execRingAbort t n s
  | .ringDoorbell t n => Sys2Proof.Machine.execRingDoorbell t n s
  | .cqHeadWrite t n value => Sys2Proof.Machine.execCqHeadWrite t n value s
  | .descriptorFetched t n addr bytes index => Sys2Proof.Machine.execDescriptorFetched t n addr bytes index s
  | .descriptorComplete t n data => Sys2Proof.Machine.execDescriptorComplete t n data s
  | .nextReread t n next => Sys2Proof.Machine.execNextReread t n next s
  | .streamRecord t n => Sys2Proof.Machine.execStreamRecord t n s
  | .streamRecordTimeout t n => Sys2Proof.Machine.execStreamRecordTimeout t n s
  | .mbDoorbell t n => Sys2Proof.Machine.execMbDoorbell t n s
  | .mbAck t n gen => Sys2Proof.Machine.execMbAck t n gen s
  | .commandCopyDone t data => Sys2Proof.Machine.execCommandCopyDone t data s
  | .commandBegin t => Sys2Proof.Machine.execCommandBegin t s
  | .resultPost t n => Sys2Proof.Machine.execResultPost t n s
  | .reset t => Sys2Proof.Machine.execReset t s
  | .sleep t wakeN => Sys2Proof.Machine.execSleep t wakeN s
  | .clearFault t => Sys2Proof.Machine.execClearFault t s
  | .roleSwap t => Sys2Proof.Machine.execRoleSwap t s
  | .twinTimeConfig t => Sys2Proof.Machine.execTwinTimeConfig t s
  | .timeStatus t => Sys2Proof.Machine.execTimeStatus t s
  | .faultConfig t => Sys2Proof.Machine.execFaultConfig t s
  | .faultInject t => Sys2Proof.Machine.execFaultInject t s
  | .cuffRetrain t => Sys2Proof.Machine.execCuffRetrain t s
  | .loadTable t => Sys2Proof.Machine.execLoadTable t s
  | .loomConfig t selfTest => Sys2Proof.Machine.execLoomConfig t selfTest s
  | .polderConfig t => Sys2Proof.Machine.execPolderConfig t s
  | .shuttleConfig t => Sys2Proof.Machine.execShuttleConfig t s
  | .hemConfig t => Sys2Proof.Machine.execHemConfig t s
  | .cuffConfig t => Sys2Proof.Machine.execCuffConfig t s
  | .cacheConfig t => Sys2Proof.Machine.execCacheConfig t s
  | .slackConfig t => Sys2Proof.Machine.execSlackConfig t s
  | .dikeLimits t => Sys2Proof.Machine.execDikeLimits t s
  | .configDigest t => Sys2Proof.Machine.execConfigDigest t s
  | .setCellDir t => Sys2Proof.Machine.execSetCellDir t s
  | .jobStart t => Sys2Proof.Machine.execJobStart t s
  | .jobDecision t => Sys2Proof.Machine.execJobDecision t s
  | .jobStartTimeout t => Sys2Proof.Machine.execJobStartTimeout t s
  | .feed t => Sys2Proof.Machine.execFeed t s
  | .jobStatus t => Sys2Proof.Machine.execJobStatus t s
  | .jobEnd t => Sys2Proof.Machine.execJobEnd t s
  | .stripeStart t => Sys2Proof.Machine.execStripeStart t s
  | .stripePause t => Sys2Proof.Machine.execStripePause t s
  | .stripeResume t => Sys2Proof.Machine.execStripeResume t s
  | .stripeAbort t => Sys2Proof.Machine.execStripeAbort t s
  | .bandRetry t => Sys2Proof.Machine.execBandRetry t s
  | .cacheStats t => Sys2Proof.Machine.execCacheStats t s
  | .loomStats t => Sys2Proof.Machine.execLoomStats t s
  | .polderStatus t => Sys2Proof.Machine.execPolderStatus t s
  | .shuttleStatus t => Sys2Proof.Machine.execShuttleStatus t s
  | .hemStatus t => Sys2Proof.Machine.execHemStatus t s
  | .cuffStatus t => Sys2Proof.Machine.execCuffStatus t s
  | .slackStatus t => Sys2Proof.Machine.execSlackStatus t s
  | .feedConfig t => Sys2Proof.Machine.execFeedConfig t s
  | .probeSwitchConfig t => Sys2Proof.Machine.execProbeSwitchConfig t s
  | .servoConfig t => Sys2Proof.Machine.execServoConfig t s
  | .axisEnable t => Sys2Proof.Machine.execAxisEnable t s
  | .axisDisable t => Sys2Proof.Machine.execAxisDisable t s
  | .move t => Sys2Proof.Machine.execMove t s
  | .home t => Sys2Proof.Machine.execHome t s
  | .stop t => Sys2Proof.Machine.execStop t s
  | .probeArm t => Sys2Proof.Machine.execProbeArm t s
  | .probeRead t => Sys2Proof.Machine.execProbeRead t s
  | .compareLoad t => Sys2Proof.Machine.execCompareLoad t s
  | .rereference t => Sys2Proof.Machine.execRereference t s
  | .rcClear t => Sys2Proof.Machine.execRcClear t s
  | .braceStatus t => Sys2Proof.Machine.execBraceStatus t s
  | .calibrate t => Sys2Proof.Machine.execCalibrate t s
  | .calConfig t => Sys2Proof.Machine.execCalConfig t s
  | .calStatus t => Sys2Proof.Machine.execCalStatus t s
  | .memFreq t => Sys2Proof.Machine.execMemFreq t s
  | .fwLoad t => Sys2Proof.Machine.execFwLoad t s
  | .fwLoadDone t => Sys2Proof.Machine.execFwLoadDone t s
  | .fwSelect t => Sys2Proof.Machine.execFwSelect t s
  | .auditRead t => Sys2Proof.Machine.execAuditRead t s
  | .journalStatus t => Sys2Proof.Machine.execJournalStatus t s
  | .capture t => Sys2Proof.Machine.execCapture t s
  | .captureEnd t content => Sys2Proof.Machine.execCaptureEnd t content s
  | .captureCancel t => Sys2Proof.Machine.execCaptureCancel t s
  | .stagingStart t => Sys2Proof.Machine.execStagingStart t s
  | .stagingComplete t data => Sys2Proof.Machine.execStagingComplete t data s
  | .blockDecoded t stripe band block => Sys2Proof.Machine.execBlockDecoded t stripe band block s
  | .binningDone t => Sys2Proof.Machine.execBinningDone t s
  | .tileWritten t unit encoderUpset => Sys2Proof.Machine.execTileWritten t unit encoderUpset s
  | .unitParity t unit => Sys2Proof.Machine.execUnitParity t unit s
  | .cellFetchStart t => Sys2Proof.Machine.execCellFetchStart t s
  | .pinRestore t => Sys2Proof.Machine.execPinRestore t s
  | .cellFetchDone t cell data => Sys2Proof.Machine.execCellFetchDone t cell data s
  | .cellDecodeDone t cell => Sys2Proof.Machine.execCellDecodeDone t cell s
  | .refreshDue t sub => Sys2Proof.Machine.execRefreshDue t sub s
  | .owedRefresh t sub => Sys2Proof.Machine.execOwedRefresh t sub s
  | .memTempRead t sub temps => Sys2Proof.Machine.execMemTempRead t sub temps s
  | .requestPromotion t sub => Sys2Proof.Machine.execRequestPromotion t sub s
  | .dramRead t requester who1 who2 block err mapUpset => Sys2Proof.Machine.execDramRead t requester who1 who2 block err mapUpset s
  | .dramWrite t requester who addr data err => Sys2Proof.Machine.execDramWrite t requester who addr data err s
  | .mergeFlush t block err => Sys2Proof.Machine.execMergeFlush t block err s
  | .scrubRead t block err => Sys2Proof.Machine.execScrubRead t block err s
  | .journalCommit t verified => Sys2Proof.Machine.execJournalCommit t verified s
  | .jProgram t => Sys2Proof.Machine.execJProgram t s
  | .feedQclr t mask => Sys2Proof.Machine.execFeedQclr t mask s
  | .registerWrite t offset value => Sys2Proof.Machine.execRegisterWrite t offset value s
  | .msixVectorUnmask t vector => Sys2Proof.Machine.execMsixVectorUnmask t vector s
  | .ptpMessage t offset pathDelay portState => Sys2Proof.Machine.execPtpMessage t offset pathDelay portState s
  | .groupResumeInstant t => Sys2Proof.Machine.execGroupResumeInstant t s
  | .helloTimeout t => Sys2Proof.Machine.execHelloTimeout t s
  | .refReturn t cuff => Sys2Proof.Machine.execRefReturn t cuff s
  | .linkUp t => Sys2Proof.Machine.execLinkUp t s
  | .busMasterEnableSet t => Sys2Proof.Machine.execBusMasterEnableSet t s
  | .d0Entry t => Sys2Proof.Machine.execD0Entry t s
  | .comparePulseEnd t => Sys2Proof.Machine.execComparePulseEnd t s
  | .pulseEnd t n => Sys2Proof.Machine.execPulseEnd t n s
  | .pieceComplete t sub bank row => Sys2Proof.Machine.execPieceComplete t sub bank row s
  | .sectorEraseComplete t => Sys2Proof.Machine.execSectorEraseComplete t s
  | .helloBroadcast t stitch => Sys2Proof.Machine.execHelloBroadcast t stitch s
  | .leadBroadcast t => Sys2Proof.Machine.execLeadBroadcast t s
  | .watchdogRestart t => Sys2Proof.Machine.execWatchdogRestart t s
  | .vstbyPowerUp t => Sys2Proof.Machine.execVstbyPowerUp t s
  | .vstbyLoss t => Sys2Proof.Machine.execVstbyLoss t s

end Sys2Proof.Machine
end

