-- ==== Sys2Proof/WellFormed.lean ====
section
/-! DEFINITION. Well-formed commands: the ranges that the manual gives what a command carries, the
number of a mailbox, a ring or a lane, the fields of a message, the counts of a calibration run. The
meanings are total and do not ask for it: a number that names nothing has no effect. -/

namespace Sys2Proof
open Sys2Proof.Machine

/-- A value fits n bits. -/
def fits (n v : Nat) : Bool := decide (v < 2 ^ n)

/-- A value fits n bits in two's complement. -/
def fitsS (n : Nat) (v : Int) : Bool := decide (-(2 ^ (n - 1) : Int) ≤ v ∧ v < 2 ^ (n - 1))

/-- A value from 1 to hi. -/
def between1 (hi v : Nat) : Bool := decide (1 ≤ v ∧ v ≤ hi)

/-- A link message's header (11 Table TWIN-2). -/
def MsgHdr.ok (h : MsgHdr) : Bool := fits 16 h.sync && fits 16 h.len && fits 32 h.crc && decide (h.src < 8) &&
  decide (h.hops < 16) && fits 32 h.mseq

/-- A return message's header (08 Table CUFF-7). -/
def RetHdr.ok (h : RetHdr) : Bool := decide (h.lane < 2) && fits 8 h.version && fits 16 h.mseq && fits 32 h.crc

/-- A flash state record (06 Table SHUTTLE-1). -/
def FlashRec.ok (r : FlashRec) : Bool :=
  fits 64 r.flash && fits 32 r.m && fits 16 r.dt && fitsS 32 r.theta && fitsS 32 r.ex && fitsS 32 r.ey && fitsS 32 r.cprevx &&
  fitsS 32 r.cprevy

/-- The setpoints of one link (10 Table BRACE-7). -/
def setsOk (l : List Int) : Bool := decide (l.length = 4) && l.all (fitsS 32)

/-- The kinds of 17 Table POWER-8 that are power-fail detects. -/
def powerFailKind (k : Nat) : Bool := k == 1 || k == 2 || k == 3 || k == 4 || k == 6

/-- The sub-channel and bank of a failed memory test (14 R446). -/
def memFailOk (m : Option (Nat × Nat)) : Bool := m.all fun x => decide (x.1 < 16 ∧ x.2 < 32)

/-- Symbol errors of a block: none, or one for each of its ten symbols (14 R431). -/
def errOk (e : List Word) : Bool := decide (e.length ≤ 10)

/-- What a command carries lies in the manual's ranges. -/
def wellFormed : Instr → Bool
  | .powerUp _ _ _ pairId => decide (pairId < 4)
  | .wakeNFall _ => true
  | .resetNAssert _ => true
  | .resetNRelease _ _ _ pairId => decide (pairId < 4)
  | .resetEntry _ _ _ pairId => decide (pairId < 4)
  | .powerFailDetect _ kind addr => powerFailKind kind && fits 48 addr
  | .refLost _ _ => true
  | .dieTempSample _ temps => decide (temps.length = 8) && temps.all (fitsS 16)
  | .bootComplete _ memFail => memFailOk memFail
  | .calAttemptEnd _ output bank n1 n2 tAvg => decide (output < 2) && decide (bank < 2) && decide (n1.length = 96) && decide (n2.length = 96) && fitsS 16 tAvg
  | .readyEntry _ => true
  | .bankSwap _ => true
  | .slackPublish _ => true
  | .syntheticFlash _ w => fits 32 w
  | .slack _ h khz => h.ok && fits 32 khz
  | .slackPeerTimeout _ => true
  | .faultAccept _ => true
  | .escalationTimeout _ src => between1 16 src
  | .fcRelease _ => true
  | .fcClrCnt _ => true
  | .fcPendAck _ _ => true
  | .watchdog _ => true
  | .lockEdge _ _ => true
  | .lockFirstQualification _ _ => true
  | .sampleTick _ => true
  | .posRequest _ port => decide (port < 8)
  | .posWord _ port reply => decide (port < 8) && decide (reply.length ≤ 83)
  | .quadEdge _ enc _ _ => decide (enc < 4)
  | .indexEvent _ enc => decide (enc < 4)
  | .sincosSample _ enc rawS rawC => decide (enc < 4) && fitsS 14 rawS && fitsS 14 rawC
  | .probeEdge t probe te _ => decide (probe < 2) && decide (te ≤ t)
  | .compareFire _ cmp => decide (cmp < 4)
  | .switchEdge t set input _ tRaw => decide (set < 4) && decide (input < 3) && decide (tRaw ≤ t)
  | .switchFirstQualification _ set input _ => decide (set < 4) && decide (input < 3)
  | .servoCycle _ => true
  | .outputPhase _ _ => true
  | .settleTimeout _ axis => decide (axis < 8)
  | .brakeTimeout _ axis => decide (axis < 8)
  | .flashIssue _ => true
  | .edgeLate _ => true
  | .tgoodDrop _ _ => true
  | .peerEdge _ _ _ => true
  | .phaseTrim _ _ => true
  | .seamCauseAccept _ => true
  | .heldTimeout _ => true
  | .seamResumeStart _ => true
  | .stripeBegin _ => true
  | .syncStartInstant _ => true
  | .laneEnginesDone _ _ _ pixelUpset tableUpset => pixelUpset.all (fun u => fits 30 u.2) && tableUpset.all (fun u => fits 72 u.2)
  | .frameDeadline _ _ => true
  | .frameAssemblyDone _ _ _ lanes => lanes.all fun l => decide (l < 64)
  | .frameSendStart _ lane => decide (lane < 64)
  | .statusFrame _ => true
  | .trainTimeout _ lane => decide (lane < 68)
  | .alignTimeout _ lane => decide (lane < 68)
  | .lostRetrain _ lane => decide (lane < 68)
  | .rxHello _ h rev caps copyMode ident => h.ok && fits 8 rev && fits 8 caps && decide (copyMode ≤ 2) && fits 64 ident
  | .rxTelem _ h temp volt pairSel sExp => h.ok && fitsS 16 temp && fits 16 volt && fits 8 pairSel && fits 32 sExp
  | .rxLane _ h lock trained uncorr corr => h.ok && fits 16 uncorr && fits 32 corr && decide (lock.toNat < 2 ^ 68) && decide (trained.toNat < 2 ^ 68)
  | .rxEvent _ h kind lane rows seq epoch => h.ok && between1 6 kind && fits 8 lane && fits 8 rows && fits 32 seq && fits 8 epoch
  | .rxStuckOn _ h beam => h.ok && fits 18 beam
  | .retCrc _ lane => decide (lane < 2)
  | .retLost _ => true
  | .gussetHello _ h _ build role pairState engineState cdig rdig => h.ok && fits 32 build && fits 8 role && fits 8 pairState && decide (engineState < 8) && fits 64 cdig && fits 64 rdig
  | .pairingComplete _ s1 r1 s2 r2 sec ns frac inc => fits 64 s1 && fits 64 r1 && fits 64 s2 && fits 64 r2 && fits 48 sec && decide (ns < 1000000000) && fits 32 frac && fits 40 inc
  | .heartbeatSlot _ _ lanes => fits 8 lanes
  | .heartbeat _ h slot engineState role pairState lanes applied => h.ok && fits 64 slot && decide (engineState < 8) && fits 8 role && fits 8 pairState && fits 8 lanes && fits 64 applied
  | .liveLost _ => true
  | .state _ h cycle sect offset data => h.ok && fits 64 cycle && between1 6 sect && fits 32 offset && between1 1000 data.length
  | .stateEnd _ h cycle count _ _ => h.ok && fits 64 cycle && fits 16 count
  | .setpoint _ h cycle ctrl0 ctrl1 set0 set1 => h.ok && fits 64 cycle && fits 8 ctrl0 && fits 8 ctrl1 && setsOk set0 && setsOk set1
  | .commit _ h record tn f => h.ok && record.ok && fits 64 tn && fitsS 64 f
  | .withdraw _ h flash epoch => h.ok && fits 64 flash && fits 8 epoch
  | .band _ h stripe band outcome attempt _ => h.ok && fits 16 stripe && fits 16 band && fits 8 outcome && fits 8 attempt
  | .digest _ h flash epoch _ _ => h.ok && fits 64 flash && fits 8 epoch
  | .digestTimeout _ flash epoch => fits 64 flash && fits 8 epoch
  | .check _ h item _ => h.ok && between1 3 item
  | .time _ h _ kind ta tb correction => h.ok && fits 8 kind && fits 64 ta && fits 64 tb && fitsS 64 correction
  | .timeBroadcast _ => true
  | .gussetTakeover _ h cycle cause => h.ok && fits 64 cycle && between1 2 cause
  | .gusGap _ => true
  | .lead _ h leader order => h.ok && decide (leader < 8) && fits 64 order
  | .leadTimeout _ => true
  | .request _ h event stripe mask instant => h.ok && between1 3 event && fits 16 stripe && fits 8 mask && fits 64 instant
  | .order _ h order event member stripe mask instant => h.ok && fits 64 order && between1 3 event && decide (member < 8) && fits 16 stripe && fits 8 mask && fits 64 instant
  | .tuSnap _ => true
  | .tuIncWrite _ _ => true
  | .tuStep _ _ => true
  | .pulseArm _ n _ => decide (n < 2)
  | .pulseFire _ n => decide (n < 2)
  | .fnReset _ => true
  | .linkDown _ => true
  | .bmeOff _ _ => true
  | .busErr _ cause addr chan req => between1 6 cause && fits 64 addr && fits 8 chan && fits 4 req
  | .completionTimeout _ addr chan req => fits 64 addr && fits 8 chan && fits 4 req
  | .barAccess _ bar _ isWrite => bar == 0 || (bar == 2 && isWrite)
  | .bar2Access _ offset isWrite len data => decide (offset + len ≤ 2 ^ 36) && (!isWrite || decide (data.length = len))
  | .dmaResume _ => true
  | .dmaClrDrop _ => true
  | .ringEnable _ n => decide (n < 32)
  | .ringDisable _ n => decide (n < 32)
  | .ringAbort _ n => decide (n < 32)
  | .ringDoorbell _ n => decide (n < 32)
  | .cqHeadWrite _ n value => decide (n < 32) && fits 32 value
  | .descriptorFetched _ n addr bytes _ => decide (n < 32) && fits 64 addr && decide (bytes.length = 32)
  | .descriptorComplete _ n _ => decide (n < 32)
  | .nextReread _ n next => decide (n < 32) && fits 64 next
  | .streamRecord _ n => decide (n < 32)
  | .streamRecordTimeout _ n => decide (n < 32)
  | .mbDoorbell _ n => decide (n < 4)
  | .mbAck _ n gen => decide (n < 4) && fits 16 gen
  | .commandCopyDone _ _ => true
  | .commandBegin _ => true
  | .resultPost _ n => decide (n < 4)
  | .reset _ => true
  | .sleep _ _ => true
  | .clearFault _ => true
  | .roleSwap _ => true
  | .twinTimeConfig _ => true
  | .timeStatus _ => true
  | .faultConfig _ => true
  | .faultInject _ => true
  | .cuffRetrain _ => true
  | .loadTable _ => true
  | .loomConfig _ _ => true
  | .polderConfig _ => true
  | .shuttleConfig _ => true
  | .hemConfig _ => true
  | .cuffConfig _ => true
  | .cacheConfig _ => true
  | .slackConfig _ => true
  | .dikeLimits _ => true
  | .configDigest _ => true
  | .setCellDir _ => true
  | .jobStart _ => true
  | .jobDecision _ => true
  | .jobStartTimeout _ => true
  | .feed _ => true
  | .jobStatus _ => true
  | .jobEnd _ => true
  | .stripeStart _ => true
  | .stripePause _ => true
  | .stripeResume _ => true
  | .stripeAbort _ => true
  | .bandRetry _ => true
  | .cacheStats _ => true
  | .loomStats _ => true
  | .polderStatus _ => true
  | .shuttleStatus _ => true
  | .hemStatus _ => true
  | .cuffStatus _ => true
  | .slackStatus _ => true
  | .feedConfig _ => true
  | .probeSwitchConfig _ => true
  | .servoConfig _ => true
  | .axisEnable _ => true
  | .axisDisable _ => true
  | .move _ => true
  | .home _ => true
  | .stop _ => true
  | .probeArm _ => true
  | .probeRead _ => true
  | .compareLoad _ => true
  | .rereference _ => true
  | .rcClear _ => true
  | .braceStatus _ => true
  | .calibrate _ => true
  | .calConfig _ => true
  | .calStatus _ => true
  | .memFreq _ => true
  | .fwLoad _ => true
  | .fwLoadDone _ => true
  | .fwSelect _ => true
  | .auditRead _ => true
  | .journalStatus _ => true
  | .capture _ => true
  | .captureEnd _ _ => true
  | .captureCancel _ => true
  | .stagingStart _ => true
  | .stagingComplete _ _ => true
  | .blockDecoded _ stripe band _ => fits 16 stripe && fits 16 band
  | .binningDone _ => true
  | .tileWritten _ unit _ => decide (unit < 256)
  | .unitParity _ unit => decide (unit < 256)
  | .cellFetchStart _ => true
  | .pinRestore _ => true
  | .cellFetchDone _ _ _ => true
  | .cellDecodeDone _ _ => true
  | .refreshDue _ sub => decide (sub < 16)
  | .owedRefresh _ sub => decide (sub < 16)
  | .memTempRead _ sub _ => decide (sub < 16)
  | .requestPromotion _ sub => decide (sub < 16)
  | .dramRead _ requester _ _ block err _ => decide (requester < 8) && decide (block < 2 ^ 31) && errOk err
  | .dramWrite _ requester _ addr _ err => decide (requester < 8) && decide (addr < 2 ^ 37) && errOk err
  | .mergeFlush _ block err => decide (block < 2 ^ 31) && errOk err
  | .scrubRead _ block err => decide (block < 2 ^ 31) && errOk err
  | .journalCommit _ _ => true
  | .jProgram _ => true
  | .feedQclr _ mask => fits 4 mask
  | .registerWrite _ offset _ => decide (offset < 2 ^ 24)
  | .msixVectorUnmask _ vector => vector.all fun v => decide (v < 64)
  | .ptpMessage _ _ _ portState => fits 8 portState
  | .groupResumeInstant _ => true
  | .helloTimeout _ => true
  | .refReturn _ _ => true
  | .linkUp _ => true
  | .busMasterEnableSet _ => true
  | .d0Entry _ => true
  | .comparePulseEnd _ => true
  | .pulseEnd _ n => decide (n < 2)
  | .pieceComplete _ sub bank _ => decide (sub < 16) && decide (bank < 32)
  | .sectorEraseComplete _ => true
  | .helloBroadcast _ _ => true
  | .leadBroadcast _ => true
  | .watchdogRestart _ => true
  | .vstbyPowerUp _ => true
  | .vstbyLoss _ => true

end Sys2Proof
end

