-- ==== Sys2Proof/Safety.lean ====
section
/-! DEFINITION. What claims are stated in: the canonical form of the module's two memories and the bounds
of its mailboxes, when a mailbox command is at work and passes its checks, which commands can change the
engine state or the Dike limits, and what a step leaves unchanged. -/

namespace Sys2Proof.Machine
open Sys2Proof

/-! ## Invariants -/

/-- DRAM (14) and Polder's SRAM (05) are in their canonical form: equal contents are equal data. -/
def State.memWf (s : State) : Bool := s.dram.wf && sramWf s.pol.sram

/-- A mailbox within its registers (13 R403): GEN and DROPS fit their fields, and the replay cache holds at
most 64 results (R410). -/
def Mailbox.bounded (m : Mailbox) : Bool := decide (m.cache.length ≤ 64 ∧ m.gen < 2 ^ 16 ∧ m.drops < 2 ^ 16)

/-- The four mailboxes are within their registers. -/
def State.mbWf (s : State) : Bool := s.mb.length == 4 && s.mb.all Mailbox.bounded

/-! ## Mailbox commands -/

/-- A request of a row of the command set is at work with its copies in hand. -/
abbrev CmdSpec.AtWork (c : CmdSpec) (cur : Current) (s : State) : Prop :=
  s.cp.halted = false ∧ s.cp.current = some cur ∧ cur.req.opcode = c.opcode ∧ cur.phase = .ready

/-- The request is at work, and none of checks 4 to 9 of 13 R531 refuses it. -/
abbrev CmdSpec.Passes (c : CmdSpec) (cur : Current) (s : State) : Prop := c.AtWork cur s ∧ c.refusal cur.req s = none

/-- The row of a mailbox command that ends in its own step or goes to the background in it, and the state that
its checks see. SLEEP brings the level of WAKE_N with it. -/
def mailboxRow : Instr → State → Option (CmdSpec × State)
  | .reset t, s => some (specReset, s.atTime t)
  | .sleep t wakeN, s => some (specSleep, (s.atTime t).updEng fun e => { e with wakeN := wakeN })
  | .clearFault t, s => some (specClearFault, s.atTime t)
  | .roleSwap t, s => some (specRoleSwap, s.atTime t)
  | .twinTimeConfig t, s => some (specTwinTime, s.atTime t)
  | .timeStatus t, s => some (specTimeStatus, s.atTime t)
  | .faultConfig t, s => some (specFaultConfig, s.atTime t)
  | .faultInject t, s => some (specFaultInject, s.atTime t)
  | .cuffRetrain t, s => some (specCuffRetrain, s.atTime t)
  | .loadTable t, s => some (specLoadTable, s.atTime t)
  | .loomConfig t _, s => some (specLoomConfig, s.atTime t)
  | .polderConfig t, s => some (specPolderConfig, s.atTime t)
  | .shuttleConfig t, s => some (specShuttleConfig, s.atTime t)
  | .hemConfig t, s => some (specHemConfig, s.atTime t)
  | .cuffConfig t, s => some (specCuffConfig, s.atTime t)
  | .cacheConfig t, s => some (specCacheConfig, s.atTime t)
  | .slackConfig t, s => some (specSlackConfig, s.atTime t)
  | .dikeLimits t, s => some (specDikeLimits, s.atTime t)
  | .configDigest t, s => some (specConfigDigest, s.atTime t)
  | .setCellDir t, s => some (specSetCellDir, s.atTime t)
  | .jobStart t, s => some (specJobStart, s.atTime t)
  | .feed t, s => some (specFeed, s.atTime t)
  | .jobStatus t, s => some (specJobStatus, s.atTime t)
  | .jobEnd t, s => some (specJobEnd, s.atTime t)
  | .stripeStart t, s => some (specStripeStart, s.atTime t)
  | .stripePause t, s => some (specStripePause, s.atTime t)
  | .stripeResume t, s => some (specStripeResume, s.atTime t)
  | .stripeAbort t, s => some (specStripeAbort, s.atTime t)
  | .bandRetry t, s => some (specBandRetry, s.atTime t)
  | .cacheStats t, s => some (specCacheStats, s.atTime t)
  | .loomStats t, s => some (specLoomStats, s.atTime t)
  | .polderStatus t, s => some (specPolderStatus, s.atTime t)
  | .shuttleStatus t, s => some (specShuttleStatus, s.atTime t)
  | .hemStatus t, s => some (specHemStatus, s.atTime t)
  | .cuffStatus t, s => some (specCuffStatus, s.atTime t)
  | .slackStatus t, s => some (specSlackStatus, s.atTime t)
  | .feedConfig t, s => some (specFeedConfig, s.atTime t)
  | .probeSwitchConfig t, s => some (specProbeSwitch, s.atTime t)
  | .servoConfig t, s => some (specServoConfig, s.atTime t)
  | .axisEnable t, s => some (specAxisEnable, s.atTime t)
  | .axisDisable t, s => some (specAxisDisable, s.atTime t)
  | .move t, s => some (specMove, s.atTime t)
  | .home t, s => some (specHome, s.atTime t)
  | .stop t, s => some (specStop, s.atTime t)
  | .probeArm t, s => some (specProbeArm, s.atTime t)
  | .probeRead t, s => some (specProbeRead, s.atTime t)
  | .compareLoad t, s => some (specCompareLoad, s.atTime t)
  | .rereference t, s => some (specRereference, s.atTime t)
  | .rcClear t, s => some (specRcClear, s.atTime t)
  | .braceStatus t, s => some (specBraceStatus, s.atTime t)
  | .calibrate t, s => some (specCalibrate, s.atTime t)
  | .calConfig t, s => some (specCalConfig, s.atTime t)
  | .calStatus t, s => some (specCalStatus, s.atTime t)
  | .memFreq t, s => some (specMemFreq, s.atTime t)
  | .fwLoad t, s => some (specFwLoad, s.atTime t)
  | .fwSelect t, s => some (specFwSelect, s.atTime t)
  | .auditRead t, s => some (specAuditRead, s.atTime t)
  | .journalStatus t, s => some (specJournalStatus, s.atTime t)
  | .capture t, s => some (specCapture, s.atTime t)
  | .captureCancel t, s => some (specCaptureCancel, s.atTime t)
  | _, _ => none

/-! ## Faults -/

/-- A fault of this name and address, raised at this instant, waits for the arbiter, numbered or not yet. -/
def State.waits (s : State) (at' : Nat) (f : FaultName) (addr : Nat) : Prop :=
  ∃ r ∈ s.arb.faultQ, r.at' = at' ∧ r.name = f ∧ r.addr = addr % 2 ^ 48

/-! ## Whole-machine rules -/

/-- The commands in which the step count can go back: those that can enter Boot, where it starts at zero (07
R188), and PAIRING_COMPLETE, in which a standby takes the active twin's count over (11 R344). -/
def setsClock : Instr → Bool
  | .powerUp .. => true
  | .resetNRelease .. => true
  | .resetEntry .. => true
  | .pairingComplete .. => true
  | _ => false

/-- The commands that can carry an event of 01 Table ARCH-5, a reset or a copy of the peer's state (01 R35). A
message on Gusset can deliver those that wait behind it. -/
def mayChangeState : Instr → Bool
  | .powerUp .. => true
  | .resetNAssert .. => true
  | .resetNRelease .. => true
  | .resetEntry .. => true
  | .powerFailDetect .. => true
  | .dieTempSample .. => true
  | .bootComplete .. => true
  | .calAttemptEnd .. => true
  | .readyEntry .. => true
  | .slack .. => true
  | .faultAccept .. => true
  | .escalationTimeout .. => true
  | .watchdog .. => true
  | .sampleTick .. => true
  | .outputPhase .. => true
  | .flashIssue .. => true
  | .seamCauseAccept .. => true
  | .stripeBegin .. => true
  | .syncStartInstant .. => true
  | .gussetHello .. => true
  | .heartbeatSlot .. => true
  | .state .. => true
  | .stateEnd .. => true
  | .setpoint .. => true
  | .commit .. => true
  | .withdraw .. => true
  | .band .. => true
  | .digest .. => true
  | .check .. => true
  | .time .. => true
  | .gussetTakeover .. => true
  | .gusGap .. => true
  | .request .. => true
  | .order .. => true
  | .sleep .. => true
  | .clearFault .. => true
  | .stripePause .. => true
  | .stripeAbort .. => true
  | .calibrate .. => true
  | .vstbyLoss .. => true
  | _ => false

/-- The commands that lead through a reset, Boot or the loss of power, in which the Dike limits are loaded anew
(15 R462). -/
def reloadsLimits : Instr → Bool
  | .powerUp .. => true
  | .resetNAssert .. => true
  | .resetNRelease .. => true
  | .resetEntry .. => true
  | .powerFailDetect .. => true
  | .dieTempSample .. => true
  | .bootComplete .. => true
  | .vstbyLoss .. => true
  | .sleep .. => true
  | _ => false

end Sys2Proof.Machine
end

