-- ==== Sys2Proof/Certificates/Slice0/Obligations.lean ====
section
/-! DEFINITION. The claims about the block, one definition each: its queue of commands, the rules that hold of
every command, the mailboxes, and, family by family, what each command does and leaves alone. A next state is
given either whole, as a record update of the state at the command's instant, or by the parts that change and
an equation that says that nothing else does. -/

open Sys2Proof Sys2Proof.Machine

/-! ## The queue and the rules that hold of every command -/

/-- Every command is carried out as a step of the block: with a command at the front of the queue, the step is
that command's effect on the state with the rest of the queue. -/
def Obligations.StepRunsFront : Prop :=
  ∀ (c : Instr) (rest : List Instr) (s : State), step { s with pending := c :: rest } = exec c { s with pending := rest }

/-- No command stops the block: every command completes in every state with the queue as it was, and every step
answers a next state and takes exactly the front command off the queue. On an empty queue the block idles, which is the model's choice (log 2). -/
def Obligations.StepConsumesFront : Prop :=
  ∀ s : State, (∀ c : Instr, ∃ u, exec c s = .next u ∧ u.pending = s.pending) ∧
    (∃ u, step s = .next u ∧ u.pending = s.pending.tail) ∧ (s.pending = [] → step s = .next s)

/-- The state right after reset: the registers at the reset values of 18, and the queue empty. -/
def Obligations.ResetRegisters : Prop :=
  let s := State.reset
  s.readReg 0x00000 = some 0x51200042 ∧ s.eng.state = .boot ∧ s.readReg 0x00030 = some 0 ∧
  s.readReg 0x20004 = some 1 ∧ s.readReg 0x20008 = some 0 ∧ s.readReg 0x20014 = some 0 ∧ s.readReg 0x20018 = some 0 ∧
  s.readReg 0x2001C = some 0 ∧ s.readReg 0x30000 = some 0 ∧ s.readReg 0x30008 = some 0 ∧ s.readReg 0x30028 = some 0 ∧
  s.readReg 0x30030 = some 0 ∧ s.readReg 0x40018 = some 0x0500000000 ∧ s.readReg 0x50800 = some 0 ∧
  s.readReg 0x80000 = some 0 ∧ s.readReg 0xC0000 = some 0 ∧ s.readReg 0xC0010 = some 0 ∧ s.readReg 0xC0018 = some 0 ∧
  (∀ n < 4, s.readReg (0x1002C + 0x4000 * n) = some 0) ∧
  (∀ n < 32, s.readReg (0x20104 + 0x40 * n) = some 0 ∧ s.readReg (0x20100 + 0x40 * n) = some ((8 + n) * 256)) ∧
  (∀ v < 64, s.readReg (0x5000C + 0x10 * v) = some 1) ∧ s.pending = []

/-- The two memories and the mailboxes are within their invariants right after reset. -/
def Obligations.ResetInvariants : Prop := State.reset.memWf = true ∧ State.reset.mbWf = true

/-- Every step keeps the DRAM and Polder's SRAM in their canonical form, and the mailboxes within their registers:
four of them, GEN and DROPS of 16 bits, and replay caches of at most 64 results. -/
def Obligations.StepKeepsInvariants : Prop :=
  ∀ s u : State, step s = .next u → (s.memWf = true → u.memWf = true) ∧ (s.mbWf = true → u.mbWf = true)

/-- The step count of 07 R188 goes to the instant of a command and backward in none but the commands that can
enter Boot, where it starts at zero, and PAIRING_COMPLETE, in which a standby takes the active twin's count over
(11 R344). On the way the Gusset messages that wait are transmitted (log 52), and the time unit ticks once at every
multiple of 64 steps passed, adding INC in units of 2^-32 ns and, at the first tick, a pending TU_STEP (11 R361,
R362). With no message waiting nothing else changes. -/
def Obligations.TimeGoesForward : Prop :=
  (∀ (c : Instr) (s u : State), setsClock c = false → exec c s = .next u → s.now ≤ u.now) ∧
  (∀ (t : Nat) (s : State),
    (s.atTime t).now = max s.now t ∧
    (∃ tu, s.atTime t = { s.transmit with now := max s.now t, tu := tu }) ∧ s.transmit.twin.txQ = [] ∧
    (s.twin.txQ = [] → s.transmit = s) ∧
    (let k := max s.now t / 64 - s.now / 64
     let x := (s.tu.total : Int) + k * s.tu.inc + s.tu.step * 2 ^ 32
     (k = 0 → (s.atTime t).tu = s.tu) ∧
     (k ≠ 0 → 0 ≤ x →
       (s.atTime t).tu.step = 0 ∧ (s.atTime t).tu.inc = s.tu.inc ∧ (s.atTime t).tu.ns < 1000000000 ∧ (s.atTime t).tu.frac < 2 ^ 32 ∧
       (x < 2 ^ 48 * 1000000000 * 2 ^ 32 → ((s.atTime t).tu.total : Int) = x))))

/-- Only the commands that carry an event of 01 Table ARCH-5, a reset or a copy of the peer's state can change
the engine state: every other command leaves it as it is, in every state. -/
def Obligations.EngineStateChangesOnlyOnItsEvents : Prop :=
  ∀ (c : Instr) (s u : State), mayChangeState c = false → exec c s = .next u → u.eng.state = s.eng.state

/-- While DIKE_LOCK_N is not qualified high, no command but those that lead through a reset or Boot changes the
Dike limit block or the limits in force. -/
def Obligations.LockedDikeLimitsStay : Prop :=
  ∀ (c : Instr) (s u : State), reloadsLimits c = false → s.dike.lock ≠ some true → exec c s = .next u →
    u.dike.raw = s.dike.raw ∧ u.dike.fDike = s.dike.fDike ∧ u.dike.doseMax = s.dike.doseMax ∧ u.dike.wdMs = s.dike.wdMs ∧
    u.dike.restFu = s.dike.restFu ∧ u.dike.brakeMs = s.dike.brakeMs ∧ u.dike.lims = s.dike.lims

/-! ## Mailboxes (13) -/

/-- MB_DOORBELL at mailbox n (13 R404, R406): Free, the request is accepted (one arbiter event), the mailbox
goes to Executing with STATUS PENDING, RLEN 0, REPLAY 0 and GEN unchanged, and the copied request joins the
accepted ones, behind them but for those that higher mailboxes made at the same instant (R412); its opcode, PLEN and the first PLEN parameter bytes are those of the request slot. Not Free,
nothing in the mailbox changes but DROPS, and MB_DROP is raised. MB_ACK frees a Posted mailbox whose GEN it
names, and does nothing else. -/
def Obligations.DoorbellAndAck : Prop :=
  ∀ (t n : Nat) (m : Mailbox) (s : State), s.mb[n]? = some m →
    let s' := s.atTime t
    (m.state = .free →
      exec (.mbDoorbell t n) s = .next { s'.event (.request n) with
        mb := s'.mb.set n { m with state := .executing, rtag := (m.request n).tag, seq := (m.request n).seq, status := 1, replay := false, result := [] }
        cp := { s'.cp with accepted := queueRequest { m.request n with at' := s'.now } s'.cp.accepted } }) ∧
    ((∀ x ∈ s'.cp.accepted, x.at' = s'.now → x.mb ≤ n) →
      queueRequest { m.request n with at' := s'.now } s'.cp.accepted = s'.cp.accepted ++ [{ m.request n with at' := s'.now }]) ∧
    (∀ r l, ((queueRequest r l).filter fun x => x.at' != r.at') = l.filter fun x => x.at' != r.at') ∧
    (m.state ≠ .free →
      exec (.mbDoorbell t n) s = .next { s' with
        mb := s'.mb.set n { m with drops := min (m.drops + 1) 0xFFFF }
        arb := { s'.arb with faultQ := s'.arb.faultQ ++ [{ at' := s'.now, name := .mbDrop, addr := n * 2 ^ 40 % 2 ^ 48 }] } }) ∧
    ((m.request n).opcode = m.cmd.toNat % 2 ^ 16 ∧ (m.request n).plen = m.arg.toNat % 2 ^ 17 ∧ (m.request n).indirect = m.arg.toNat.testBit 31 ∧
      (m.arg.toNat.testBit 31 = false → ∀ k < m.arg.toNat % 2 ^ 17,
        (m.request n).params[k]? = some (BitVec.ofNat 8 ((sparseGet 0#64 m.params (k / 8)).toNat / 2 ^ (8 * (k % 8)))))) ∧
    (∀ gen < 2 ^ 16, exec (.mbAck t n gen) s = .next
      (if m.state = .posted ∧ m.gen = gen then { s' with mb := s'.mb.set n { m with state := .free } } else s'))

/-- RESULT_POST (13 R405, R406, R349 of 11): a held result that may be posted replaces the result slot in one
step, GEN goes up by one, the mailbox is Posted and vector 1 + n fires. A module that is not a Paired active
twin posts any result whose audit record is settled; a Paired active twin only once the standby has applied
the image that holds it. -/
def Obligations.ResultPosts : Prop :=
  ∀ (t n : Nat) (m : Mailbox) (c : Completion) (s : State),
    s.mb[n]? = some m → m.held = some c → m.state = .executing → c.auditFailed = false →
    let s' := s.atTime t
    (s'.mayPost c = true ↔ c.audit ≠ some false ∧
      (c.replay = true ∨ ¬(s.twin.pair = .paired ∧ s.twin.active = true) ∨ ∃ k, s.twin.applied = some k ∧ c.cycle ≤ k)) ∧
    (s'.mayPost c = true →
      exec (.resultPost t n) s = .next
        (State.vector (1 + n) { s' with mb := s'.mb.set n { m with
          state := .posted, status := c.status, replay := c.replay, seq := c.req.seq, rtag := c.req.tag, gen := (m.gen + 1) % 2 ^ 16
          result := c.head ++ c.body, held := none
          cache := if c.replay = true ∨ c.status = 5 ∨ c.status = 9 ∨ c.status = 8 then m.cache else (m.cache ++ [c.entry]).drop (m.cache.length + 1 - 64) } })) ∧
    (s'.mayPost c = false → exec (.resultPost t n) s = .next s')

/-- COMMAND_BEGIN takes the oldest accepted request up once the control processor is free. A request whose
parameters are inline meets checks 2 to 9 at once; an indirect one waits for the copy of its parameters, and
COMMAND_COPY_DONE, which needs a Sluice that is not halted, gives it their first PLEN bytes. A replayed request
(13 R410) and an unknown opcode end at once. -/
def Obligations.CommandsAreTakenUp : Prop :=
  (∀ (t : Nat) (r : Request) (rest : List Request) (s : State),
    s.cp.accepted = r :: rest → s.cp.halted = false → s.cp.current = none → s.eng.inReset = false → s.eng.state ≠ .sleep →
    s.eng.state ≠ .boot → s.eng.relMajor ≠ 0 →
    let s' := (s.atTime t).updCp fun cp => { cp with accepted := rest }
    (r.indirect = false → exec (.commandBegin t) s = .next (s'.takeUp r)) ∧
    (r.indirect = true → s.sl.halted = false →
      exec (.commandBegin t) s = .next { s' with cp := { s'.cp with current := some { req := r, phase := .copyParams } } })) ∧
  (∀ (t : Nat) (data : List Byte) (cur : Current) (s : State), s.cp.current = some cur → s.sl.halted = false → s.cp.halted = false →
    let s' := s.atTime t
    (cur.phase = .copyParams → exec (.commandCopyDone t data) s = .next (s'.takeUp { cur.req with params := data.take cur.req.plen })) ∧
    (cur.phase = .copyData →
      exec (.commandCopyDone t data) s = .next { s' with cp := { s'.cp with current := some { cur with phase := .ready, data := data } } })) ∧
  (∀ (r : Request) (s : State),
    (∀ e, s.cached r = some e → e.opcode = r.opcode → e.digest.toNat = crc64 r.opcode r.params →
      s.takeUp r = { s with
        mb := listUpd s.mb r.mb fun m => { m with held := some { req := r, status := e.status, head := e.result.take 16, body := e.result.drop 16, cycle := s.br.cycle, time := s.now, replay := true } }
        cp := { s.cp with current := none } }) ∧
    (∀ e, s.cached r = some e → ¬(e.opcode = r.opcode ∧ e.digest.toNat = crc64 r.opcode r.params) →
      s.takeUp r = ((s.setCurrent { req := r, phase := .ready }).raise .seqConflict (r.mb * 2 ^ 40 + r.tag)).complete r false 9 none []) ∧
    (s.cached r = none → specOf r.opcode = none → s.takeUp r = (s.setCurrent { req := r, phase := .ready }).complete r false 2 none []) ∧
    (∀ c st, s.cached r = none → specOf r.opcode = some c → c.refusal r (s.setCurrent { req := r, phase := .ready }) = some st →
      s.takeUp r = (s.setCurrent { req := r, phase := .ready }).complete r c.audited st none []) ∧
    (∀ c, s.cached r = none → specOf r.opcode = some c → c.refusal r (s.setCurrent { req := r, phase := .ready }) = none → c.copies = 0 →
      s.takeUp r = s.setCurrent { req := r, phase := .ready }))

/-- The order of the refusals (13 R531, checks 4 to 9), by their statuses: NOT_ACTIVE, then BAD_PARAM for PLEN,
then BAD_STATE, then LOCKED, then BAD_PARAM for a field, then BUSY; and a status command is refused by none
but PLEN, a reserved bit of its block, and Sleep (13 R417). -/
def Obligations.RefusalOrder : Prop :=
  ∀ (c : CmdSpec) (r : Request) (s : State),
    (s.standby = true → c.standby = false → c.status = false → c.refusal r s = some 5) ∧
    ((s.standby = false ∨ c.standby = true ∨ c.status = true) →
      (r.plen ≠ c.plen → c.refusal r s = some 3) ∧
      (r.plen = c.plen →
        (c.status = false → (groupServed s.eng.state (c.opcode / 256) = false ∨ c.stateOk r s = false) → c.refusal r s = some 4) ∧
        (c.status = false → groupServed s.eng.state (c.opcode / 256) = true → c.stateOk r s = true →
          (c.locked s = true → c.refusal r s = some 10) ∧
          (c.locked s = false → c.fieldsOk r s = false → c.refusal r s = some 3) ∧
          (c.locked s = false → c.fieldsOk r s = true → c.busy r s = true → c.refusal r s = some 6) ∧
          (c.locked s = false → c.fieldsOk r s = true → c.busy r s = false → c.refusal r s = none)) ∧
        (c.status = true → s.eng.state ≠ .sleep → c.locked s = false → c.busy r s = false →
          (c.refusal r s = none ↔ fld r.params 0 8 ≤ 1) ∧ (1 < fld r.params 0 8 → c.refusal r s = some 3))))

/-- A request of any mailbox command that is at work and that a check refuses ends with that status and no
body, and changes nothing else; a step of a command that is not at work changes nothing. -/
def Obligations.RefusedCommandsOnlyReport : Prop :=
  ∀ (i : Instr) (c : CmdSpec) (s s' : State) (cur : Current), mailboxRow i s = some (c, s') →
    (∀ st, c.AtWork cur s' → c.refusal cur.req s' = some st → exec i s = .next (s'.complete cur.req c.audited st none [])) ∧
    ((∀ k, ¬ c.AtWork k s') → exec i s = .next s')

/-- The end of a command (13 R412 to R415): one arbiter event, behind the waiting faults that come before the
mailboxes (01 R37), whose sequence heads the result with the fault named or zeros; the result is held in the request's mailbox; the control processor lets the request go; and
a record of 48 bytes joins the journal's queue when the command and its status are audited. -/
def Obligations.CompletionRecord : Prop :=
  ∀ (r : Request) (audited : Bool) (st : Nat) (fault : Option (FaultName × Nat)) (body : List Byte) (s : State),
    let u := s.complete r audited st fault body
    let audit : Bool := audited && (st == 0 || st == 3 || st == 4 || st == 6 || st == 7 || st == 10)
    let head := leBytes 8 (s.seqFor 12) ++ (match fault with
      | none => List.replicate 8 0
      | some (f, addr) => leBytes 1 f.source ++ leBytes 1 f.kind ++ leBytes 6 addr)
    u.mb = listUpd s.mb r.mb (fun m => { m with held := some { req := r, status := st, head := head, body := body, cycle := s.br.cycle, time := s.now, audit := if audit then some false else none } }) ∧
    (∀ cur, s.cp.current = some cur → cur.req.mb = r.mb → u.cp.current = none) ∧
    (∀ k ∈ u.cp.bg, k.req.mb ≠ r.mb) ∧
    s.arb.seq ≤ s.seqFor 12 ∧ (s.arb.faultQ = [] → s.seqFor 12 = s.arb.seq) ∧
    (audit = false → u.arb = (s.event (.completion r.mb)).arb ∧ u.jr = s.jr) ∧
    (audit = true → s.jr.powerFail = false → u.arb = ((s.event (.completion r.mb)).event (.append 4 0)).arb ∧
      ∃ rec, u.jr = { s.jr with queue := s.jr.queue ++ [{ type := 4, key := 0, body := rec, mb := some r.mb }] } ∧
        rec.length = 48 ∧ fld rec 0 8 = s.seqFor 12 % 2 ^ 64 ∧ fld rec 16 4 = s.tu.ns % 2 ^ 32 ∧ fld rec 22 2 = r.opcode % 2 ^ 16 ∧ fld rec 24 4 = r.tag % 2 ^ 32 ∧
        fld rec 30 1 = st % 256 ∧ fld rec 40 8 = r.digest) ∧
    u = { s with arb := u.arb, mb := u.mb, cp := u.cp, jr := u.jr }

/-! ## Status commands (13 R417) -/

/-- CACHE_STATS, LOOM_STATS, SHUTTLE_STATUS, HEM_STATUS and CUFF_STATUS (Tables CACHE-5, LOOM-6, SHUTTLE-6,
HEM-8, CUFF-11): each counter is a u64, least significant byte first, in the order of its table and no more
than 2^64 - 1; CLEAR zeroes the counters once they are in the result, and nothing else changes. -/
def Obligations.StatusCounters : Prop :=
  ∀ (t : Nat) (cur : Current) (s : State),
    let s' := s.atTime t
    let clear := fld cur.req.params 0 1 = 1
    (specCacheStats.Passes cur s' → ∃ body, exec (.cacheStats t) s =
        .next (specCacheStats.done cur.req body (if clear then { s' with cc := { s'.cc with stats := {} } } else s')) ∧
      body.length = 112 ∧ ∀ k < 14, fld body (8 * k) 8 = min ([s.cc.stats.lookups, s.cc.stats.hits, s.cc.stats.demandFetches,
        s.cc.stats.prefetches, s.cc.stats.prefetchUnused, s.cc.stats.evictions, s.cc.stats.storedBytes, s.cc.stats.decodedBytes,
        s.cc.stats.retries, s.cc.stats.badCells, s.cc.stats.pinDrops, (s.cc.used.filter fun k => !(s.pageCells k).isEmpty).length, s.cc.stats.pinnedPeak, s.cc.stats.loomWaitNs].getD k 0) (2 ^ 64 - 1)) ∧
    (specLoomStats.Passes cur s' → ∃ body, exec (.loomStats t) s =
        .next (specLoomStats.done cur.req body (if clear then { s' with loom := { s'.loom with stats := {} } } else s')) ∧
      body.length = 112 ∧ fld body 80 32 = s.loom.inService.toNat ∧
      ∀ k < 10, fld body (8 * k) 8 = min ([s.loom.stats.renders, s.loom.stats.restarts, s.loom.stats.tiles, s.loom.stats.instanceTests,
        s.loom.stats.rowSteps, s.loom.stats.overcoverBands, s.loom.stats.overcoverPairs, s.loom.stats.unitBusyNs, unitCount s.loom.inService,
        s.loom.stats.binRefsPeak].getD k 0) (2 ^ 64 - 1)) ∧
    (specShuttleStatus.Passes cur s' → ∃ body, exec (.shuttleStatus t) s =
        .next (specShuttleStatus.done cur.req body (if clear then { s' with sh := { s'.sh with stats := {} } } else s')) ∧
      body.length = 64 ∧ ∀ k < 8, fld body (8 * k) 8 = min ([s.sh.stats.flashes, s.sh.stats.withdrawn, s.sh.stats.late, s.sh.stats.clamped,
        s.sh.stats.unavailable, s.sh.stats.tableVoid, s.sh.stats.eccCorrected, s.sh.stats.wMaxNs].getD k 0) (2 ^ 64 - 1)) ∧
    (specHemStatus.Passes cur s' → ∃ body, exec (.hemStatus t) s =
        .next (specHemStatus.done cur.req body (if clear then { s' with hem := { s'.hem with stats := {} } } else s')) ∧
      body.length = 112 ∧ ∀ k < 14, fld body (8 * k) 8 = min ([s.hem.stats.issued, s.hem.stats.withdrawn, s.hem.stats.delayed,
        s.hem.stats.delayMaxFu, s.hem.stats.eyMaxFu, s.hem.stats.heldEntries, s.hem.stats.seams, s.hem.stats.tgoodDrops, s.hem.stats.peerEdges,
        s.hem.stats.shadowDiffs, s.hem.stats.edgeLate, s'.fCeil, if s.hem.stripe.isSome then s.hem.fRun else 0,
        s.hem.mHw.getD (2 ^ 64 - 1)].getD k 0) (2 ^ 64 - 1)) ∧
    (specCuffStatus.Passes cur s' → ∃ body, exec (.cuffStatus t) s =
        .next (specCuffStatus.done cur.req body (if clear then { s' with cf := { s'.cf with stats := {} } } else s')) ∧
      body.length = 104 ∧ ∀ k < 13, fld body (8 * k) 8 = min ([s.cf.stats.dataFrames, s.cf.stats.voidFrames, s.cf.stats.withdrawEvents,
        s.cf.stats.remaps, s.cf.stats.rxMissing, s.cf.stats.rxCompare, s.cf.stats.rxUncompared, s.cf.stats.rxSwitch, s.cf.stats.rxLate,
        s.cf.stats.uncorrCodewords, s.cf.stats.corrSymbols, s.cf.stats.retBad, s.cf.stats.asmWMaxNs].getD k 0) (2 ^ 64 - 1))

/-- POLDER_STATUS, TIME_STATUS, CONFIG_DIGEST, SLACK_STATUS, JOB_STATUS and BRACE_STATUS: the values of their
bodies at their offsets (Table POLDER-5; Tables MBOX-4 to MBOX-6; Table BRACE-12's two counters that CLEAR zeroes). -/
def Obligations.StatusValues : Prop :=
  ∀ (t : Nat) (cur : Current) (s : State),
    let s' := s.atTime t
    let clear := fld cur.req.params 0 1 = 1
    (specPolderStatus.Passes cur s' → ∃ body, exec (.polderStatus t) s =
        .next (specPolderStatus.done cur.req body (if clear then { s' with pol := { s'.pol with stats := {} } } else s')) ∧
      body.length = 72 ∧ (∀ k < 7, fld body (8 * k) 8 = min ([s.pol.stats.releases, s.pol.stats.reweaves, s.pol.stats.bandFaults,
        s.pol.stats.eccCorrected, s.pol.stats.eccUncorrectable, s.pol.stats.voidFlashes, s.pol.stats.reportsDropped].getD k 0) (2 ^ 64 - 1)) ∧
      (s.pol.stats.leadMin = none → fld body 56 8 = 2 ^ 64 - 1) ∧
      (∀ d : Int, s.pol.stats.leadMin = some d → -2 ^ 63 ≤ d → d < 2 ^ 63 → sfld body 56 8 = d) ∧
      fld body 64 8 = min (s.bands.countP fun b => b.polder == .released && !s.footReached (b.band * s.bandRows)) (2 ^ 64 - 1)) ∧
    (specTimeStatus.Passes cur s' → ∃ body, exec (.timeStatus t) s = .next (specTimeStatus.done cur.req body s') ∧
      body.length = 32 ∧ fld body 0 8 = (s'.tu.gmOffset % 2 ^ 64).toNat ∧ fld body 8 8 = (s'.tu.pathDelay % 2 ^ 64).toNat ∧
      fld body 16 1 = s'.tu.portState % 256 ∧ fld body 18 6 = 0 ∧ fld body 24 8 = (s'.tu.ringOffset % 2 ^ 64).toNat ∧
      (s.twin.active = false → fld body 17 1 = 2) ∧
      (s.twin.active = true → (∃ l, s.ring.leader = some l ∧ l / 2 ≠ s.eng.pairId) → fld body 17 1 = 1)) ∧
    (specConfigDigest.Passes cur s' → ∃ body, exec (.configDigest t) s = .next (specConfigDigest.done cur.req body s') ∧
      body.length = 16 ∧ fld body 0 8 = crc64 3 s'.digestBytes ∧
      (∀ w, s.twin.peerDigest = some w → fld body 8 8 = w.toNat) ∧ (s.twin.peerDigest = none → fld body 8 8 = 0)) ∧
    (specSlackStatus.Passes cur s' → ∃ body, exec (.slackStatus t) s = .next (specSlackStatus.done cur.req body s') ∧
      body.length = 16 ∧ fld body 0 4 = s'.ownSlack % 2 ^ 32 ∧ fld body 4 4 = s'.fPair % 2 ^ 32 ∧ fld body 8 4 = s.slack.wMax % 2 ^ 32 ∧
      fld body 12 1 = s.slack.g % 256 ∧ fld body 13 3 = 0) ∧
    (specJobStatus.Passes cur s' → ∃ body, exec (.jobStatus t) s = .next (specJobStatus.done cur.req body s') ∧
      body.length = 40 ∧ fld body 34 1 = s.job.isSome.toNat ∧ fld body 35 5 = 0 ∧
      (∀ st, s.hem.stripe = some st → fld body 32 2 = st.stripe % 2 ^ 16) ∧ (s.hem.stripe = none → fld body 32 2 = 0xFFFF) ∧
      (∀ j, s.job = some j → fld body 0 8 = min j.hdr.jobTag (2 ^ 64 - 1) ∧ fld body 8 8 = min j.feedLimit (2 ^ 64 - 1) ∧
        fld body 16 8 = min (s'.releaseOffset j) (2 ^ 64 - 1) ∧ fld body 24 8 = min j.stagedUsed (2 ^ 64 - 1)) ∧
      (s.job = none → fld body 0 32 = 0)) ∧
    (specBraceStatus.Passes cur s' → ∃ body, exec (.braceStatus t) s =
        .next (specBraceStatus.done cur.req body
          (if clear then { s' with br := { s'.br with axes := s'.br.axes.map fun x => { x with misses := 0, ferrEvents := 0 } } } else s')) ∧
      body.length = 32 * s.br.axes.length ∧
      ∀ (a : Nat) (x : Axis), s.br.axes[a]? = some x → fld body (32 * a) 8 = (x.e % 2 ^ 64).toNat ∧ fld body (32 * a + 8) 4 = (x.out % 2 ^ 32).toNat ∧
        fld body (32 * a + 12) 4 = 0 ∧ fld body (32 * a + 24) 4 = x.misses % 2 ^ 32 ∧ fld body (32 * a + 28) 4 = x.ferrEvents % 2 ^ 32)

/-- CAL_STATUS and JOURNAL_STATUS: opcode 0x0503 and 0x0604 with the 8-byte status block, their bodies of 72
and 64 bytes, field by field (16 Tables STORE-3 and STORE-7), and what CLEAR zeroes. -/
def Obligations.StoreStatus : Prop :=
  specCalStatus.opcode = 0x0503 ∧ specCalStatus.plen = 8 ∧ specCalStatus.status = true ∧
  specJournalStatus.opcode = 0x0604 ∧ specJournalStatus.plen = 8 ∧ specJournalStatus.status = true ∧
  ∀ (t : Nat) (cur : Current) (s : State),
    let s' := s.atTime t
    let clear := fld cur.req.params 0 1 = 1
    (specCalStatus.Passes cur s' → ∃ body, exec (.calStatus t) s =
        .next (specCalStatus.done cur.req body
          (if clear then { s' with cal := { s'.cal with outs := s'.cal.outs.map fun o => { o with swaps := 0, failures := 0 } } } else s')) ∧
      body.length = 72 ∧ fld body 64 2 = (s.eng.tCore % 2 ^ 16).toNat ∧ fld body 66 6 = 0 ∧
      ∀ n < 2,
        let o := s.cal.outs.getD n {}
        let b := o.banks.getD o.active {}
        fld body (32 * n) 1 = o.active % 256 ∧
        fld body (32 * n + 1) 1 = (if s.cal.mode ≠ .none then 1 else if s.cal.swapReady = true then 2 else 0) ∧
        fld body (32 * n + 2) 2 = (b.tCal % 2 ^ 16).toNat ∧ fld body (32 * n + 4) 2 = b.errMax % 2 ^ 16 ∧ fld body (32 * n + 6) 2 = 0 ∧
        fld body (32 * n + 8) 8 = min o.swaps (2 ^ 64 - 1) ∧ fld body (32 * n + 16) 8 = min o.failures (2 ^ 64 - 1) ∧
        fld body (32 * n + 24) 8 = min b.selected (2 ^ 64 - 1)) ∧
    (specJournalStatus.Passes cur s' → ∃ body, exec (.journalStatus t) s =
        .next (specJournalStatus.done cur.req body (if clear then { s' with jr := { s'.jr with compactions := 0, errors := 0 } } else s')) ∧
      body.length = 64 ∧ fld body 0 1 = s.jr.active % 256 ∧ fld body 1 1 = s.jr.running % 256 ∧ fld body 2 1 = s.jr.selected % 256 ∧
      fld body 3 1 = (s.jr.slotValid 0).toNat + 2 * (s.jr.slotValid 1).toNat ∧ fld body 4 4 = 0 ∧
      fld body 8 8 = min s.jr.activeBasin.generation (2 ^ 64 - 1) ∧ fld body 16 8 = min s.jr.activeBasin.append (2 ^ 64 - 1) ∧
      fld body 24 8 = min ((s.jr.activeBasin.good.map (·.jseq)).foldl max 0) (2 ^ 64 - 1) ∧
      fld body 32 4 = s.jr.audits.length % 2 ^ 32 ∧ fld body 36 4 = (s.jr.audits.countP (s.jr.mark < ·.jseq)) % 2 ^ 32 ∧
      fld body 40 8 = min s.jr.compactions (2 ^ 64 - 1) ∧ fld body 48 8 = min s.jr.errors (2 ^ 64 - 1) ∧
      ∀ k < 2, fld body (56 + 4 * k) 4 = (if (s.jr.slots.getD k {}).imageOk = true then (s.jr.slots.getD k {}).build else 0) % 2 ^ 32)

/-! ## Configuration commands -/

/-- SLACK_CONFIG (01 R30): a request that is at work in Ready with no stripe open sets the guard when it names
one from 8 to 64, with the rest of the block zero, and is refused with BAD_PARAM, the guard kept, for every
other; a request refused for any other reason keeps the guard as well. -/
def Obligations.SlackGuard : Prop :=
  ∀ (t : Nat) (cur : Current) (s : State), specSlackConfig.AtWork cur (s.atTime t) →
    let s' := s.atTime t
    let g := fld cur.req.params 0 1
    (cur.req.plen = 8 → s.eng.state = .ready → s.hem.stripe = none → fld cur.req.params 1 7 = 0 → 8 ≤ g → g ≤ 64 →
      exec (.slackConfig t) s = .next (specSlackConfig.done cur.req [] { s' with slack := { s'.slack with g := g } })) ∧
    (cur.req.plen = 8 → s.eng.state = .ready → s.hem.stripe = none → g < 8 ∨ 64 < g →
      exec (.slackConfig t) s = .next (s'.complete cur.req true 3 none []) ∧ (s'.complete cur.req true 3 none []).slack = s.slack) ∧
    (∀ u, exec (.slackConfig t) s = .next u → u.slack.g = s.slack.g ∨ (u.slack.g = g ∧ 8 ≤ g ∧ g ≤ 64))

/-- LOOM_CONFIG, POLDER_CONFIG, SHUTTLE_CONFIG, HEM_CONFIG, CUFF_CONFIG and CACHE_CONFIG that no check refuses:
their fields from the block, field by field, and nothing else but a CHECK message to a peer when the
configuration digest changed. LOOM_CONFIG takes a unit out of service that its mask clears, and lets one that
was out of service return only if its self-test passes. A cache of another size is empty. -/
def Obligations.EngineConfigs : Prop :=
  ∀ (t : Nat) (cur : Current) (s : State),
    let s' := s.atTime t
    let p := cur.req.params
    (∀ a b : State, a.digestBytes = b.digestBytes → State.digestChanged a b = b) ∧
    (∀ a b : State, a.digestBytes ≠ b.digestBytes → b.twin.pair ≠ .alone →
      State.digestChanged a b = b.sendGusset (.check 3 (BitVec.ofNat 64 (crc64 3 b.digestBytes)))) ∧
    (∀ selfTest : BitVec 256, specLoomConfig.Passes cur s' → ∃ u,
      exec (.loomConfig t selfTest) s = .next (specLoomConfig.done cur.req [] (State.digestChanged s' u)) ∧
      u.loom.overMode = fld p 0 1 ∧ u.loom.unitFloor = fld p 2 2 ∧ u.loom.raw = p ∧ u.loom.unitEnable = BitVec.ofNat 256 (fld p 8 32) ∧
      u.loom.inService = BitVec.ofNat 256 (fld p 8 32) &&& (s.loom.inService ||| selfTest) ∧ u.loom.stats = s.loom.stats ∧
      u = { s' with loom := u.loom, arb := { s'.arb with faultQ := u.arb.faultQ }, bands := u.bands }) ∧
    (specPolderConfig.Passes cur s' → exec (.polderConfig t) s = .next (specPolderConfig.done cur.req [] (State.digestChanged s'
      { s' with pol := { s'.pol with reportRing := fld p 0 1, reportMask := fld p 1 1, coverMode := fld p 2 1 } }))) ∧
    (specShuttleConfig.Passes cur s' → exec (.shuttleConfig t) s = .next (specShuttleConfig.done cur.req [] (State.digestChanged s'
      { s' with sh := { s'.sh with deflMode := fld p 0 1, yawEnable := fld p 1 1, standinEnable := fld p 2 1 } }))) ∧
    (specHemConfig.Passes cur s' → exec (.hemConfig t) s = .next (specHemConfig.done cur.req [] (State.digestChanged s'
      { s' with hem := { s'.hem with cfg := { ka := fld p 0 4, kb := fld p 4 4, kp := fld p 8 4, ki := fld p 12 4, lockLimit := fld p 16 2, gateTol := fld p 18 2, rateTol := fld p 20 2, w0 := fld p 22 2, heldDepth := fld p 24 4, heldTime := fld p 28 4, t0 := sfld p 32 2, v0 := fld p 34 2, aT := sfld p 36 4, aV := sfld p 40 4, telemStale := fld p 44 2, resumeTries := fld p 46 1 } } }))) ∧
    (specCuffConfig.Passes cur s' → exec (.cuffConfig t) s = .next (specCuffConfig.done cur.req []
      { s' with cf := { s'.cf with precode := BitVec.ofNat 72 (fld p 0 9), ffePre := sfld p 9 1, ffeMain := fld p 10 1, ffePost := sfld p 11 1, autoRemap := fld p 12 1, statusInterval := fld p 13 1 } })) ∧
    (specCacheConfig.Passes cur s' →
      (fld p 0 1 * 2 ^ 30 + dirRegion s.cc.dirEntries ≤ 120 * 2 ^ 30 → fld p 0 1 = s.cc.sizeGib →
        exec (.cacheConfig t) s = .next (specCacheConfig.done cur.req [] { s' with cc := { s'.cc with horizon := fld p 1 1 } })) ∧
      (fld p 0 1 * 2 ^ 30 + dirRegion s.cc.dirEntries ≤ 120 * 2 ^ 30 → fld p 0 1 ≠ s.cc.sizeGib → ∃ u,
        exec (.cacheConfig t) s = .next (specCacheConfig.done cur.req [] u) ∧ u = { s' with cc := u.cc } ∧
        u.cc.sizeGib = fld p 0 1 ∧ u.cc.horizon = fld p 1 1 ∧ u.cc.used = [] ∧ u.cc.dir = s.cc.dir ∧ ∀ c ∈ u.cc.cells, c.held = false) ∧
      (120 * 2 ^ 30 < fld p 0 1 * 2 ^ 30 + dirRegion s.cc.dirEntries →
        exec (.cacheConfig t) s = .next ((s'.raise .dirSpace 0).complete cur.req true 7 (some (.dirSpace, 0)) [])))

/-- FAULT_CONFIG, FAULT_INJECT, DIKE_LIMITS, TWIN_TIME_CONFIG and CAL_CONFIG that no check refuses: what each
field of their blocks sets; the Dike and calibration blocks also go to the journal store. FAULT_CONFIG keeps
every source's stage and timer (15 R457); a block that gives source 0x02 an escalation time, or any source a
reaction above its ceiling, is refused with BAD_PARAM, and nothing of it takes effect. -/
def Obligations.FaultAndTimeConfigs : Prop :=
  ∀ (t : Nat) (cur : Current) (s : State),
    let s' := s.atTime t
    let p := cur.req.params
    (specFaultConfig.Passes cur s' → ∃ u, exec (.faultConfig t) s = .next (specFaultConfig.done cur.req [] u) ∧
      u = { s' with fc := { s'.fc with cfg := u.fc.cfg, overrides := u.fc.overrides } } ∧
      (∀ i < 16, u.fc.cfg[i]? = some { reaction := fld p (8 * i) 1, ceiling := fld p (8 * i + 1) 1, escUs := fld p (8 * i + 2) 2 }) ∧
      (∀ x, x ∈ u.fc.overrides ↔ ∃ i < 32, x = (fld p (128 + 4 * i) 1, fld p (129 + 4 * i) 1, fld p (130 + 4 * i) 1) ∧ x.1 ≠ 0)) ∧
    (specFaultConfig.AtWork cur s' → cur.req.plen = 256 → s.eng.state ≠ .sleep →
      (fld p 10 2 ≠ 0 ∨ (∃ i < 16, fld p (8 * i + 1) 1 < fld p (8 * i) 1)) →
      exec (.faultConfig t) s = .next (s'.complete cur.req true 3 none []) ∧ (s'.complete cur.req true 3 none []).fc = s.fc) ∧
    (specFaultInject.Passes cur s' → exec (.faultInject t) s = .next (specFaultInject.done cur.req []
      { s' with fc := { s'.fc with inject := listUpd s'.fc.inject (fld p 0 1 - 1) fun _ => { count := fld p 2 2, unit := if fld p 0 1 ∈ [4, 5, 7, 8, 9, 10, 11, 12, 13, 14] then fld p 4 2 else 0xFFFF, mask := fld p 8 16 } } })) ∧
    (specDikeLimits.Passes cur s' → s.jr.powerFail = false → ∃ u,
      exec (.dikeLimits t) s = .next (specDikeLimits.done cur.req [] (State.digestChanged s' u)) ∧
      u = { s' with dike := u.dike, jr := u.jr, arb := (s'.event (.append 2 1)).arb } ∧
      u.jr = { s.jr with queue := s.jr.queue ++ [{ type := 2, key := 1, body := p }] } ∧
      u.dike.raw = p ∧ u.dike.fDike = fld p 0 4 ∧ u.dike.doseMax = fld p 4 2 ∧ u.dike.wdMs = fld p 6 2 ∧ u.dike.lims.length = 8 ∧
      u.dike.lock = s.dike.lock ∧ u.dike.axes = s.dike.axes ∧ u.dike.wdDeadline = s.dike.wdDeadline ∧
      ∀ a < 8, ∃ l, u.dike.lims[a]? = some l ∧ l.vLim = fld p (16 + 64 * a) 8 ∧ l.aLim = fld p (24 + 64 * a) 8 ∧ l.jLim = fld p (32 + 64 * a) 8) ∧
    (specTwinTime.Passes cur s' → ∃ u, exec (.twinTimeConfig t) s = .next (specTwinTime.done cur.req [] u) ∧
      u = { s' with twin := { s'.twin with cfg := u.twin.cfg }, ring := u.ring } ∧
      u.twin.cfg = { raw := p, peerComp := sfld p 0 2, ptpEnable := fld p 2 1, ptpDelay := fld p 3 1, ptpTransport := fld p 4 1, ptpDomain := fld p 5 1, ringEnable := fld p 6 1, holdGroup := fld p 7 1, ipv4 := fld p 8 4 } ∧
      (fld p 6 1 ≠ 0 → u.ring = s.ring) ∧ (fld p 6 1 = 0 → u.ring.leader = none ∧ u.ring.sync = none ∧ u.ring.txMseq = s.ring.txMseq)) ∧
    (specCalConfig.Passes cur s' → s.jr.powerFail = false → ∃ u,
      exec (.calConfig t) s = .next (specCalConfig.done cur.req [] u) ∧
      u = { s' with cal := u.cal, jr := { s'.jr with queue := s'.jr.queue ++ [{ type := 2, key := 2, body := p }] }, arb := (s'.event (.append 2 2)).arb } ∧
      u.cal = { s.cal with drift := fld p 0 2, stale := fld p 2 2, tol := fld p 4 2, auto := fld p 6 1 })

/-- FEED_CONFIG, PROBE_SWITCH_CONFIG and SERVO_CONFIG that no check refuses: the channel map, each source's,
probe's, switch set's and axis's fields; a disabled source is Off without a sample, a disabled axis is Off;
the axes of a servo block that stay enabled keep their state; limits beyond Dike's refuse the block with
TRAJ_LIMITS. -/
def Obligations.MotionConfigs : Prop :=
  ∀ (t : Nat) (cur : Current) (s : State), s.feed.srcs.length = 16 → s.feed.probes.length = 2 → s.feed.sets.length = 4 →
    s.br.axes.length = 8 →
    let s' := s.atTime t
    let p := cur.req.params
    (specFeedConfig.Passes cur s' → ∃ u, exec (.feedConfig t) s = .next (specFeedConfig.done cur.req [] u) ∧
      u = { s' with feed := { s'.feed with srcs := u.feed.srcs, map := u.feed.map } } ∧
      u.feed.map = { scan := fld p 512 1, cross := fld p 513 1, yawA := fld p 514 1, yawB := fld p 515 1, yawK := fld p 516 4, yawZero := sfld p 520 8 } ∧
      ∀ n < 16, ∃ c, u.feed.srcs[n]? = some c ∧ c.cfg = parseSrc (p.drop (32 * n)) ∧
        (fld p (32 * n) 1 ≠ 1 → c.state = .off ∧ c.y = none) ∧
        (fld p (32 * n) 1 = 1 → (s.feed.srcs.getD n {}).state ≠ .off → c.state = (s.feed.srcs.getD n {}).state)) ∧
    (specProbeSwitch.Passes cur s' → ∃ u, exec (.probeSwitchConfig t) s = .next (specProbeSwitch.done cur.req [] u) ∧
      u = { s' with feed := { s'.feed with probes := u.feed.probes, sets := u.feed.sets, sw := u.feed.sw } } ∧
      (∀ n < 2, ∃ q, u.feed.probes[n]? = some q ∧ q.edge = fld p (8 * n) 1 ∧ q.mode = fld p (8 * n + 1) 1 ∧ q.pf = fld p (8 * n + 2) 1 ∧
        q.mask = fld p (8 * n + 4) 2 ∧ q.buf = (s.feed.probes.getD n {}).buf) ∧
      (∀ n < 4, u.feed.sets[n]? = some { src := fld p (16 + 8 * n) 1, polarity := fld p (17 + 8 * n) 1, filter := fld p (18 + 8 * n) 2, hyst := fld p (20 + 8 * n) 4 })) ∧
    (specServoConfig.Passes cur s' →
      (s'.trajLimits p = none → ∃ u, exec (.servoConfig t) s = .next (specServoConfig.done cur.req [] (State.digestChanged s' u)) ∧
        u = { s' with br := { s'.br with g := u.br.g, axes := u.br.axes }, dike := { s'.dike with axes := u.dike.axes } } ∧
        u.br.g = { cycUs := fld p 0 1, scanAxis := fld p 1 1, crossAxis := fld p 2 1, shadowN := fld p 3 1, outPhase := fld p 4 4, deflK0 := sfld p 8 4, deflK1 := sfld p 12 4, shadowTol := fld p 16 4 } ∧
        ∀ a < 8, ∃ x, u.br.axes[a]? = some x ∧ x.cfg = parseAxis (p.drop (32 + 464 * a)) ∧
          (fld p (32 + 464 * a) 1 ≠ 1 → x.state = .off) ∧ (fld p (32 + 464 * a) 1 = 1 → x.state = (s.br.axes.getD a {}).state)) ∧
      (∀ a, s'.trajLimits p = some a →
        exec (.servoConfig t) s = .next ((s'.raise .trajLimits (s'.addrFlash a)).complete cur.req true 7 (some (.trajLimits, s'.addrFlash a % 2 ^ 48)) [])))

/-- LOAD_TABLE (06 R178, R179; 07 R216): an image that fails its header or check value, or whose entries break
the checks of their kind, is refused with the fault that the check raises, and the loaded tables stay; one
that passes is loaded whole, its result carries entries_crc, and, for a kind of the SRAM of Shuttle, a kind
that TABLE_ECC had made void is so no longer. -/
def Obligations.TableLoads : Prop :=
  ∀ (t : Nat) (cur : Current) (s : State), specLoadTable.Passes cur (s.atTime t) → s.sh.tables.length = 5 →
    let s' := s.atTime t
    let kind := fld cur.req.params 0 2
    let entries := tableEntries (entrySize kind) (fld cur.data 12 4) (cur.data.drop 32)
    (tableImageOk kind cur.data = false →
      exec (.loadTable t) s = .next ((s'.raise .tableHdr (kind * 2 ^ 40)).complete cur.req true 7 (some (.tableHdr, kind * 2 ^ 40 % 2 ^ 48)) [])) ∧
    (∀ f addr, tableImageOk kind cur.data = true → tableBad kind (s.table kGain).entries entries = some (f, addr) →
      exec (.loadTable t) s = .next ((s'.raise f addr).complete cur.req true 7 (some (f, addr % 2 ^ 48)) [])) ∧
    (tableImageOk kind cur.data = true → tableBad kind (s.table kGain).entries entries = none → ∃ u,
      exec (.loadTable t) s = .next (specLoadTable.done cur.req (leBytes 4 (fld cur.data 24 4) ++ leBytes 4 0) (State.digestChanged s' u)) ∧
      (kind = 6 → u = { s' with hem := { s'.hem with edge := { loaded := true, crc := BitVec.ofNat 32 (fld cur.data 24 4), entries := entries } } }) ∧
      (kind ≠ 6 → u.hem = s.hem ∧ (u.table kind).loaded = true ∧ (u.table kind).entries = entries ∧
        (u.table kind).crc = BitVec.ofNat 32 (fld cur.data 24 4) ∧ kind ∉ u.sh.voidKinds ∧
        ∀ k, 1 ≤ k → k ≤ 5 → k ≠ kind → k ≠ kStandin → u.table k = s.table k))

/-! ## System, job, stripe, axis and store commands -/

/-- RESET, ROLE_SWAP, CUFF_RETRAIN, CLEAR_FAULT and SLEEP that no check refuses. RESET and ROLE_SWAP only note
what is due (RESET_ENTRY, the end of the servo cycle). CUFF_RETRAIN sends every lane that is not Up to Train
and touches nothing but Cuff. CLEAR_FAULT leaves Fault for Ready: HEM_TGOOD rises again when a calibration has
passed and TREF is there, and a watchdog that had expired is armed again. SLEEP drops HEM_TGOOD, commits the
waiting journal records and enters Sleep with the rails off; what lies in Vstby memory stays. -/
def Obligations.SystemCommands : Prop :=
  ∀ (t : Nat) (cur : Current) (s : State),
    let s' := s.atTime t
    (specReset.Passes cur s' → exec (.reset t) s =
      .next (specReset.done cur.req [] { s' with eng := { s'.eng with resetDue := some .resetCommand } })) ∧
    (specRoleSwap.Passes cur s' → exec (.roleSwap t) s =
      .next (specRoleSwap.done cur.req [] { s' with twin := { s'.twin with swapDue := true } })) ∧
    (specCuffRetrain.Passes cur s' → s.cf.lanes.length = 68 → ∃ u, exec (.cuffRetrain t) s = .next (specCuffRetrain.done cur.req [] u) ∧
      u = { s' with cf := { s'.cf with lanes := u.cf.lanes, map := u.cf.map, restoreDue := u.cf.restoreDue, silent := [] } } ∧
      ∀ k < 68, (s.lane k).state = .up ∧ u.lane k = s.lane k ∨
        (s.lane k).state ≠ .up ∧ u.lane k = { state := .train, since := s'.now, precode := s.cf.precode.getLsbD k, ffe := (s.cf.ffePre, s.cf.ffeMain, s.cf.ffePost) }) ∧
    (specClearFault.Passes cur s' → ∃ u, exec (.clearFault t) s = .next (specClearFault.done cur.req [] u) ∧
      u.eng.state = .ready ∧ u.dike.wdExpired = false ∧
      (s.eng.tgoodNeedsCal = false → s.eng.trefLost = false → u.eng.tgood = true) ∧
      (s.dike.wdExpired = true → u.dike.wdDeadline = some (s'.now + s.dike.wdMs * 1000 * 12800)) ∧
      u.br = s.br ∧ u.hem = s.hem ∧ u.feed = s.feed ∧ u.fc.srcs = s.fc.srcs ∧ u.jr = s.jr ∧ u.cal = s.cal ∧ u.job = s.job ∧ u.mb = s.mb) ∧
    (∀ wakeN : Bool, specSleep.Passes cur (s'.updEng fun e => { e with wakeN := wakeN }) → ∃ u, exec (.sleep t wakeN) s = .next u ∧
      u.eng.state = .sleep ∧ u.eng.tgood = false ∧ u.eng.railsUp = false ∧ u.cp.accepted = [] ∧ u.cp.current = none ∧ u.jr.queue = [] ∧
      u.dike.lock = none ∧ u.now = s'.now ∧ u.pending = s.pending)

/-- SET_CELL_DIR, JOB_START, JOB_DECISION and JOB_START_TIMEOUT. A directory with a wrong header or entry is
refused with the fault that the check names, one that passes is accepted and its cells are known. A job head
that passes every check makes the start wait in the background; the decision opens the job on a module that
is not Paired, and refuses it with TWIN_CONFIG on a Paired one whose peer's values differ; a standby that has
waited 100 ms refuses it.
The order of the checks is the model's reading (log 30). -/
def Obligations.JobStarts : Prop :=
  ∀ (t : Nat) (cur : Current) (s : State),
    let s' := s.atTime t
    (specSetCellDir.Passes cur s' →
      (∀ f addr, parseCellDir cur.data = .error (f, addr) →
        exec (.setCellDir t) s = .next ((s'.raise f addr).complete cur.req true 7 (some (f, addr % 2 ^ 48)) [])) ∧
      (∀ d, parseCellDir cur.data = .ok d → s.cc.sizeGib * 2 ^ 30 + dirRegion d.entries.length ≤ 120 * 2 ^ 30 → ∃ u,
        exec (.setCellDir t) s = .next (specSetCellDir.done cur.req [] u) ∧
        u = { s' with cc := u.cc, twin := u.twin } ∧ u.cc.dir = some d ∧ u.cc.dirFresh = true ∧ u.cc.queue = [] ∧
        u.cc.cells.map (·.ent) = d.entries)) ∧
    (specJobStart.Passes cur s' →
      (∀ f addr, parseHead cur.data = .error (f, addr) →
        exec (.jobStart t) s = .next ((s'.raise f addr).complete cur.req true 7 (some (f, addr % 2 ^ 48)) [])) ∧
      (∀ h dir, parseHead cur.data = .ok (h, dir) →
        let j := jobOf cur.req.params cur.data h dir
        h.stripeFirst ≤ j.first → j.first < h.stripeFirst + h.stripeCount →
        (s'.dirTagBad h = true → exec (.jobStart t) s = .next ((s'.raise .dirTag 0).complete cur.req true 7 (some (.dirTag, 0)) [])) ∧
        (s'.dirTagBad h = false → s.cc.sizeGib * 2 ^ 30 + j.stagingSize + dirRegion s.cc.dirEntries ≤ 120 * 2 ^ 30 → ∃ u,
          exec (.jobStart t) s = .next u ∧ u = { s' with cp := u.cp, twin := u.twin } ∧
          u.cp.deciding = some (j, s'.now) ∧ u.cp.current = none ∧ u.cp.bg = s.cp.bg ++ [cur] ∧
          (s.twin.pair = .alone → u.twin = s'.twin)))) ∧
    (∀ j since r, s.cp.deciding = some (j, since) → s.background 0x0302 = some r → s.cp.halted = false →
      (s.twin.active = true → s.twin.pair ≠ .paired → s.eng.state = .ready → s.job = none → ∃ u,
        exec (.jobDecision t) s = .next (specJobStart.done r [] u) ∧ (∃ j', u.job = some j' ∧ j'.hdr = j.hdr ∧ j'.dir = j.dir ∧ j'.next = j.next ∧ j'.feedLimit = j.feedLimit) ∧ u.eng.flashNext = j.flashStart ∧ u.cf.epoch = 0 ∧
        u.cp.deciding = none ∧ u.hem = s.hem ∧ u.br = s.br ∧ u.feed = s.feed) ∧
      (s.twin.active = true → s.twin.pair = .paired → s.eng.state = .ready → s.job = none →
        ∀ item, s'.headDiffers j = some item → ∃ a,
          exec (.jobDecision t) s = .next ((({ s' with cp := { s'.cp with deciding := none } } : State).raise .twinConfig a).complete r true 7 (some (.twinConfig, a % 2 ^ 48)) [])) ∧
      (s.twin.active = false → since + 100000 * 12800 ≤ t → ∃ a,
        exec (.jobStartTimeout t) s = .next ((({ s' with cp := { s'.cp with deciding := none } } : State).raise .twinConfig a).complete r true 7 (some (.twinConfig, a % 2 ^ 48)) [])) ∧
      (s'.now < since + 100000 * 12800 → exec (.jobStartTimeout t) s = .next s'))

/-- FEED raises the feed limit of the open job; JOB_END closes the job, drops its bands, queued fetches and
flash slots, counts the time of tiles in progress, and leaves the cells as they are; BAND_RETRY renders the named Faulted band again with two fresh
attempts. Axes, sources and Hem stay as they are under all three. -/
def Obligations.JobCommands : Prop :=
  ∀ (t : Nat) (cur : Current) (s : State),
    let s' := s.atTime t
    (specFeed.Passes cur s' → ∃ u, exec (.feed t) s = .next (specFeed.done cur.req [] u) ∧
      u = { s' with job := s.job.map fun (j : Job) => { j with feedLimit := fld cur.req.params 0 8 }, bands := u.bands }) ∧
    (specJobEnd.Passes cur s' → ∃ u, exec (.jobEnd t) s = .next (specJobEnd.done cur.req [] u) ∧
      (s.bands.flatMap (·.working) = [] → u.cc.stats = s.cc.stats ∧ u.loom = s.loom) ∧
      u = { s' with
        job := none, bands := [], pol := { s'.pol with freeBelow := 0, enteredTo := 0 }
        cc := { s'.cc with dirFresh := false, queue := [], stats := u.cc.stats }, loom := { s'.loom with stats := u.loom.stats }
        sh := { s'.sh with slots := [{}, {}], waiting := none, before := [] }
        cp := { s'.cp with capture := s.cp.capture.map fun c => if c.kind ≤ 2 ∧ c.ended = 0 then { c with ended := 4 } else c } }) ∧
    (specBandRetry.Passes cur s' → ∃ u, exec (.bandRetry t) s = .next (specBandRetry.done cur.req [] u) ∧
      u = { s' with bands := u.bands, cc := u.cc } ∧
      ∃ b, u.band (fld cur.req.params 0 2) (fld cur.req.params 2 2) = some b ∧ b.polder = .rendering ∧ b.attempt = 1 ∧ b.retry = true ∧ b.pinned = true)

/-- STRIPE_START, STRIPE_PAUSE, STRIPE_RESUME and STRIPE_ABORT. A start that a check of 13 R419 refuses names
the first fault and changes nothing; an accepted one opens the stripe with mark 0 next, the high-water mark
empty and the run rate at most its plan's. A pause enters Seam with the pause as a cause (while the stage already stops or runs for a Seam, the Seam goes on
with that cause too; with Hem Idle, which a stripe that is written never is, nothing happens); a resume removes
it.
An abort of a stripe in Ready, Writing, Held or Seam ends it: none is open, Hem is Idle, and the job goes on
with the stripe above it.
The order of the checks and how an open stripe ends are the model's reading (log 31). -/
def Obligations.StripeCommands : Prop :=
  ∀ (t : Nat) (cur : Current) (s : State),
    let s' := s.atTime t
    (specStripeStart.Passes cur s' →
      (∀ f addr, s'.stripeRefused (parseStripe cur.req.params) = some (f, addr) →
        exec (.stripeStart t) s = .next ((s'.raise f addr).complete cur.req false 7 (some (f, addr % 2 ^ 48)) [])) ∧
      (s'.stripeRefused (parseStripe cur.req.params) = none → ∃ u, exec (.stripeStart t) s = .next (specStripeStart.done cur.req [] u) ∧
        u.hem.stripe = some (parseStripe cur.req.params) ∧ u.hem.begun = false ∧ u.hem.mNext = 0 ∧ u.hem.mHw = none ∧ u.hem.state = .idle ∧
        u.hem.fRun = min (fld cur.req.params 12 4) s'.fCeil ∧ u.hem.causes = [] ∧ u.br.segment = .approach ∧ u.eng.state = s.eng.state ∧ u.jr = s.jr ∧ u.mb = s.mb)) ∧
    (specStripePause.Passes cur s' → s.twin.active = true → s.hem.state ≠ .idle → ∃ u, exec (.stripePause t) s = .next (specStripePause.done cur.req [] u) ∧
      (s.hem.state ≠ .seamStop → s.hem.state ≠ .seamRun → u.eng.state = .seam) ∧ u.hem.stripe = s.hem.stripe ∧ u.hem.state = .seamStop ∧
      .pause false ∈ u.hem.causes ∧ u.job = s.job ∧ u.mb = s.mb) ∧
    (specStripePause.Passes cur s' → s.hem.state = .idle → exec (.stripePause t) s = .next (specStripePause.done cur.req [] s')) ∧
    (specStripeResume.Passes cur s' →
      (s.ring.groupHeld = false → exec (.stripeResume t) s = .next (specStripeResume.done cur.req []
        { s' with hem := { s'.hem with causes := s.hem.causes.filter fun c => c ≠ .pause false ∧ c ≠ .resumeHold, runs := 0 } })) ∧
      (∀ o, s.ring.groupHeld = true → s.ring.sync = some o →
        exec (.stripeResume t) s = .next (specStripeResume.done cur.req [] (s'.sendStitch (.request 3 o.stripe o.mask 0))))) ∧
    (specStripeAbort.Passes cur s' → ∃ u, exec (.stripeAbort t) s = .next (specStripeAbort.done cur.req [] u) ∧
      u.eng.state = .ready ∧ u.hem.stripe = none ∧ u.hem.begun = false ∧ u.hem.state = .idle ∧ u.hem.causes = [] ∧
      ∀ j st, s.job = some j → s.hem.stripe = some st → ∃ j', u.job = some j' ∧ j'.next = st.stripe + 1 ∧ st.stripe ∈ j'.skipped)

/-- AXIS_ENABLE, AXIS_DISABLE, STOP and RC_CLEAR, for each axis of their mask, and no other axis: Off and Coast
go to Hold at the measured position; every state goes to Off with no output; Move, Home and Stripe go to Stop,
and a target given in Stop goes, but for the scan and cross axes while a stripe is open; the repetitive table is emptied. -/
def Obligations.AxisMasks : Prop :=
  ∀ (t : Nat) (cur : Current) (s : State) (a : Nat) (x : Axis), a < 8 → s.br.axes[a]? = some x →
    let s' := s.atTime t
    let named := (fld cur.req.params 0 1).testBit a
    let moving := x.state = .move ∨ x.state = .home ∨ x.state = .stripe ∨
      (x.state = .stop ∧ (x.after.isSome = true ∨ (x.plan.any fun pl => pl.target.isSome) = true))
    (specAxisEnable.Passes cur s' → ∃ u x', exec (.axisEnable t) s = .next (specAxisEnable.done cur.req [] u) ∧
      u = { s' with br := { s'.br with axes := u.br.axes } } ∧ u.br.axes[a]? = some x' ∧
      (¬(named = true ∧ (x.state = .off ∨ x.state = .coast)) → x' = x) ∧
      (named = true → x.state = .off ∨ x.state = .coast → x'.state = .hold ∧ x'.plan = none ∧ x'.e = 0 ∧ x'.chain = {} ∧ x'.cfg = x.cfg ∧ x'.homed = x.homed ∧
        ∀ y, (s.src x.cfg.source).y = some y → x'.traj = { p := y * 2 ^ 32 })) ∧
    (specAxisDisable.Passes cur s' → ∃ u x', exec (.axisDisable t) s = .next (specAxisDisable.done cur.req [] u) ∧
      u = { s' with br := { s'.br with axes := u.br.axes }, dike := { s'.dike with axes := u.dike.axes } } ∧ u.br.axes[a]? = some x' ∧
      (named = false → x' = x) ∧ (named = true → x'.state = .off ∧ x'.plan = none ∧ x'.out = 0 ∧ x'.traj.v = 0 ∧ x'.cfg = x.cfg ∧ x'.homed = x.homed)) ∧
    (specStop.Passes cur s' → ∃ u x', exec (.stop t) s = .next (specStop.done cur.req [] u) ∧
      u = { s' with br := { s'.br with axes := u.br.axes } } ∧ u.br.axes[a]? = some x' ∧
      (named = true → moving →
        ¬(s.hem.stripe.isSome = true ∧ (a = s.br.g.scanAxis ∨ a = s.br.g.crossAxis)) → x'.state = .stop ∧ x'.homing = none ∧ x'.traj = x.traj) ∧
      (named = false ∨ ¬moving ∨
        (s.hem.stripe.isSome = true ∧ (a = s.br.g.scanAxis ∨ a = s.br.g.crossAxis)) → x' = x)) ∧
    (specRcClear.Passes cur s' → ∃ u, exec (.rcClear t) s = .next (specRcClear.done cur.req [] u) ∧
      u = { s' with br := { s'.br with axes := u.br.axes } } ∧ u.br.axes[a]? = some (if named = true then { x with rc := {} } else x))

/-- MOVE and HOME: a target that no plan reaches is refused as a field out of range (the model's choice, log
40); a plan that the soft limits or the limit switches refuse is reported with its fault and the axis keeps its
plan; one that nothing refuses is in force from then on, the axis in Move, or in Stop if it was in Stop, or in Home. No other axis and nothing
but the servo changes, but that a source that has lost its sensor acquires for a homing. -/
def Obligations.SingleMotions : Prop :=
  ∀ (t : Nat) (cur : Current) (s : State) (x : Axis),
    let s' := s.atTime t
    let a := fld cur.req.params 0 1
    s.br.axes[a]? = some x →
    (specMove.Passes cur s' →
      (x.cfg.movePlans x.traj (sfld cur.req.params 8 8) = none → exec (.move t) s = .next (s'.complete cur.req false 3 none [])) ∧
      ∀ pl after, x.cfg.movePlans x.traj (sfld cur.req.params 8 8) = some (pl, after) →
      (s'.planRefused a pl after = none → exec (.move t) s = .next (specMove.done cur.req [] { s' with br := { s'.br with
        axes := s'.br.axes.set a { x with state := if x.state = .stop then .stop else .move, plan := some pl, after := after, settling := false } } })) ∧
      (∀ f, s'.planRefused a pl after = some f → exec (.move t) s =
        .next ((s'.raise f (s'.addrFlash a)).complete cur.req false 7 (some (f, s'.addrFlash a % 2 ^ 48)) []))) ∧
    (specHome.Passes cur s' →
      let plan := x.cfg.planTo x.traj { target := none, vf := sfld cur.req.params 1 1 * fld cur.req.params 8 8 }
      (plan = none → exec (.home t) s = .next (s'.complete cur.req false 3 none [])) ∧
      (∀ pl f, plan = some pl → s'.planRefused a pl none = some f → exec (.home t) s =
        .next ((s'.raise f (s'.addrFlash a)).complete cur.req false 7 (some (f, s'.addrFlash a % 2 ^ 48)) [])) ∧
      (∀ pl, plan = some pl → s'.planRefused a pl none = none → ∃ h u, exec (.home t) s = .next (specHome.done cur.req [] u) ∧
        u = { s' with feed := { s'.feed with srcs := u.feed.srcs }, br := { s'.br with axes := s'.br.axes.set a { x with state := .home, plan := some pl, after := none, settling := false, homing := some h } } } ∧
        ((s.src x.cfg.source).state ≠ .lostSensor → u.feed.srcs = s.feed.srcs) ∧
        ((s.src x.cfg.source).state = .lostSensor → ∀ n, n ≠ x.cfg.source → u.feed.srcs[n]? = s.feed.srcs[n]?) ∧
        h.seg = .search ∧ h.dir = sfld cur.req.params 1 1 ∧ h.reversed = false ∧ h.from' = x.traj.p ∧ h.params.homePos = sfld cur.req.params 40 8))

/-- PROBE_ARM, PROBE_READ, COMPARE_LOAD and REREFERENCE. A read returns the number of entries, the overflow
flag and the entries, empties the buffer, and reports an overflow that it finds. A load whose value the source has already passed, or whose
source has no sample, leaves the compare Stale; else it is Armed with the block's fields. A re-reference
acquires a source that had lost its sensor and clears SUSPECT of any other.
A compare whose source has no sample is Stale by the model's reading (log 32). -/
def Obligations.ProbeAndCompare : Prop :=
  ∀ (t : Nat) (cur : Current) (s : State),
    let s' := s.atTime t
    let p := cur.req.params
    let n := fld p 0 1
    (specProbeArm.Passes cur s' → exec (.probeArm t) s = .next (specProbeArm.done cur.req []
      { s' with feed := { s'.feed with probes := listUpd s'.feed.probes n fun q => { q with armed := true } } })) ∧
    (∀ q, specProbeRead.Passes cur s' → s.feed.probes[n]? = some q → q.buf.length < 256 → ∃ body,
      exec (.probeRead t) s = .next (specProbeRead.done cur.req body
        { (if q.overflow then s'.raise .probeOverflow (s'.addrFlash n) else s') with feed := { s'.feed with probes := s'.feed.probes.set n { q with buf := [], overflow := false } } }) ∧
      fld body 0 1 = q.buf.length ∧ fld body 1 1 = q.overflow.toNat ∧ fld body 2 6 = 0 ∧ body.drop 8 = q.buf.flatMap (·.bytes)) ∧
    (∀ c, specCompareLoad.Passes cur s' → s.feed.cmps[n]? = some c →
      let c' : Compare := { state := .armed, source := fld p 1 1, dir := sfld p 2 1, mode := fld p 3 1, width := fld p 4 2, value := sfld p 8 8, step := sfld p 16 8, highUntil := c.highUntil }
      (∀ y, (s.src (fld p 1 1)).y = some y → c'.behind y = false → exec (.compareLoad t) s =
        .next (specCompareLoad.done cur.req [] { s' with feed := { s'.feed with cmps := s'.feed.cmps.set n c' } })) ∧
      (∀ y, (s.src (fld p 1 1)).y = some y → c'.behind y = true → exec (.compareLoad t) s =
        .next (specCompareLoad.done cur.req [] { s'.raise .cmpStale (s'.addrFlash n) with feed := { s'.feed with cmps := s'.feed.cmps.set n { c' with state := .stale } } })) ∧
      ((s.src (fld p 1 1)).y = none → exec (.compareLoad t) s =
        .next (specCompareLoad.done cur.req [] { s' with feed := { s'.feed with cmps := s'.feed.cmps.set n { c' with state := .stale } } }))) ∧
    (∀ c, specRereference.Passes cur s' → s.feed.srcs[n]? = some c → ∃ u, exec (.rereference t) s = .next (specRereference.done cur.req [] u) ∧
      u = { s' with feed := { s'.feed with srcs := u.feed.srcs } } ∧
      (c.state ≠ .lostSensor → u.feed.srcs = s.feed.srcs.set n { c with suspect := false }) ∧
      (c.state = .lostSensor → ∃ c', u.feed.srcs = s.feed.srcs.set n c' ∧ c'.cfg = c.cfg ∧ c'.suspect = c.suspect ∧
        c'.state = if 8 ≤ n ∧ n < 12 then .valid else .acquire))

/-- CALIBRATE, MEM_FREQ, FW_LOAD, FW_LOAD_DONE and FW_SELECT. CALIBRATE enters Calibrate with HEM_TGOOD low and
no axis moving. A rate without a delay set is refused with MEM_NOTRAIN, and one with a set is in force and
stored. A load erases its slot and goes on in the background; a verified image leaves the slot with the image's
header values and an FW_META record, any other one FW_VERIFY. Only a valid slot is selected. The commands of the
DRAM controller and of the journal store complete too: refreshes, temperatures, promotions and pieces of a
sub-channel; reads, writes, flushes and scrubs; the record that waits first is committed or abandoned, and the
other basin's next sector is erased.
When a load reads its image, and what MEM_FREQ does to the queues, are the model's reading (log 34). -/
def Obligations.StoreCommands : Prop :=
  ∀ (t : Nat) (cur : Current) (s : State),
    let s' := s.atTime t
    let p := cur.req.params
    (specCalibrate.Passes cur s' → ∃ u, exec (.calibrate t) s = .next (specCalibrate.done cur.req [] u) ∧
      u.eng.state = .calibrate ∧ u.eng.tgood = false ∧ u.cal.mode = .calibrate ∧ u.br.segment = .none ∧ u.hem = s.hem ∧ u.job = s.job ∧ u.mb = s.mb) ∧
    (specMemFreq.Passes cur s' →
      (s.jr.hasDelay (fld p 0 1) = false →
        exec (.memFreq t) s = .next ((s'.raise .memNotrain (fld p 0 1)).complete cur.req true 7 (some (.memNotrain, fld p 0 1 % 2 ^ 48)) [])) ∧
      (s.jr.hasDelay (fld p 0 1) = true → s.jr.powerFail = false → ∃ u, exec (.memFreq t) s = .next (specMemFreq.done cur.req [] u) ∧
        u = { s' with dram := { s'.dram with rate := fld p 0 1, delays := s.jr.delaySet (fld p 0 1), sub := u.dram.sub }, jr := { s'.jr with queue := s'.jr.queue ++ [{ type := 2, key := 3, body := [BitVec.ofNat 8 (fld p 0 1)] }] }, arb := (s'.event (.append 2 3)).arb } ∧
        ∀ c ∈ u.dram.sub, c.queue = [])) ∧
    (specFwLoad.Passes cur s' → exec (.fwLoad t) s = .next (State.toBackground cur.req
      { s' with jr := { s'.jr with slots := listUpd s'.jr.slots (fld p 0 1) fun _ => {}, fwLoad := some (fld p 0 1, fld p 4 4, fld p 8 8) } })) ∧
    (∀ slot len addr r b v, s.jr.fwLoad = some (slot, len, addr) → s.background 0x0601 = some r → s.cp.halted = false →
      s'.readBytes 3 addr len = (some b, v) → v.jr.powerFail = false →
      ((fwSlot b).imageOk = true → ∃ u, exec (.fwLoadDone t) s = .next (specFwLoad.done r [] u) ∧
        u = { v with jr := { v.jr with slots := listUpd v.jr.slots slot fun _ => fwSlot b, fwLoad := none, queue := u.jr.queue }, arb := (v.event (.append 6 slot)).arb } ∧
        ∃ w, u.jr.queue = v.jr.queue ++ [w] ∧ w.type = 6 ∧ w.key = slot ∧ fld w.body 0 4 = fld b 8 4 ∧ fld w.body 4 4 = fld b 12 4 ∧ fld w.body 8 4 = fld b 16 4) ∧
      ((fwSlot b).imageOk = false → ∃ u : State, exec (.fwLoadDone t) s = .next (u.complete r true 7 (some (.fwVerify, slot % 2 ^ 48)) []) ∧
        u.jr.fwLoad = none ∧ u.jr.queue = v.jr.queue ∧ ∃ x ∈ u.arb.faultQ, x.name = .fwVerify)) ∧
    (specFwSelect.Passes cur s' →
      (s.jr.slotValid (fld p 0 1) = true → s.jr.powerFail = false → exec (.fwSelect t) s = .next (specFwSelect.done cur.req []
        { s' with jr := { s'.jr with queue := s'.jr.queue ++ [{ type := 7, key := 0, body := leBytes 8 (fld p 0 1) }] }, arb := (s'.event (.append 7 0)).arb })) ∧
      (s.jr.slotValid (fld p 0 1) = false →
        exec (.fwSelect t) s = .next ((s'.raise .fwVerify (fld p 0 1)).complete cur.req true 7 (some (.fwVerify, fld p 0 1 % 2 ^ 48)) []))) ∧
    (∀ k < s.dram.sub.length,
      let c := s.dram.sub.getD k {}
      let put := fun c : SubCh => { s' with dram := { s'.dram with sub := s'.dram.sub.set k c } }
      let closed := { c with banks := c.banks.map fun b => { b with open' := false } }
      (c.queue = [] → exec (.refreshDue t k) s = .next (put closed) ∧
        (c.owed ≠ 0 → exec (.owedRefresh t k) s = .next (put { closed with owed := c.owed - 1 }))) ∧
      (∀ temps : List Int, (∀ x ∈ temps, x ≤ 95) → exec (.memTempRead t k temps) s = .next (put { c with hot := temps.any fun x => decide (85 < x) })) ∧
      (∀ r rest, c.queue = r :: rest → r.promoted = false → r.arrived + 2 * 12800 ≤ s'.now →
        exec (.requestPromotion t k) s = .next (put { c with queue := { r with promoted := true } :: rest })) ∧
      (∀ r, c.active = some r → c.queue = [] → ∃ u, exec (.pieceComplete t k (bankOf r.block) (rowOf r.block)) s = .next u ∧
        u = { s' with dram := { s'.dram with sub := u.dram.sub } } ∧ (u.dram.sub.getD k {}).active = none)) ∧
    (∀ requester < 8, ∀ w1 w2, ∀ block < 2 ^ 31, sparseGet 0 s.dram.mapCheck (block / 64 / 64) = 0 →
      (s.dram.written (block / 64) = false → exec (.dramRead t requester w1 w2 block [] 0) s = .next s' ∧ exec (.scrubRead t block []) s = .next s') ∧
      (s.dram.written (block / 64) = true → decodeBlock block (xorSyms (s.dram.symbols block) []) = .clean →
        (∃ u, exec (.dramRead t requester w1 w2 block [] 0) s = .next u ∧ u = { s' with dram := { s'.dram with sub := u.dram.sub } }) ∧
        ∃ u, exec (.scrubRead t block []) s = .next u ∧ u = { s' with dram := { s'.dram with sub := u.dram.sub } })) ∧
    (∀ requester who block data, requester < 8 → data.length = 64 → (∀ j ∈ s'.fc.inject, j.count = 0) → s.memWf = true →
      ∃ u, exec (.dramWrite t requester who (64 * block) data []) s = .next u ∧ u.dram.symbols block = encodeBlock (addrSymbol block) data ∧
        u.dram.written (block / 64) = true ∧ u.dram.entry block = none) ∧
    (∀ block m, s.dram.entry block = some m → m.lastWrite + 12800 ≤ s'.now →
      ∃ u, exec (.mergeFlush t block []) s = .next u ∧ u = { s' with dram := u.dram, arb := u.arb, fc := u.fc } ∧ u.dram.entry block = none) ∧
    (s.jr.queue ≠ [] →
      (∃ u, exec (.journalCommit t true) s = .next u ∧ u.jr.queue = s.jr.queue.tail ∧ u.jr.jseq = s.jr.jseq + 1) ∧
      ∃ u, exec (.jProgram t) s = .next u ∧ u.jr.queue = s.jr.queue.tail ∧ u.jr.jseq = s.jr.jseq ∧ u.jr.errors = s.jr.errors + 1) ∧
    (s.jr.powerFail = false → 1 < s.jr.eraseLeft →
      exec (.sectorEraseComplete t) s = .next { s' with jr := { s'.jr with eraseLeft := s.jr.eraseLeft - 1 } })

/-- AUDIT_READ, CAPTURE, CAPTURE_END and CAPTURE_CANCEL. AUDIT_READ writes the records from its cursor on, 48
bytes each, to the host buffer, as many as were asked for and as fit, and moves AUDIT_MARK. A capture runs in
the background; its end posts its result, whose body gives the valid bytes and the first flash; a cancel ends
it with CANCELLED and both zero. A capture of trace or frames that outgrows its buffer fails while it goes on (02 R83).
The cursor of an audit read and what a cancelled capture leaves are the model's reading (logs 34 and 35). -/
def Obligations.AuditAndCapture : Prop :=
  ∀ (t : Nat) (cur : Current) (s : State),
    let s' := s.atTime t
    let p := cur.req.params
    (specAuditRead.Passes cur s' →
      let l := (s.jr.audits.filter (fld p 0 8 ≤ ·.jseq)).take (min (fld p 8 4) (fld p 24 8 / 48))
      (l = [] → exec (.auditRead t) s = .next (specAuditRead.done cur.req (leBytes 8 0 ++ leBytes 8 (fld p 0 8)) s')) ∧
      (∀ last, l.getLast? = some last → s.jr.powerFail = false → exec (.auditRead t) s = .next (specAuditRead.done cur.req
        (leBytes 4 l.length ++ leBytes 4 0 ++ leBytes 8 (last.jseq + 1))
        { s' with
          out := s'.out ++ writeRequests (fld p 16 8) (l.flatMap (·.body))
          jr := { s'.jr with queue := s'.jr.queue ++ [{ type := 5, key := 0, body := leBytes 8 (max s.jr.mark last.jseq) }] }
          arb := (s'.event (.append 5 0)).arb }))) ∧
    (specCapture.Passes cur s' → ∃ c, exec (.capture t) s = .next (State.toBackground cur.req { s' with cp := { s'.cp with capture := some c } }) ∧
      c.kind = fld p 0 1 ∧ c.trigger = fld p 2 1 ∧ c.start = fld p 8 8 ∧ c.count = fld p 16 4 ∧ c.bufAddr = fld p 24 8 ∧ c.bufSize = fld p 32 8 ∧
      c.entries = 0 ∧ c.raw = [] ∧ c.triggered = false) ∧
    (∀ c r content, s.cp.capture = some c → s.background 0x0701 = some r → s.cp.halted = false →
      (c.kind ≤ 2 → c.ended = 0 → c.entries < c.count → c.outgrown = none → exec (.captureEnd t content) s = .next s') ∧
      (∀ off, c.kind ≤ 2 → c.ended = 0 → c.entries < c.count → c.outgrown = some off → exec (.captureEnd t content) s = .next
        (State.complete r false 7 (some (.defExhaust, off)) (leBytes 8 0 ++ leBytes 8 0)
          ({ s' with cp := { s'.cp with capture := none } }.raise .defExhaust off))) ∧
      (c.kind ≤ 2 → (c.ended = 1 ∨ c.ended = 2 ∨ c.ended = 4 ∨ (c.ended = 0 ∧ c.count ≤ c.entries)) → c.kind ≠ 0 →
        overflowAt c.effort c.bufSize (c.raw.length / 262144 + 1) 0 0 c.raw = none →
        let out := captureStream c.effort (c.raw.length / 262144 + 1) 0 c.raw
        exec (.captureEnd t content) s = .next (State.complete r false 0 none (leBytes 8 out.length ++ leBytes 8 c.firstFlash)
          { s' with cp := { s'.cp with capture := none }, out := s'.out ++ writeRequests c.bufAddr out }))) ∧
    (∀ c r, specCaptureCancel.Passes cur s' → s.cp.capture = some c → s.background 0x0701 = some r →
      exec (.captureCancel t) s = .next (specCaptureCancel.done cur.req []
        (State.complete r false 12 none (leBytes 8 0 ++ leBytes 8 0) { s' with cp := { s'.cp with capture := none } })))

/-! ## Power, references, Boot, calibration, slack (16, 17, 18, 01) -/

/-- POWER_UP, WAKE_N_FALL, RESET_N_ASSERT, RESET_N_RELEASE, RESET_ENTRY, VSTBY_POWER_UP and VSTBY_LOSS. A
module that Boot takes up has every field at its reset value, the step count at zero (07 R188), but what it has
sent, the journal store (nothing waits there, and an image that was being loaded is not valid), the VSTBY latches
and the straps; RESET_CAUSE is the first cause noted since the last Boot, else the one that fits the command. With
WAKE_N high the module goes to Sleep in place of Boot. RESET_N_ASSERT holds the module in its reset, with faults
raised before it still to be accepted and the collector as it was. Each of these commands also completes where it
finds nothing to do.
What the pins, the supplies and the straps keep is the model's choice (log 16), and so is which cause counts (log 21). -/
def Obligations.PowerAndResets : Prop :=
  ∀ (t pid : Nat) (twinB : Bool) (s : State),
    let s' := s.atTime t
    let booted := fun (c : ResetCause) (jr : Journal) (u : State) =>
      u = { State.reset with now := 0, out := u.out, pending := s.pending, free := s.free, jr := jr, eng := u.eng } ∧
      u.eng.state = .boot ∧ u.eng.railsUp = true ∧ u.eng.inReset = false ∧ u.eng.resetDue = none ∧ u.eng.twinB = twinB ∧ u.eng.pairId = pid % 4 ∧
      u.eng.resetCause = (s.eng.endCause.getD (c, 0)).1 ∧ u.eng.shedKind = (s.eng.endCause.getD (c, 0)).2 ∧ u.eng.endCause = none
    let asleep := fun (c : ResetCause) (u : State) => u.eng.state = .sleep ∧ u.eng.railsUp = false ∧ u.eng.inReset = false ∧
      u.eng.resetCause = (s.eng.endCause.getD (c, 0)).1 ∧ u.eng.endCause = none ∧ u.job = none ∧ u.bands = [] ∧ u.jr.queue = [] ∧ u.pending = s.pending
    (s.eng.vstby = true →
      (s.eng.state = .sleep → ∃ u, exec (.powerUp t false twinB pid) s = .next u ∧ booted .endOfSleep s.jr.cutShort u ∧ u.out = s'.out) ∧
      (s.eng.state ≠ .sleep → s.eng.shedding = true → ∃ u, exec (.powerUp t false twinB pid) s = .next u ∧ booted .powerUp s.jr.cutShort u ∧ u.eng.shedding = false) ∧
      (s.eng.state = .sleep → exec (.powerUp t true twinB pid) s =
        .next { s' with eng := { s'.eng with vinOk := true, pwrGood := true, resetN := true, shedding := false, wakeN := true } }) ∧
      (s.eng.state ≠ .sleep → s.eng.shedding = true → ∃ u, exec (.powerUp t true twinB pid) s = .next u ∧ asleep .powerUp u ∧ u.eng.shedding = false)) ∧
    (s.eng.vstby = false ∨ (s.eng.state ≠ .sleep ∧ s.eng.shedding = false) → ∀ wakeN, exec (.powerUp t wakeN twinB pid) s = .next s') ∧
    exec (.wakeNFall t) s = .next { s' with eng := { s'.eng with wakeN := false } } ∧
    (s.eng.state ≠ .sleep → s.eng.inReset = false → ∃ u, exec (.resetNAssert t) s = .next u ∧
      u = { State.reset with
        now := s'.now, out := u.out, pending := s.pending, free := s.free, jr := u.jr, eng := u.eng, fc := s'.fc
        arb := { State.reset.arb with faultQ := s.arb.faultQ } } ∧
      u.eng.inReset = true ∧ u.eng.resetN = false ∧ u.eng.endCause = some (s.eng.endCause.getD (.resetN, 0)) ∧ u.jr.queue = []) ∧
    (s.eng.state = .sleep ∨ s.eng.inReset = true → exec (.resetNAssert t) s = .next
      { s' with eng := { s'.eng with endCause := some (s.eng.endCause.getD (.resetN, 0)), resetN := false } }) ∧
    (s.eng.resetN = false → s.eng.state ≠ .sleep → s.eng.shedding = false → s.eng.pwrGood = true →
      (∃ u, exec (.resetNRelease t false twinB pid) s = .next u ∧ booted .resetN s.jr.cutShort u) ∧
      (∃ u, exec (.resetNRelease t true twinB pid) s = .next u ∧ asleep .resetN u)) ∧
    (∀ wakeN, (s.eng.resetN = true → exec (.resetNRelease t wakeN twinB pid) s = .next s') ∧
      (s.eng.resetN = false → s.eng.state = .sleep ∨ s.eng.shedding = true ∨ s.eng.pwrGood = false →
        exec (.resetNRelease t wakeN twinB pid) s = .next { s' with eng := { s'.eng with resetN := true } })) ∧
    (∀ c, s.eng.resetDue = some c → s.eng.inReset = false → s.eng.state ≠ .sleep →
      (∃ u, exec (.resetEntry t false twinB pid) s = .next u ∧ booted c u.jr u ∧ u.jr.queue = []) ∧
      ∃ u, exec (.resetEntry t true twinB pid) s = .next u ∧ asleep c u) ∧
    (s.eng.resetDue = none ∨ s.eng.inReset = true ∨ s.eng.state = .sleep → ∀ wakeN, exec (.resetEntry t wakeN twinB pid) s = .next s') ∧
    (s.eng.vstby = false → exec (.vstbyPowerUp t) s = .next
      { s' with eng := { s'.eng with vstby := true, resetCause := .powerUp, shedKind := 0, endCause := some (.powerUp, 0) } }) ∧
    (s.eng.vstby = true → exec (.vstbyPowerUp t) s = .next s') ∧
    (∃ u, exec (.vstbyLoss t) s = .next u ∧
      u = { State.reset with now := s'.now, out := s'.out, pending := s.pending, free := s.free, jr := s.jr.cutShort, eng := u.eng } ∧
      u.eng.state = .sleep ∧ u.eng.railsUp = false ∧ u.eng.vinOk = false ∧ u.eng.vstby = false ∧ u.eng.endCause = none)

/-- POWER_FAIL_DETECT, REF_LOST, REF_RETURN and DIE_TEMP_SAMPLE, and where the power and reset commands complete. A power-fail detect raises its fault and, on a
module that is not in Sleep, sheds the load: the cause is kept for RESET_CAUSE, the module is held in reset and
the journal store knows of the power fail. The pins and supplies that begin and end a reset or Sleep complete too: a
module in Sleep that powers up with WAKE_N low boots, as one whose reset ends does. Without TREF HEM_TGOOD is low until a calibration has passed; without
the Cuff reference no lane is in Train, Align or Up. A sample of the dies keeps the eight temperatures, T_core
(die 0) and the hottest of the others, and trips above 125 °C. -/
def Obligations.PowerFailAndReferences : Prop :=
  ∀ (t : Nat) (s : State),
    let s' := s.atTime t
    (∀ kind addr f, powerFail kind = some f → s.eng.state ≠ .sleep → s.eng.inReset = false →
      ∃ u, exec (.powerFailDetect t kind addr) s = .next u ∧ u.eng.shedding = true ∧ u.eng.inReset = true ∧ u.jr.powerFail = true ∧
        u.eng.endCause = some (s.eng.endCause.getD (.loadShed, kind)) ∧ u.job = none ∧ u.bands = [] ∧ u.fc = s'.fc ∧
        u.arb.faultQ = s.arb.faultQ ++ [{ at' := s'.now, name := f, addr := (if kind = 3 then 0 else addr) % 2 ^ 48 }]) ∧
    (∀ twinB pid,
      (s.eng.vstby = true → s.eng.state = .sleep → ∃ u, exec (.powerUp t false twinB pid) s = .next u ∧ u.eng.state = .boot ∧ u.eng.railsUp = true ∧ u.now = 0) ∧
      (s.eng.resetN = false → s.eng.state ≠ .sleep → s.eng.shedding = false → s.eng.pwrGood = true →
        ∃ u, exec (.resetNRelease t false twinB pid) s = .next u ∧ u.eng.state = .boot ∧ u.eng.inReset = false ∧ u.eng.twinB = twinB) ∧
      (∀ c, s.eng.resetDue = some c → s.eng.inReset = false → s.eng.state ≠ .sleep →
        ∃ u, exec (.resetEntry t false twinB pid) s = .next u ∧ u.eng.state = .boot ∧ u.eng.resetDue = none ∧ u.job = none)) ∧
    exec (.wakeNFall t) s = .next { s' with eng := { s'.eng with wakeN := false } } ∧
    (s.eng.state ≠ .sleep → s.eng.inReset = false → ∃ u, exec (.resetNAssert t) s = .next u ∧ u.eng.inReset = true ∧ u.eng.resetN = false ∧ u.job = none) ∧
    (s.eng.vstby = false → ∃ u, exec (.vstbyPowerUp t) s = .next u ∧ u = { s' with eng := u.eng } ∧ u.eng.vstby = true ∧ u.eng.resetCause = .powerUp) ∧
    (∃ u, exec (.vstbyLoss t) s = .next u ∧ u.eng.state = .sleep ∧ u.eng.vstby = false ∧ u.eng.railsUp = false ∧ u.now = s'.now) ∧
    (∃ u, exec (.refLost t false) s = .next u ∧ u = { s' with eng := u.eng, arb := u.arb } ∧
      u.eng.trefLost = true ∧ u.eng.tgoodNeedsCal = true ∧ u.eng.tgood = false ∧ u.eng.state = s.eng.state ∧
      (s.eng.state ≠ .sleep → u.waits s'.now .refLost 0)) ∧
    (s.cf.lanes.length = 68 → ∃ u, exec (.refLost t true) s = .next u ∧ u.eng.cuffRefLost = true ∧
      ∀ k < 68, (u.lane k).state ≠ .train ∧ (u.lane k).state ≠ .align ∧ (u.lane k).state ≠ .up) ∧
    exec (.refReturn t true) s = .next { s' with eng := { s'.eng with cuffRefLost := false } } ∧
    (∃ u, exec (.refReturn t false) s = .next u ∧ u = { s' with eng := u.eng, arb := u.arb } ∧ u.eng.trefLost = false ∧
      (s.eng.tgoodNeedsCal = true → u.eng.tgood = s.eng.tgood)) ∧
    (∀ temps : List Int, temps.length = 8 → (∀ x ∈ temps, x ≤ 125 * 64) → s.eng.state ≠ .sleep → s.eng.inReset = false →
      ∃ u, exec (.dieTempSample t temps) s = .next u ∧ u = { s' with eng := u.eng, arb := u.arb, cal := u.cal } ∧
        u.eng.dieTemps = temps ∧ u.eng.tCore = temps.getD 0 0 ∧ u.eng.state = s.eng.state ∧ (∀ k, 1 ≤ k → k < 8 → temps.getD k 0 ≤ u.eng.tMax) ∧
        ((∃ x ∈ temps, 115 * 64 < x) → s.eng.thermWarned = false → ∃ a, u.waits s'.now .thermWarn a)) ∧
    (∀ temps : List Int, temps.length = 8 → (∃ x ∈ temps, 125 * 64 < x) → s.eng.state ≠ .sleep → s.eng.inReset = false →
      ∃ u, exec (.dieTempSample t temps) s = .next u ∧ u.eng.inReset = true ∧ u.eng.endCause = some (s.eng.endCause.getD (.loadShed, 6)))

/-- BOOT_COMPLETE, CAL_ATTEMPT_END, READY_ENTRY and BANK_SWAP. Boot whose firmware runs and whose memory comes up
ends in Calibrate with calibration begun; memory that fails leaves the module in Boot. An attempt whose two
selections agree within one tap gives its bank the second selection and, as its T_cal, the die temperature averaged
over the attempt; one whose selection fails or disagrees is counted and raises CAL_RANGE or CAL_DISAGREE; the fourth
is a failure and ends the calibration. Before, the launch delay of every bank but the reference is trimmed until its
tap 0 lies within 16 units of 2^-10 step of the reference's (16 R473); how late it was, and what is left of that, are
free values (log 62). A calibrated module whose slack is known enters Ready. A swap makes the idle bank of both outputs
active, once the flash that was being driven when it became ready has ended. -/
def Obligations.BootAndCalibration : Prop :=
  ∀ (t : Nat) (s : State),
    let s' := s.atTime t
    (s.eng.state = .boot → s.eng.inReset = false → s.eng.bootStuck = false → (s'.bootRom).eng.relMajor ≠ 0 →
      ((s'.bootRom).loadConfig).jr.hasDelay ((s'.bootRom).loadConfig).dram.rate = true →
      (∃ u, exec (.bootComplete t none) s = .next u ∧ u.eng.state = .calibrate ∧ u.cal.mode = .calibrate ∧ u.eng.tgood = false ∧
        u.dram.valid = [] ∧ u.dram.blocks = [] ∧ u.dike.wdDeadline = some (s'.now + ((s'.bootRom).loadConfig).dike.wdMs * 1000 * 12800)) ∧
      ∀ sub bank, ∃ u, exec (.bootComplete t (some (sub, bank))) s = .next u ∧ u.eng.state = .boot ∧ u.eng.bootStuck = true ∧
        ∃ a, u.waits s'.now .memInit a) ∧
    (∀ (output bank : Nat) (n1 n2 : List Nat) (tAvg : Int),
      (s'.measuring output bank = false → exec (.calAttemptEnd t output bank n1 n2 tAvg) s = .next s') ∧
      (s'.measuring output bank = true → s.cal.outs.length = 2 →
      (∀ o ∈ s.cal.outs, o.banks.length = 2 ∧ o.attempts.length = 2 ∧ o.passed.length = 2) →
      let v := s'.trimLaunch output bank
      let x := (s.output output).bank bank
      let w := if s.cal.mode = .calibrate ∧ s.cal.cold = true then 2 ^ 18 else 2 ^ 16
      let n := (s.output output).attempts.getD bank 0
      let failed := fun (u : State) =>
        (u.output output).banks = (v.output output).banks ∧ (n ≠ 3 → (u.output output).attempts.getD bank 0 = n + 1 ∧ u.eng.state = s.eng.state) ∧
        (n = 3 → (u.output output).failures = (s.output output).failures + 1 ∧ u.cal.mode = .none ∧
          u.waits s'.now .calFail ((output * 2 ^ 40 + bank * 2 ^ 32) % 2 ^ 48))
      (s.cal.mode = .calibrate → bank = 0 → v = s') ∧
      (¬(s.cal.mode = .calibrate ∧ bank = 0) → ∃ rest : Int, -16 ≤ rest ∧ rest ≤ 16 ∧
        (v.output output).bank bank = { x with launch := x.launch - Config.launchSkew s'.free + rest, offset := rest } ∧
        v = { s' with cal := { s'.cal with outs := v.cal.outs }, free := s'.free + 1 } ∧
        ∀ o b, (o ≠ output ∨ b ≠ bank) → (v.output o).bank b = (s.output o).bank b) ∧
      (∀ t1 e1 t2 e2, calRun w s.cal.tol n1 = .ok (t1, e1) → calRun w s.cal.tol n2 = .ok (t2, e2) →
        (firstDiff t1 t2 = none → ∃ u, exec (.calAttemptEnd t output bank n1 n2 tAvg) s = .next u ∧
          (∀ sum k, (s.output output).temps.getD bank (0, 0) = (sum, k) → (u.output output).bank bank = { (v.output output).bank bank with
            tCal := if k = 0 then tAvg else roundHalfUp sum k, errMax := e2, taps := t2, selected := s'.seqFor 13 }) ∧
          s.arb.seq ≤ s'.seqFor 13 ∧ s'.seqFor 13 < u.arb.seq ∧
          u.hem = s.hem ∧ u.br = s.br ∧ u.cf = s.cf ∧ u.fc = s'.fc) ∧
        (∀ k, firstDiff t1 t2 = some k → ∃ u, exec (.calAttemptEnd t output bank n1 n2 tAvg) s = .next u ∧
          failed u ∧
          u.waits s'.now .calDisagree ((output * 2 ^ 40 + bank * 2 ^ 32 + k) % 2 ^ 48))) ∧
      (∀ e, (calRun w s.cal.tol n1 = .error e ∨ ((∃ r, calRun w s.cal.tol n1 = .ok r) ∧ calRun w s.cal.tol n2 = .error e)) → ∃ u, exec (.calAttemptEnd t output bank n1 n2 tAvg) s = .next u ∧
        failed u ∧
        u.waits s'.now .calRange (output * 2 ^ 40 + bank * 2 ^ 32 + e % 65536)))) ∧
    (s.eng.state = .calibrate → s.cal.passed = true → s'.ownSlack ≠ 0 → ∃ u, exec (.readyEntry t) s = .next u ∧ u.eng.state = .ready ∧
      u.cal = s.cal ∧ u.slack = s.slack ∧ u.br = s.br ∧ u.hem = s.hem ∧ u.feed = s.feed ∧ u.mb = s.mb) ∧
    (s.eng.state = .calibrate → (s.cal.passed = false ∨ s'.ownSlack = 0) → exec (.readyEntry t) s = .next s') ∧
    s'.ownSlack = (if s.eng.trefLost then 0 else s.slack.fSlackKhz) ∧
    (s.cal.swapReady = true → s.cal.swapAfter ≤ s'.now → ∃ u, exec (.bankSwap t) s = .next u ∧ u = { s' with cal := u.cal, jr := u.jr, arb := u.arb } ∧
      u.cal.swapReady = false ∧ u.cal.outs.map (·.active) = s.cal.outs.map (1 - ·.active) ∧ u.cal.outs.map (·.swaps) = s.cal.outs.map (·.swaps + 1) ∧
      u.cal.outs.map (·.banks) = s.cal.outs.map (·.banks)) ∧
    (s.cal.swapReady = false ∨ s'.now < s.cal.swapAfter → exec (.bankSwap t) s = .next s')

/-- SLACK_PUBLISH, SYNTHETIC_FLASH, SLACK and SLACK_PEER_TIMEOUT (01 R28 to R31). The published value is
256,000,000 over w times (256 + g) for the worst w of the window, and zero while fewer than 4,096 flashes are
measured; a measurement enters the window of the last 4,096 outside Writing and Sleep; the peer's value is kept
until three servo cycles pass without a new one. -/
def Obligations.SlackMonitor : Prop :=
  ∀ (t : Nat) (s : State),
    let s' := s.atTime t
    (∃ u, exec (.slackPublish t) s = .next u ∧ u = { s' with slack := u.slack } ∧ u.slack.wMax = (s.slack.window.map (·.2)).foldl max 0 ∧
      (s.slack.measured < 4096 → u.slack.fSlackKhz = 0) ∧
      (4096 ≤ s.slack.measured → u.slack.wMax ≠ 0 → u.slack.fSlackKhz = 256000000 / (u.slack.wMax * (256 + s.slack.g)))) ∧
    (∀ w, s.eng.state ≠ .writing → s.eng.state ≠ .sleep → ∃ u, exec (.syntheticFlash t w) s = .next u ∧
      u = { s' with slack := u.slack } ∧ (none, w) ∈ u.slack.window ∧ u.slack.window.length ≤ 4096 ∧ u.slack.measured = min 4096 (s.slack.measured + 1)) ∧
    (∀ w, s.eng.state = .writing ∨ s.eng.state = .sleep → exec (.syntheticFlash t w) s = .next s') ∧
    (exec (.slackPeerTimeout t) s = .next (if 3 ≤ s.slack.peerAge then { s' with slack := { s'.slack with peer := none } } else s'))

/-! ## Fault collector and Dike (15) -/

/-- FAULT_ACCEPT (15 R450): the fault that the arbiter takes next enters FC_FIRST, FC_FIRST_SEQ and FC_FIRST_FLASH
and sets VALID when VALID was 0; when VALID was 1 none of these changes and OVERFLOW is set. Either way its kind,
its address and one more count (saturating) are those of its source, and of no other source. A fault of a
source that is not pending with reaction 0 leaves everything else of the state alone but for a capture that
waited for that fault. -/
def Obligations.FirstFaultLatch : Prop :=
  ∀ (t : Nat) (r : Raised) (s : State), s.arb.nextFault = some r → s.fc.srcs.length = 16 →
    let s' := s.atTime t
    let src := r.name.source
    ∃ u, exec (.faultAccept t) s = .next u ∧
      (s.fc.valid = false → u.fc.valid = true ∧ u.fc.first = faultMessage r.name r.addr ∧ u.fc.firstSeq = r.seq.getD s.arb.seq ∧
        u.fc.firstFlash = s.eng.lastFlash ∧ u.fc.overflow = s.fc.overflow) ∧
      (s.fc.valid = true → u.fc.valid = true ∧ u.fc.first = s.fc.first ∧ u.fc.firstSeq = s.fc.firstSeq ∧ u.fc.firstFlash = s.fc.firstFlash ∧
        u.fc.overflow = true) ∧
      (u.fcSrc src).lastKind = r.name.kind ∧ (u.fcSrc src).lastAddr = r.addr ∧ (u.fcSrc src).cnt = min ((s.fcSrc src).cnt + 1) (2 ^ 32 - 1) ∧
      (∀ k, 1 ≤ k → k ≤ 16 → k ≠ src → (u.fcSrc k).lastKind = (s.fcSrc k).lastKind ∧ (u.fcSrc k).lastAddr = (s.fcSrc k).lastAddr ∧ (u.fcSrc k).cnt = (s.fcSrc k).cnt) ∧
      ((s.fcSrc src).pending = false → s.initialReaction r.name = 0 → u = { s' with fc := u.fc, cp := u.cp, arb := u.arb } ∧
        u.arb.faultQ = dropFirst r s.arb.faultQ ∧ u.arb.seq = (if r.seq.isSome then s.arb.seq else s.arb.seq + 1) ∧ u.arb.causeQ = s.arb.causeQ ∧
        ∃ p, u.arb.events = s.arb.events ++ [{ name := .fault r.name r.addr, stamp := p }] ∧ p.sequence = r.seq.getD s.arb.seq ∧ p.flash = s.eng.lastFlash)

/-- ESCALATION_TIMEOUT, FC_RELEASE, FC_CLR_CNT, FC_PEND_ACK and SEAM_CAUSE_ACCEPT. A timer that ran out on a pending
source raises its stage to the next reaction that the ceiling allows and raises ESCALATE; with none left it only
stops; before its instant nothing happens. FC_RELEASE clears VALID and OVERFLOW, FC_CLR_CNT the counts, and
FC_PEND_ACK resets pending, stage and timer of the sources that its mask names and that the collector does not set at
the same instant (00 R14). A cause of Fault that the arbiter
has overrides every other cause; of the others the first is taken, by slot and, within a slot, by source (01 R37). -/
def Obligations.CollectorEvents : Prop :=
  ∀ (t : Nat) (s : State), s.fc.srcs.length = 16 →
    let s' := s.atTime t
    (∀ src d, 1 ≤ src → src ≤ 16 → (s.fcSrc src).deadline = some d → (s.fcSrc src).pending = true →
      (s'.now < d → exec (.escalationTimeout t src) s = .next s') ∧
      (d ≤ s'.now → nextStage src (s.fcSrc src).stage (s.ceilingOf src) = none →
        exec (.escalationTimeout t src) s = .next { s' with fc := { s'.fc with srcs := s'.fc.srcs.set (src - 1) { s.fcSrc src with deadline := none } } }) ∧
      (∀ r, d ≤ s'.now → nextStage src (s.fcSrc src).stage (s.ceilingOf src) = some r → ∃ u, exec (.escalationTimeout t src) s = .next u ∧
        (u.fcSrc src).stage = r ∧ (u.fcSrc src).pending = true ∧ (u.fcSrc src).escalated = true ∧ (s.fcSrc src).stage < r ∧ r ≤ s.ceilingOf src ∧
        u.waits s'.now .escalate ((src * 2 ^ 40 + r * 2 ^ 32) % 2 ^ 48) ∧ u.fc.first = s.fc.first ∧ u.fc.valid = s.fc.valid)) ∧
    (∀ src, (s.fcSrc src).deadline = none → exec (.escalationTimeout t src) s = .next s') ∧
    exec (.fcRelease t) s = .next { s' with fc := { s'.fc with valid := false, overflow := false } } ∧
    exec (.fcClrCnt t) s = .next { s' with fc := { s'.fc with srcs := s'.fc.srcs.map fun (x : FcSrc) => { x with cnt := 0 } } } ∧
    (∀ mask : Word, ∃ u, exec (.fcPendAck t mask) s = .next u ∧ u = { s' with fc := { s'.fc with srcs := u.fc.srcs } } ∧ ∀ k, 1 ≤ k → k ≤ 16 →
      u.fcSrc k = if mask.getLsbD k = true ∧ (s.fcSrc k).setAt ≠ some s'.now then { s.fcSrc k with pending := false, stage := 0, escalated := false, deadline := none } else s.fcSrc k) ∧
    (s.arb.waits .fault = true → s.eng.state ≠ .sleep → s.eng.state ≠ .fault → s.eng.inReset = false → ∃ u, exec (.seamCauseAccept t) s = .next u ∧
      u.eng.state = .fault ∧ u.eng.tgood = false ∧ u.arb.causeQ = [] ∧ u.mb = s.mb ∧ u.feed = s.feed ∧ u.dram = s.dram ∧ u.pending = s.pending) ∧
    (s.arb.causeQ = [] → exec (.seamCauseAccept t) s = .next s') ∧
    (∀ at' c st, minBy causeKey s.arb.causeQ = some (at', c) → s.arb.waits .fault = false → c ≠ .reversal → s.twin.active = true → s.hem.stripe = some st → s.hem.state = .tracking →
      ∃ u, exec (.seamCauseAccept t) s = .next u ∧ u.eng.state = .seam ∧ u.hem.state = .seamStop ∧ u.hem.stats.seams = min (s.hem.stats.seams + 1) (2 ^ 64 - 1) ∧
        u.hem.stripe = some st ∧ u.mb = s.mb ∧ u.feed = s.feed ∧ u.cal = s.cal ∧ u.jr = s.jr)

/-- WATCHDOG, WATCHDOG_RESTART, LOCK_EDGE, LOCK_FIRST_QUALIFICATION and BRAKE_TIMEOUT (15 R463, R465, R469). A
watchdog not restarted in time takes HEM_TGOOD low, raises WATCHDOG and leads to Fault; Fleif restarts an armed one
for wd_ms unless the control processor has halted. The first qualified level of DIKE_LOCK_N raises nothing, each
later change raises LOCK_EDGE. The brake of an axis ends after 100 cycles at rest or brake_ms; the override
stays. -/
def Obligations.DikeEvents : Prop :=
  ∀ (t : Nat) (s : State),
    let s' := s.atTime t
    (∀ d, s.dike.wdDeadline = some d → s.dike.wdExpired = false →
      (s'.now < d → exec (.watchdog t) s = .next s') ∧
      (d ≤ s'.now → s.eng.state ≠ .sleep → s.eng.inReset = false → ∃ u, exec (.watchdog t) s = .next u ∧
        u.eng.state = .fault ∧ (s.eng.state ≠ .fault → u.eng.tgood = false) ∧ u.dike.wdExpired = true ∧ u.dike.wdDeadline = none ∧
        u.waits s'.now .watchdog 0 ∧ u.feed = s.feed ∧ u.mb = s.mb ∧ u.dram = s.dram ∧ u.pending = s.pending)) ∧
    exec (.watchdogRestart t) s = .next (if s.dike.wdDeadline.isSome = true ∧ s.cp.halted = false then
      { s' with dike := { s'.dike with wdDeadline := some (s'.now + s.dike.wdMs * 1000 * 12800) } } else s') ∧
    (∀ high : Bool,
      exec (.lockFirstQualification t high) s = .next { s' with dike := { s'.dike with lock := some (s.dike.lock.getD high) } } ∧
      (s.dike.lock = none ∨ s.dike.lock = some high → exec (.lockEdge t high) s = .next s') ∧
      (s.dike.lock = some (!high) → exec (.lockEdge t high) s = .next { s' with
        dike := { s'.dike with lock := some high }
        arb := { s'.arb with faultQ := s'.arb.faultQ ++ [{ at' := s'.now, name := .lockEdge, addr := high.toNat }] } })) ∧
    (∀ a < s.dike.axes.length, (s.dikeAxis a).ovr = true → (s.dikeAxis a).brake = true →
      exec (.brakeTimeout t a) s = .next (if 100 ≤ (s.dikeAxis a).restCount ∨ (s.dikeAxis a).brakeStart + s.dike.brakeMs * 12800000 ≤ s'.now then
        { s' with dike := { s'.dike with axes := s'.dike.axes.set a { s.dikeAxis a with brake := false } } } else s'))

/-! ## Stage feedback and Brace (09, 10) -/

/-- SAMPLE_TICK, POS_REQUEST and POS_WORD (09 R267, R269 to R273, R276). At a sample tick a Valid encoder's sample is
its converted count, a Valid port's is its word extrapolated to the tick unless the word is too old, and any other
source that is not Off has a missing sample. A request at a multiple of 64 × word_period, to a port with none in
progress, clocks it and notes the instant and the bit period; one that got no good word counts as missed, lost_words
of them lose a Valid port, and the request after that loss makes it acquire. A reply of
one to eight zeros, a one and 72 bits whose CRC-16 and reserved bits are right, whose counter follows and whose ERR
and WARN are 0 is a good word; one whose CRC is wrong is counted, raises POS_CRC once per stripe and is not used; one
without a start bit raises POS_NOSTART. A block that waits for a tick is in force at it (R538). -/
def Obligations.PositionSamples : Prop :=
  ∀ (t : Nat) (s : State), s.feed.srcs.length = 16 →
    let s' := s.atTime t
    let c := fun n => (s'.settle n).src n
    (s'.now % 640 = 0 → s.eng.state ≠ .sleep → s.eng.state ≠ .boot → ∃ u, exec (.sampleTick t) s = .next u ∧
      u.feed.lastTick = some s'.now ∧
      (∀ n < 16, (c n).state ≠ .off → ((c n).state ≠ .valid ∨ (c n).cfg.enable ≠ 1) → (u.src n).y = none) ∧
      (∀ n < 16, 8 ≤ n → (c n).state = .valid → (c n).cfg.enable = 1 →
        (u.src n).y = (c n).toFu (if n < 12 then (c n).quad.count else (c n).sc.periods * 4096 + (c n).sc.phase)) ∧
      (∀ n < 8, (c n).state = .valid → (c n).cfg.enable = 1 → (c n).port.next = none → (c n).port.haveWord = true →
        (u.src n).y = if 12800 * (c n).cfg.staleUs < s'.now - (c n).port.tw then none
          else ((c n).toFu (c n).port.pw).map fun v => v + roundHalfUp ((c n).port.v * ((s'.now : Int) - (c n).port.tw)) 65536) ∧
      u.mb = s.mb ∧ u.dram = s.dram ∧ u.cal = s.cal ∧ u.jr = s.jr ∧ u.job = s.job ∧ u.bands = s.bands ∧ u.cc = s.cc ∧ u.tu = s'.tu ∧ u.pending = s.pending) ∧
    (s'.now % 640 ≠ 0 → exec (.sampleTick t) s = .next s') ∧
    (∀ n < 8, (c n).requestDue s'.now = true →
      ∃ u, exec (.posRequest t n) s = .next u ∧
        u = { s' with feed := u.feed, out := s'.out ++ [.posClock n s'.now (256 * (c n).loaded.clkDiv)], br := u.br, arb := u.arb } ∧
        (u.src n).port.tReq = some s'.now ∧ (u.src n).port.bit = 256 * (c n).loaded.clkDiv ∧ (u.src n).port.rx = (c n).loaded.rxDelay ∧
        ((c n).port.tReq = none → (c n).state ≠ .lostTransport → (u.src n).state = (c n).state ∧
          (u.src n).port = { (c n).port with tReq := some s'.now, bit := 256 * (c n).loaded.clkDiv, rx := (c n).loaded.rxDelay }) ∧
        ((c n).state = .lostTransport → (u.src n).state = .acquire) ∧
        ((c n).port.tReq ≠ none → (c n).state = .valid → (u.src n).port.goodRun = 0 ∧ (u.src n).port.badRun = (c n).port.badRun + 1 ∧
          (u.src n).state = if (c n).cfg.lostWords ≤ (c n).port.badRun + 1 then .lostTransport else .valid) ∧
        ∀ k < 16, k ≠ n → u.src k = s.src k) ∧
    (∀ n < 8, ∀ now, (c n).requestDue now = true ↔
      ((c n).cfg.enable = 1 ∧ (c n).state ≠ .off ∧ now % (64 * (c n).loaded.wordPeriod) = 0 ∧ ∀ r, (c n).port.tReq = some r → r + 83 * (c n).port.bit ≤ now)) ∧
    (∀ n, (c n).requestDue s'.now = false → ∃ u, exec (.posRequest t n) s = .next u ∧ u = { s' with feed := u.feed, br := u.br, arb := u.arb } ∧ u.src n = c n) ∧
    (∀ n < 8, ∀ tReq zeros, ∀ bits : List Bool, (c n).port.tReq = some tReq → (c n).state ≠ .off → 1 ≤ zeros → zeros ≤ 8 → bits.length = 72 →
      (s'.fc.inject.getD 11 {}).count = 0 →
      (crc16 (bits.take 56) = bitsNat (bits.drop 56) → bits.getD 52 false = false → bits.getD 53 false = false → bits.getD 54 false = false → bits.getD 55 false = false →
        (∀ x, (c n).port.lastCnt = some x → (x + 1) % 16 = bitsNat ((bits.drop 48).take 4)) →
        ∃ u, exec (.posWord t n (List.replicate zeros false ++ true :: bits)) s = .next u ∧
          u = { s' with feed := u.feed, arb := u.arb, br := u.br, out := s'.out ++ [.posIdle n (zeros + 73)] } ∧
          (u.src n).port = { (c n).port with
            tReq := none, lastCnt := some (bitsNat ((bits.drop 48).take 4)), goodRun := (c n).port.goodRun + 1, badRun := 0
            next := some (wrapS 48 (Int.ofNat (bitsNat (bits.take 48))), tReq + nsSteps (c n).cfg.latchDelay,
              (5 * (tReq + (zeros + 73) * (c n).port.bit) + 64 * (c n).port.rx) / 5 + 1, (c n).port.goodRun + 1) } ∧
          ((c n).state = .acquire → 1 ≤ (c n).port.goodRun → (u.src n).state = .valid) ∧ ∀ k < 16, k ≠ n → u.src k = s.src k) ∧
      (crc16 (bits.take 56) ≠ bitsNat (bits.drop 56) → ∃ u, exec (.posWord t n (List.replicate zeros false ++ true :: bits)) s = .next u ∧
        u = { s' with feed := u.feed, arb := u.arb, br := u.br, out := s'.out ++ [.posIdle n (zeros + 73)] } ∧
        (u.src n).port = { (c n).port with
          tReq := none, crcRaised := true, crcErrors := (c n).port.crcErrors + 1, goodRun := 0, badRun := (c n).port.badRun + 1 } ∧
        ((c n).port.crcRaised = false → u.waits s'.now .posCrc (s.addrFlash n)) ∧
        ((c n).state = .valid → (c n).cfg.lostWords ≤ (c n).port.badRun + 1 → (u.src n).state = .lostTransport))) ∧
    (∀ n < 8, ∀ reply, (c n).port.tReq ≠ none → (c n).state ≠ .off → startBit reply = none → ∃ u, exec (.posWord t n reply) s = .next u ∧
      u = { s' with feed := u.feed, arb := u.arb, br := u.br, out := u.out } ∧ u.waits s'.now .posNostart (s.addrFlash n) ∧
      (u.src n).port = { (c n).port with tReq := none, goodRun := 0, badRun := (c n).port.badRun + 1 })

/-- QUAD_EDGE, INDEX_EVENT, SINCOS_SAMPLE and FEED_QCLR (09 R277 to R282, R298). One changed line moves the count by
one, up in the sequence 00, 01, 11, 10; two changed lines leave it, count an illegal transition, raise
QUAD_ILLEGAL and make the source SUSPECT; an index event latches the count and its instant if its gate lets it, and
joins those that a homing axis waits for. A
Valid sine/cosine source takes a phase within one count of the exact one (log 13), keeps whole periods, and is Lost
with SC_AMP or SC_SPEED outside its window or after more than a quarter turn. FEED_QCLR zeroes the counts that its mask
names, and leaves one that counted in the same cycle at 1. -/
def Obligations.EncoderEvents : Prop :=
  ∀ (t e : Nat) (s : State), e < 4 → s.feed.srcs.length = 16 →
    let s' := s.atTime t
    let qs := (s'.settle (8 + e)).src (8 + e)
    let q := qs.quad
    let c := (s'.settle (12 + e)).src (12 + e)
    (∀ a b : Bool, qs.state ≠ .off → ∃ u, exec (.quadEdge t e a b) s = .next u ∧ u = { s' with feed := u.feed, arb := u.arb } ∧
      (∀ k < 16, k ≠ 8 + e → u.src k = s.src k) ∧ (u.src (8 + e)).quad.a = a ∧ (u.src (8 + e)).quad.b = b ∧
      (q.a = a → q.b = b → u = s'.settle (8 + e)) ∧
      (q.a ≠ a → q.b ≠ b → (u.src (8 + e)).suspect = true ∧
        (u.src (8 + e)).quad = { q with a := a, b := b, qerr := min (q.qerr + 1) 255, qerrAt := some (s'.now / 64) } ∧
        u.arb.faultQ = s.arb.faultQ ++ [{ at' := s'.now, name := .quadIllegal, addr := s.addrFlash (8 + e) % 2 ^ 48 }]) ∧
      ((q.a, q.b, a, b) ∈ [(false, false, false, true), (false, true, true, true), (true, true, true, false), (true, false, false, false)] →
        (u.src (8 + e)).quad.count = wrapS 48 (q.count + 1) ∧ (u.src (8 + e)).quad.dir = 1 ∧ u.arb = s.arb) ∧
      ((a, b, q.a, q.b) ∈ [(false, false, false, true), (false, true, true, true), (true, true, true, false), (true, false, false, false)] →
        (u.src (8 + e)).quad.count = wrapS 48 (q.count - 1) ∧ (u.src (8 + e)).quad.dir = -1 ∧ u.arb = s.arb)) ∧
    (∃ u, exec (.indexEvent t e) s = .next u ∧ u = { s' with feed := u.feed, br := u.br } ∧
      u.feed.srcs = (if qs.state = .off ∨ (qs.cfg.gate.testBit 2 = true ∧ ¬(q.a = qs.cfg.gate.testBit 1 ∧ q.b = qs.cfg.gate.testBit 0)) then
        (s'.settle (8 + e)).feed.srcs else s.feed.srcs.set (8 + e) { qs with quad := { q with index := some (q.count, s'.now) } }) ∧
      ((∀ x ∈ s.br.axes, x.homing = none) → u.br = s.br)) ∧
    (∀ rawS rawC : Int,
      let ss := scCorrect rawS c.cfg.offS c.cfg.gS
      let cc := scCorrect rawC c.cfg.offC c.cfg.gC
      let inside := (c.cfg.ampLo * 1024 : Int) ≤ ss * ss + cc * cc ∧ ss * ss + cc * cc ≤ (c.cfg.ampHi * 1024 : Int)
      c.state = .valid → ∃ (u : State) (ph : Nat), exec (.sincosSample t e rawS rawC) s = .next u ∧ u = { s' with feed := u.feed, arb := u.arb, br := u.br, free := u.free } ∧
        (∀ k < 16, k ≠ 12 + e → u.src k = s.src k) ∧
        (ph = (phaseFloor ss cc).1 ∨ (phaseFloor ss cc).2 = false ∧ ph = ((phaseFloor ss cc).1 + 1) % 4096) ∧
        (¬inside → (u.src (12 + e)).state = .lostSensor ∧ u.waits s'.now .scAmp (s.addrFlash (12 + e))) ∧
        (inside → 1024 < (wrapS 12 ((ph : Int) - c.sc.phase)).natAbs → (u.src (12 + e)).state = .lostSensor ∧
          u.waits s'.now .scSpeed (s.addrFlash (12 + e))) ∧
        (inside → (wrapS 12 ((ph : Int) - c.sc.phase)).natAbs ≤ 1024 → (u.src (12 + e)).state = .valid ∧ (u.src (12 + e)).sc = { c.sc with
          phase := ph, periods := c.sc.periods + (if 3072 ≤ c.sc.phase ∧ ph < 1024 then 1 else if c.sc.phase < 1024 ∧ 3072 ≤ ph then -1 else 0) })) ∧
    (∀ rawS rawC : Int, c.state = .acquire →
      let a2 := scCorrect rawS c.cfg.offS c.cfg.gS * scCorrect rawS c.cfg.offS c.cfg.gS + scCorrect rawC c.cfg.offC c.cfg.gC * scCorrect rawC c.cfg.offC c.cfg.gC
      ∃ u, exec (.sincosSample t e rawS rawC) s = .next u ∧
        (u.src (12 + e)).sc.okTicks = (if (c.cfg.ampLo * 1024 : Int) ≤ a2 ∧ a2 ≤ (c.cfg.ampHi * 1024 : Int) then c.sc.okTicks + 1 else 0) ∧
        (u.src (12 + e)).state = if 2 ≤ (u.src (12 + e)).sc.okTicks then .valid else .acquire) ∧
    (∀ mask, ∃ u, exec (.feedQclr t mask) s = .next u ∧ u = { s' with feed := { s'.feed with srcs := u.feed.srcs } } ∧
      ∀ k < 16, u.src k = if 8 ≤ k ∧ k < 12 ∧ mask.testBit (k - 8) = true then
        { s.src k with quad := { (s.src k).quad with qerr := if (s.src k).quad.qerrAt = some (s'.now / 64) then 1 else 0 } } else s.src k)

/-- PROBE_EDGE, COMPARE_FIRE, COMPARE_PULSE_END, SWITCH_EDGE and SWITCH_FIRST_QUALIFICATION (09 R285 to R295). An edge
that a probe wants joins its entries while fewer than 16 are held, and is dropped after that, which sets the overflow
bit that PROBE_READ reports; single mode disarms. A compare that fires raises its output; a periodic one then steps until its value lies ahead
and counts what it skipped. A switch input takes its first level without an edge, which raises LIM_BOTH when both limits are active, and a later one once the
hysteresis lets it through.
How long an edge that the hysteresis keeps out is held is the model's reading (log 33). -/
def Obligations.TouchInputs : Prop :=
  ∀ (t : Nat) (s : State), s.feed.probes.length = 2 → s.feed.cmps.length = 4 → s.feed.sw.length = 12 →
    let s' := s.atTime t
    (∀ n < 2, ∀ te rising,
      let p := s.feed.probes.getD n {}
      let wanted := p.edge.testBit (if rising then 0 else 1) = true ∧ (p.mode = 2 ∨ (p.mode = 1 ∧ p.armed = true))
      ∃ u, exec (.probeEdge t n te rising) s = .next u ∧ u = { s' with feed := { s'.feed with probes := u.feed.probes }, arb := u.arb } ∧
        let p' := u.feed.probes.getD n {}
        p'.level = rising ∧
        (¬wanted → p' = { p with level := rising } ∧ u.arb = s.arb) ∧
        (wanted → 16 ≤ p.buf.length + p.waiting.length → p' = { p with level := rising, overflow := true, dropped := true } ∧ u.arb = s.arb) ∧
        (wanted → p.buf.length + p.waiting.length < 16 → p'.buf.length + p'.waiting.length = p.buf.length + p.waiting.length + 1 ∧
          (p.mode = 1 → p'.armed = false) ∧ (s.feed.lastTick = none → p'.waiting = p.waiting ++ [(te, rising, s.eng.lastFlash, p.dropped)]))) ∧
    (∀ n < 4, ∀ f,
      let c := s.feed.cmps.getD n {}
      c.fireAt = some f → f ≤ s'.now → c.state = .armed → s.twin.active = true → ∃ u, exec (.compareFire t n) s = .next u ∧
        u = { s' with feed := { s'.feed with cmps := u.feed.cmps }, out := s'.out ++ [.compare n true], arb := u.arb } ∧
        let c' := u.feed.cmps.getD n {}
        c'.fireAt = none ∧ c'.highUntil = some (s'.now + c.width * 64) ∧ (c.mode = 0 → c'.state = .fired ∧ c'.value = c.value) ∧
        (c.mode ≠ 0 → c'.state = .armed ∧ ∃ k : Nat, c'.value = c.value + (k + 1) * c.step ∧ c'.skipped = c.skipped + k ∧ (c'.missed = true ↔ c.missed = true ∨ 0 < k) ∧
          ∀ y, (s.src c.source).y = some y → (c.dir = 1 → 0 < c.step → y < c'.value) ∧ (c.dir = -1 → c.step < 0 → c'.value < y))) ∧
    (∃ u, exec (.comparePulseEnd t) s = .next u ∧ u = { s' with feed := { s'.feed with cmps := u.feed.cmps }, out := u.out } ∧ ∀ n < 4,
      u.feed.cmps.getD n {} = { s.feed.cmps.getD n {} with highUntil := (s.feed.cmps.getD n {}).highUntil.filter fun h => decide (s'.now < h) } ∧
      (∀ h, (s.feed.cmps.getD n {}).highUntil = some h → h ≤ s'.now → .compare n false ∈ u.out)) ∧
    (∀ n < 4, ∀ input < 3, ∀ raw tRaw,
      (s.swIn n input).qualified = none → exec (.switchEdge t n input raw tRaw) s = .next s') ∧
    (∀ n < 4, ∀ input < 3, ∀ raw tRaw, (s.swIn n input).qualified = some (!raw) → ∃ u, exec (.switchEdge t n input raw tRaw) s = .next u ∧
      u.out = s'.out ∧ u.eng = s.eng ∧ u.mb = s.mb ∧ u.hem = s.hem ∧ u.fc = s'.fc ∧ u.feed.srcs = s.feed.srcs ∧
      (s'.hystOk n input = true → (u.swIn n input).qualified = some raw ∧ (u.swIn n input).held = none) ∧
      (s'.hystOk n input = false → (u.swIn n input).qualified = some (!raw) ∧ (u.swIn n input).held = some { raw := raw, tRaw := tRaw } ∧ u.br = s.br ∧ u.arb = s.arb)) ∧
    (∀ n < 4, ∀ input < 3, ∀ raw, ∃ u, exec (.switchFirstQualification t n input raw) s = .next u ∧
      (u.swIn n input).qualified = some ((s.swIn n input).qualified.getD raw) ∧ ((s.swIn n input).qualified ≠ none → u = s') ∧
      (input < 2 → (s.swIn n input).qualified = none → u.swActive n 0 = true → u.swActive n 1 = true → u.waits s'.now .limBoth (s.addrFlash n)) ∧
      u.out = s'.out ∧ u.eng = s.eng ∧ u.mb = s.mb ∧ u.hem = s.hem ∧ u.fc = s'.fc ∧ u.feed.srcs = s.feed.srcs)

/-- SERVO_CYCLE, OUTPUT_PHASE and SETTLE_TIMEOUT (10 R301, R302, R308, R329). A servo cycle that begins at a multiple
of T_s numbers itself by it, and the frame of the cycle before becomes the previous one; nothing outside Brace, Hem,
the samples' users and the twin's messages changes. The output phase, at k × T_s + out_phase, of a cycle that has
finished sends both links' frames of this cycle, that of one that has not sends the previous setpoints with HOLD_PREV
and raises OUTPUT_LATE; a standby of a pair sends the frame that the active twin sent it for this cycle, or raises
ACT_COPY_MISS once per stripe. SETTLE_TIMEOUT is raised once per settling. -/
def Obligations.ServoCycles : Prop :=
  ∀ (t : Nat) (s : State),
    let s' := s.atTime t
    let frame := fun (link cycle : Nat) (set : List Int) (ctrl : Nat) =>
      let b := actFrame s.eng.twinB s.twin.active link ctrl cycle set 0
      Out.act link b (actGroups (s.br.rd.getD link false) b).1
    (s'.now % (12800 * s.br.g.cycUs) = 0 → s.eng.state ≠ .sleep → s.eng.state ≠ .boot → ∃ u, exec (.servoCycle t) s = .next u ∧
      u.br.cycle = s'.now / (12800 * s.br.g.cycUs) ∧ u.br.cur.cycle = u.br.cycle ∧ u.br.prev = s.br.cur ∧ u.slack.peerAge = s.slack.peerAge + 1 ∧
      u.eng = s.eng ∧ (s.twin.swapDue = false → u.tu = s'.tu) ∧ u.mb = s.mb ∧ u.cp = s.cp ∧ u.sl = s.sl ∧ u.dram = s.dram ∧ u.cal = s.cal ∧ u.jr = s.jr ∧ u.job = s.job ∧
      u.bands = s.bands ∧ u.cc = s.cc ∧ u.loom = s.loom ∧ u.pol = s.pol ∧ u.sh = s.sh ∧ u.cf = s.cf ∧ u.pending = s.pending) ∧
    (s'.now % (12800 * s.br.g.cycUs) ≠ 0 → exec (.servoCycle t) s = .next s') ∧
    (s'.now % (12800 * s.br.g.cycUs) ≠ s.br.g.outPhase → ∀ finished, exec (.outputPhase t finished) s = .next s') ∧
    (s'.now % (12800 * s.br.g.cycUs) = s.br.g.outPhase → s.twin.active = true → s.eng.state ≠ .sleep → s.eng.state ≠ .boot → (s'.fc.inject.getD 13 {}).count = 0 →
      (∃ u, exec (.outputPhase t true) s = .next u ∧ u = { s' with out := u.out, br := { s'.br with rd := u.br.rd } } ∧
        u.out = s'.out ++ [frame 0 s.br.cur.cycle s.br.cur.set0 s.br.cur.ctrl0, frame 1 s.br.cur.cycle s.br.cur.set1 s.br.cur.ctrl1]) ∧
      ∃ u, exec (.outputPhase t false) s = .next u ∧
        u = { s' with out := u.out, br := { s'.br with rd := u.br.rd }, arb := u.arb, twin := { s'.twin with txQ := u.twin.txQ } } ∧
        u.out = s'.out ++ [frame 0 s.br.cur.cycle s.br.prev.set0 (s.br.cur.ctrl0 + 16), frame 1 s.br.cur.cycle s.br.prev.set1 (s.br.cur.ctrl1 + 16)] ∧
        u.arb.faultQ = s.arb.faultQ ++ [{ at' := s'.now, name := .outputLate, addr := s.addrFlash 0xFF % 2 ^ 48 }]) ∧
    (s'.now % (12800 * s.br.g.cycUs) = s.br.g.outPhase → s.twin.active = false → s'.twin.swapDue = false → s.twin.pair ≠ .alone → s.eng.state ≠ .sleep →
      s.eng.state ≠ .boot → (s'.fc.inject.getD 13 {}).count = 0 → ∀ finished, ∃ u, exec (.outputPhase t finished) s = .next u ∧
        u = { s' with out := u.out, br := u.br, arb := u.arb } ∧
        (∀ f, s.br.copied = some f → f.cycle = s.br.cycle → s.dike.peerHold = false →
          u.out = s'.out ++ [frame 0 f.cycle f.set0 f.ctrl0, frame 1 f.cycle f.set1 f.ctrl1] ∧ u.arb = s.arb) ∧
        ((s.br.copied.all fun f => f.cycle != s.br.cycle) = true → u.out = s'.out ∧ u.br.copyMisses = s.br.copyMisses + 1 ∧
          (s.br.copyMissRaised = false → u.waits s'.now .actCopyMiss (s.addrFlash 0) ∧ u.waits s'.now .actCopyMiss (s.addrFlash 1)))) ∧
    (∀ a < s.br.axes.length,
      exec (.settleTimeout t a) s = .next (if (s.axis a).settling = true ∧ (s.axis a).settleLate = false ∧ s.twin.active = true ∧
          (s.axis a).settleStart + (s.axis a).cfg.settleTo * 12800000 < s'.now then
        { s' with
          arb := { s'.arb with faultQ := s'.arb.faultQ ++ [{ at' := s'.now, name := .settleTimeout, addr := s.addrFlash a % 2 ^ 48 }] }
          br := { s'.br with axes := s'.br.axes.set a { s.axis a with settleLate := true } } }
      else s'))

/-! ## Hem (07) -/

/-- FLASH_ISSUE (07 R196, R198, R221; 15 R468). At its instant the first committed flash is issued: its strobe goes
out with its edge set, without the dose clock when the set is late or Dike finds the interval too short (which
raises RATE_CLAMP); LAST_FLASH, the mark, its stripe, the instant and the end of its window are noted and it leaves the
committed ones; in a Seam stop q_b follows the mark. The last flash of a stripe, issued in Tracking (R210), ends the
stripe: Hem is Idle, and the engine of an active twin in Ready. Before its instant, and with none committed, nothing
happens. What Hem checks at a flash completes too: EDGE_LATE, TGOOD_DROP and PEER_EDGE wait for the arbiter with the
flash as address, and PHASE_TRIM leaves all but the trim and its drift flag; so do the commands at which an open stripe
of the active twin begins, is given up in Held, or runs again, alone or with its group. -/
def Obligations.FlashIssues : Prop :=
  ∀ (t : Nat) (s : State),
    let s' := s.atTime t
    (s.hem.committed = [] → exec (.flashIssue t) s = .next s') ∧
    ∀ c rest, s.hem.committed = c :: rest →
      (s'.now < c.tn → exec (.flashIssue t) s = .next s') ∧
      (c.tn ≤ s'.now → ∃ u, exec (.flashIssue t) s = .next u ∧
        (∃ l, u.out = s'.out ++ .strobe c.record.flash c.tn c.edges (!s.tooSoon c.tn && !c.edgeLate) :: l) ∧
        u.eng.lastFlash = c.record.flash ∧ u.hem.issuedAt = c.tn ∧ u.hem.issuedEnd = c.endAt ∧ u.dike.lastStrobe = some c.tn ∧
        u.hem.stats.issued = min (s.hem.stats.issued + 1) (2 ^ 64 - 1) ∧
        (s.tooSoon c.tn = true → u.waits s'.now .rateClamp (c.record.flash % 2 ^ 40)) ∧
        u.hem.committed = rest ∧
        (∀ st, s.hem.stripe = some st → (c.last = false ∨ (s.hem.state ≠ .tracking ∧ s.hem.commitSince = false)) →
          u.hem.mHw = some c.record.m ∧ u.hem.stripe = some st ∧ u.hem.state = s.hem.state ∧ u.eng.state = s.eng.state ∧ u.cf.lastStripe = st.stripe ∧
          (s.hem.state = .seamStop → u.hem.qb = ((c.record.m + 1) * st.p : Nat) - st.dRu)) ∧
        (∀ st, s.hem.stripe = some st → c.last = true → s.hem.state = .tracking → u.hem.stripe = none ∧ u.hem.state = .idle ∧
          u.eng.state = if s.twin.active = true then .ready else s.eng.state) ∧
        u.mb = s.mb ∧ u.dram = s.dram ∧ u.cal = s.cal ∧ u.feed = s.feed ∧ u.slack = s.slack ∧ u.tu = s'.tu ∧ u.pol.sram = s.pol.sram ∧ u.pending = s.pending) ∧
      (c.edgeLate = false → s.hem.issuedEnd ≤ s'.now → ∃ u, exec (.edgeLate t) s = .next u ∧
        u.hem.committed = { c with edgeLate := true } :: rest ∧ u.waits s'.now .edgeLate c.record.flash) ∧
      (s.eng.tgood = true → ∃ u, exec (.tgoodDrop t c.record.flash) s = .next u ∧ u.eng.tgood = false ∧ u.waits s'.now .tgoodDrop c.record.flash) ∧
      (∀ d : Int, 150 * 256 < (d + 256 * s.twin.cfg.peerComp).natAbs → s.hem.peerEdgeFlash = none → s.hem.dropFlash = none →
        ∃ u, exec (.peerEdge t c.record.flash d) s = .next u ∧ u.eng.tgood = s.eng.tgood ∧ u.waits s'.now .peerEdge c.record.flash) ∧
      (∀ d : Int, ∃ u, exec (.phaseTrim t d) s = .next u ∧ u.eng = s.eng ∧ u.hem.committed = s.hem.committed) ∧
      (∀ st, s.hem.stripe = some st → s.twin.active = true →
        (s.hem.state = .held → s.hem.heldSince + s.hem.cfg.heldTime * 12800 < s'.now → s.arb.waits .heldAbandon = false →
          ∃ u, exec (.heldTimeout t) s = .next u ∧ u.arb.causeQ = s.arb.causeQ ++ [(s'.now, .heldAbandon)] ∧ u.hem = s.hem) ∧
        (s'.mayResume st = true → s'.doseWindow ≤ period (min st.fPlan s'.fCeil) →
          ∃ u, exec (.seamResumeStart t) s = .next u ∧ u.hem.state = .seamRun ∧ u.hem.fRun = min st.fPlan s'.fCeil) ∧
        (s'.mayBegin = true →
          (st.sync = false → ∃ u, exec (.stripeBegin t) s = .next u ∧ u.eng.state = .writing ∧ u.hem.state = .runIn ∧ u.hem.begun = true) ∧
          (∀ o, s.ring.sync = some o → s.hem.begun = false → st.sync = true → st.stripe = o.stripe → 0 ≤ t8Diff s'.tu.t8 o.at' →
            s.tu.excluded = false → s.eng.pairId ∉ s.ring.quarantined →
            ∃ u, exec (.syncStartInstant t) s = .next u ∧ u.eng.state = .writing ∧ u.hem.state = .runIn ∧ u.hem.begun = true)) ∧
        (∀ o, s.ring.resumeAt = some o → 0 ≤ t8Diff s'.tu.t8 o.at' → exec (.groupResumeInstant t) s = .next { s' with
          ring := { s'.ring with resumeAt := none, groupHeld := false }
          hem := { s'.hem with runs := 0, causes := s'.hem.causes.filter fun c => c != .pause true && c != .resumeHold } }))

/-- EDGE_LATE, TGOOD_DROP, PEER_EDGE and PHASE_TRIM (07 R222 to R225; 11 R346). An edge set that is late is marked
and raises EDGE_LATE once; a drop of HEM_TGOOD is an event of the arbiter, is counted, raises TGOOD_DROP and asks for a
calibration; an edge of the peer more than 150 ps away is counted and raised once per flash, unless the module's own
check of the flash has failed; PHASE_DRIFT is raised once per stripe beyond
40 ps, and only twin B in Writing moves its trim, by at most 4 and within s10. -/
def Obligations.EdgeChecks : Prop :=
  ∀ (t : Nat) (s : State),
    let s' := s.atTime t
    (∀ c rest, s.hem.committed = c :: rest → c.edgeLate = false → s.hem.issuedEnd ≤ s'.now → exec (.edgeLate t) s = .next { s' with
      arb := { s'.arb with faultQ := s'.arb.faultQ ++ [{ at' := s'.now, name := .edgeLate, addr := c.record.flash % 2 ^ 48 }] }
      hem := { s'.hem with committed := { c with edgeLate := true } :: rest, stats := { s'.hem.stats with edgeLate := min (s.hem.stats.edgeLate + 1) (2 ^ 64 - 1) } } }) ∧
    ((s'.now < s.hem.issuedEnd ∨ s.hem.committed = [] ∨ (s.hem.committed.head?.any fun c => c.edgeLate) = true) → exec (.edgeLate t) s = .next s') ∧
    (∀ flash, s.eng.tgood = false → exec (.tgoodDrop t flash) s = .next { s' with hem := { s'.hem with dropFlash := some flash } }) ∧
    (∀ flash, s.eng.tgood = true → exec (.tgoodDrop t flash) s = .next { s' with
      eng := { s'.eng with tgood := false, tgoodNeedsCal := true }
      arb := { (s'.event (.tgood false)).arb with
        faultQ := (s'.event (.tgood false)).arb.faultQ ++ [{ at' := s'.now, name := .tgoodDrop, addr := flash % 2 ^ 48 }] }
      hem := { s'.hem with dropFlash := some flash, stats := { s'.hem.stats with tgoodDrops := min (s.hem.stats.tgoodDrops + 1) (2 ^ 64 - 1) } } }) ∧
    (∀ flash d,
      let far := 150 * 256 < (d + 256 * s.twin.cfg.peerComp).natAbs ∧ s.hem.peerEdgeFlash ≠ some flash ∧ s.hem.dropFlash ≠ some flash
      (¬far → exec (.peerEdge t flash d) s = .next s') ∧
      (far → exec (.peerEdge t flash d) s = .next { s' with
        arb := { s'.arb with faultQ := s'.arb.faultQ ++ [{ at' := s'.now, name := .peerEdge, addr := flash % 2 ^ 48 }] }
        hem := { s'.hem with peerEdgeFlash := some flash, stats := { s'.hem.stats with peerEdges := min (s.hem.stats.peerEdges + 1) (2 ^ 64 - 1) } } })) ∧
    (∀ meanD : Int, ∃ u, exec (.phaseTrim t meanD) s = .next u ∧ u = { s' with arb := u.arb, hem := { s'.hem with driftRaised := u.hem.driftRaised }, twin := { s'.twin with trimDue := u.twin.trimDue } } ∧
      (10240 < (meanD + 256 * s.twin.cfg.peerComp).natAbs → u.hem.driftRaised = true ∧
        (s.hem.driftRaised = false → ∃ a, u.arb.faultQ = s.arb.faultQ ++ [{ at' := s'.now, name := .phaseDrift, addr := a }])) ∧
      ((meanD + 256 * s.twin.cfg.peerComp).natAbs ≤ 10240 → u.arb = s.arb ∧ u.hem = s.hem) ∧
      (¬(s.eng.twinB = true ∧ s.eng.state = .writing) → u.twin = s'.twin) ∧
      (s.eng.twinB = true → s.eng.state = .writing → ∃ x, u.twin.trimDue = some x ∧ -512 ≤ x ∧ x ≤ 511 ∧
        (∀ y, y = s.twin.trimDue.getD s.twin.trim → -512 ≤ y → y ≤ 511 → y - 4 ≤ x ∧ x ≤ y + 4)))

/-- HELD_TIMEOUT, SEAM_RESUME_START, STRIPE_BEGIN, SYNC_START_INSTANT and GROUP_RESUME_INSTANT (07 R200, R205 to R207,
R210, R220; 01 R26; 11 R370, R371). A stripe begins, on its own or at the instant of its group, once R26 holds and
only on the active twin: Hem is in Run-in and the engine in Writing. A Seam whose causes have cleared and whose stage
is settled runs again at the lower of f_plan and the ceiling, unless that period is shorter than the dose window.
Held that lasts too long is abandoned once. A group's
resume clears the group pause and the count of resume attempts at its instant. On a standby, and without the open
stripe that each asks for, nothing happens. -/
def Obligations.StripeStarts : Prop :=
  ∀ (t : Nat) (s : State),
    let s' := s.atTime t
    let begun := fun (u : State) =>
      u.eng.state = .writing ∧ u.hem = { s.hem with state := .runIn, begun := true, resync := true, armed := true, closed := false } ∧
      u.mb = s.mb ∧ u.feed = s.feed ∧ u.bands = s.bands ∧ u.sh = s.sh ∧ u.cal = s.cal ∧ u.jr = s.jr ∧ u.job = s.job
    ((s.hem.stripe = none ∨ s.twin.active = false) → exec (.heldTimeout t) s = .next s' ∧ exec (.seamResumeStart t) s = .next s' ∧ exec (.stripeBegin t) s = .next s') ∧
    (∀ st, s.hem.stripe = some st → s.twin.active = true →
      (s.hem.state = .held → s.hem.heldSince + s.hem.cfg.heldTime * 12800 < s'.now →
        (s.arb.waits .heldAbandon = false → ∃ u a, exec (.heldTimeout t) s = .next u ∧ u = { s' with arb := { s'.arb with
          causeQ := s'.arb.causeQ ++ [(s'.now, .heldAbandon)], faultQ := s'.arb.faultQ ++ [{ at' := s'.now, name := .heldAbandon, addr := a }] } }) ∧
        (s.arb.waits .heldAbandon = true → exec (.heldTimeout t) s = .next s')) ∧
      (s.hem.state ≠ .held ∨ s'.now ≤ s.hem.heldSince + s.hem.cfg.heldTime * 12800 → exec (.heldTimeout t) s = .next s') ∧
      (s'.mayResume st = true → s'.doseWindow ≤ period (min st.fPlan s'.fCeil) → ∃ u, exec (.seamResumeStart t) s = .next u ∧
        u = { s' with br := u.br, arb := u.arb, hem := u.hem } ∧ u.hem = { s.hem with
          state := .seamRun, seamStep := 5, fRun := min st.fPlan s'.fCeil, resync := true, closed := false }) ∧
      (s'.mayResume st = true → period (min st.fPlan s'.fCeil) < s'.doseWindow → ∃ u, exec (.seamResumeStart t) s = .next u ∧
        u = { s' with arb := u.arb, hem := { s'.hem with fitRaised := true } } ∧ (s.hem.fitRaised = false → u.waits s'.now .edgeFit s'.doseWindow)) ∧
      (s'.mayResume st = false → exec (.seamResumeStart t) s = .next s') ∧
      (st.sync = false → s'.mayBegin = true → ∃ u, exec (.stripeBegin t) s = .next u ∧ begun u) ∧
      (st.sync = true ∨ s'.mayBegin = false → exec (.stripeBegin t) s = .next s')) ∧
    ((s.ring.sync = none ∨ s.twin.active = false ∨ s.hem.begun = true) → exec (.syncStartInstant t) s = .next s') ∧
    (∀ o, s.ring.sync = some o → s.twin.active = true → s.hem.begun = false →
      let accepted := ∃ st, s.hem.stripe = some st ∧ st.sync = true ∧ st.stripe = o.stripe
      let out := s.tu.excluded = true ∨ s.eng.pairId ∈ s.ring.quarantined
      (t8Diff s'.tu.t8 o.at' < 0 → exec (.syncStartInstant t) s = .next s') ∧
      (0 ≤ t8Diff s'.tu.t8 o.at' → accepted → ¬out →
        (s'.mayBegin = true → ∃ u, exec (.syncStartInstant t) s = .next u ∧ begun u) ∧ (s'.mayBegin = false → exec (.syncStartInstant t) s = .next s')) ∧
      (0 ≤ t8Diff s'.tu.t8 o.at' → accepted → out →
        exec (.syncStartInstant t) s = .next { s' with ring := { s'.ring with sync := none, dropped := some o.stripe } }) ∧
      (0 ≤ t8Diff s'.tu.t8 o.at' → ¬accepted → exec (.syncStartInstant t) s = .next { s' with
        arb := { s'.arb with faultQ := s'.arb.faultQ ++ [{ at' := s'.now, name := .stiStart, addr := (s.member * 2 ^ 40 + o.stripe) % 2 ^ 48 }] }
        ring := { s'.ring with sync := none, dropped := some o.stripe } })) ∧
    ((s.ring.resumeAt = none ∨ s.twin.active = false) → exec (.groupResumeInstant t) s = .next s') ∧
    (∀ o, s.ring.resumeAt = some o → s.twin.active = true →
      (t8Diff s'.tu.t8 o.at' < 0 → exec (.groupResumeInstant t) s = .next s') ∧
      (0 ≤ t8Diff s'.tu.t8 o.at' → exec (.groupResumeInstant t) s = .next { s' with
        ring := { s'.ring with resumeAt := none, groupHeld := false }
        hem := { s'.hem with runs := 0, causes := s'.hem.causes.filter fun c => c != .pause true && c != .resumeHold } }))

/-! ## Shuttle and Cuff (06, 08) -/

/-- LANE_ENGINES_DONE, FRAME_DEADLINE, FRAME_ASSEMBLY_DONE, FRAME_SEND_START and STATUS_FRAME. The codes of a flash make
its slot Complete, and Cuff takes it at once while it has room for two frames; the slack monitor takes the work
time. A flash whose slot is still Computing at its deadline is late: SLOT_LATE, and a VOID frame on every lane
that has a physical one, while the engine is in Writing, Held or Seam. A data or void frame is 5,168 bytes on the
lane's physical lane; the next complete one of a lane begins once the one before has been sent and 4 filler words
have followed it (R239). Every status_interval the complete frames that wait begin, and then a STATUS frame of 20
bytes goes on every lane that is Up or in Align (R243). -/
def Obligations.FramesOfFlashes : Prop :=
  ∀ (t : Nat) (s : State), s.sh.slots.length = 2 →
    let s' := s.atTime t
    (∀ i < 2, ∀ flash w pix tab f, s.slotState i = .computing → (s.sh.slots.getD i {}).record = some f → f.flash = flash →
      s.slotState (1 - i) = .empty → s.hem.stripe ≠ none → ∃ u, exec (.laneEnginesDone t flash w pix tab) s = .next u ∧
        (s.cf.frames.length < 2 → ∃ fr ∈ u.cf.frames, fr.record = f) ∧
        (2 ≤ s.cf.frames.length → u.slotState i = .complete ∧ (u.sh.slots.getD i {}).codes.length = 512 ∧ u.cf = s.cf) ∧
        u.slack.measured = min 4096 (s.slack.measured + 1) ∧ (some flash, w) ∈ u.slack.window ∧
        u.eng = s.eng ∧ u.fc = s'.fc ∧ u.twin = { s'.twin with txQ := u.twin.txQ } ∧ u.mb = s.mb ∧ u.dram = s.dram ∧ u.feed = s.feed ∧ u.br = s.br ∧ u.hem = s.hem ∧ u.job = s.job ∧ u.pol.sram = s.pol.sram) ∧
    (∀ i < 2, ∀ flash f, s.sh.waiting = none → s.slotState i = .computing → (s.sh.slots.getD i {}).record = some f → f.flash = flash →
      (s.sh.slots.getD (1 - i) {}).record = none → frameDeadline (s.sh.slots.getD i {}).tn ≤ s'.now → s.mute = false → s.running = true → ∃ u, exec (.frameDeadline t flash) s = .next u ∧
        u.waits s'.now .slotLate flash ∧ u.sh.stats.late = s.sh.stats.late + 1 ∧
        u.cf.stats.voidFrames = s.cf.stats.voidFrames + ((List.range 64).filter fun l => (s.physOf l).isSome).length ∧
        (∀ l < 64, ∀ k, s.physOf l = some k → ∃ slot bytes, .frame k slot bytes ∈ u.out ∧ bytes.length = 5168) ∧
        u.eng = s.eng ∧ u.mb = s.mb ∧ u.dram = s.dram ∧ u.feed = s.feed ∧ u.br = s.br ∧ u.hem = s.hem ∧ u.job = s.job) ∧
    (∀ flash, s.sh.waiting = none → (∀ i < 2, ∀ f, (s.sh.slots.getD i {}).record = some f → f.flash = flash → s'.now < frameDeadline (s.sh.slots.getD i {}).tn) →
      (∀ x ∈ s.cf.frames, x.record.flash = flash → s'.now < frameDeadline x.tn) → exec (.frameDeadline t flash) s = .next s') ∧
    (∀ flash w lanes,
      (s.cf.frames.find? (·.record.flash == flash) = none → exec (.frameAssemblyDone t flash w lanes) s = .next s') ∧
      (∀ f, s.cf.frames.find? (·.record.flash == flash) = some f →
        let ready := f.ready ++ lanes.filter fun l => decide (l < 64) && !f.ready.contains l
        ∃ u, exec (.frameAssemblyDone t flash w lanes) s = .next u ∧ u.cf.stats.asmWMaxNs = max s.cf.stats.asmWMaxNs w ∧
          u.cf.frames = s.cf.frames.map (fun (x : FlashFrames) =>
            if x.record.flash == flash then { x with ready := ready, digested := x.digested || (List.range 64).all ready.contains } else x) ∧
          (∃ w', w ≤ w' ∧ (some flash, w') ∈ u.slack.window) ∧
          u.eng = s.eng ∧ u.mb = s.mb ∧ u.dram = s.dram ∧ u.hem = s.hem ∧ u.br = s.br ∧ u.bands = s.bands ∧ u.sh = s.sh)) ∧
    (∀ lane < 64, ∀ k f, s.running = true → s.physOf lane = some k → (s.lane k).free ≤ slotAt (s.lane k).origin s'.now →
      s.cf.frames.find? (fun f => !f.sent.any (·.1 == lane)) = some f →
      (lane ∈ f.ready → s.mute = false → ∃ u bytes, exec (.frameSendStart t lane) s = .next u ∧
        u.out = s'.out ++ [.frame k (slotAt (s.lane k).origin s'.now) bytes] ∧ bytes.length = 5168 ∧
        u.cf.stats.dataFrames + u.cf.stats.voidFrames = s.cf.stats.dataFrames + s.cf.stats.voidFrames + 1 ∧
        u.eng = s.eng ∧ u.mb = s.mb ∧ u.dram = s.dram ∧ u.hem = s.hem ∧ u.br = s.br ∧ u.bands = s.bands) ∧
      (lane ∉ f.ready → exec (.frameSendStart t lane) s = .next s'.pruneFrames)) ∧
    (∀ lane, (s.running = false ∨ s.physOf lane = none ∨ ∃ k, s.physOf lane = some k ∧ slotAt (s.lane k).origin s'.now < (s.lane k).free) →
      exec (.frameSendStart t lane) s = .next s') ∧
    (let due := s.eng.state ≠ .sleep ∧ s.eng.state ≠ .boot ∧ ∀ a, s.cf.statusAt = some a → a + s.cf.statusInterval * 12800 ≤ s'.now
     (¬due → exec (.statusFrame t) s = .next s') ∧
     (due → ∃ u l0 l, exec (.statusFrame t) s = .next u ∧ u.out = s'.out ++ l0 ++ l ∧ (s.running = false → l0 = []) ∧
      l.length = s.statusLanes.length ∧ (∀ o ∈ l, ∃ k ∈ s.statusLanes, ∃ slot b, o = .frame k slot b ∧ b.length = 20) ∧
      u.cf.lastStatus = some (s.cuffEnable, s.statusCode) ∧ u.cf.statusAt = some s'.now ∧
      u.eng = s.eng ∧ u.mb = s.mb ∧ u.dram = s.dram ∧ u.hem = s.hem ∧ u.br = s.br ∧ u.bands = s.bands ∧ u.job = s.job))

/-- TRAIN_TIMEOUT, ALIGN_TIMEOUT, LOST_RETRAIN, RET_CRC, RET_LOST and HELLO_TIMEOUT (08 R245 to R248, R253). A lane in
Train for 100 ms fails with TRAIN_FAIL, one in Align for 10 ms trains again, and a Lost one trains again after 1 ms
in Calibrate, Ready or Fault; a lane that trains takes the precoding and the taps in force (R262). A bad return message is counted and raises RET_CRC once; RET_LOST is raised once when
no good one has come for 1 ms; without a HELLO for 10 ms the capabilities are not known and RET_CAPS holds. -/
def Obligations.LaneTimers : Prop :=
  ∀ (t : Nat) (s : State), s.cf.lanes.length = 68 →
    let s' := s.atTime t
    let put := fun (k : Nat) (l : Lane) (s : State) => { s with cf := { s.cf with lanes := s.cf.lanes.set k l } }
    (∀ k < 68,
      exec (.trainTimeout t k) s = .next (if (s.lane k).state = .train ∧ (s.lane k).since + 100000 * 12800 ≤ s'.now then
        put k { s.lane k with state := .failed, since := s'.now } { s' with
          arb := { s'.arb with faultQ := s'.arb.faultQ ++ [{ at' := s'.now, name := .trainFail, addr := k }] } } else s') ∧
      exec (.alignTimeout t k) s = .next (if (s.lane k).state = .align ∧ (s.lane k).since + 10000 * 12800 ≤ s'.now then
        put k { state := .train, since := s'.now, precode := s.cf.precode.getLsbD k, ffe := (s.cf.ffePre, s.cf.ffeMain, s.cf.ffePost) } s' else s') ∧
      exec (.lostRetrain t k) s = .next (if (s.lane k).state = .lost ∧ (s.lane k).since + 1000 * 12800 ≤ s'.now ∧
          (s.eng.state = .calibrate ∨ s.eng.state = .ready ∨ s.eng.state = .fault) then
        put k { state := .train, since := s'.now, precode := s.cf.precode.getLsbD k, ffe := (s.cf.ffePre, s.cf.ffeMain, s.cf.ffePost) } s' else s')) ∧
    (∀ lane, ∃ u, exec (.retCrc t lane) s = .next u ∧ u = { s' with
        arb := u.arb
        cf := { s'.cf with ret := { s'.cf.ret with crcRaised := true }, stats := { s'.cf.stats with retBad := s'.cf.stats.retBad + 1 } } } ∧
      u.arb = if s.cf.ret.crcRaised then s.arb else { s.arb with faultQ := s.arb.faultQ ++ [{ at' := s'.now, name := .retCrc, addr := lane % 2 ^ 48 }] }) ∧
    (let last := (s.cf.ret.good.filterMap id).foldl max 0
     exec (.retLost t) s = .next (if s.cf.ret.lost = true ∨ s'.now < last + 1000 * 12800 then s' else { s' with
       arb := { s'.arb with faultQ := s'.arb.faultQ ++ [{ at' := s'.now, name := .retLost, addr := (s'.now - last) / 12800 % 2 ^ 48 }] }
       cf := { s'.cf with ret := { s'.cf.ret with lost := true } } })) ∧
    ((∀ h, s.cf.ret.helloAt = some h → s'.now < h + 10000 * 12800 → exec (.helloTimeout t) s = .next s') ∧
      ((∀ h, s.cf.ret.helloAt = some h → h + 10000 * 12800 ≤ s'.now) → exec (.helloTimeout t) s = .next { s' with
        arb := if s.cf.ret.capsRaised then s'.arb else { s'.arb with faultQ := s'.arb.faultQ ++ [{ at' := s'.now, name := .retCaps, addr := s.cf.ret.caps % 2 ^ 48 }] }
        cf := { s'.cf with ret := { s'.cf.ret with helloAt := none, capsRaised := true } } }))

/-- RX_HELLO, RX_TELEM, RX_LANE, RX_EVENT and RX_STUCK_ON (08 R249 to R253). A message whose VERSION is not 1 or whose CRC
is wrong is discarded, counted and reported once a stripe, and a second copy only shows that its lane lives; a first
good copy has its effect: the receiver's identity and capabilities, its telemetry for the dose factor, the lock and
trained bits that move each lane on, a fault and a count for each event, and STUCK_ON with a cause of Fault. -/
def Obligations.ReturnMessages : Prop :=
  ∀ (t : Nat) (h : RetHdr) (s : State), ((s.atTime t).fc.inject.getD 10 {}).count = 0 → s.cf.lanes.length = 68 →
    let s' := s.atTime t
    let live := fun (r : CuffRet) => { r with good := listUpd r.good h.lane fun _ => some s'.now, lost := false }
    let fresh := fun (r : CuffRet) => { live r with seen := (h.mseq :: r.seen).take 16 }
    let put := fun (r : CuffRet) (s : State) => { s with cf := { s.cf with ret := r } }
    let fault := fun (f : FaultName) (a : Nat) (s : State) => { s with arb := { s.arb with faultQ := s.arb.faultQ ++ [{ at' := s'.now, name := f, addr := a }] } }
    let bad : State := { s' with
      arb := if s.cf.ret.crcRaised = true then s'.arb else { s'.arb with faultQ := s'.arb.faultQ ++ [{ at' := s'.now, name := .retCrc, addr := h.lane % 2 ^ 48 }] }
      cf := { s'.cf with ret := { s'.cf.ret with crcRaised := true }, stats := { s'.cf.stats with retBad := s'.cf.stats.retBad + 1 } } }
    let good := fun (type : Nat) (body : List Byte) => h.version = 1 ∧ h.crc = crc32c (retBytes h type body) type
    (∀ rev caps mode ident temp volt pair e (lock trained : BitVec 72) uc cs kind lane rows seq ep beam,
      (¬good 1 (helloBody rev caps mode ident) → exec (.rxHello t h rev caps mode ident) s = .next bad) ∧
      (¬good 2 (telemBody temp volt pair e) → exec (.rxTelem t h temp volt pair e) s = .next bad) ∧
      (¬good 3 (laneBody lock trained uc cs) → exec (.rxLane t h lock trained uc cs) s = .next bad) ∧
      (¬good 4 (eventBody kind lane rows seq ep) → exec (.rxEvent t h kind lane rows seq ep) s = .next bad) ∧
      (¬good 5 (beBytes 4 beam) → exec (.rxStuckOn t h beam) s = .next bad)) ∧
    (h.mseq ∈ s.cf.ret.seen → ∀ rev caps mode ident temp volt pair e (lock trained : BitVec 72) uc cs kind lane rows seq ep beam,
      (good 1 (helloBody rev caps mode ident) → exec (.rxHello t h rev caps mode ident) s = .next (put (live s.cf.ret) s')) ∧
      (good 2 (telemBody temp volt pair e) → exec (.rxTelem t h temp volt pair e) s = .next (put (live s.cf.ret) s')) ∧
      (good 3 (laneBody lock trained uc cs) → exec (.rxLane t h lock trained uc cs) s = .next (put (live s.cf.ret) s')) ∧
      (good 4 (eventBody kind lane rows seq ep) → exec (.rxEvent t h kind lane rows seq ep) s = .next (put (live s.cf.ret) s')) ∧
      (good 5 (beBytes 4 beam) → exec (.rxStuckOn t h beam) s = .next (put (live s.cf.ret) s'))) ∧
    (h.mseq ∉ s.cf.ret.seen →
      (∀ rev caps mode ident, good 1 (helloBody rev caps mode ident) → ∃ u, exec (.rxHello t h rev caps mode ident) s = .next u ∧
        u = put { fresh s.cf.ret with rev := rev, caps := caps % 256, copyMode := mode, ident := ident, helloAt := some s'.now, capsRaised := u.cf.ret.capsRaised } { s' with arb := u.arb } ∧
        (u.cf.ret.capsRaised = true ↔ caps % 2 = 0 ∧ ∃ l ∈ s.cf.lanes, l.precode = true)) ∧
      (∀ temp volt pair e, good 2 (telemBody temp volt pair e) → exec (.rxTelem t h temp volt pair e) s = .next
        (put { fresh s.cf.ret with telemAt := some s'.now, pairSel := pair % 256 } { s' with hem := { s'.hem with telem := some (temp, volt, s'.now) } })) ∧
      (∀ lock trained uc cs, good 3 (laneBody lock trained uc cs) → ∃ u, exec (.rxLane t h lock trained uc cs) s = .next u ∧ u = { s' with cf := u.cf, out := u.out, arb := u.arb, fc := u.fc } ∧
        u.cf.ret = { fresh s.cf.ret with lockBits := lock, trainedBits := trained, fecRaised := s.cf.ret.fecRaised || uc != 0 } ∧
        u.cf.stats.uncorrCodewords = s.cf.stats.uncorrCodewords + uc ∧ u.cf.stats.corrSymbols = s.cf.stats.corrSymbols + cs ∧
        ∀ k < 68, (u.lane k).state = (match (s.lane k).state with
          | .train => if trained.getLsbD k then .align else .train
          | .align => if lock.getLsbD k then .up else .align
          | .up => if lock.getLsbD k then .up else .lost
          | x => x)) ∧
      (∀ kind lane rows seq ep, good 4 (eventBody kind lane rows seq ep) →
        let at' := (lane % 256 * 2 ^ 40 + s.extendSeq seq % 2 ^ 40) % 2 ^ 48
        let count := fun (f : CuffStats → CuffStats) (s : State) => { s with cf := { s.cf with stats := f s.cf.stats } }
        let u := put (fresh s.cf.ret) s'
        (kind = 1 → exec (.rxEvent t h kind lane rows seq ep) s = .next (count (fun k => { k with rxMissing := k.rxMissing + 1 }) (fault .rxMissing at' u))) ∧
        (kind = 2 → exec (.rxEvent t h kind lane rows seq ep) s = .next (count (fun k => { k with rxCompare := k.rxCompare + 1 }) (fault .rxCompare at' u))) ∧
        (kind = 3 → exec (.rxEvent t h kind lane rows seq ep) s = .next (count (fun k => { k with rxSwitch := k.rxSwitch + 1 })
          (fault .rxSwitch ((rows % 256 * 2 ^ 40 + s.extendSeq seq % 2 ^ 40) % 2 ^ 48) u))) ∧
        (kind = 4 → exec (.rxEvent t h kind lane rows seq ep) s = .next (count (fun k => { k with rxUncompared := k.rxUncompared + 1 }) (fault .rxUncompared at' u))) ∧
        (kind = 5 → exec (.rxEvent t h kind lane rows seq ep) s = .next (count (fun k => { k with rxLate := k.rxLate + 1 }) (fault .rxLate at' u))) ∧
        (kind = 0 ∨ 6 < kind → exec (.rxEvent t h kind lane rows seq ep) s = .next u) ∧
        (kind = 6 → exec (.rxEvent t h kind lane rows seq ep) s = .next (fault .rxFraming (lane % 2 ^ 48) u))) ∧
      (∀ beam, good 5 (beBytes 4 beam) → exec (.rxStuckOn t h beam) s = .next (fault .stuckOn (beam % 2 ^ 18)
        (put { fresh s.cf.ret with stuck := true } { s' with arb := { s'.arb with causeQ := s'.arb.causeQ ++ [(s'.now, .fault)] } }))))

/-! ## Twins and Stitch (11) -/

/-- The messages of the peer (11 R341, R347 to R352, R358; 07 R213). One whose SYNC, LEN or CRC is not right, is not the
peer's or is a copy of the last one changes nothing, and one that comes before its turn is held. The next good one has
its effect and no other: SLACK is kept while there is a pair, STATE joins the image being received, STATE_END that checks is applied at a standby (one that does not check keeps the previous image
and raises GUS_GAP), SETPOINT, COMMIT and WITHDRAW are followed by a standby of a joined pair, BAND, DIGEST and CHECK
are compared or kept for their comparison, TIME of kind 1 is answered in Pairing by the active twin, and TAKEOVER of a
swap makes the standby due. HELLO from Alone begins Pairing, and one of a member that is not the peer raises
TWIN_IDENT there. -/
def Obligations.GussetMessages : Prop :=
  ∀ (t : Nat) (h : MsgHdr) (s : State), s.eng.state ≠ .sleep → s.eng.state ≠ .boot → s.eng.inReset = false →
    let s' := s.atTime t
    let r : State := { s' with twin := { s'.twin with rxNext := some ((h.mseq + 1) % 2 ^ 32) } }
    let follows := s.twin.active = false ∧ (s.twin.pair = .joining ∨ s.twin.pair = .paired)
    (∀ khz cycle sect offset data count crc image ctrl0 ctrl1 set0 set1 record tn f flash epoch stripe band outcome attempt value void item kind ta tb corr cause hello,
      ∀ p ∈ [(Instr.slack t h khz, GMsg.slack khz), (.state t h cycle sect offset data, .state cycle sect offset data),
          (.stateEnd t h cycle count crc image, .stateEnd cycle count crc image), (.setpoint t h cycle ctrl0 ctrl1 set0 set1, .setpoint cycle ctrl0 ctrl1 set0 set1),
          (.commit t h record tn f, .commit record tn f), (.withdraw t h flash epoch, .withdraw flash epoch),
          (.band t h stripe band outcome attempt value, .band stripe band outcome attempt value),
          (.digest t h flash epoch void value, .digest flash epoch void value), (.check t h item value, .check item value),
          (.time t h false kind ta tb corr, .time kind ta tb corr), (.gussetTakeover t h cycle cause, .takeover cycle cause)],
        (p.2.good h = false ∨ h.src ≠ s.peerMember ∨ (s.twin.rxNext = some ((h.mseq + 1) % 2 ^ 32) ∧ h.mseq < 2 ^ 32) → exec p.1 s = .next s') ∧
        (p.2.good h = true → h.src = s.peerMember → ∀ n, s.twin.rxNext = some n → 0 < wrapS 32 ((h.mseq : Int) - n) →
          exec p.1 s = .next (if s.twin.rxHeld.any (·.1 == h.mseq) then s' else
            { s' with twin := { s'.twin with rxHeld := s'.twin.rxHeld ++ [(h.mseq, s'.now, p.2)] } })) ∧
        ((GMsg.hello hello).good h = false → exec (.gussetHello t h false hello.build hello.role hello.pairState hello.engineState hello.configDigest hello.ringDigest) s = .next s') ∧
        ((GMsg.hello hello).good h = true → h.src ≠ s.peerMember →
          exec (.gussetHello t h false hello.build hello.role hello.pairState hello.engineState hello.configDigest hello.ringDigest) s = .next
            (if s.twin.pair = .alone then { s' with arb := { s'.arb with
              faultQ := s'.arb.faultQ ++ [{ at' := s'.now, name := .twinIdent, addr := s.addrFlash (h.src % 8) % 2 ^ 48 }] } } else s'))) ∧
    (h.src = s.peerMember → (s.twin.rxNext = none ∨ s.twin.rxNext = some h.mseq) → s.twin.rxHeld = [] →
      (∀ khz, (GMsg.slack khz).good h = true →
        exec (.slack t h khz) s = .next (if s.twin.pair = .alone then r else { r with slack := { r.slack with peer := some khz, peerAge := 0 } })) ∧
      (∀ cycle sect offset data, (GMsg.state cycle sect offset data).good h = true → exec (.state t h cycle sect offset data) s = .next
        { r with twin := { r.twin with image := s.twin.image.filter (·.1 == cycle) ++ [(cycle, sect, offset, data)] } }) ∧
      (∀ cycle crc im, (GMsg.stateEnd cycle 0 crc im).good h = true → ¬follows → exec (.stateEnd t h cycle 0 crc im) s = .next r) ∧
      (∀ cycle crc im, (GMsg.stateEnd cycle 0 crc im).good h = true → follows → s.twin.image = [] → crc.toNat = crc64 cycle [] → ∃ u, exec (.stateEnd t h cycle 0 crc im) s = .next u ∧
        u.twin.snap = some im ∧ u.twin.lastApplied = cycle ∧ u.twin.joined = true ∧ u.twin.unapplied = 0 ∧ u.br.segment = im.segment ∧
        u.feed.cmps = im.cmps.map (fun c => { c with highUntil := none }) ∧
        (im.state = .ready → u.twin.pair = .paired) ∧ u.fc.copied = some im.fc ∧ u.tu.locked = true ∧ u.mb = s.mb ∧ u.slack = s.slack) ∧
      (∀ cycle crc im, (GMsg.stateEnd cycle 0 crc im).good h = true → follows → s.twin.image = [] → crc.toNat ≠ crc64 cycle [] → ∃ u, exec (.stateEnd t h cycle 0 crc im) s = .next u ∧
        u = { r with arb := u.arb, twin := u.twin, cf := u.cf, out := u.out, fc := u.fc } ∧
        u.twin.snap = s.twin.snap ∧ u.twin.unapplied = (if s.twin.unapplied = 2 then 0 else s.twin.unapplied + 1) ∧
        u.twin.pair = (if s.twin.unapplied = 2 then .joining else s.twin.pair) ∧ ∃ a, u.waits s'.now .gusGap a) ∧
      (∀ cycle ctrl0 ctrl1 set0 set1, (GMsg.setpoint cycle ctrl0 ctrl1 set0 set1).good h = true →
        (follows → exec (.setpoint t h cycle ctrl0 ctrl1 set0 set1) s = .next
          { r with br := { r.br with copied := some { cycle := cycle, set0 := set0, set1 := set1, ctrl0 := ctrl0, ctrl1 := ctrl1 } } }) ∧
        (¬follows → exec (.setpoint t h cycle ctrl0 ctrl1 set0 set1) s = .next r)) ∧
      (∀ record tn f, (GMsg.commit record tn f).good h = true →
        (¬follows ∨ s.eng.state = .fault ∨ s.hem.stripe = none → exec (.commit t h record tn f) s = .next r) ∧
        (∀ st, follows → s.eng.state ≠ .fault → s.hem.stripe = some st → ∃ u c, exec (.commit t h record tn f) s = .next u ∧ u.hem.committed = s.hem.committed ++ [c] ∧
          c.record = record ∧ c.tn = tn ∧ c.f = f ∧ c.epoch = s.cf.epoch ∧ u.hem.mNext = record.m + 1 ∧ u.eng.flashNext = record.flash + 1 ∧ u.hem.commitSince = true ∧
          u.out = s'.out ∧ u.mb = s.mb ∧ u.feed = s.feed ∧ u.bands = s.bands ∧ u.job = s.job)) ∧
      (∀ flash epoch, (GMsg.withdraw flash epoch).good h = true →
        (¬follows ∨ s.eng.state = .fault → exec (.withdraw t h flash epoch) s = .next r) ∧
        (follows → s.eng.state ≠ .fault → ∃ u, exec (.withdraw t h flash epoch) s = .next u ∧ u.hem.committed = (s.hem.committed.filter fun c => decide (c.record.flash < flash)) ∧
          u.eng.flashNext = flash ∧ u.cf.epoch = epoch % 256 ∧ u.hem.resync = true ∧ u.mb = s.mb ∧ u.feed = s.feed ∧ u.bands = s.bands ∧ u.job = s.job ∧ u.br = s.br)) ∧
      (∀ stripe band outcome attempt value b, (GMsg.band stripe band outcome attempt value).good h = true → s.band stripe band = some b → ∃ u, exec (.band t h stripe band outcome attempt value) s = .next u ∧
        u = { r with bands := u.bands, arb := u.arb, hem := { r.hem with causes := u.hem.causes } } ∧
        u.band stripe band = some { b with peerReleased := if outcome = 1 then some value.toNat else none } ∧
        (outcome = 1 → b.polder = .released → b.computed ≠ value.toNat → u.waits s'.now .twinChequin (addrBand stripe band))) ∧
      (∀ flash epoch void value, (GMsg.digest flash epoch void value).good h = true →
        (s.twin.pair = .alone → exec (.digest t h flash epoch void value) s = .next r) ∧
        (∀ x : Dig, s.twin.pair ≠ .alone → s.twin.digests = [x] → x.flash = flash → x.epoch = epoch → x.own = true → ∃ u, exec (.digest t h flash epoch void value) s = .next u ∧
          u = { r with twin := { r.twin with digests := [] }, arb := u.arb } ∧ ((void = true ∨ x.void = true ∨ value = x.value) → u.arb = s.arb) ∧
          (void = false → x.void = false → value ≠ x.value → ∃ a, u.arb.faultQ = s.arb.faultQ ++ [{ at' := s'.now, name := .twinDispatch, addr := a }])) ∧
        (s.twin.pair ≠ .alone → s.twin.digests = [] → exec (.digest t h flash epoch void value) s = .next
          { r with twin := { r.twin with digests := [{ flash := flash, epoch := epoch, void := void, value := value, at' := s'.now, own := false }] } })) ∧
      (∀ value, ((GMsg.check 1 value).good h = true → exec (.check t h 1 value) s = .next { r with twin := { r.twin with peerHead := some value } }) ∧
        ((GMsg.check 2 value).good h = true → exec (.check t h 2 value) s = .next { r with twin := { r.twin with peerDir := some value } }) ∧
        ((GMsg.check 3 value).good h = true → exec (.check t h 3 value) s = .next { r with twin := { r.twin with peerDigest := some value } })) ∧
      (∀ ta tb corr, (GMsg.time 1 ta tb corr).good h = true →
        (s.twin.pair ≠ .pairing → exec (.time t h false 1 ta tb corr) s = .next r) ∧
        (s.twin.pair = .pairing → s.twin.active = false → exec (.time t h false 1 ta tb corr) s = .next { r with twin := { r.twin with timeExch := some (ta, s'.now) } }) ∧
        (s.twin.pair = .pairing → s.twin.active = true → exec (.time t h false 1 ta tb corr) s = .next
          (let b := (s'.now / s'.servoPeriod + 1) * s'.servoPeriod
           let w := s'.tu.ticks (b / 64 - s'.now / 64)
           { r with twin := { r.twin with
              timeExch := some (ta, s'.now), txQ := r.twin.txQ ++ [.time 1 s'.now s'.now 0, .timeLoad b w.sec w.ns w.frac w.inc] } }))) ∧
      (∀ cycle,
        ((GMsg.takeover cycle 2).good h = true → s.twin.active = false →
          exec (.gussetTakeover t h cycle 2) s = .next { r with twin := { r.twin with swapDue := true } }) ∧
        ((GMsg.takeover cycle 1).good h = true → s.twin.active = true → s.twin.pair ≠ .alone → ∃ u, exec (.gussetTakeover t h cycle 1) s = .next u ∧
          u.twin.pair = .alone ∧ u.twin.active = true ∧ u.slack.peer = none ∧ u.eng = s.eng ∧ u.hem = s.hem ∧ u.mb = s.mb ∧ u.arb = s.arb)) ∧
      (∀ m : Hello, (GMsg.hello m).good h = true → s.twin.pair = .alone → s.job = none → m.role / 2 % 2 = 0 → ∃ u,
        exec (.gussetHello t h false m.build m.role m.pairState m.engineState m.configDigest m.ringDigest) s = .next u ∧
        u.twin.pair = .pairing ∧ u.twin.active = !s.eng.twinB ∧ u.twin.missed = 0 ∧ u.twin.txQ = s'.twin.txQ ++ [.time 1 s'.now 0 0] ∧
        u.twin.peer = some m ∧ u.eng = s.eng ∧ u.hem = s.hem ∧ u.br = s.br ∧ u.mb = s.mb))

/-- PAIRING_COMPLETE, HEARTBEAT_SLOT, HEARTBEAT, LIVE_LOST, DIGEST_TIMEOUT, GUS_GAP and HELLO_BROADCAST (11 R338, R341,
R343, R344, R352 to R357). Pairing ends in Joining, the standby with the active twin's time. A slot, at a whole
microsecond, queues this module's HEARTBEAT; the third slot in a row without the peer's takes an active twin to Alone
with PEER_LOST, a Paired standby whose peer is silent to the takeover, and one whose peer lives to GUS_LOST and Fault.
The peer's lane bits move the transmit lanes on, and a lane that is no longer locked is Lost with GUS_LANE. -/
def Obligations.PairEvents : Prop :=
  ∀ (t : Nat) (s : State), s.eng.state ≠ .sleep → s.eng.state ≠ .boot → s.eng.inReset = false →
    let s' := s.atTime t
    (∀ s1 r1 s2 r2 sec ns frac inc,
      (s.twin.pair ≠ .pairing → exec (.pairingComplete t s1 r1 s2 r2 sec ns frac inc) s = .next s') ∧
      (s.twin.pair = .pairing → s.twin.active = true → exec (.pairingComplete t s1 r1 s2 r2 sec ns frac inc) s = .next
        { s' with twin := { s'.twin with pair := .joining, joined := false, applied := none, lastApplied := 0 } }) ∧
      (s.twin.pair = .pairing → s.twin.active = false → ∃ u, exec (.pairingComplete t s1 r1 s2 r2 sec ns frac inc) s = .next u ∧
        u.now = ((s'.now : Int) - roundHalfUp (((r1 : Int) - s1) - ((r2 : Int) - s2)) 128 * 64).toNat ∧ u.twin.pair = .joining ∧
        u.tu = { s'.tu with sec := sec % 2 ^ 48, ns := ns % 1000000000, frac := frac % 2 ^ 32, inc := inc % 2 ^ 40 } ∧
        u.eng = s.eng ∧ u.br = s.br ∧ u.mb = s.mb ∧ u.cal = s.cal ∧ u.jr = s.jr ∧ u.dram = s.dram)) ∧
    (∀ peerLive lanes, s'.now % 12800 ≠ 0 → exec (.heartbeatSlot t peerLive lanes) s = .next s') ∧
    (∀ peerLive lanes, s'.now % 12800 = 0 → ∃ u, exec (.heartbeatSlot t peerLive lanes) s = .next u ∧ u.tu = s'.tu ∧ u.dram = s.dram ∧ u.feed = s.feed ∧ u.pending = s.pending ∧
      (s.cp.halted = false → .heartbeat (s'.now / 12800) s.eng.state.code s'.hello.role s'.hello.pairState (lanes % 256) s.twin.lastApplied ∈ u.twin.txQ) ∧
      (s.twin.pair = .alone → u.eng = s.eng ∧ u.arb = s.arb ∧ u.twin.pair = .alone) ∧
      (s.twin.pair ≠ .alone → s.twin.slotSeen = true → u.twin.missed = 0 ∧ u.twin.slotSeen = false ∧ u.twin.pair = s.twin.pair ∧ u.eng = s.eng ∧ u.arb = s.arb) ∧
      (s.twin.pair ≠ .alone → s.twin.slotSeen = false → s.twin.missed ≠ 2 → u.twin.missed = s.twin.missed + 1 ∧ u.twin.pair = s.twin.pair ∧ u.eng = s.eng ∧ u.arb = s.arb) ∧
      (s.twin.pair ≠ .alone → s.twin.slotSeen = false → s.twin.missed = 2 → u.twin.pair = .alone ∧ u.twin.active = true ∧
        (s.twin.pair ≠ .pairing → s.twin.active = true → u.eng = s.eng ∧ ∃ a, u.waits s'.now .peerLost a) ∧
        (s.twin.pair ≠ .pairing → s.twin.active = false → peerLive = true → u.eng.state = .fault ∧ ∃ a, u.waits s'.now .gusLost a) ∧
        (s.twin.pair = .paired → s.twin.active = false → peerLive = false → (s.eng.state ≠ .seam → u.eng = s.eng) ∧ ∃ a, u.waits s'.now .takeover a))) ∧
    (∀ h slot es role ps lanes applied, let good := (GMsg.heartbeat slot es role ps lanes applied).good h
      (good = false ∨ h.src ≠ s.peerMember → exec (.heartbeat t h slot es role ps lanes applied) s = .next s') ∧
      (good = true → h.src = s.peerMember → ∃ u, exec (.heartbeat t h slot es role ps lanes applied) s = .next u ∧ u = { s' with twin := u.twin, arb := u.arb } ∧
        u.twin.slotSeen = true ∧ u.twin.lanes = lanes % 256 ∧ (s.twin.pair = .paired → u.twin.applied = some applied ∧ u.twin.pair = .paired) ∧
        (∀ k < 4, (u.twin.tx.getD k {}).state = (match (s'.twin.tx.getD k {}).state with
          | .train => if (lanes % 256).testBit (4 + k) then .align else .train
          | .align => if (lanes % 256).testBit k then .up else .align
          | .up => if (lanes % 256).testBit k then .up else .lost
          | x => x)) ∧
        (∀ k < 4, (s'.twin.tx.getD k {}).state = .up → (lanes % 256).testBit k = false → u.waits s'.now .gusLane (s.addrSub s.peerMember k)))) ∧
    exec (.liveLost t) s = .next (if s.twin.pair = .alone then s' else
      { s' with arb := { s'.arb with faultQ := s'.arb.faultQ ++ [{ at' := s'.now, name := .liveLost, addr := s.addrFlash s.peerMember % 2 ^ 48 }] } }) ∧
    (∀ d : Dig, d.own = true → s.twin.digests = [d] → exec (.digestTimeout t d.flash d.epoch) s = .next (if d.at' + 10 * 12800 ≤ s'.now then
      { s' with twin := { s'.twin with digests := [], digestMissing := s'.twin.digestMissing + 1 } } else s')) ∧
    (s.twin.rxHeld = [] ∨ s.twin.rxNext = none ∨ (∀ x ∈ s.twin.rxHeld, s'.now < x.2.1 + 2 * 12800) → exec (.gusGap t) s = .next s') ∧
    (∀ n k a khz, s.twin.rxNext = some n → s.twin.rxHeld = [(k, a, .slack khz)] → a + 2 * 12800 ≤ s'.now → s.twin.pair ≠ .alone →
      exec (.gusGap t) s = .next { s' with
        arb := { s'.arb with faultQ := s'.arb.faultQ ++ [{ at' := s'.now, name := .gusGap, addr := s.addrFlash s.peerMember % 2 ^ 48 }] }
        twin := { s'.twin with rxNext := some ((k + 1) % 2 ^ 32), rxHeld := [] }, slack := { s'.slack with peer := some khz, peerAge := 0 } }) ∧
    exec (.helloBroadcast t false) s = .next (if ∀ a, s'.twin.helloAt = some a → a + 100 * 12800 ≤ s'.now then
      { s' with twin := { s'.twin with txQ := s'.twin.txQ ++ [.hello s'.hello], helloAt := some s'.now } } else s') ∧
    (let due := s.twin.cfg.ringEnable = 1 ∧ ∀ a, s.ring.helloSent = some a → a + 1000 * 12800 ≤ s'.now
     (¬due → exec (.helloBroadcast t true) s = .next s') ∧
     (due → ∃ u bytes, exec (.helloBroadcast t true) s = .next u ∧ u = { s' with out := u.out, ring := u.ring, fc := u.fc } ∧
      u.out = s'.out ++ [.stitch true true s.member s.ring.txMseq 7 (.hello s'.hello) bytes] ∧ u.ring.helloSent = some s'.now ∧
      u.ring.txMseq = (s.ring.txMseq + 1) % 2 ^ 32))

/-- LEAD, LEAD_TIMEOUT, LEAD_BROADCAST, TIME and TIME_BROADCAST on Stitch, HELLO on Stitch, REQUEST and ORDER (11 R364
to R370). The first good copy of a message is noted and forwarded out of the other side with one hop less; any other
changes nothing. LEAD names the leader, and after three LEAD periods without one the leader is computed anew. The
leader answers a request for a start with one ORDER under the next order number, and every member acts on ORDERs in
their order. The leader sends LEAD every 10 µs and every module TIME every 100 µs.
The codes of REQUEST and ORDER and the bookkeeping of the ring are the model's choice (log 19). -/
def Obligations.StitchEvents : Prop :=
  ∀ (t : Nat) (h : MsgHdr) (s : State), s.eng.state ≠ .sleep → s.eng.state ≠ .boot → s.eng.inReset = false → s.twin.cfg.ringEnable = 1 →
    let s' := s.atTime t
    let base : State := { s' with ring := { s'.ring with rxLast := ((h.src, h.mseq) :: s'.ring.rxLast).take 256 } }
    let r := fun m => if h.hops = 0 ∨ h.src = s.member then base else base.forward h m
    let sends := fun (u : State) (ms : List SMsg) => u = { s' with out := u.out, ring := u.ring, fc := u.fc } ∧
      u.ring.txMseq = (s.ring.txMseq + ms.length) % 2 ^ 32 ∧ ∃ bs : List (List Byte), bs.length = ms.length ∧
      u.out = s'.out ++ ((ms.zip bs).zipIdx.map fun x => .stitch true true s.member (if x.2 = 0 then s.ring.txMseq else (s.ring.txMseq + x.2) % 2 ^ 32) 7 x.1.1 x.1.2)
    (∀ m, base.forward h m = { base with out := (base.forward h m).out, ring := { base.ring with tx := (base.forward h m).ring.tx }, free := base.free + 1 } ∧
      ∃ m' bytes, (base.forward h m).out = s'.out ++ [.stitch h.west (!h.west) h.src h.mseq (h.hops - 1) m' bytes] ∧
        (∀ k ta tb c, m = .time k ta tb c → k = 4 → ∃ c', m' = .time 4 ta tb c') ∧ ((∀ ta tb c, m ≠ .time 4 ta tb c) → m' = m)) ∧
    (∀ leader o event stripe mask at' member kind ta tb corr, ∀ hello : Hello,
      ∀ p ∈ [(Instr.lead t h leader o, SMsg.lead leader o), (.request t h event stripe mask at', .request event stripe mask at'),
          (.order t h o event member stripe mask at', .order { order := o, event := event, member := member, stripe := stripe, mask := mask, at' := at' }),
          (.time t h true kind ta tb corr, .time kind ta tb corr),
          (.gussetHello t h true hello.build hello.role hello.pairState hello.engineState hello.configDigest hello.ringDigest, .hello hello)],
        p.2.good h = false ∨ (h.src, h.mseq) ∈ s.ring.rxLast → exec p.1 s = .next s') ∧
    ((h.src, h.mseq) ∉ s.ring.rxLast →
      (∀ leader o, (SMsg.lead leader o).good h = true → ∃ u, exec (.lead t h leader o) s = .next u ∧ u = { r (.lead leader o) with ring := u.ring, arb := u.arb } ∧
        u.ring.leader = some leader ∧ u.ring.leadAt = s'.now) ∧
      (∀ m : Hello, (SMsg.hello m).good h = true → h.src ≠ s.member → ∃ u,
        exec (.gussetHello t h true m.build m.role m.pairState m.engineState m.configDigest m.ringDigest) s = .next u ∧
        u = { r (.hello m) with ring := u.ring, arb := u.arb } ∧ u.ring.hellos.head? = some (h.src, m)) ∧
      (∀ event stripe mask at', (SMsg.request event stripe mask at').good h = true → s.isLeader = false →
        exec (.request t h event stripe mask at') s = .next (r (.request event stripe mask at'))) ∧
      (∀ stripe mask at', (SMsg.request 1 stripe mask at').good h = true → s.isLeader = true → s.ring.started = none → ∃ u bytes,
        exec (.request t h 1 stripe mask at') s = .next u ∧
        (∃ l, u.out = (r (.request 1 stripe mask at')).out ++ .stitch true true s.member s.ring.txMseq 7
          (.order { order := s.ring.orderSeen + 1, event := 1, member := h.src, stripe := stripe, mask := mask, at' := s'.instantFor at' }) bytes :: l) ∧
        u.ring.started = some { stripe := stripe, mask := mask, at' := s'.instantFor at' } ∧ s.ring.orderSeen + 1 ≤ u.ring.orderSeen ∧
        u.mb = s.mb ∧ u.feed = s.feed ∧ u.job = s.job ∧ u.tu = s'.tu) ∧
      (∀ o event member stripe mask at',
        let m := SMsg.order { order := o, event := event, member := member, stripe := stripe, mask := mask, at' := at' }
        m.good h = true → (s.isLeader = false ∨ h.src ≠ s.member) → s.ring.orderSeen ≠ 0 →
        (o ≤ s.ring.orderSeen → exec (.order t h o event member stripe mask at') s = .next (r m)) ∧
        (s.ring.orderSeen + 1 < o → ∃ u, exec (.order t h o event member stripe mask at') s = .next u ∧ u = { r m with ring := { (r m).ring with orderHeld := u.ring.orderHeld } }) ∧
        (event = 1 → o = s.ring.orderSeen + 1 → s.ring.orderHeld = [] → mask.testBit s.eng.pairId = true → s.eng.pairId ∉ s.ring.quarantined →
          exec (.order t h o event member stripe mask at') s = .next
            { r m with ring := { (r m).ring with orderSeen := o, sync := some { stripe := stripe, mask := mask, at' := at' }, dropped := none } })) ∧
      (∀ ta tb corr, (SMsg.time 3 ta tb corr).good h = true → exec (.time t h true 3 ta tb corr) s = .next
        { r (.time 3 ta tb corr) with ring := { (r (.time 3 ta tb corr)).ring with hopDelay := Config.hopDelay ta tb s'.tu.t8 } }) ∧
      (∀ ta tb corr, (SMsg.time 4 ta tb corr).good h = true → h.src ≠ s.member → s.twin.active = true → ∃ u, exec (.time t h true 4 ta tb corr) s = .next u ∧
        u = { r (.time 4 ta tb corr) with ring := u.ring, tu := u.tu, arb := u.arb } ∧
        let off := wrapS 40 ((s'.tu.t8 : Int) - ta - roundHalfUp corr 256)
        u.tu.ringOffset = off * 256 ∧ (u.tu.locked = true ↔ off.natAbs ≤ 25600) ∧ (25600 < off.natAbs → u.tu.excluded = true ∧ u.ring.okCount = 0))) ∧
    (let due := s.isLeader = true ∧ ∀ a, s.ring.leadSent = some a → a + 10 * 12800 ≤ s'.now
     (¬due → exec (.leadBroadcast t) s = .next s') ∧
     (due → ∃ u, exec (.leadBroadcast t) s = .next u ∧ sends u [.lead s.member s.ring.orderSeen] ∧ u.ring.leadSent = some s'.now)) ∧
    (let due := ∀ a, s.ring.timeSent = some a → a + 100 * 12800 ≤ s'.now
     (¬due → exec (.timeBroadcast t) s = .next s') ∧
     (due → ∃ u, exec (.timeBroadcast t) s = .next u ∧ u.ring.timeSent = some s'.now ∧
      sends u (.time 3 s'.tu.t8 0 0 :: (if s.isLeader = true then [.time 4 s'.tu.t8 0 0] else [])))) ∧
    (s.isLeader = true ∨ s'.now < s.ring.leadAt + 30 * 12800 → exec (.leadTimeout t) s = .next s') ∧
    (s.isLeader = false → s.ring.leadAt + 30 * 12800 ≤ s'.now → ∃ u, exec (.leadTimeout t) s = .next u ∧ u = { s' with ring := u.ring, arb := u.arb } ∧
      u.ring.leader = s'.bestLeader ∧ u.ring.leadAt = s'.now ∧ ∀ m, s'.bestLeader = some m → u.waits s'.now .stiLeader (m * 2 ^ 40 + s.flash40))

/-! ## The time unit (11) -/

/-- TU_SNAP, TU_INC_WRITE, TU_STEP, PULSE_ARM, PULSE_FIRE, PULSE_END and the IEEE 1588 messages (11 R361 to R363,
R372). A snapshot takes the three parts at once; increment and step are written in a module that is no time follower,
and a step waits for the next tick. FIRED and MISSED are cleared by a write, unless they were set at that instant (00
R14). ARM of a pulse whose time has passed sets STALE instead. A pulse fires once its
time is reached: the output is high for its width, a single one is disarmed, a periodic one moves to the first time
ahead and notes those missed. The output of a standby stays low. -/
def Obligations.TimeUnitCommands : Prop :=
  ∀ (t : Nat) (s : State), s.tu.pls.length = 2 →
    let s' := s.atTime t
    exec (.tuSnap t) s = .next { s' with tu := { s'.tu with snapSec := s'.tu.sec, snapNs := s'.tu.ns, snapFrac := s'.tu.frac } } ∧
    (∀ value : Word,
      (s.timeFollower = true → exec (.tuIncWrite t value) s = .next s' ∧ exec (.tuStep t value) s = .next s') ∧
      (s.timeFollower = false → exec (.tuIncWrite t value) s = .next { s' with tu := { s'.tu with inc := value.toNat % 2 ^ 40 } } ∧
        exec (.tuStep t value) s = .next { s' with tu := { s'.tu with step := s'.tu.step + value.toInt } })) ∧
    (∀ n < 2, ∀ value : BitVec 32,
      let p := s'.tu.pls.getD n {}
      let at' := p.sec * 1000000000 + p.ns
      ∃ u, exec (.pulseArm t n value) s = .next u ∧ u = { s' with tu := { s'.tu with pls := u.tu.pls } } ∧
        let p' := u.tu.pls.getD n {}
        p'.width = value.toNat / 2 ^ 16 ∧ p'.missed = (p.missed && (!value.getLsbD 3 || p.missedAt == some s'.now)) ∧
        p'.fired = (p.fired && (!value.getLsbD 1 || p.firedAt == some s'.now)) ∧
        (value.getLsbD 0 = false → p'.arm = false ∧ p'.stale = p.stale) ∧
        (value.getLsbD 0 = true → at' * 2 ^ 32 < s'.tu.total → p'.arm = false ∧ p'.stale = true) ∧
        (value.getLsbD 0 = true → s'.tu.total ≤ at' * 2 ^ 32 → p'.arm = true ∧ p'.stale = false ∧ p'.target = at') ∧
        u.tu.pls.getD (1 - n) {} = s'.tu.pls.getD (1 - n) {}) ∧
    (∀ n < 2,
      let p := s'.tu.pls.getD n {}
      (p.arm = false ∨ s.twin.active = false ∨ s'.tu.total < p.target * 2 ^ 32 → exec (.pulseFire t n) s = .next s') ∧
      (p.arm = true → s.twin.active = true → p.target * 2 ^ 32 ≤ s'.tu.total → ∃ u, exec (.pulseFire t n) s = .next u ∧
        u = { s' with tu := { s'.tu with pls := u.tu.pls }, out := u.out, sl := u.sl } ∧
        let p' := u.tu.pls.getD n {}
        p'.fired = true ∧ p'.firedAt = some s'.now ∧ p'.highUntil = some (s'.now + 64 * max 1 p.width) ∧ (p.highUntil = none → .pulse n true ∈ u.out) ∧
        (p.per = 0 → p'.arm = false) ∧
        (p.per ≠ 0 → s'.tu.frac < 2 ^ 32 → p'.arm = true ∧ s'.tu.total < p'.target * 2 ^ 32 ∧ ∃ k : Nat, p'.target = p.target + (k + 1) * max 100 p.per ∧ (p'.missed = true ↔ p.missed = true ∨ 0 < k)))) ∧
    (∀ n < 2, ∀ e,
      (s'.tu.pls.getD n {}).highUntil = some e → exec (.pulseEnd t n) s = .next (if e ≤ s'.now then
        { s' with out := s'.out ++ [.pulse n false], tu := { s'.tu with pls := s'.tu.pls.set n { s'.tu.pls.getD n {} with highUntil := none } } } else s')) ∧
    (∀ offset pathDelay portState,
      (s.twin.cfg.ptpEnable = 0 → exec (.ptpMessage t offset pathDelay portState) s = .next s') ∧
      (s.twin.cfg.ptpEnable ≠ 0 → ∃ u, exec (.ptpMessage t offset pathDelay portState) s = .next u ∧
        u = { s' with tu := { s'.tu with gmOffset := offset, pathDelay := pathDelay, portState := portState % 256, inc := u.tu.inc } } ∧
        ((({ s' with tu := { s'.tu with gmOffset := offset, pathDelay := pathDelay, portState := portState % 256 } } : State).ptpSteered) = false → u.tu.inc = s'.tu.inc)))

/-! ## The host link and Sluice (12) -/

/-- FN_RESET, LINK_DOWN, BME_OFF, BUS_ERR, COMPLETION_TIMEOUT, DMA_RESUME, DMA_CLR_DROP, LINK_UP, BUS_MASTER_ENABLE_SET and
D0_ENTRY (12 R377, R398, R400). Each of the first five raises its fault, halts every channel and notes the cause, the
address, the channel and the request; no ring is left at work. A reset or a link loss also returns the ring
registers, the MSI-X table and BAR2_WIN to their reset values. A halt ends only on request, once Bus Master Enable,
the link and D0 are all there. Motion, Hem, the time unit and the lanes go on, and resets
and link events leave every register of the mailboxes as it was (13 R405).
Which state a PCI Express reset leaves (Bus Master Enable 0, power state D0) is the model's choice (log 29). -/
def Obligations.HaltsAndLink : Prop :=
  ∀ (t : Nat) (s : State), s.sl.rings.length = 32 →
    let s' := s.atTime t
    let halted := fun (f : FaultName) (cause addr chan req : Nat) (u : State) =>
      u.sl.halted = true ∧ u.sl.haltCause = cause ∧ u.sl.haltAddr = addr ∧ u.sl.haltChan = chan ∧ u.sl.haltReq = req ∧
      u.waits s'.now f (addr % 2 ^ 48) ∧ (∀ n < 32, (u.ring' n).state = .idle ∨ (u.ring' n).state = .halted) ∧
      (∀ n < 32, (u.ring' n).streamQ = []) ∧ u.eng = s.eng ∧ u.br = s.br ∧ u.hem = s.hem ∧ u.feed = s.feed ∧ u.cf = s.cf ∧ u.sh = s.sh ∧ u.tu = s'.tu ∧ u.job = s.job
    let cleared := fun (u : State) => u.sl.rings = State.reset.sl.rings ∧ u.sl.msix = State.reset.sl.msix ∧ u.sl.pba = 0 ∧ u.sl.bar2Win = 0 ∧ u.sl.bme = false ∧ u.sl.d0 = true
    (∀ u, exec (.fnReset t) s = .next u ∨ exec (.linkDown t) s = .next u ∨ (∃ d3, exec (.bmeOff t d3) s = .next u) →
      ∀ n o, (u.mb.getD n {}).reg o = (s.mb.getD n {}).reg o) ∧
    (∃ u, exec (.fnReset t) s = .next u ∧ halted .fnReset 10 0 0xFF 0xF u ∧ cleared u ∧ u.sl.linkUp = s.sl.linkUp) ∧
    (∃ u, exec (.linkDown t) s = .next u ∧ halted .linkDown 9 0 0xFF 0xF u ∧ cleared u ∧ u.sl.linkUp = false) ∧
    (∃ u, exec (.bmeOff t false) s = .next u ∧ halted .bmeOff 7 0 0xFF 0xF u ∧ u.sl.bme = false) ∧
    (∃ u, exec (.bmeOff t true) s = .next u ∧ halted .bmeOff 8 0 0xFF 0xF u ∧ u.sl.d0 = false) ∧
    (∀ addr chan req, addr < 2 ^ 64 → chan < 2 ^ 8 → req < 2 ^ 4 →
      (∀ cause, 1 ≤ cause → cause ≤ 5 → ∃ u, exec (.busErr t cause addr chan req) s = .next u ∧ halted .busErr cause addr chan req u) ∧
      (∃ u, exec (.busErr t 6 addr chan req) s = .next u ∧ halted .busErr 6 0 0xFF 0xF u) ∧
      (∃ u, exec (.completionTimeout t addr chan req) s = .next u ∧ halted .busErr 5 addr chan req u)) ∧
    exec (.dmaResume t) s = .next (if s.sl.bme = true ∧ s.sl.linkUp = true ∧ s.sl.d0 = true then { s' with sl := { s'.sl with halted := false } } else s') ∧
    exec (.dmaClrDrop t) s = .next { s' with sl := { s'.sl with drops := 0 } } ∧
    exec (.linkUp t) s = .next { s' with sl := { s'.sl with linkUp := true } } ∧
    exec (.busMasterEnableSet t) s = .next { s' with sl := { s'.sl with bme := true } } ∧
    exec (.d0Entry t) s = .next { s' with sl := { s'.sl with d0 := true } }

/-- BAR_ACCESS, BAR2_ACCESS, REGISTER_WRITE and MSIX_VECTOR_UNMASK (12 R379 to R381, R401; 13 R403). A discarded access and
a write to an offset without a register raise BAR_ACCESS and change nothing else. A write through BAR2 lands in
the host transfer area at BAR2_WIN and is refused outside it; a read sends what DRAM holds. MBn_CMD, a ring's head
while it is at rest and BAR2_WIN take the value that is written. Lifting a vector's mask sends its recorded message. -/
def Obligations.BarAccesses : Prop :=
  ∀ (t offset : Nat) (s : State), s.mb.length = 4 → s.sl.rings.length = 32 → s.sl.msix.length = 64 →
    let s' := s.atTime t
    let refused := fun (a : Nat) => { s' with arb := { s'.arb with faultQ := s'.arb.faultQ ++ [{ at' := s'.now, name := .barAccess, addr := a % 2 ^ 48 }] } }
    (∀ bar w, exec (.barAccess t bar offset w) s = .next (refused (bar % 16 * 2 ^ 44 + offset % 2 ^ 40))) ∧
    (∀ len data,
      let a := s.sl.bar2Win * 2 ^ 36 + offset % 2 ^ 36
      (inTransfer a data.length = true → exec (.bar2Access t offset true len data) s = .next (s'.writeBytes 3 1 a data)) ∧
      (inTransfer a data.length = false → exec (.bar2Access t offset true len data) s = .next (refused (2 * 2 ^ 44 + offset % 2 ^ 40))) ∧
      (∃ u, exec (.bar2Access t offset false len data) s = .next u ∧ u.out = s'.out ++ [.barRead a (s'.readBytes 3 a len).1] ∧ u.mb = s.mb ∧ u.sl = s.sl ∧ u.eng = s.eng)) ∧
    (∀ value : Word,
      (s'.readReg offset = none → exec (.registerWrite t offset value) s = .next (refused (offset % 2 ^ 40))) ∧
      (∀ n < 4, exec (.registerWrite t (0x10000 + 0x4000 * n) value) s = .next { s' with mb := s'.mb.set n { s'.mb.getD n {} with cmd := value } }) ∧
      (∀ n < 32, exec (.registerWrite t (0x20108 + 0x40 * n) value) s = .next (if (s.ring' n).state = .idle ∨ (s.ring' n).state = .halted then
        { s' with sl := { s'.sl with rings := s'.sl.rings.set n { s.ring' n with head := value.toNat / 32 * 32 } } } else s')) ∧
      exec (.registerWrite t 0x2001C value) s = .next { s' with sl := { s'.sl with bar2Win := value.toNat % 2 } }) ∧
    (∀ v < 64, s.sl.fnMask = false → s.sl.pba = 2 ^ v → ∃ u, exec (.msixVectorUnmask t (some v)) s = .next u ∧
      u = { s' with sl := { s'.sl with pba := 0, msix := s'.sl.msix.set v { s.sl.msix.getD v {} with mask := false } },
                    out := s'.out ++ [.msix v (s.sl.msix.getD v {}).addr (s.sl.msix.getD v {}).data] }) ∧
    (s.sl.pba = 0 → exec (.msixVectorUnmask t none) s = .next { s' with sl := { s'.sl with fnMask := false } })

/-- RING_ENABLE, RING_DISABLE, RING_ABORT, RING_DOORBELL, CQ_HEAD_WRITE and NEXT_REREAD (12 R390 to R394). Enabling an Idle
ring clears its queue and fetches at its head; disabling or aborting one lets a transfer in progress end and takes
one without to Idle; the doorbell of a Parked ring re-reads the tail's next field, whose answer runs on or parks; a
head beyond the records written raises CQ_HEAD. Only that ring changes. -/
def Obligations.RingControl : Prop :=
  ∀ (t n : Nat) (s : State), n < 32 → s.sl.rings.length = 32 →
    let s' := s.atTime t
    let r := s.ring' n
    let put := fun (x : Ring) => { s' with sl := { s'.sl with rings := s'.sl.rings.set n x } }
    let atRest := { r with state := RingState.idle, enable := false, abort := false, fetch := none, desc := none, started := false, rereads := 0, free := [] }
    let runsAt := fun (r : Ring) (a : Nat) => { r with state := RingState.running, fetch := some a, cur := a, desc := none, started := false, rereads := 0, dbPending := false }
    (r.state = .idle → exec (.ringEnable t n) s = .next (put (runsAt { r with enable := true, cqHead := 0, cqTail := 0, records := 0, abort := false, free := [] } (r.head / 32 * 32)))) ∧
    (r.state ≠ .idle → exec (.ringEnable t n) s = .next s') ∧
    (r.state = .running → r.started = true → exec (.ringDisable t n) s = .next (put { r with state := .stopping, enable := false }) ∧
      exec (.ringAbort t n) s = .next (put { r with state := .stopping, abort := true })) ∧
    (r.state = .running → r.started = false → exec (.ringDisable t n) s = .next (put atRest) ∧ exec (.ringAbort t n) s = .next (put atRest)) ∧
    (r.state = .parked → exec (.ringDisable t n) s = .next (put atRest) ∧ exec (.ringAbort t n) s = .next s') ∧
    (r.state = .halted → exec (.ringDisable t n) s = .next (put (if s.sl.halted then { r with enable := false } else atRest)) ∧ exec (.ringAbort t n) s = .next s') ∧
    (r.state = .parked → s.sl.halted = false → exec (.ringDoorbell t n) s = .next (put { r with rereads := r.rereads + 1, dbPending := false })) ∧
    (r.state ≠ .parked → exec (.ringDoorbell t n) s = .next (put { r with dbPending := true })) ∧
    (∀ value, value < 2 ^ 32 →
      (2 ^ r.cqSize < (r.cqTail + 2 ^ 32 - value) % 2 ^ 32 → exec (.cqHeadWrite t n value) s = .next
        { s' with arb := { s'.arb with faultQ := s'.arb.faultQ ++ [{ at' := s'.now, name := .cqHead, addr := n * 2 ^ 40 }] } }) ∧
      ((r.cqTail + 2 ^ 32 - value) % 2 ^ 32 ≤ 2 ^ r.cqSize → ∃ u, exec (.cqHeadWrite t n value) s = .next u ∧ (u.ring' n).cqHead = value ∧
        (r.desc = none → r.streamQ = [] → u = put { r with cqHead := value }))) ∧
    (∀ next, s.sl.halted = false → r.rereads ≠ 0 →
      (next ≠ 0 → r.state = .running ∨ r.state = .parked → exec (.nextReread t n next) s = .next (put (runsAt r next))) ∧
      (next = 0 → r.state = .parked → exec (.nextReread t n next) s = .next (put { r with rereads := r.rereads - 1 })) ∧
      (next = 0 → r.state = .running → r.dbPending = false → exec (.nextReread t n next) s = .next (put { r with rereads := r.rereads - 1, state := .parked })) ∧
      (next = 0 → r.state = .running → r.dbPending = true → exec (.nextReread t n next) s = .next (put { r with rereads := r.rereads, state := .parked, dbPending := false }))) ∧
    (∀ next, r.rereads = 0 → exec (.nextReread t n next) s = .next s')

/-- DESCRIPTOR_FETCHED, DESCRIPTOR_COMPLETE, STREAM_RECORD and STREAM_RECORD_TIMEOUT (12 R386 to R397). A fetched descriptor
that passes its checks starts, and its read requests go out, none across 4,096 bytes (R387); one that fails writes its completion record, raises its fault and halts its ring. A
completed one of rings 0 to 15 puts the host's bytes, rearranged by SWAP, into the transfer area, one of the others sends what DRAM holds to its host
ranges; it writes its record of
32 bytes with status OK, and the ring goes on along next, re-reads it, or is Idle after the last. A stream record
goes to the oldest free descriptor, and is dropped and counted when the ring is not at work or its queue is full. -/
def Obligations.Descriptors : Prop :=
  ∀ (t n : Nat) (s : State), n < 32 → s.sl.rings.length = 32 → s.sl.halted = false →
    let s' := s.atTime t
    let r := s.ring' n
    let recAt := r.cqBase + 32 * (r.records % 2 ^ r.cqSize)
    (∀ addr bytes index,
      let d : Desc := { addr := addr, raw := bytes, table := index }
      (r.state ≠ .running ∨ r.fetch ≠ some addr → exec (.descriptorFetched t n addr bytes index) s = .next s') ∧
      (r.state = .running → r.fetch = some addr → r.stream n = false → r.slotFree = true →
        (d.wrong n false = none → exec (.descriptorFetched t n addr bytes index) s = .next
          { s' with
            out := s'.out ++ (if n < 16 then (d.ranges d.src).flatMap fun p => readRequests p.1 p.2 else [])
            sl := { s'.sl with rings := s'.sl.rings.set n { r with desc := some d, fetch := none, started := true } } }) ∧
        (∀ st f, d.wrong n false = some (st, f) → ∃ u b, exec (.descriptorFetched t n addr bytes index) s = .next u ∧ (u.ring' n).state = .halted ∧
          (u.ring' n).lastSt = st ∧ (u.ring' n).records = r.records + 1 ∧ .hostWrite recAt b ∈ u.out ∧ b.length = 32 ∧
          u.waits s'.now f (ringAddr n addr) ∧ u.eng = s.eng ∧ u.mb = s.mb ∧ u.hem = s.hem ∧ u.br = s.br ∧ u.bands = s.bands)) ∧
      (r.state = .running → r.fetch = some addr → r.stream n = true → r.free.length < 8 → d.wrong n true = none → r.streamQ = [] →
        exec (.descriptorFetched t n addr bytes index) s = .next { s' with sl := { s'.sl with rings := s'.sl.rings.set n { r with
          free := r.free ++ [d], dbPending := false, fetch := if d.last = true ∨ d.next = 0 then none else some d.next } } })) ∧
    (∀ d data, r.desc = some d → r.started = true → r.abort = false → n < 16 → ∃ u b, exec (.descriptorComplete t n data) s = .next u ∧
      u.dram = (s'.writeBytes 2 1 d.dst (swapBytes d.swap d.len (padTo d.len (data.take d.len)))).dram ∧
      .hostWrite recAt b ∈ u.out ∧ b.length = 32 ∧ fld b 0 8 = d.addr % 2 ^ 64 ∧ fld b 8 4 = d.len % 2 ^ 32 ∧ fld b 12 1 = 0 ∧
      (u.ring' n).records = r.records + 1 ∧ (u.ring' n).cqTail = (r.cqTail + 1) % 2 ^ 32 ∧
      (r.state = .running → d.last = true → (u.ring' n).state = .idle ∧ (u.ring' n).enable = false) ∧
      (r.state = .running → d.last = false → d.next ≠ 0 → (u.ring' n).state = .running ∧ (u.ring' n).fetch = some d.next ∧ (u.ring' n).started = false) ∧
      (r.state = .running → d.last = false → d.next = 0 → (u.ring' n).rereads = r.rereads + 1 ∧ (u.ring' n).started = false) ∧
      u.eng = s.eng ∧ u.mb = s.mb ∧ u.hem = s.hem ∧ u.br = s.br ∧ u.bands = s.bands ∧ u.job = s.job) ∧
    (∀ d data b, r.desc = some d → r.started = true → r.abort = false → 16 ≤ n → (s'.readBytes 2 d.src d.len).1 = some b →
      ∃ u rb l, exec (.descriptorComplete t n data) s = .next u ∧ u.dram = (s'.readBytes 2 d.src d.len).2.dram ∧ rb.length = 32 ∧
        u.out = s'.out ++ (cutRanges (d.ranges d.dst) (swapBytes d.swap d.len b)).flatMap (fun p => writeRequests p.1 p.2) ++ .hostWrite recAt rb :: l) ∧
    (∀ data, r.desc = none ∨ r.started = false → exec (.descriptorComplete t n data) s = .next s') ∧
    (∀ bytes, s.sl.streamOut = [(n, bytes)] →
      (r.stream n = false ∨ ¬(r.state = .running ∨ r.state = .parked) ∨ 16 ≤ r.streamQ.length → ∃ u, exec (.streamRecord t n) s = .next u ∧
        u = { s' with
          sl := { s'.sl with streamOut := [], drops := min (s.sl.drops + 1) 65535 }, arb := u.arb
          pol := { s'.pol with stats := { s'.pol.stats with reportsDropped := s'.pol.stats.reportsDropped + 1 } } } ∧
        (s.sl.drops = 0 → u.waits s'.now .streamDrop (n * 2 ^ 40))) ∧
      (r.stream n = true → (r.state = .running ∨ r.state = .parked) → r.streamQ = [] → r.free = [] → exec (.streamRecord t n) s = .next
        { s' with sl := { s'.sl with streamOut := [], rings := s'.sl.rings.set n { r with streamQ := [(s'.now, bytes)] } } }) ∧
      (∀ d, r.stream n = true → (r.state = .running ∨ r.state = .parked) → r.streamQ = [] → r.free = [d] → r.slotFree = true → ∃ u b, exec (.streamRecord t n) s = .next u ∧
        (∀ o ∈ writeRequests d.dst bytes, o ∈ u.out) ∧ .hostWrite recAt b ∈ u.out ∧ (u.ring' n).free = [] ∧ (u.ring' n).streamQ = [] ∧ (u.ring' n).records = r.records + 1)) ∧
    (s.sl.streamOut = [] → exec (.streamRecord t n) s = .next s') ∧
    (∀ at' bytes q, r.streamQ = (at', bytes) :: q → r.free = [] →
      (s'.now < at' + 4 * 12800 → exec (.streamRecordTimeout t n) s = .next s') ∧
      (at' + 4 * 12800 ≤ s'.now → ∃ u, exec (.streamRecordTimeout t n) s = .next u ∧ (u.ring' n).streamQ = q ∧ u.sl.drops = min (s.sl.drops + 1) 65535 ∧
        u.eng = s.eng ∧ u.mb = s.mb ∧ u.out = s'.out ∧ u.bands = s.bands))

/-! ## Bands, cells, memory and journal (02 to 05, 14, 16) -/

/-- STAGING_START, STAGING_COMPLETE, BLOCK_DECODED, BINNING_DONE, TILE_WRITTEN and UNIT_PARITY (02 R74 to R79, 04 R126
to R130). The next stream of the directory is staged once it has room and lies below the feed limit, from its place
in the feed window; one longer than the region raises STREAM_SIZE. A completed copy of its stream's length is held
by its band. A block that decodes waits for its turn, and an error of the block whose turn it is raises its fault
with its file offset and fails the stream, as the first block of a stream without a byte does with REC_ORDER. A band
all of whose records are binned is queued to the units, or waits for its pins. A finished tile leaves its unit and
counts; one that misses a cell waits; a parity upset takes the unit out of service.
The order of the steps of a command on a band, the address of STREAM_SIZE and the blocks that the lanes hold are the
model's choice (log 38, log 57). -/
def Obligations.BandEvents : Prop :=
  ∀ (t : Nat) (s : State),
    let s' := s.atTime t
    (s.job = none → ∃ u, exec (.stagingStart t) s = .next u ∧ u = { s' with bands := u.bands }) ∧
    (∀ j d, s.job = some j → j.dir[j.stageAt]? = some d → j.skips d.stripe = false → d.empty = false →
      (j.stagingSize < d.streamLen → ∃ u, exec (.stagingStart t) s = .next u ∧ u.waits s'.now .streamSize d.streamOffset ∧
        (u.job.map fun j => (j.stageAt, j.stagedUsed)) = some (j.stageAt + 1, j.stagedUsed) ∧ u.eng = s.eng ∧ u.mb = s.mb ∧ u.dram = s.dram ∧ u.br = s.br ∧ u.fc = s'.fc) ∧
      (d.streamLen ≤ j.stagingSize → (s.sl.halted = true ∨ j.stagingSize < j.stagedUsed + d.streamLen ∨ j.feedLimit < d.streamOffset + d.streamLen) →
        ∃ u, exec (.stagingStart t) s = .next u ∧ u = { s' with bands := u.bands }) ∧
      (s.sl.halted = false → j.stagedUsed + d.streamLen ≤ j.stagingSize → d.streamOffset + d.streamLen ≤ j.feedLimit →
        ∃ u k, exec (.stagingStart t) s = .next u ∧ u = { s' with bands := u.bands, job := some { j with stageAt := j.stageAt + 1 + k, stagedUsed := j.stagedUsed + d.streamLen } } ∧
          ((∀ e ∈ j.dir.drop (j.stageAt + 1), (e.stripe, e.band) ≠ (d.stripe, d.band)) →
            (u.band d.stripe d.band).map (fun b => (b.stream, b.copyFrom)) = some (.staging, some (j.windowAddr + (d.streamOffset - j.hdr.headLen) % j.windowSize))))) ∧
    (∀ data, (s.sl.halted = true ∨ s.bands.find? (·.stream == .staging) = none → exec (.stagingComplete t data) s = .next s') ∧
      (∀ b, s.sl.halted = false → s.bands.find? (·.stream == .staging) = some b →
        ((∃ d, s.dirEnt b.stripe b.band = some d ∧ d.streamLen ≠ data.length) → exec (.stagingComplete t data) s = .next s') ∧
        ((∀ d, s.dirEnt b.stripe b.band = some d → d.streamLen = data.length) → ∃ u, exec (.stagingComplete t data) s = .next u ∧
          u = { s' with bands := u.bands } ∧ (u.band b.stripe b.band).map (·.staged) = some data))) ∧
    (∀ stripe band block, s.band stripe band = none → exec (.blockDecoded t stripe band block) s = .next s') ∧
    (∀ stripe band block b, s.band stripe band = some b →
      let base := ((s.dirEnt stripe band).map (·.streamOffset)).getD 0
      let taken := b.stream = .decoding ∧ b.nextBlock ≤ block ∧ block < b.nextBlock + 16 ∧ ∀ d ∈ b.decoded, d.1 ≠ block
      (¬taken → exec (.blockDecoded t stripe band block) s = .next s') ∧
      (taken → b.staged = [] → ∃ u, exec (.blockDecoded t stripe band block) s = .next u ∧ u.waits s'.now .recOrder base) ∧
      (taken → b.staged ≠ [] → b.staged.length ≤ blockOffset b.staged block → exec (.blockDecoded t stripe band block) s = .next s') ∧
      (taken → blockOffset b.staged block < b.staged.length → ∃ u, exec (.blockDecoded t stripe band block) s = .next u ∧
        u.eng = s.eng ∧ u.mb = s.mb ∧ u.dram = s.dram ∧ u.br = s.br ∧ u.job = s.job ∧
        (b.damaged = false → (∀ d ∈ b.decoded, d.1 ≠ b.nextBlock) →
          let r := decodeBlockAt b.staged 0 block (rawBefore b.staged block) (s'.inject 1 0).1
          (∀ f, r = .error f → block = b.nextBlock → u.waits s'.now f (base + blockOffset b.staged block)) ∧
          (∀ bytes last, r = .ok (bytes, last) → block ≠ b.nextBlock →
            u = { s' with bands := u.bands, fc := u.fc } ∧ (u.band stripe band).map (·.decoded) = some (b.decoded ++ [(block, none, bytes)]))))) ∧
    (∃ u, exec (.binningDone t) s = .next u ∧ u.eng = s.eng ∧ u.mb = s.mb ∧ u.dram = s.dram ∧ u.br = s.br ∧ u.job = s.job ∧
      ((∀ b ∈ s.bands, b.render ≠ .binning) → s.nextToBin = none → u = { s' with bands := u.bands })) ∧
    (∀ b, s.bands.find? (·.render == .binning) = some b → b.stream = .done → (∀ x ∈ s.bands, x.stripe = b.stripe → x.band = b.band → x = b) →
      ∃ u, exec (.binningDone t) s = .next u ∧
      let r := binBand s.look b.stripe b.band s.bandRows (((s.dirEnt b.stripe b.band).map (·.streamOffset)).getD 0) b.records b.binned
      s.loom.stats.binRefsPeak ≤ u.loom.stats.binRefsPeak ∧ r.1.count ≤ u.loom.stats.binRefsPeak ∧
      (∀ f a, r.2 = some (.fault f a) → u.waits s'.now f a) ∧
      (r.2 = none → b.records.length ≤ r.1.taken →
        (u.band b.stripe b.band).map (fun b => (b.render, b.binned)) = some (if b.pinsDropped then .waitPins else .tiling, r.1))) ∧
    (∀ unit up, (∀ b ∈ s.bands, ∀ w ∈ b.working, w.unit ≠ unit) → ∃ u, exec (.tileWritten t unit up) s = .next u ∧ u = { s' with bands := u.bands }) ∧
    (∀ unit up b w, s.bands.find? (fun b => b.working.any (·.unit == unit)) = some b → b.working.find? (·.unit == unit) = some w → (∀ j ∈ s'.fc.inject, j.count = 0) →
      ∃ u, exec (.tileWritten t unit up) s = .next u ∧ u.mb = s.mb ∧ u.dram = s.dram ∧ u.br = s.br ∧ u.job.isSome = s.job.isSome ∧
      let r := renderTile s.look b.stripe b.band s.bandRows w.tile (((s.dirEnt b.stripe b.band).map (·.streamOffset)).getD 0) b.binned.refs b.records
      (∀ c g, r = .error (.wait c, g) → u = { s' with bands := u.bands, cc := u.cc } ∧
        ∃ b' ∈ u.bands, ∃ w' ∈ b'.working, w'.unit = unit ∧ w'.tile = w.tile ∧ w'.waiting = some (w.waiting.getD (c, s'.now))) ∧
      (∀ f a g, r = .error (.fault f a, g) → u.waits s'.now f a ∧ u.loom.stats.tiles = s.loom.stats.tiles) ∧
      (∀ x, r = .ok x → u.loom.stats.tiles = s.loom.stats.tiles + 1 ∧ u.loom.stats.rowSteps = s.loom.stats.rowSteps + x.rowSteps ∧
        u.loom.stats.instanceTests = s.loom.stats.instanceTests + x.tests ∧
        (up = true → u.waits s'.now .writeCheck (addrBand b.stripe b.band)))) ∧
    (∀ unit < 256, ∃ u, exec (.unitParity t unit) s = .next u ∧ u.waits s'.now .unitParity unit ∧
      (∀ k < 256, u.loom.inService.getLsbD k = (s.loom.inService.getLsbD k && k != unit)) ∧
      u.eng = s.eng ∧ u.mb = s.mb ∧ u.dram = s.dram ∧ u.br = s.br ∧ u.job = s.job)

/-- CELL_FETCH_START, CELL_FETCH_DONE, CELL_DECODE_DONE and PIN_RESTORE (03 R95 to R105). The first pinned fetch of the
queue starts, else the first one, while fewer than 256 are in flight, with its pages taken. Good stored bytes go
to the decoder; bad ones raise CELL_RETRY and are read again, and bad again the cell is Bad with CELL_CHECK. A body
of its stored length makes the cell Resident; a fault or another length makes it Bad. A band whose pins were
dropped takes them again, and a render that waits for them starts over.
The order of the steps of a fetch, and the space that the pins need, are the model's choice (log 39, log 57). -/
def Obligations.CellEvents : Prop :=
  ∀ (t : Nat) (s : State),
    let s' := s.atTime t
    (s.cc.queue = [] → exec (.cellFetchStart t) s = .next s') ∧
    (s.sl.halted = true → (∀ q ∈ s.cc.queue, (s.cell q.1).isSome) → exec (.cellFetchStart t) s = .next s') ∧
    (∀ id c r, ((∀ q ∈ s.cc.queue, q.2 = false) ∧ s.cc.queue.head? = some (id, false)) → s.cell id = some c → s.sl.halted = false →
      (s.cc.cells.filter (·.state == .fetching)).length < 256 → ((s.cc.cells.filter (·.busy)).map (·.ent.storedLen)).sum + c.ent.storedLen ≤ 2 ^ 28 →
      (s'.allocCell false c.ent.rawLen = none → exec (.cellFetchStart t) s = .next s') ∧
      (s'.allocCell false c.ent.rawLen = some r → ∃ u, exec (.cellFetchStart t) s = .next u ∧ u = { s' with cc := u.cc, bands := u.bands } ∧
        (∀ q ∈ u.cc.queue, q.1 ≠ id) ∧ (u.cell id).map (fun c => (c.state, c.second, c.pages, c.prefetched)) = some (.fetching, false, r.1, true) ∧
        u.cc.stats.prefetches = s.cc.stats.prefetches + 1 ∧ u.cc.stats.demandFetches = s.cc.stats.demandFetches)) ∧
    (∀ id c r, s.cc.queue.find? (·.2) = some (id, true) → s.cell id = some c → s.sl.halted = false →
      (s.cc.cells.filter (·.state == .fetching)).length < 256 → ((s.cc.cells.filter (·.busy)).map (·.ent.storedLen)).sum + c.ent.storedLen ≤ 2 ^ 28 →
      s'.allocCell true c.ent.rawLen = some r → ∃ u, exec (.cellFetchStart t) s = .next u ∧ u = { s' with cc := u.cc, bands := u.bands } ∧
        (∀ q ∈ u.cc.queue, q.1 ≠ id) ∧ (u.cell id).map (fun c => (c.state, c.second, c.pages, c.prefetched)) = some (.fetching, false, r.1, false) ∧
        u.cc.stats.prefetches = s.cc.stats.prefetches ∧ u.cc.stats.demandFetches = s.cc.stats.demandFetches + 1) ∧
    (∀ id data, (∀ c, s.cell id = some c → c.state ≠ .fetching) ∨ s.sl.halted = true → exec (.cellFetchDone t id data) s = .next s') ∧
    (∀ id data c, s.cell id = some c → c.state = .fetching → s.sl.halted = false →
      let good := (crc32c data id).xor ((s'.inject 2 0).1 % 2 ^ 32) = c.ent.check ∧ data.length = c.ent.storedLen
      ∃ u, exec (.cellFetchDone t id data) s = .next u ∧ u.eng = s.eng ∧ u.mb = s.mb ∧ u.dram = s.dram ∧ u.br = s.br ∧ u.job.isSome = s.job.isSome ∧
        u.cc.stats.storedBytes = s.cc.stats.storedBytes + c.ent.storedLen ∧
        (good → u = { s' with cc := u.cc, fc := u.fc } ∧ u.cell id = some { c with state := .decoding, stored := data } ∧ u.cc.stats.retries = s.cc.stats.retries) ∧
        (¬good → c.second = false → u.cell id = some { c with second := true } ∧ u.cc.stats.retries = s.cc.stats.retries + 1 ∧
          u.loom = s.loom ∧
          u.arb.faultQ = s.arb.faultQ ++ [{ at' := s'.now, name := .cellRetry, addr := id % 2 ^ 48 }]) ∧
        (¬good → c.second = true → u.waits s'.now .cellCheck id ∧ u.cc.stats.badCells = s.cc.stats.badCells + 1)) ∧
    (∀ id, (∀ c, s.cell id = some c → c.state ≠ .decoding) → exec (.cellDecodeDone t id) s = .next s') ∧
    (∀ id c, s.cell id = some c → c.state = .decoding →
      let r := (decodeBody c.stored id 65537 0 0 { records := [], rest := [], at' := 0 } s').1
      ∃ u, exec (.cellDecodeDone t id) s = .next u ∧ u.eng = s.eng ∧ u.mb = s.mb ∧ u.dram = s.dram ∧ u.br = s.br ∧
        (∀ sc, r = .ok (sc, c.ent.rawLen) → (u.cell id).map (fun c => (c.state, c.stored, c.body)) = some (.resident, [], cellBodyOf sc.records) ∧
          u.cc.stats.decodedBytes = s.cc.stats.decodedBytes + c.ent.rawLen ∧
          ((∀ b ∈ s.bands, b.render ≠ .binning) → u = { s' with cc := u.cc, fc := u.fc, bands := u.bands })) ∧
        (∀ sc n, r = .ok (sc, n) → n ≠ c.ent.rawLen → u.waits s'.now .cellRaw id ∧ u.cc.stats.badCells = s.cc.stats.badCells + 1) ∧
        (∀ f, r = .error f → u.waits s'.now f id ∧ u.cc.stats.badCells = s.cc.stats.badCells + 1)) ∧
    ((∀ b ∈ s.bands, b.pinsDropped = false) → exec (.pinRestore t) s = .next s') ∧
    (∀ b, s.bands.find? (·.pinsDropped) = some b → (∀ id ∈ s.bandCells b, ∀ c, s.cell id = some c → c.held = true) ∨ (s'.takePage true []).isSome = true →
      ∃ u, exec (.pinRestore t) s = .next u ∧ u = { s' with bands := u.bands, cc := u.cc, loom := u.loom } ∧
        (u.band b.stripe b.band).map (fun b => (b.pinned, b.pinsDropped)) = some (true, false) ∧
        u.loom.stats.restarts = s.loom.stats.restarts + (if b.render = .waitPins then 1 else 0))

/-- The block code of the DRAM (14 R431, R432): a block encoded under its own address symbol decodes clean to its data,
with any one device in error to a correction of that device, and to MISDIRECT under another block's address; one
that was written poisoned decodes to POISON. -/
def Obligations.BlockCode : Prop :=
  ∀ (block : Nat) (data : List Byte), block < 2 ^ 31 → data.length = 64 →
    let stored := encodeBlock (addrSymbol block) data
    stored.length = 10 ∧ decodeBlock block stored = .clean ∧ symbolBytes stored = data ∧
    (∀ d < 10, ∀ e : Word, e ≠ 0 →
      let got := xorSyms stored (List.replicate d 0 ++ [e])
      decodeBlock block got = .corrected d ∧ correctBlock block got d = stored) ∧
    (∀ other < 2 ^ 31, other ≠ block → decodeBlock other stored = .misdirect) ∧
    decodeBlock block (encodeBlock (addrSymbol block ^^^ poisonBit) data) = .poison

/-- REFRESH_DUE, OWED_REFRESH, MEM_TEMP_READ, REQUEST_PROMOTION, PIECE_COMPLETE, DRAM_READ, DRAM_WRITE, MERGE_FLUSH,
SCRUB_READ, JOURNAL_COMMIT, J_PROGRAM and SECTOR_ERASE_COMPLETE (14 R425 to R441, 16 R486 to R492). A refresh closes
every row, and is owed while a real-time request is queued, up to four. A piece that completes teaches its bank's
predictor, and the next one starts. A read that is clean changes only the queues; a corrected one is written back
and counted; any other raises MEM_UE. A full block write is stored encoded, and
every block outside the bytes written keeps its ten symbols, while its page is a written one. A verified record is
committed with the next sequence number, in the bytes of Table STORE-5; the third failed verification, or a timeout, abandons it with J_PROGRAM.
What a requester does about an unreadable block is the model's reading (log 36). -/
def Obligations.MemoryAndJournal : Prop :=
  ∀ (t : Nat) (s : State),
    let s' := s.atTime t
    (∀ k < s.dram.sub.length,
      let c := s.dram.sub.getD k {}
      let put := fun c : SubCh => { s' with dram := { s'.dram with sub := s'.dram.sub.set k c } }
      let closed := { c with banks := c.banks.map fun b => { b with open' := false } }
      ((∀ r ∈ c.queue, r.cls ≠ 0) → exec (.refreshDue t k) s = .next (put closed) ∧
        exec (.owedRefresh t k) s = .next (if c.owed = 0 then s' else put { closed with owed := c.owed - 1 })) ∧
      ((∃ r ∈ c.queue, r.cls = 0) → exec (.owedRefresh t k) s = .next s' ∧
        (c.owed < 4 → exec (.refreshDue t k) s = .next (put { c with owed := c.owed + 1 })) ∧
        (4 ≤ c.owed → exec (.refreshDue t k) s = .next (if s.hem.stripe = none then put closed else { put closed with
          dram := { (put closed).dram with forcedRaised := true }
          arb := { s'.arb with faultQ := s'.arb.faultQ ++ (if s.dram.forcedRaised then [] else [{ at' := s'.now, name := .refreshForced, addr := k * 2 ^ 44 % 2 ^ 48 }]) } }))) ∧
      (∀ temps : List Int, exec (.memTempRead t k temps) s = .next { put { c with hot := temps.any fun x => decide (85 < x) } with
        arb := { s'.arb with faultQ := s'.arb.faultQ ++ ((temps.zipIdx).filter fun p => decide (95 < p.1)).map fun p =>
          ({ at' := s'.now, name := .memHot, addr := (k * 2 ^ 44 + p.2 * 2 ^ 40) % 2 ^ 48 } : Raised) } }) ∧
      (∀ before r after, c.queue = before ++ r :: after → (∀ x ∈ before, x.promoted = true ∨ s'.now < x.arrived + 2 * 12800) →
        r.promoted = false → r.arrived + 2 * 12800 ≤ s'.now →
        exec (.requestPromotion t k) s = .next (put { c with queue := before ++ { r with promoted := true } :: after })) ∧
      (∀ bank row, (∀ r, c.active = some r → ¬(bankOf r.block = bank ∧ rowOf r.block = row)) → exec (.pieceComplete t k bank row) s = .next s') ∧
      (∀ bank row r, bank < c.banks.length → c.active = some r → bankOf r.block = bank → rowOf r.block = row →
        let b := c.banks.getD bank {}
        let pred := if b.lastRow = none then b.pred else if b.lastRow = some row then min 3 (b.pred + 1) else b.pred - 1
        let idle := { c with
          active := none
          banks := c.banks.set bank { pred := pred, lastRow := some row, open' := c.queue.any (fun x => bankOf x.block == bank) || decide (2 ≤ pred) } }
        exec (.pieceComplete t k bank row) s = .next (put (idle.start (Config.rowFirst k s'.now) s'.now)) ∧
        (c.queue = [] → exec (.pieceComplete t k bank row) s = .next (put idle)))) ∧
    (∀ requester < 8, ∀ w1 w2 err, ∀ block < 2 ^ 31, sparseGet 0 s.dram.mapCheck (block / 64 / 64) = 0 →
      let got := decodeBlock block (xorSyms (s.dram.symbols block) err)
      (s.dram.written (block / 64) = false → exec (.dramRead t requester w1 w2 block err 0) s = .next s' ∧ exec (.scrubRead t block err) s = .next s') ∧
      (s.dram.written (block / 64) = true → got = .clean → (∃ u, exec (.dramRead t requester w1 w2 block err 0) s = .next u ∧
        u = { s' with dram := { s'.dram with sub := u.dram.sub } }) ∧ (∃ u, exec (.scrubRead t block err) s = .next u ∧ u = { s' with dram := { s'.dram with sub := u.dram.sub } })) ∧
      ((s.dram.sub.getD (subOf block) {}).queue ≠ [] → exec (.scrubRead t block err) s = .next s') ∧
      (∀ d, s.dram.written (block / 64) = true → got = .corrected d → s.memWf = true → (∀ j ∈ s'.fc.inject, j.count = 0) → ∃ u, exec (.dramRead t requester w1 w2 block err 0) s = .next u ∧
        u = { s' with dram := u.dram, arb := u.arb } ∧ u.dram.symbols block = correctBlock block (xorSyms (s.dram.symbols block) err) d ∧
        (∀ b, b ≠ block → u.dram.symbols b = s.dram.symbols b)) ∧
      (∀ n, s.dram.written (block / 64) = true → (got = .poison ∧ n = 1 ∨ got = .misdirect ∧ n = 2 ∨ got = .uncorrectable ∧ n = 3) →
        ∃ u, exec (.dramRead t requester w1 w2 block err 0) s = .next u ∧ u.waits s'.now .memUe ((requester * 2 ^ 45 + n * 2 ^ 43 + block) % 2 ^ 48) ∧
          (requester = 7 → u = { s' with dram := { s'.dram with sub := u.dram.sub }, arb := { s'.arb with faultQ := s.arb.faultQ ++
            [{ at' := s'.now, name := .memUe, addr := (7 * 2 ^ 45 + n * 2 ^ 43 + block) % 2 ^ 48 }] } }))) ∧
    (∀ requester who addr data, requester ≤ 1 → s.memWf = true → ∃ u, exec (.dramWrite t requester who addr data []) s = .next u ∧
      u = { s' with dram := u.dram, arb := u.arb, fc := u.fc } ∧
      (∀ b, s.dram.written (b / 64) = true → (b < addr / 64 ∨ addr + data.length ≤ b * 64) → u.dram.symbols b = s.dram.symbols b ∧ u.dram.entry b = s.dram.entry b) ∧
      (addr % 64 = 0 → data.length = 64 → (∀ j ∈ s'.fc.inject, j.count = 0) → u.dram.symbols (addr / 64) = encodeBlock (addrSymbol (addr / 64)) data ∧
        u.dram.written (addr / 64 / 64) = true ∧ u.dram.entry (addr / 64) = none ∧ u.arb = s.arb)) ∧
    (∀ block err, (s.dram.entry block = none → exec (.mergeFlush t block err) s = .next s') ∧
      (∀ m, s.dram.entry block = some m → (s'.now < m.lastWrite + 12800 → exec (.mergeFlush t block err) s = .next s') ∧
        (m.lastWrite + 12800 ≤ s'.now → ∃ u, exec (.mergeFlush t block err) s = .next u ∧ u = { s' with dram := u.dram, arb := u.arb, fc := u.fc } ∧ u.dram.entry block = none ∧
          (m.bytes.length = 64 → (∀ j ∈ s'.fc.inject, j.count = 0) → s.memWf = true → u.dram.symbols block = encodeBlock (addrSymbol block) (overlay (List.replicate 64 0) m.bytes))))) ∧
    (∀ v, s.jr.queue = [] → exec (.journalCommit t v) s = .next s' ∧ exec (.jProgram t) s = .next s') ∧
    (∀ w rest, s.jr.queue = w :: rest →
      let gone := fun u : State => u = { s' with jr := u.jr, mb := u.mb, arb := u.arb } ∧ u.jr.queue = rest ∧ u.jr.jseq = s.jr.jseq ∧ u.jr.errors = s.jr.errors + 1 ∧
        ∃ a, u.arb.faultQ = s.arb.faultQ ++ [{ at' := s'.now, name := .jProgram, addr := a }]
      (∃ u, exec (.jProgram t) s = .next u ∧ gone u) ∧
      (2 ≤ w.fails → ∃ u, exec (.journalCommit t false) s = .next u ∧ gone u) ∧
      (w.fails < 2 → exec (.journalCommit t false) s = .next { s' with jr := { s'.jr with queue := { w with fails := w.fails + 1 } :: rest } }) ∧
      (∃ u, exec (.journalCommit t true) s = .next u ∧ u = { s' with jr := u.jr, mb := u.mb, arb := u.arb } ∧ u.jr.jseq = s.jr.jseq + 1 ∧ u.jr.queue = rest ∧
        let b := s.jr.activeBasin
        (s.jr.active < s.jr.basins.length → s.jr.needCompact = false → b.append + recLength w.body.length + 16 * 2 ^ 20 ≤ basinSize →
          (u.jr.basin s.jr.active).records = b.records ++ [{ offset := b.append, raw := recordBytes w.type w.key (s.jr.jseq + 1) w.body true }]))) ∧
    (s.jr.powerFail = true ∨ s.jr.eraseLeft = 0 → exec (.sectorEraseComplete t) s = .next s') ∧
    (s.jr.powerFail = false → s.jr.eraseLeft ≠ 0 → ∃ u, exec (.sectorEraseComplete t) s = .next u ∧ u = { s' with jr := u.jr, arb := u.arb } ∧
      (1 < s.jr.eraseLeft → u = { s' with jr := { s'.jr with eraseLeft := s.jr.eraseLeft - 1 } }))
end

