-- ==== Sys2Proof/Laws/Fold.lean ====
section
/-! SUPPORT. A fold or a conditional leaves a part of the state as it was when each of its steps does. -/

namespace Sys2Proof.Machine
open Sys2Proof

/-- A fold whose steps keep what `π` sees keeps it. -/
theorem foldl_keep {β γ : Type} (π : State → γ) (f : State → β → State) (l : List β) (s : State) (h : ∀ s x, π (f s x) = π s) :
    π (l.foldl f s) = π s := by
  induction l generalizing s with
  | nil => rfl
  | cons x l ih => rw [List.foldl_cons, ih, h]

/-- The same for a fold that carries a value beside the state. -/
theorem foldl_keep₂ {α β γ : Type} (π : State → γ) (f : α × State → β → α × State) (l : List β) (s : α × State) (h : ∀ s x, π (f s x).2 = π s.2) :
    π (l.foldl f s).2 = π s.2 := by
  induction l generalizing s with
  | nil => rfl
  | cons x l ih => rw [List.foldl_cons, ih, h]
@[simp] theorem foldl_now {β : Type} (f : State → β → State) (l : List β) (s : State) (h : ∀ s x, (f s x).now = s.now) :
    (l.foldl f s).now = s.now := foldl_keep State.now f l s h
@[simp] theorem foldl_now₂ {α β : Type} (f : α × State → β → α × State) (l : List β) (s : α × State) (h : ∀ s x, (f s x).2.now = s.2.now) :
    (l.foldl f s).2.now = s.2.now := foldl_keep₂ State.now f l s h
@[simp] theorem ite_now (c : Prop) [Decidable c] (a b : State) : (if c then a else b).now = if c then a.now else b.now := by split <;> rfl
@[simp] theorem foldl_eng {β : Type} (f : State → β → State) (l : List β) (s : State) (h : ∀ s x, (f s x).eng = s.eng) :
    (l.foldl f s).eng = s.eng := foldl_keep State.eng f l s h
@[simp] theorem foldl_eng₂ {α β : Type} (f : α × State → β → α × State) (l : List β) (s : α × State) (h : ∀ s x, (f s x).2.eng = s.2.eng) :
    (l.foldl f s).2.eng = s.2.eng := foldl_keep₂ State.eng f l s h
@[simp] theorem ite_eng (c : Prop) [Decidable c] (a b : State) : (if c then a else b).eng = if c then a.eng else b.eng := by split <;> rfl
@[simp] theorem foldl_slack {β : Type} (f : State → β → State) (l : List β) (s : State) (h : ∀ s x, (f s x).slack = s.slack) :
    (l.foldl f s).slack = s.slack := foldl_keep State.slack f l s h
@[simp] theorem foldl_slack₂ {α β : Type} (f : α × State → β → α × State) (l : List β) (s : α × State) (h : ∀ s x, (f s x).2.slack = s.2.slack) :
    (l.foldl f s).2.slack = s.2.slack := foldl_keep₂ State.slack f l s h
@[simp] theorem ite_slack (c : Prop) [Decidable c] (a b : State) : (if c then a else b).slack = if c then a.slack else b.slack := by split <;> rfl
@[simp] theorem foldl_arb {β : Type} (f : State → β → State) (l : List β) (s : State) (h : ∀ s x, (f s x).arb = s.arb) :
    (l.foldl f s).arb = s.arb := foldl_keep State.arb f l s h
@[simp] theorem foldl_arb₂ {α β : Type} (f : α × State → β → α × State) (l : List β) (s : α × State) (h : ∀ s x, (f s x).2.arb = s.2.arb) :
    (l.foldl f s).2.arb = s.2.arb := foldl_keep₂ State.arb f l s h
@[simp] theorem ite_arb (c : Prop) [Decidable c] (a b : State) : (if c then a else b).arb = if c then a.arb else b.arb := by split <;> rfl
@[simp] theorem foldl_out {β : Type} (f : State → β → State) (l : List β) (s : State) (h : ∀ s x, (f s x).out = s.out) :
    (l.foldl f s).out = s.out := foldl_keep State.out f l s h
@[simp] theorem foldl_out₂ {α β : Type} (f : α × State → β → α × State) (l : List β) (s : α × State) (h : ∀ s x, (f s x).2.out = s.2.out) :
    (l.foldl f s).2.out = s.2.out := foldl_keep₂ State.out f l s h
@[simp] theorem ite_out (c : Prop) [Decidable c] (a b : State) : (if c then a else b).out = if c then a.out else b.out := by split <;> rfl
@[simp] theorem foldl_fc {β : Type} (f : State → β → State) (l : List β) (s : State) (h : ∀ s x, (f s x).fc = s.fc) :
    (l.foldl f s).fc = s.fc := foldl_keep State.fc f l s h
@[simp] theorem foldl_fc₂ {α β : Type} (f : α × State → β → α × State) (l : List β) (s : α × State) (h : ∀ s x, (f s x).2.fc = s.2.fc) :
    (l.foldl f s).2.fc = s.2.fc := foldl_keep₂ State.fc f l s h
@[simp] theorem ite_fc (c : Prop) [Decidable c] (a b : State) : (if c then a else b).fc = if c then a.fc else b.fc := by split <;> rfl
@[simp] theorem foldl_dike {β : Type} (f : State → β → State) (l : List β) (s : State) (h : ∀ s x, (f s x).dike = s.dike) :
    (l.foldl f s).dike = s.dike := foldl_keep State.dike f l s h
@[simp] theorem foldl_dike₂ {α β : Type} (f : α × State → β → α × State) (l : List β) (s : α × State) (h : ∀ s x, (f s x).2.dike = s.2.dike) :
    (l.foldl f s).2.dike = s.2.dike := foldl_keep₂ State.dike f l s h
@[simp] theorem ite_dike (c : Prop) [Decidable c] (a b : State) : (if c then a else b).dike = if c then a.dike else b.dike := by split <;> rfl
@[simp] theorem foldl_tu {β : Type} (f : State → β → State) (l : List β) (s : State) (h : ∀ s x, (f s x).tu = s.tu) :
    (l.foldl f s).tu = s.tu := foldl_keep State.tu f l s h
@[simp] theorem foldl_tu₂ {α β : Type} (f : α × State → β → α × State) (l : List β) (s : α × State) (h : ∀ s x, (f s x).2.tu = s.2.tu) :
    (l.foldl f s).2.tu = s.2.tu := foldl_keep₂ State.tu f l s h
@[simp] theorem ite_tu (c : Prop) [Decidable c] (a b : State) : (if c then a else b).tu = if c then a.tu else b.tu := by split <;> rfl
@[simp] theorem foldl_twin {β : Type} (f : State → β → State) (l : List β) (s : State) (h : ∀ s x, (f s x).twin = s.twin) :
    (l.foldl f s).twin = s.twin := foldl_keep State.twin f l s h
@[simp] theorem foldl_twin₂ {α β : Type} (f : α × State → β → α × State) (l : List β) (s : α × State) (h : ∀ s x, (f s x).2.twin = s.2.twin) :
    (l.foldl f s).2.twin = s.2.twin := foldl_keep₂ State.twin f l s h
@[simp] theorem ite_twin (c : Prop) [Decidable c] (a b : State) : (if c then a else b).twin = if c then a.twin else b.twin := by split <;> rfl
@[simp] theorem foldl_ring {β : Type} (f : State → β → State) (l : List β) (s : State) (h : ∀ s x, (f s x).ring = s.ring) :
    (l.foldl f s).ring = s.ring := foldl_keep State.ring f l s h
@[simp] theorem foldl_ring₂ {α β : Type} (f : α × State → β → α × State) (l : List β) (s : α × State) (h : ∀ s x, (f s x).2.ring = s.2.ring) :
    (l.foldl f s).2.ring = s.2.ring := foldl_keep₂ State.ring f l s h
@[simp] theorem ite_ring (c : Prop) [Decidable c] (a b : State) : (if c then a else b).ring = if c then a.ring else b.ring := by split <;> rfl
@[simp] theorem foldl_mb {β : Type} (f : State → β → State) (l : List β) (s : State) (h : ∀ s x, (f s x).mb = s.mb) :
    (l.foldl f s).mb = s.mb := foldl_keep State.mb f l s h
@[simp] theorem foldl_mb₂ {α β : Type} (f : α × State → β → α × State) (l : List β) (s : α × State) (h : ∀ s x, (f s x).2.mb = s.2.mb) :
    (l.foldl f s).2.mb = s.2.mb := foldl_keep₂ State.mb f l s h
@[simp] theorem ite_mb (c : Prop) [Decidable c] (a b : State) : (if c then a else b).mb = if c then a.mb else b.mb := by split <;> rfl
@[simp] theorem foldl_cp {β : Type} (f : State → β → State) (l : List β) (s : State) (h : ∀ s x, (f s x).cp = s.cp) :
    (l.foldl f s).cp = s.cp := foldl_keep State.cp f l s h
@[simp] theorem foldl_cp₂ {α β : Type} (f : α × State → β → α × State) (l : List β) (s : α × State) (h : ∀ s x, (f s x).2.cp = s.2.cp) :
    (l.foldl f s).2.cp = s.2.cp := foldl_keep₂ State.cp f l s h
@[simp] theorem ite_cp (c : Prop) [Decidable c] (a b : State) : (if c then a else b).cp = if c then a.cp else b.cp := by split <;> rfl
@[simp] theorem foldl_sl {β : Type} (f : State → β → State) (l : List β) (s : State) (h : ∀ s x, (f s x).sl = s.sl) :
    (l.foldl f s).sl = s.sl := foldl_keep State.sl f l s h
@[simp] theorem foldl_sl₂ {α β : Type} (f : α × State → β → α × State) (l : List β) (s : α × State) (h : ∀ s x, (f s x).2.sl = s.2.sl) :
    (l.foldl f s).2.sl = s.2.sl := foldl_keep₂ State.sl f l s h
@[simp] theorem ite_sl (c : Prop) [Decidable c] (a b : State) : (if c then a else b).sl = if c then a.sl else b.sl := by split <;> rfl
@[simp] theorem foldl_dram {β : Type} (f : State → β → State) (l : List β) (s : State) (h : ∀ s x, (f s x).dram = s.dram) :
    (l.foldl f s).dram = s.dram := foldl_keep State.dram f l s h
@[simp] theorem foldl_dram₂ {α β : Type} (f : α × State → β → α × State) (l : List β) (s : α × State) (h : ∀ s x, (f s x).2.dram = s.2.dram) :
    (l.foldl f s).2.dram = s.2.dram := foldl_keep₂ State.dram f l s h
@[simp] theorem ite_dram (c : Prop) [Decidable c] (a b : State) : (if c then a else b).dram = if c then a.dram else b.dram := by split <;> rfl
@[simp] theorem foldl_cal {β : Type} (f : State → β → State) (l : List β) (s : State) (h : ∀ s x, (f s x).cal = s.cal) :
    (l.foldl f s).cal = s.cal := foldl_keep State.cal f l s h
@[simp] theorem foldl_cal₂ {α β : Type} (f : α × State → β → α × State) (l : List β) (s : α × State) (h : ∀ s x, (f s x).2.cal = s.2.cal) :
    (l.foldl f s).2.cal = s.2.cal := foldl_keep₂ State.cal f l s h
@[simp] theorem ite_cal (c : Prop) [Decidable c] (a b : State) : (if c then a else b).cal = if c then a.cal else b.cal := by split <;> rfl
@[simp] theorem foldl_jr {β : Type} (f : State → β → State) (l : List β) (s : State) (h : ∀ s x, (f s x).jr = s.jr) :
    (l.foldl f s).jr = s.jr := foldl_keep State.jr f l s h
@[simp] theorem foldl_jr₂ {α β : Type} (f : α × State → β → α × State) (l : List β) (s : α × State) (h : ∀ s x, (f s x).2.jr = s.2.jr) :
    (l.foldl f s).2.jr = s.2.jr := foldl_keep₂ State.jr f l s h
@[simp] theorem ite_jr (c : Prop) [Decidable c] (a b : State) : (if c then a else b).jr = if c then a.jr else b.jr := by split <;> rfl
@[simp] theorem foldl_feed {β : Type} (f : State → β → State) (l : List β) (s : State) (h : ∀ s x, (f s x).feed = s.feed) :
    (l.foldl f s).feed = s.feed := foldl_keep State.feed f l s h
@[simp] theorem foldl_feed₂ {α β : Type} (f : α × State → β → α × State) (l : List β) (s : α × State) (h : ∀ s x, (f s x).2.feed = s.2.feed) :
    (l.foldl f s).2.feed = s.2.feed := foldl_keep₂ State.feed f l s h
@[simp] theorem ite_feed (c : Prop) [Decidable c] (a b : State) : (if c then a else b).feed = if c then a.feed else b.feed := by split <;> rfl
@[simp] theorem foldl_br {β : Type} (f : State → β → State) (l : List β) (s : State) (h : ∀ s x, (f s x).br = s.br) :
    (l.foldl f s).br = s.br := foldl_keep State.br f l s h
@[simp] theorem foldl_br₂ {α β : Type} (f : α × State → β → α × State) (l : List β) (s : α × State) (h : ∀ s x, (f s x).2.br = s.2.br) :
    (l.foldl f s).2.br = s.2.br := foldl_keep₂ State.br f l s h
@[simp] theorem ite_br (c : Prop) [Decidable c] (a b : State) : (if c then a else b).br = if c then a.br else b.br := by split <;> rfl
@[simp] theorem foldl_hem {β : Type} (f : State → β → State) (l : List β) (s : State) (h : ∀ s x, (f s x).hem = s.hem) :
    (l.foldl f s).hem = s.hem := foldl_keep State.hem f l s h
@[simp] theorem foldl_hem₂ {α β : Type} (f : α × State → β → α × State) (l : List β) (s : α × State) (h : ∀ s x, (f s x).2.hem = s.2.hem) :
    (l.foldl f s).2.hem = s.2.hem := foldl_keep₂ State.hem f l s h
@[simp] theorem ite_hem (c : Prop) [Decidable c] (a b : State) : (if c then a else b).hem = if c then a.hem else b.hem := by split <;> rfl
@[simp] theorem foldl_job {β : Type} (f : State → β → State) (l : List β) (s : State) (h : ∀ s x, (f s x).job = s.job) :
    (l.foldl f s).job = s.job := foldl_keep State.job f l s h
@[simp] theorem foldl_job₂ {α β : Type} (f : α × State → β → α × State) (l : List β) (s : α × State) (h : ∀ s x, (f s x).2.job = s.2.job) :
    (l.foldl f s).2.job = s.2.job := foldl_keep₂ State.job f l s h
@[simp] theorem ite_job (c : Prop) [Decidable c] (a b : State) : (if c then a else b).job = if c then a.job else b.job := by split <;> rfl
@[simp] theorem foldl_bands {β : Type} (f : State → β → State) (l : List β) (s : State) (h : ∀ s x, (f s x).bands = s.bands) :
    (l.foldl f s).bands = s.bands := foldl_keep State.bands f l s h
@[simp] theorem foldl_bands₂ {α β : Type} (f : α × State → β → α × State) (l : List β) (s : α × State) (h : ∀ s x, (f s x).2.bands = s.2.bands) :
    (l.foldl f s).2.bands = s.2.bands := foldl_keep₂ State.bands f l s h
@[simp] theorem ite_bands (c : Prop) [Decidable c] (a b : State) : (if c then a else b).bands = if c then a.bands else b.bands := by split <;> rfl
@[simp] theorem foldl_cc {β : Type} (f : State → β → State) (l : List β) (s : State) (h : ∀ s x, (f s x).cc = s.cc) :
    (l.foldl f s).cc = s.cc := foldl_keep State.cc f l s h
@[simp] theorem foldl_cc₂ {α β : Type} (f : α × State → β → α × State) (l : List β) (s : α × State) (h : ∀ s x, (f s x).2.cc = s.2.cc) :
    (l.foldl f s).2.cc = s.2.cc := foldl_keep₂ State.cc f l s h
@[simp] theorem ite_cc (c : Prop) [Decidable c] (a b : State) : (if c then a else b).cc = if c then a.cc else b.cc := by split <;> rfl
@[simp] theorem foldl_loom {β : Type} (f : State → β → State) (l : List β) (s : State) (h : ∀ s x, (f s x).loom = s.loom) :
    (l.foldl f s).loom = s.loom := foldl_keep State.loom f l s h
@[simp] theorem foldl_loom₂ {α β : Type} (f : α × State → β → α × State) (l : List β) (s : α × State) (h : ∀ s x, (f s x).2.loom = s.2.loom) :
    (l.foldl f s).2.loom = s.2.loom := foldl_keep₂ State.loom f l s h
@[simp] theorem ite_loom (c : Prop) [Decidable c] (a b : State) : (if c then a else b).loom = if c then a.loom else b.loom := by split <;> rfl
@[simp] theorem foldl_pol {β : Type} (f : State → β → State) (l : List β) (s : State) (h : ∀ s x, (f s x).pol = s.pol) :
    (l.foldl f s).pol = s.pol := foldl_keep State.pol f l s h
@[simp] theorem foldl_pol₂ {α β : Type} (f : α × State → β → α × State) (l : List β) (s : α × State) (h : ∀ s x, (f s x).2.pol = s.2.pol) :
    (l.foldl f s).2.pol = s.2.pol := foldl_keep₂ State.pol f l s h
@[simp] theorem ite_pol (c : Prop) [Decidable c] (a b : State) : (if c then a else b).pol = if c then a.pol else b.pol := by split <;> rfl
@[simp] theorem foldl_sh {β : Type} (f : State → β → State) (l : List β) (s : State) (h : ∀ s x, (f s x).sh = s.sh) :
    (l.foldl f s).sh = s.sh := foldl_keep State.sh f l s h
@[simp] theorem foldl_sh₂ {α β : Type} (f : α × State → β → α × State) (l : List β) (s : α × State) (h : ∀ s x, (f s x).2.sh = s.2.sh) :
    (l.foldl f s).2.sh = s.2.sh := foldl_keep₂ State.sh f l s h
@[simp] theorem ite_sh (c : Prop) [Decidable c] (a b : State) : (if c then a else b).sh = if c then a.sh else b.sh := by split <;> rfl
@[simp] theorem foldl_cf {β : Type} (f : State → β → State) (l : List β) (s : State) (h : ∀ s x, (f s x).cf = s.cf) :
    (l.foldl f s).cf = s.cf := foldl_keep State.cf f l s h
@[simp] theorem foldl_cf₂ {α β : Type} (f : α × State → β → α × State) (l : List β) (s : α × State) (h : ∀ s x, (f s x).2.cf = s.2.cf) :
    (l.foldl f s).2.cf = s.2.cf := foldl_keep₂ State.cf f l s h
@[simp] theorem ite_cf (c : Prop) [Decidable c] (a b : State) : (if c then a else b).cf = if c then a.cf else b.cf := by split <;> rfl
@[simp] theorem foldl_pending {β : Type} (f : State → β → State) (l : List β) (s : State) (h : ∀ s x, (f s x).pending = s.pending) :
    (l.foldl f s).pending = s.pending := foldl_keep State.pending f l s h
@[simp] theorem foldl_pending₂ {α β : Type} (f : α × State → β → α × State) (l : List β) (s : α × State) (h : ∀ s x, (f s x).2.pending = s.2.pending) :
    (l.foldl f s).2.pending = s.2.pending := foldl_keep₂ State.pending f l s h
@[simp] theorem ite_pending (c : Prop) [Decidable c] (a b : State) : (if c then a else b).pending = if c then a.pending else b.pending := by split <;> rfl
@[simp] theorem foldl_free {β : Type} (f : State → β → State) (l : List β) (s : State) (h : ∀ s x, (f s x).free = s.free) :
    (l.foldl f s).free = s.free := foldl_keep State.free f l s h
@[simp] theorem foldl_free₂ {α β : Type} (f : α × State → β → α × State) (l : List β) (s : α × State) (h : ∀ s x, (f s x).2.free = s.2.free) :
    (l.foldl f s).2.free = s.2.free := foldl_keep₂ State.free f l s h
@[simp] theorem ite_free (c : Prop) [Decidable c] (a b : State) : (if c then a else b).free = if c then a.free else b.free := by split <;> rfl
@[simp] theorem foldl_pol_sram {β : Type} (f : State → β → State) (l : List β) (s : State) (h : ∀ s x, (f s x).pol.sram = s.pol.sram) :
    (l.foldl f s).pol.sram = s.pol.sram := foldl_keep (fun s : State => s.pol.sram) f l s h
@[simp] theorem foldl_pol_sram₂ {α β : Type} (f : α × State → β → α × State) (l : List β) (s : α × State) (h : ∀ s x, (f s x).2.pol.sram = s.2.pol.sram) :
    (l.foldl f s).2.pol.sram = s.2.pol.sram := foldl_keep₂ (fun s : State => s.pol.sram) f l s h
@[simp] theorem ite_pol_sram (c : Prop) [Decidable c] (a b : State) : (if c then a else b).pol.sram = if c then a.pol.sram else b.pol.sram := by split <;> rfl
@[simp] theorem foldl_dram_wf {β : Type} (f : State → β → State) (l : List β) (s : State) (h : ∀ s x, (f s x).dram.wf = s.dram.wf) :
    (l.foldl f s).dram.wf = s.dram.wf := foldl_keep (fun s : State => s.dram.wf) f l s h
@[simp] theorem foldl_dram_wf₂ {α β : Type} (f : α × State → β → α × State) (l : List β) (s : α × State) (h : ∀ s x, (f s x).2.dram.wf = s.2.dram.wf) :
    (l.foldl f s).2.dram.wf = s.2.dram.wf := foldl_keep₂ (fun s : State => s.dram.wf) f l s h
@[simp] theorem ite_dram_wf (c : Prop) [Decidable c] (a b : State) : (if c then a else b).dram.wf = if c then a.dram.wf else b.dram.wf := by split <;> rfl
end Sys2Proof.Machine
end

