-- ==== Sys2Proof/Laws/FrameControl.lean ====
section
/-! SUPPORT. What each operation of the operations every block shares, the DRAM controller, the journal store and the mailboxes leaves unchanged, field by field of the
state: the whole of what it can change is what its lemma does not name. -/

namespace Sys2Proof.Machine
open Sys2Proof

/-! ## Ops.lean -/

@[simp] theorem State.transmit_frame (s : State) :
    let u := State.transmit s
    u.now = s.now ∧ u.eng = s.eng ∧ u.slack = s.slack ∧ u.arb = s.arb ∧ u.dike = s.dike ∧ u.tu = s.tu ∧ u.ring = s.ring ∧ u.mb = s.mb ∧
    u.cp = s.cp ∧ u.sl = s.sl ∧ u.dram = s.dram ∧ u.cal = s.cal ∧ u.jr = s.jr ∧ u.feed = s.feed ∧ u.br = s.br ∧ u.hem = s.hem ∧
    u.job = s.job ∧ u.bands = s.bands ∧ u.cc = s.cc ∧ u.loom = s.loom ∧ u.pol = s.pol ∧ u.sh = s.sh ∧ u.cf = s.cf ∧ u.pending = s.pending ∧
    u.free = s.free := by
  simp [State.transmit]

@[simp] theorem State.atTime_frame (t : ℕ) (s : State) :
    let u := State.atTime t s
    u.eng = s.eng ∧ u.slack = s.slack ∧ u.arb = s.arb ∧ u.dike = s.dike ∧ u.ring = s.ring ∧ u.mb = s.mb ∧ u.cp = s.cp ∧ u.sl = s.sl ∧
    u.dram = s.dram ∧ u.cal = s.cal ∧ u.jr = s.jr ∧ u.feed = s.feed ∧ u.br = s.br ∧ u.hem = s.hem ∧ u.job = s.job ∧ u.bands = s.bands ∧
    u.cc = s.cc ∧ u.loom = s.loom ∧ u.pol = s.pol ∧ u.sh = s.sh ∧ u.cf = s.cf ∧ u.pending = s.pending ∧ u.free = s.free := by
  simp [State.atTime]

@[simp] theorem State.event_frame (e : EventName) (s : State) :
    let u := State.event e s
    u.now = s.now ∧ u.eng = s.eng ∧ u.slack = s.slack ∧ u.out = s.out ∧ u.fc = s.fc ∧ u.dike = s.dike ∧ u.tu = s.tu ∧ u.twin = s.twin ∧
    u.ring = s.ring ∧ u.mb = s.mb ∧ u.cp = s.cp ∧ u.sl = s.sl ∧ u.dram = s.dram ∧ u.cal = s.cal ∧ u.jr = s.jr ∧ u.feed = s.feed ∧
    u.br = s.br ∧ u.hem = s.hem ∧ u.job = s.job ∧ u.bands = s.bands ∧ u.cc = s.cc ∧ u.loom = s.loom ∧ u.pol = s.pol ∧ u.sh = s.sh ∧
    u.cf = s.cf ∧ u.pending = s.pending ∧ u.free = s.free := by
  simp [State.event]

@[simp] theorem State.faultEvent_frame (r : Raised) (s : State) :
    let u := State.faultEvent r s
    u.now = s.now ∧ u.eng = s.eng ∧ u.slack = s.slack ∧ u.out = s.out ∧ u.fc = s.fc ∧ u.dike = s.dike ∧ u.tu = s.tu ∧ u.twin = s.twin ∧
    u.ring = s.ring ∧ u.mb = s.mb ∧ u.cp = s.cp ∧ u.sl = s.sl ∧ u.dram = s.dram ∧ u.cal = s.cal ∧ u.jr = s.jr ∧ u.feed = s.feed ∧
    u.br = s.br ∧ u.hem = s.hem ∧ u.job = s.job ∧ u.bands = s.bands ∧ u.cc = s.cc ∧ u.loom = s.loom ∧ u.pol = s.pol ∧ u.sh = s.sh ∧
    u.cf = s.cf ∧ u.pending = s.pending ∧ u.free = s.free := by
  simp [State.faultEvent]

@[simp] theorem State.raise_frame (f : FaultName) (addr : ℕ) (s : State) :
    let u := State.raise f addr s
    u.now = s.now ∧ u.eng = s.eng ∧ u.slack = s.slack ∧ u.out = s.out ∧ u.fc = s.fc ∧ u.dike = s.dike ∧ u.tu = s.tu ∧ u.twin = s.twin ∧
    u.ring = s.ring ∧ u.mb = s.mb ∧ u.cp = s.cp ∧ u.sl = s.sl ∧ u.dram = s.dram ∧ u.cal = s.cal ∧ u.jr = s.jr ∧ u.feed = s.feed ∧
    u.br = s.br ∧ u.hem = s.hem ∧ u.job = s.job ∧ u.bands = s.bands ∧ u.cc = s.cc ∧ u.loom = s.loom ∧ u.pol = s.pol ∧ u.sh = s.sh ∧
    u.cf = s.cf ∧ u.pending = s.pending ∧ u.free = s.free := by
  simp [State.raise]

@[simp] theorem State.raiseUnless_frame (done : Bool) (f : FaultName) (addr : ℕ) (s : State) :
    let u := State.raiseUnless done f addr s
    u.now = s.now ∧ u.eng = s.eng ∧ u.slack = s.slack ∧ u.out = s.out ∧ u.fc = s.fc ∧ u.dike = s.dike ∧ u.tu = s.tu ∧ u.twin = s.twin ∧
    u.ring = s.ring ∧ u.mb = s.mb ∧ u.cp = s.cp ∧ u.sl = s.sl ∧ u.dram = s.dram ∧ u.cal = s.cal ∧ u.jr = s.jr ∧ u.feed = s.feed ∧
    u.br = s.br ∧ u.hem = s.hem ∧ u.job = s.job ∧ u.bands = s.bands ∧ u.cc = s.cc ∧ u.loom = s.loom ∧ u.pol = s.pol ∧ u.sh = s.sh ∧
    u.cf = s.cf ∧ u.pending = s.pending ∧ u.free = s.free := by
  simp [State.raiseUnless]

@[simp] theorem State.cause_frame (c : Cause) (s : State) :
    let u := State.cause c s
    u.now = s.now ∧ u.eng = s.eng ∧ u.slack = s.slack ∧ u.out = s.out ∧ u.fc = s.fc ∧ u.dike = s.dike ∧ u.tu = s.tu ∧ u.twin = s.twin ∧
    u.ring = s.ring ∧ u.mb = s.mb ∧ u.cp = s.cp ∧ u.sl = s.sl ∧ u.dram = s.dram ∧ u.cal = s.cal ∧ u.jr = s.jr ∧ u.feed = s.feed ∧
    u.br = s.br ∧ u.hem = s.hem ∧ u.job = s.job ∧ u.bands = s.bands ∧ u.cc = s.cc ∧ u.loom = s.loom ∧ u.pol = s.pol ∧ u.sh = s.sh ∧
    u.cf = s.cf ∧ u.pending = s.pending ∧ u.free = s.free := by
  simp [State.cause]

@[simp] theorem State.send_frame (o : Out) (s : State) :
    let u := State.send o s
    u.now = s.now ∧ u.eng = s.eng ∧ u.slack = s.slack ∧ u.arb = s.arb ∧ u.fc = s.fc ∧ u.dike = s.dike ∧ u.tu = s.tu ∧ u.twin = s.twin ∧
    u.ring = s.ring ∧ u.mb = s.mb ∧ u.cp = s.cp ∧ u.sl = s.sl ∧ u.dram = s.dram ∧ u.cal = s.cal ∧ u.jr = s.jr ∧ u.feed = s.feed ∧
    u.br = s.br ∧ u.hem = s.hem ∧ u.job = s.job ∧ u.bands = s.bands ∧ u.cc = s.cc ∧ u.loom = s.loom ∧ u.pol = s.pol ∧ u.sh = s.sh ∧
    u.cf = s.cf ∧ u.pending = s.pending ∧ u.free = s.free := by
  simp [State.send]

@[simp] theorem State.vector_frame (v : ℕ) (s : State) :
    let u := State.vector v s
    u.now = s.now ∧ u.eng = s.eng ∧ u.slack = s.slack ∧ u.arb = s.arb ∧ u.fc = s.fc ∧ u.dike = s.dike ∧ u.tu = s.tu ∧ u.twin = s.twin ∧
    u.ring = s.ring ∧ u.mb = s.mb ∧ u.cp = s.cp ∧ u.dram = s.dram ∧ u.cal = s.cal ∧ u.jr = s.jr ∧ u.feed = s.feed ∧ u.br = s.br ∧
    u.hem = s.hem ∧ u.job = s.job ∧ u.bands = s.bands ∧ u.cc = s.cc ∧ u.loom = s.loom ∧ u.pol = s.pol ∧ u.sh = s.sh ∧ u.cf = s.cf ∧
    u.pending = s.pending ∧ u.free = s.free := by
  simp [State.vector]

@[simp] theorem State.enter_frame (e : EngState) (s : State) :
    let u := State.enter e s
    u.now = s.now ∧ u.slack = s.slack ∧ u.fc = s.fc ∧ u.dike = s.dike ∧ u.tu = s.tu ∧ u.twin = s.twin ∧ u.ring = s.ring ∧ u.mb = s.mb ∧
    u.cp = s.cp ∧ u.dram = s.dram ∧ u.cal = s.cal ∧ u.jr = s.jr ∧ u.feed = s.feed ∧ u.br = s.br ∧ u.hem = s.hem ∧ u.job = s.job ∧
    u.bands = s.bands ∧ u.cc = s.cc ∧ u.loom = s.loom ∧ u.pol = s.pol ∧ u.sh = s.sh ∧ u.cf = s.cf ∧ u.pending = s.pending ∧ u.free = s.free := by
  simp [State.enter]

@[simp] theorem State.setTgood_frame (b : Bool) (s : State) :
    let u := State.setTgood b s
    u.now = s.now ∧ u.slack = s.slack ∧ u.out = s.out ∧ u.fc = s.fc ∧ u.dike = s.dike ∧ u.tu = s.tu ∧ u.twin = s.twin ∧ u.ring = s.ring ∧
    u.mb = s.mb ∧ u.cp = s.cp ∧ u.sl = s.sl ∧ u.dram = s.dram ∧ u.cal = s.cal ∧ u.jr = s.jr ∧ u.feed = s.feed ∧ u.br = s.br ∧
    u.hem = s.hem ∧ u.job = s.job ∧ u.bands = s.bands ∧ u.cc = s.cc ∧ u.loom = s.loom ∧ u.pol = s.pol ∧ u.sh = s.sh ∧ u.cf = s.cf ∧
    u.pending = s.pending ∧ u.free = s.free := by
  simp [State.setTgood]

@[simp] theorem State.inject_frame (checker unit : ℕ) (s : State) :
    let u := (State.inject checker unit s).2
    u.now = s.now ∧ u.eng = s.eng ∧ u.slack = s.slack ∧ u.arb = s.arb ∧ u.out = s.out ∧ u.dike = s.dike ∧ u.tu = s.tu ∧ u.twin = s.twin ∧
    u.ring = s.ring ∧ u.mb = s.mb ∧ u.cp = s.cp ∧ u.sl = s.sl ∧ u.dram = s.dram ∧ u.cal = s.cal ∧ u.jr = s.jr ∧ u.feed = s.feed ∧
    u.br = s.br ∧ u.hem = s.hem ∧ u.job = s.job ∧ u.bands = s.bands ∧ u.cc = s.cc ∧ u.loom = s.loom ∧ u.pol = s.pol ∧ u.sh = s.sh ∧
    u.cf = s.cf ∧ u.pending = s.pending ∧ u.free = s.free := by
  simp [State.inject]

@[simp] theorem State.nextFree_frame (s : State) :
    let u := (State.nextFree s).2
    u.now = s.now ∧ u.eng = s.eng ∧ u.slack = s.slack ∧ u.arb = s.arb ∧ u.out = s.out ∧ u.fc = s.fc ∧ u.dike = s.dike ∧ u.tu = s.tu ∧
    u.twin = s.twin ∧ u.ring = s.ring ∧ u.mb = s.mb ∧ u.cp = s.cp ∧ u.sl = s.sl ∧ u.dram = s.dram ∧ u.cal = s.cal ∧ u.jr = s.jr ∧
    u.feed = s.feed ∧ u.br = s.br ∧ u.hem = s.hem ∧ u.job = s.job ∧ u.bands = s.bands ∧ u.cc = s.cc ∧ u.loom = s.loom ∧ u.pol = s.pol ∧
    u.sh = s.sh ∧ u.cf = s.cf ∧ u.pending = s.pending := by
  simp [State.nextFree]

@[simp] theorem State.sendGusset_frame (m : GMsg) (s : State) :
    let u := State.sendGusset m s
    u.now = s.now ∧ u.eng = s.eng ∧ u.slack = s.slack ∧ u.arb = s.arb ∧ u.out = s.out ∧ u.fc = s.fc ∧ u.dike = s.dike ∧ u.tu = s.tu ∧
    u.ring = s.ring ∧ u.mb = s.mb ∧ u.cp = s.cp ∧ u.sl = s.sl ∧ u.dram = s.dram ∧ u.cal = s.cal ∧ u.jr = s.jr ∧ u.feed = s.feed ∧
    u.br = s.br ∧ u.hem = s.hem ∧ u.job = s.job ∧ u.bands = s.bands ∧ u.cc = s.cc ∧ u.loom = s.loom ∧ u.pol = s.pol ∧ u.sh = s.sh ∧
    u.cf = s.cf ∧ u.pending = s.pending ∧ u.free = s.free := by
  simp [State.sendGusset]

@[simp] theorem State.sendStitch_frame (m : SMsg) (s : State) :
    let u := State.sendStitch m s
    u.now = s.now ∧ u.eng = s.eng ∧ u.slack = s.slack ∧ u.arb = s.arb ∧ u.dike = s.dike ∧ u.tu = s.tu ∧ u.twin = s.twin ∧ u.mb = s.mb ∧
    u.cp = s.cp ∧ u.sl = s.sl ∧ u.dram = s.dram ∧ u.cal = s.cal ∧ u.jr = s.jr ∧ u.feed = s.feed ∧ u.br = s.br ∧ u.hem = s.hem ∧
    u.job = s.job ∧ u.bands = s.bands ∧ u.cc = s.cc ∧ u.loom = s.loom ∧ u.pol = s.pol ∧ u.sh = s.sh ∧ u.cf = s.cf ∧ u.pending = s.pending ∧
    u.free = s.free := by
  simp [State.sendStitch]

@[simp] theorem State.toPeer_frame (m : GMsg) (s : State) :
    let u := State.toPeer m s
    u.now = s.now ∧ u.eng = s.eng ∧ u.slack = s.slack ∧ u.arb = s.arb ∧ u.out = s.out ∧ u.fc = s.fc ∧ u.dike = s.dike ∧ u.tu = s.tu ∧
    u.ring = s.ring ∧ u.mb = s.mb ∧ u.cp = s.cp ∧ u.sl = s.sl ∧ u.dram = s.dram ∧ u.cal = s.cal ∧ u.jr = s.jr ∧ u.feed = s.feed ∧
    u.br = s.br ∧ u.hem = s.hem ∧ u.job = s.job ∧ u.bands = s.bands ∧ u.cc = s.cc ∧ u.loom = s.loom ∧ u.pol = s.pol ∧ u.sh = s.sh ∧
    u.cf = s.cf ∧ u.pending = s.pending ∧ u.free = s.free := by
  simp [State.toPeer]

/-! ## Dram.lean -/

@[simp] theorem State.mapRead_frame (page upset : ℕ) (s : State) :
    let u := State.mapRead page upset s
    u.now = s.now ∧ u.eng = s.eng ∧ u.slack = s.slack ∧ u.out = s.out ∧ u.fc = s.fc ∧ u.dike = s.dike ∧ u.tu = s.tu ∧ u.twin = s.twin ∧
    u.ring = s.ring ∧ u.mb = s.mb ∧ u.cp = s.cp ∧ u.sl = s.sl ∧ u.cal = s.cal ∧ u.jr = s.jr ∧ u.feed = s.feed ∧ u.br = s.br ∧
    u.hem = s.hem ∧ u.job = s.job ∧ u.bands = s.bands ∧ u.cc = s.cc ∧ u.loom = s.loom ∧ u.pol = s.pol ∧ u.sh = s.sh ∧ u.cf = s.cf ∧
    u.pending = s.pending ∧ u.free = s.free := by
  unfold State.mapRead
  dsimp only
  split <;> simp

@[simp] theorem State.updSub_frame (sub : ℕ) (f : SubCh → SubCh) (s : State) :
    let u := State.updSub sub f s
    u.now = s.now ∧ u.eng = s.eng ∧ u.slack = s.slack ∧ u.arb = s.arb ∧ u.out = s.out ∧ u.fc = s.fc ∧ u.dike = s.dike ∧ u.tu = s.tu ∧
    u.twin = s.twin ∧ u.ring = s.ring ∧ u.mb = s.mb ∧ u.cp = s.cp ∧ u.sl = s.sl ∧ u.cal = s.cal ∧ u.jr = s.jr ∧ u.feed = s.feed ∧
    u.br = s.br ∧ u.hem = s.hem ∧ u.job = s.job ∧ u.bands = s.bands ∧ u.cc = s.cc ∧ u.loom = s.loom ∧ u.pol = s.pol ∧ u.sh = s.sh ∧
    u.cf = s.cf ∧ u.pending = s.pending ∧ u.free = s.free ∧ u.dram.wf = s.dram.wf := by
  unfold State.updSub
  try dsimp only
  (repeat' split) <;> simp [Dram.wf, Dram.blank]

@[simp] theorem State.enqueue_frame (block blocks cls : ℕ) (write : Bool) (s : State) :
    let u := State.enqueue block blocks cls write s
    u.now = s.now ∧ u.eng = s.eng ∧ u.slack = s.slack ∧ u.arb = s.arb ∧ u.out = s.out ∧ u.fc = s.fc ∧ u.dike = s.dike ∧ u.tu = s.tu ∧
    u.twin = s.twin ∧ u.ring = s.ring ∧ u.mb = s.mb ∧ u.cp = s.cp ∧ u.sl = s.sl ∧ u.cal = s.cal ∧ u.jr = s.jr ∧ u.feed = s.feed ∧
    u.br = s.br ∧ u.hem = s.hem ∧ u.job = s.job ∧ u.bands = s.bands ∧ u.cc = s.cc ∧ u.loom = s.loom ∧ u.pol = s.pol ∧ u.sh = s.sh ∧
    u.cf = s.cf ∧ u.pending = s.pending ∧ u.free = s.free ∧ u.dram.wf = s.dram.wf := by
  simp [State.enqueue]

@[simp] theorem State.enqueueAll_frame (cls : ℕ) (write : Bool) (x2 x3 x4 : ℕ) (s : State) :
    let u := State.enqueueAll cls write x2 x3 x4 s
    u.now = s.now ∧ u.eng = s.eng ∧ u.slack = s.slack ∧ u.arb = s.arb ∧ u.out = s.out ∧ u.fc = s.fc ∧ u.dike = s.dike ∧ u.tu = s.tu ∧
    u.twin = s.twin ∧ u.ring = s.ring ∧ u.mb = s.mb ∧ u.cp = s.cp ∧ u.sl = s.sl ∧ u.cal = s.cal ∧ u.jr = s.jr ∧ u.feed = s.feed ∧
    u.br = s.br ∧ u.hem = s.hem ∧ u.job = s.job ∧ u.bands = s.bands ∧ u.cc = s.cc ∧ u.loom = s.loom ∧ u.pol = s.pol ∧ u.sh = s.sh ∧
    u.cf = s.cf ∧ u.pending = s.pending ∧ u.free = s.free ∧ u.dram.wf = s.dram.wf := by
  induction x2 generalizing x3 x4 s with
  | zero => simp [State.enqueueAll]
  | succ n ih =>
    unfold State.enqueueAll
    dsimp only
    (repeat' split) <;> first
      | (simp [ih]; done)
      | (rename_i h; have h := congrArg Prod.snd h; dsimp only at h; subst h; simp [ih]; done)

@[simp] theorem State.storeBlock_frame (block : ℕ) (syms err : List Word) (s : State) :
    let u := State.storeBlock block syms err s
    u.now = s.now ∧ u.eng = s.eng ∧ u.slack = s.slack ∧ u.arb = s.arb ∧ u.out = s.out ∧ u.dike = s.dike ∧ u.tu = s.tu ∧ u.twin = s.twin ∧
    u.ring = s.ring ∧ u.mb = s.mb ∧ u.cp = s.cp ∧ u.sl = s.sl ∧ u.cal = s.cal ∧ u.jr = s.jr ∧ u.feed = s.feed ∧ u.br = s.br ∧
    u.hem = s.hem ∧ u.job = s.job ∧ u.bands = s.bands ∧ u.cc = s.cc ∧ u.loom = s.loom ∧ u.pol = s.pol ∧ u.sh = s.sh ∧ u.cf = s.cf ∧
    u.pending = s.pending ∧ u.free = s.free := by
  simp [State.storeBlock]

@[simp] theorem State.memUe_frame (requester outcome block : ℕ) (s : State) :
    let u := State.memUe requester outcome block s
    u.now = s.now ∧ u.eng = s.eng ∧ u.slack = s.slack ∧ u.out = s.out ∧ u.fc = s.fc ∧ u.dike = s.dike ∧ u.tu = s.tu ∧ u.twin = s.twin ∧
    u.ring = s.ring ∧ u.mb = s.mb ∧ u.cp = s.cp ∧ u.sl = s.sl ∧ u.dram = s.dram ∧ u.cal = s.cal ∧ u.jr = s.jr ∧ u.feed = s.feed ∧
    u.br = s.br ∧ u.hem = s.hem ∧ u.job = s.job ∧ u.bands = s.bands ∧ u.cc = s.cc ∧ u.loom = s.loom ∧ u.pol = s.pol ∧ u.sh = s.sh ∧
    u.cf = s.cf ∧ u.pending = s.pending ∧ u.free = s.free := by
  simp [State.memUe]

@[simp] theorem State.countCe_frame (sub device : ℕ) (s : State) :
    let u := State.countCe sub device s
    u.now = s.now ∧ u.eng = s.eng ∧ u.slack = s.slack ∧ u.out = s.out ∧ u.fc = s.fc ∧ u.dike = s.dike ∧ u.tu = s.tu ∧ u.twin = s.twin ∧
    u.ring = s.ring ∧ u.mb = s.mb ∧ u.cp = s.cp ∧ u.sl = s.sl ∧ u.cal = s.cal ∧ u.jr = s.jr ∧ u.feed = s.feed ∧ u.br = s.br ∧
    u.hem = s.hem ∧ u.job = s.job ∧ u.bands = s.bands ∧ u.cc = s.cc ∧ u.loom = s.loom ∧ u.pol = s.pol ∧ u.sh = s.sh ∧ u.cf = s.cf ∧
    u.pending = s.pending ∧ u.free = s.free ∧ u.dram.wf = s.dram.wf := by
  unfold State.countCe
  try dsimp only
  (repeat' split) <;> simp [Dram.wf, Dram.blank]

@[simp] theorem State.readRaw_frame (requester block : ℕ) (err : List Word) (s : State) :
    let u := (State.readRaw requester block err s).2
    u.now = s.now ∧ u.eng = s.eng ∧ u.slack = s.slack ∧ u.out = s.out ∧ u.dike = s.dike ∧ u.tu = s.tu ∧ u.twin = s.twin ∧ u.ring = s.ring ∧
    u.mb = s.mb ∧ u.cp = s.cp ∧ u.sl = s.sl ∧ u.cal = s.cal ∧ u.jr = s.jr ∧ u.feed = s.feed ∧ u.br = s.br ∧ u.hem = s.hem ∧ u.job = s.job ∧
    u.bands = s.bands ∧ u.cc = s.cc ∧ u.loom = s.loom ∧ u.pol = s.pol ∧ u.sh = s.sh ∧ u.cf = s.cf ∧ u.pending = s.pending ∧ u.free = s.free := by
  unfold State.readRaw
  dsimp only
  (repeat' split) <;> simp

@[simp] theorem State.readBlock_frame (requester block : ℕ) (err : List Word) (mapUpset : ℕ) (s : State) :
    let u := (State.readBlock requester block err mapUpset s).2
    u.now = s.now ∧ u.eng = s.eng ∧ u.slack = s.slack ∧ u.out = s.out ∧ u.dike = s.dike ∧ u.tu = s.tu ∧ u.twin = s.twin ∧ u.ring = s.ring ∧
    u.mb = s.mb ∧ u.cp = s.cp ∧ u.sl = s.sl ∧ u.cal = s.cal ∧ u.jr = s.jr ∧ u.feed = s.feed ∧ u.br = s.br ∧ u.hem = s.hem ∧ u.job = s.job ∧
    u.bands = s.bands ∧ u.cc = s.cc ∧ u.loom = s.loom ∧ u.pol = s.pol ∧ u.sh = s.sh ∧ u.cf = s.cf ∧ u.pending = s.pending ∧ u.free = s.free := by
  simp [State.readBlock]

@[simp] theorem State.readRange_frame (requester x1 x2 x3 : ℕ) (s : State) :
    let u := (State.readRange requester x1 x2 x3 s).2
    u.now = s.now ∧ u.eng = s.eng ∧ u.slack = s.slack ∧ u.out = s.out ∧ u.dike = s.dike ∧ u.tu = s.tu ∧ u.twin = s.twin ∧ u.ring = s.ring ∧
    u.mb = s.mb ∧ u.cp = s.cp ∧ u.sl = s.sl ∧ u.cal = s.cal ∧ u.jr = s.jr ∧ u.feed = s.feed ∧ u.br = s.br ∧ u.hem = s.hem ∧ u.job = s.job ∧
    u.bands = s.bands ∧ u.cc = s.cc ∧ u.loom = s.loom ∧ u.pol = s.pol ∧ u.sh = s.sh ∧ u.cf = s.cf ∧ u.pending = s.pending ∧ u.free = s.free := by
  induction x1 generalizing x2 x3 s with
  | zero => simp [State.readRange]
  | succ n ih =>
    unfold State.readRange
    dsimp only
    split
    · simp
    · split
      next h => have h := congrArg Prod.snd h; dsimp only at h; subst h; simp
      next h =>
        have h := congrArg Prod.snd h; dsimp only at h; subst h
        split
        next h2 => have h2 := congrArg Prod.snd h2; dsimp only at h2; subst h2; simp [ih]
        next h2 => have h2 := congrArg Prod.snd h2; dsimp only at h2; subst h2; simp [ih]

@[simp] theorem State.readBytes_frame (requester addr len : ℕ) (s : State) :
    let u := (State.readBytes requester addr len s).2
    u.now = s.now ∧ u.eng = s.eng ∧ u.slack = s.slack ∧ u.out = s.out ∧ u.dike = s.dike ∧ u.tu = s.tu ∧ u.twin = s.twin ∧ u.ring = s.ring ∧
    u.mb = s.mb ∧ u.cp = s.cp ∧ u.sl = s.sl ∧ u.cal = s.cal ∧ u.jr = s.jr ∧ u.feed = s.feed ∧ u.br = s.br ∧ u.hem = s.hem ∧ u.job = s.job ∧
    u.bands = s.bands ∧ u.cc = s.cc ∧ u.loom = s.loom ∧ u.pol = s.pol ∧ u.sh = s.sh ∧ u.cf = s.cf ∧ u.pending = s.pending ∧ u.free = s.free := by
  simp [State.readBytes]

@[simp] theorem State.dropEntry_frame (block : ℕ) (s : State) :
    let u := State.dropEntry block s
    u.now = s.now ∧ u.eng = s.eng ∧ u.slack = s.slack ∧ u.arb = s.arb ∧ u.out = s.out ∧ u.fc = s.fc ∧ u.dike = s.dike ∧ u.tu = s.tu ∧
    u.twin = s.twin ∧ u.ring = s.ring ∧ u.mb = s.mb ∧ u.cp = s.cp ∧ u.sl = s.sl ∧ u.cal = s.cal ∧ u.jr = s.jr ∧ u.feed = s.feed ∧
    u.br = s.br ∧ u.hem = s.hem ∧ u.job = s.job ∧ u.bands = s.bands ∧ u.cc = s.cc ∧ u.loom = s.loom ∧ u.pol = s.pol ∧ u.sh = s.sh ∧
    u.cf = s.cf ∧ u.pending = s.pending ∧ u.free = s.free ∧ u.dram.wf = s.dram.wf := by
  simp [State.dropEntry, Dram.wf, Dram.blank]

@[simp] theorem State.flushEntry_frame (m : Merge) (err : List Word) (s : State) :
    let u := State.flushEntry m err s
    u.now = s.now ∧ u.eng = s.eng ∧ u.slack = s.slack ∧ u.out = s.out ∧ u.dike = s.dike ∧ u.tu = s.tu ∧ u.twin = s.twin ∧ u.ring = s.ring ∧
    u.mb = s.mb ∧ u.cp = s.cp ∧ u.sl = s.sl ∧ u.cal = s.cal ∧ u.jr = s.jr ∧ u.feed = s.feed ∧ u.br = s.br ∧ u.hem = s.hem ∧ u.job = s.job ∧
    u.bands = s.bands ∧ u.cc = s.cc ∧ u.loom = s.loom ∧ u.pol = s.pol ∧ u.sh = s.sh ∧ u.cf = s.cf ∧ u.pending = s.pending ∧ u.free = s.free := by
  unfold State.flushEntry
  dsimp only
  split
  · simp
  · split <;> (rename_i h; have h := congrArg Prod.snd h; dsimp only at h; subst h; simp)

@[simp] theorem State.mergeRoom_frame (s : State) :
    let u := State.mergeRoom s
    u.now = s.now ∧ u.eng = s.eng ∧ u.slack = s.slack ∧ u.out = s.out ∧ u.dike = s.dike ∧ u.tu = s.tu ∧ u.twin = s.twin ∧ u.ring = s.ring ∧
    u.mb = s.mb ∧ u.cp = s.cp ∧ u.sl = s.sl ∧ u.cal = s.cal ∧ u.jr = s.jr ∧ u.feed = s.feed ∧ u.br = s.br ∧ u.hem = s.hem ∧ u.job = s.job ∧
    u.bands = s.bands ∧ u.cc = s.cc ∧ u.loom = s.loom ∧ u.pol = s.pol ∧ u.sh = s.sh ∧ u.cf = s.cf ∧ u.pending = s.pending ∧ u.free = s.free := by
  unfold State.mergeRoom
  (repeat' split) <;> simp

@[simp] theorem State.mergeEntry_frame (who cls block : ℕ) (s : State) :
    let u := State.mergeEntry who cls block s
    u.now = s.now ∧ u.eng = s.eng ∧ u.slack = s.slack ∧ u.out = s.out ∧ u.dike = s.dike ∧ u.tu = s.tu ∧ u.twin = s.twin ∧ u.ring = s.ring ∧
    u.mb = s.mb ∧ u.cp = s.cp ∧ u.sl = s.sl ∧ u.cal = s.cal ∧ u.jr = s.jr ∧ u.feed = s.feed ∧ u.br = s.br ∧ u.hem = s.hem ∧ u.job = s.job ∧
    u.bands = s.bands ∧ u.cc = s.cc ∧ u.loom = s.loom ∧ u.pol = s.pol ∧ u.sh = s.sh ∧ u.cf = s.cf ∧ u.pending = s.pending ∧ u.free = s.free := by
  unfold State.mergeEntry
  (repeat' split) <;> simp

@[simp] theorem State.mergeBytes_frame (who cls block : ℕ) (new : List (ℕ × Byte)) (s : State) :
    let u := State.mergeBytes who cls block new s
    u.now = s.now ∧ u.eng = s.eng ∧ u.slack = s.slack ∧ u.arb = s.arb ∧ u.out = s.out ∧ u.fc = s.fc ∧ u.dike = s.dike ∧ u.tu = s.tu ∧
    u.twin = s.twin ∧ u.ring = s.ring ∧ u.mb = s.mb ∧ u.cp = s.cp ∧ u.sl = s.sl ∧ u.cal = s.cal ∧ u.jr = s.jr ∧ u.feed = s.feed ∧
    u.br = s.br ∧ u.hem = s.hem ∧ u.job = s.job ∧ u.bands = s.bands ∧ u.cc = s.cc ∧ u.loom = s.loom ∧ u.pol = s.pol ∧ u.sh = s.sh ∧
    u.cf = s.cf ∧ u.pending = s.pending ∧ u.free = s.free ∧ u.dram.wf = s.dram.wf := by
  simp [State.mergeBytes, Dram.wf, Dram.blank]

@[simp] theorem State.mergeWrite_frame (who cls block off : ℕ) (data : List Byte) (s : State) :
    let u := State.mergeWrite who cls block off data s
    u.now = s.now ∧ u.eng = s.eng ∧ u.slack = s.slack ∧ u.out = s.out ∧ u.dike = s.dike ∧ u.tu = s.tu ∧ u.twin = s.twin ∧ u.ring = s.ring ∧
    u.mb = s.mb ∧ u.cp = s.cp ∧ u.sl = s.sl ∧ u.cal = s.cal ∧ u.jr = s.jr ∧ u.feed = s.feed ∧ u.br = s.br ∧ u.hem = s.hem ∧ u.job = s.job ∧
    u.bands = s.bands ∧ u.cc = s.cc ∧ u.loom = s.loom ∧ u.pol = s.pol ∧ u.sh = s.sh ∧ u.cf = s.cf ∧ u.pending = s.pending ∧ u.free = s.free := by
  unfold State.mergeWrite
  dsimp only
  (repeat' split) <;> simp

@[simp] theorem State.modifyBlock_frame (who block off : ℕ) (data : List Byte) (err : List Word) (s : State) :
    let u := State.modifyBlock who block off data err s
    u.now = s.now ∧ u.eng = s.eng ∧ u.slack = s.slack ∧ u.out = s.out ∧ u.dike = s.dike ∧ u.tu = s.tu ∧ u.twin = s.twin ∧ u.ring = s.ring ∧
    u.mb = s.mb ∧ u.cp = s.cp ∧ u.sl = s.sl ∧ u.cal = s.cal ∧ u.jr = s.jr ∧ u.feed = s.feed ∧ u.br = s.br ∧ u.hem = s.hem ∧ u.job = s.job ∧
    u.bands = s.bands ∧ u.cc = s.cc ∧ u.loom = s.loom ∧ u.pol = s.pol ∧ u.sh = s.sh ∧ u.cf = s.cf ∧ u.pending = s.pending ∧ u.free = s.free := by
  unfold State.modifyBlock
  dsimp only
  split <;> (rename_i h; have h := congrArg Prod.snd h; dsimp only at h; subst h; simp)

@[simp] theorem State.writePart_frame (who cls block off : ℕ) (data : List Byte) (err : List Word) (s : State) :
    let u := State.writePart who cls block off data err s
    u.now = s.now ∧ u.eng = s.eng ∧ u.slack = s.slack ∧ u.out = s.out ∧ u.dike = s.dike ∧ u.tu = s.tu ∧ u.twin = s.twin ∧ u.ring = s.ring ∧
    u.mb = s.mb ∧ u.cp = s.cp ∧ u.sl = s.sl ∧ u.cal = s.cal ∧ u.jr = s.jr ∧ u.feed = s.feed ∧ u.br = s.br ∧ u.hem = s.hem ∧ u.job = s.job ∧
    u.bands = s.bands ∧ u.cc = s.cc ∧ u.loom = s.loom ∧ u.pol = s.pol ∧ u.sh = s.sh ∧ u.cf = s.cf ∧ u.pending = s.pending ∧ u.free = s.free := by
  unfold State.writePart
  (repeat' split) <;> simp

@[simp] theorem State.writeRange_frame (who cls : ℕ) (err : List Word) (x3 x4 : ℕ) (x5 : List Byte) (s : State) :
    let u := State.writeRange who cls err x3 x4 x5 s
    u.now = s.now ∧ u.eng = s.eng ∧ u.slack = s.slack ∧ u.out = s.out ∧ u.dike = s.dike ∧ u.tu = s.tu ∧ u.twin = s.twin ∧ u.ring = s.ring ∧
    u.mb = s.mb ∧ u.cp = s.cp ∧ u.sl = s.sl ∧ u.cal = s.cal ∧ u.jr = s.jr ∧ u.feed = s.feed ∧ u.br = s.br ∧ u.hem = s.hem ∧ u.job = s.job ∧
    u.bands = s.bands ∧ u.cc = s.cc ∧ u.loom = s.loom ∧ u.pol = s.pol ∧ u.sh = s.sh ∧ u.cf = s.cf ∧ u.pending = s.pending ∧ u.free = s.free := by
  induction x3 generalizing x4 x5 s with
  | zero => simp [State.writeRange]
  | succ n ih =>
    unfold State.writeRange
    dsimp only
    (repeat' split) <;> first
      | (simp [ih]; done)
      | (rename_i h; have h := congrArg Prod.snd h; dsimp only at h; subst h; simp [ih]; done)

@[simp] theorem State.writeBytes_frame (who cls addr : ℕ) (data : List Byte) (s : State) :
    let u := State.writeBytes who cls addr data s
    u.now = s.now ∧ u.eng = s.eng ∧ u.slack = s.slack ∧ u.out = s.out ∧ u.dike = s.dike ∧ u.tu = s.tu ∧ u.twin = s.twin ∧ u.ring = s.ring ∧
    u.mb = s.mb ∧ u.cp = s.cp ∧ u.sl = s.sl ∧ u.cal = s.cal ∧ u.jr = s.jr ∧ u.feed = s.feed ∧ u.br = s.br ∧ u.hem = s.hem ∧ u.job = s.job ∧
    u.bands = s.bands ∧ u.cc = s.cc ∧ u.loom = s.loom ∧ u.pol = s.pol ∧ u.sh = s.sh ∧ u.cf = s.cf ∧ u.pending = s.pending ∧ u.free = s.free := by
  simp [State.writeBytes]

@[simp] theorem State.noteForced_frame (sub : ℕ) (s : State) :
    let u := State.noteForced sub s
    u.now = s.now ∧ u.eng = s.eng ∧ u.slack = s.slack ∧ u.out = s.out ∧ u.fc = s.fc ∧ u.dike = s.dike ∧ u.tu = s.tu ∧ u.twin = s.twin ∧
    u.ring = s.ring ∧ u.mb = s.mb ∧ u.cp = s.cp ∧ u.sl = s.sl ∧ u.cal = s.cal ∧ u.jr = s.jr ∧ u.feed = s.feed ∧ u.br = s.br ∧
    u.hem = s.hem ∧ u.job = s.job ∧ u.bands = s.bands ∧ u.cc = s.cc ∧ u.loom = s.loom ∧ u.pol = s.pol ∧ u.sh = s.sh ∧ u.cf = s.cf ∧
    u.pending = s.pending ∧ u.free = s.free ∧ u.dram.wf = s.dram.wf := by
  unfold State.noteForced
  try dsimp only
  (repeat' split) <;> simp [Dram.wf, Dram.blank]

@[simp] theorem State.refreshDue_frame (sub : ℕ) (s : State) :
    let u := State.refreshDue sub s
    u.now = s.now ∧ u.eng = s.eng ∧ u.slack = s.slack ∧ u.out = s.out ∧ u.fc = s.fc ∧ u.dike = s.dike ∧ u.tu = s.tu ∧ u.twin = s.twin ∧
    u.ring = s.ring ∧ u.mb = s.mb ∧ u.cp = s.cp ∧ u.sl = s.sl ∧ u.cal = s.cal ∧ u.jr = s.jr ∧ u.feed = s.feed ∧ u.br = s.br ∧
    u.hem = s.hem ∧ u.job = s.job ∧ u.bands = s.bands ∧ u.cc = s.cc ∧ u.loom = s.loom ∧ u.pol = s.pol ∧ u.sh = s.sh ∧ u.cf = s.cf ∧
    u.pending = s.pending ∧ u.free = s.free ∧ u.dram.wf = s.dram.wf := by
  unfold State.refreshDue
  dsimp only
  (repeat' split) <;> simp

/-! ## Journal.lean -/

@[simp] theorem State.updJr_frame (f : Journal → Journal) (s : State) :
    let u := State.updJr f s
    u.now = s.now ∧ u.eng = s.eng ∧ u.slack = s.slack ∧ u.arb = s.arb ∧ u.out = s.out ∧ u.fc = s.fc ∧ u.dike = s.dike ∧ u.tu = s.tu ∧
    u.twin = s.twin ∧ u.ring = s.ring ∧ u.mb = s.mb ∧ u.cp = s.cp ∧ u.sl = s.sl ∧ u.dram = s.dram ∧ u.cal = s.cal ∧ u.feed = s.feed ∧
    u.br = s.br ∧ u.hem = s.hem ∧ u.job = s.job ∧ u.bands = s.bands ∧ u.cc = s.cc ∧ u.loom = s.loom ∧ u.pol = s.pol ∧ u.sh = s.sh ∧
    u.cf = s.cf ∧ u.pending = s.pending ∧ u.free = s.free := by
  simp [State.updJr]

@[simp] theorem State.append_frame (type key : ℕ) (body : List Byte) (mb : Option ℕ) (s : State) :
    let u := State.append type key body mb s
    u.now = s.now ∧ u.eng = s.eng ∧ u.slack = s.slack ∧ u.out = s.out ∧ u.fc = s.fc ∧ u.dike = s.dike ∧ u.tu = s.tu ∧ u.twin = s.twin ∧
    u.ring = s.ring ∧ u.mb = s.mb ∧ u.cp = s.cp ∧ u.sl = s.sl ∧ u.dram = s.dram ∧ u.cal = s.cal ∧ u.feed = s.feed ∧ u.br = s.br ∧
    u.hem = s.hem ∧ u.job = s.job ∧ u.bands = s.bands ∧ u.cc = s.cc ∧ u.loom = s.loom ∧ u.pol = s.pol ∧ u.sh = s.sh ∧ u.cf = s.cf ∧
    u.pending = s.pending ∧ u.free = s.free := by
  simp [State.append]

@[simp] theorem State.compact_frame (s : State) :
    let u := State.compact s
    u.now = s.now ∧ u.eng = s.eng ∧ u.slack = s.slack ∧ u.out = s.out ∧ u.fc = s.fc ∧ u.dike = s.dike ∧ u.tu = s.tu ∧ u.twin = s.twin ∧
    u.ring = s.ring ∧ u.mb = s.mb ∧ u.cp = s.cp ∧ u.sl = s.sl ∧ u.dram = s.dram ∧ u.cal = s.cal ∧ u.feed = s.feed ∧ u.br = s.br ∧
    u.hem = s.hem ∧ u.job = s.job ∧ u.bands = s.bands ∧ u.cc = s.cc ∧ u.loom = s.loom ∧ u.pol = s.pol ∧ u.sh = s.sh ∧ u.cf = s.cf ∧
    u.pending = s.pending ∧ u.free = s.free := by
  simp only [State.compact]
  split <;> simp

@[simp] theorem State.maybeCompact_frame (s : State) :
    let u := State.maybeCompact s
    u.now = s.now ∧ u.eng = s.eng ∧ u.slack = s.slack ∧ u.out = s.out ∧ u.fc = s.fc ∧ u.dike = s.dike ∧ u.tu = s.tu ∧ u.twin = s.twin ∧
    u.ring = s.ring ∧ u.mb = s.mb ∧ u.cp = s.cp ∧ u.sl = s.sl ∧ u.dram = s.dram ∧ u.cal = s.cal ∧ u.feed = s.feed ∧ u.br = s.br ∧
    u.hem = s.hem ∧ u.job = s.job ∧ u.bands = s.bands ∧ u.cc = s.cc ∧ u.loom = s.loom ∧ u.pol = s.pol ∧ u.sh = s.sh ∧ u.cf = s.cf ∧
    u.pending = s.pending ∧ u.free = s.free := by
  simp [State.maybeCompact]

@[simp] theorem State.auditDone_frame (mb : Option ℕ) (failed : Bool) (s : State) :
    let u := State.auditDone mb failed s
    u.now = s.now ∧ u.eng = s.eng ∧ u.slack = s.slack ∧ u.arb = s.arb ∧ u.out = s.out ∧ u.fc = s.fc ∧ u.dike = s.dike ∧ u.tu = s.tu ∧
    u.twin = s.twin ∧ u.ring = s.ring ∧ u.cp = s.cp ∧ u.sl = s.sl ∧ u.dram = s.dram ∧ u.cal = s.cal ∧ u.jr = s.jr ∧ u.feed = s.feed ∧
    u.br = s.br ∧ u.hem = s.hem ∧ u.job = s.job ∧ u.bands = s.bands ∧ u.cc = s.cc ∧ u.loom = s.loom ∧ u.pol = s.pol ∧ u.sh = s.sh ∧
    u.cf = s.cf ∧ u.pending = s.pending ∧ u.free = s.free := by
  unfold State.auditDone
  split <;> simp

@[simp] theorem State.abandonRecord_frame (s : State) :
    let u := State.abandonRecord s
    u.now = s.now ∧ u.eng = s.eng ∧ u.slack = s.slack ∧ u.out = s.out ∧ u.fc = s.fc ∧ u.dike = s.dike ∧ u.tu = s.tu ∧ u.twin = s.twin ∧
    u.ring = s.ring ∧ u.cp = s.cp ∧ u.sl = s.sl ∧ u.dram = s.dram ∧ u.cal = s.cal ∧ u.feed = s.feed ∧ u.br = s.br ∧ u.hem = s.hem ∧
    u.job = s.job ∧ u.bands = s.bands ∧ u.cc = s.cc ∧ u.loom = s.loom ∧ u.pol = s.pol ∧ u.sh = s.sh ∧ u.cf = s.cf ∧ u.pending = s.pending ∧
    u.free = s.free := by
  unfold State.abandonRecord
  split <;> simp

@[simp] theorem State.replayJournal_frame (s : State) :
    let u := State.replayJournal s
    u.now = s.now ∧ u.eng = s.eng ∧ u.slack = s.slack ∧ u.out = s.out ∧ u.fc = s.fc ∧ u.dike = s.dike ∧ u.tu = s.tu ∧ u.twin = s.twin ∧
    u.ring = s.ring ∧ u.mb = s.mb ∧ u.cp = s.cp ∧ u.sl = s.sl ∧ u.dram = s.dram ∧ u.cal = s.cal ∧ u.feed = s.feed ∧ u.br = s.br ∧
    u.hem = s.hem ∧ u.job = s.job ∧ u.bands = s.bands ∧ u.cc = s.cc ∧ u.loom = s.loom ∧ u.pol = s.pol ∧ u.sh = s.sh ∧ u.cf = s.cf ∧
    u.pending = s.pending ∧ u.free = s.free := by
  simp [State.replayJournal]

/-! ## Mailbox.lean -/

@[simp] theorem State.updMb_frame (n : ℕ) (f : Mailbox → Mailbox) (s : State) :
    let u := State.updMb n f s
    u.now = s.now ∧ u.eng = s.eng ∧ u.slack = s.slack ∧ u.arb = s.arb ∧ u.out = s.out ∧ u.fc = s.fc ∧ u.dike = s.dike ∧ u.tu = s.tu ∧
    u.twin = s.twin ∧ u.ring = s.ring ∧ u.cp = s.cp ∧ u.sl = s.sl ∧ u.dram = s.dram ∧ u.cal = s.cal ∧ u.jr = s.jr ∧ u.feed = s.feed ∧
    u.br = s.br ∧ u.hem = s.hem ∧ u.job = s.job ∧ u.bands = s.bands ∧ u.cc = s.cc ∧ u.loom = s.loom ∧ u.pol = s.pol ∧ u.sh = s.sh ∧
    u.cf = s.cf ∧ u.pending = s.pending ∧ u.free = s.free := by
  simp [State.updMb]

@[simp] theorem State.updCp_frame (f : Cp → Cp) (s : State) :
    let u := State.updCp f s
    u.now = s.now ∧ u.eng = s.eng ∧ u.slack = s.slack ∧ u.arb = s.arb ∧ u.out = s.out ∧ u.fc = s.fc ∧ u.dike = s.dike ∧ u.tu = s.tu ∧
    u.twin = s.twin ∧ u.ring = s.ring ∧ u.mb = s.mb ∧ u.sl = s.sl ∧ u.dram = s.dram ∧ u.cal = s.cal ∧ u.jr = s.jr ∧ u.feed = s.feed ∧
    u.br = s.br ∧ u.hem = s.hem ∧ u.job = s.job ∧ u.bands = s.bands ∧ u.cc = s.cc ∧ u.loom = s.loom ∧ u.pol = s.pol ∧ u.sh = s.sh ∧
    u.cf = s.cf ∧ u.pending = s.pending ∧ u.free = s.free := by
  simp [State.updCp]

@[simp] theorem State.complete_frame (r : Request) (audited : Bool) (status : ℕ) (fault : Option (FaultName × ℕ)) (body : List Byte) (s : State) :
    let u := State.complete r audited status fault body s
    u.now = s.now ∧ u.eng = s.eng ∧ u.slack = s.slack ∧ u.out = s.out ∧ u.fc = s.fc ∧ u.dike = s.dike ∧ u.tu = s.tu ∧ u.twin = s.twin ∧
    u.ring = s.ring ∧ u.sl = s.sl ∧ u.dram = s.dram ∧ u.cal = s.cal ∧ u.feed = s.feed ∧ u.br = s.br ∧ u.hem = s.hem ∧ u.job = s.job ∧
    u.bands = s.bands ∧ u.cc = s.cc ∧ u.loom = s.loom ∧ u.pol = s.pol ∧ u.sh = s.sh ∧ u.cf = s.cf ∧ u.pending = s.pending ∧ u.free = s.free := by
  unfold State.complete
  dsimp only
  split <;> simp

@[simp] theorem CmdSpec.done_frame (c : CmdSpec) (r : Request) (body : List Byte) (s : State) :
    let u := CmdSpec.done c r body s
    u.now = s.now ∧ u.eng = s.eng ∧ u.slack = s.slack ∧ u.out = s.out ∧ u.fc = s.fc ∧ u.dike = s.dike ∧ u.tu = s.tu ∧ u.twin = s.twin ∧
    u.ring = s.ring ∧ u.sl = s.sl ∧ u.dram = s.dram ∧ u.cal = s.cal ∧ u.feed = s.feed ∧ u.br = s.br ∧ u.hem = s.hem ∧ u.job = s.job ∧
    u.bands = s.bands ∧ u.cc = s.cc ∧ u.loom = s.loom ∧ u.pol = s.pol ∧ u.sh = s.sh ∧ u.cf = s.cf ∧ u.pending = s.pending ∧ u.free = s.free := by
  simp [CmdSpec.done]

@[simp] theorem CmdSpec.checkFail_frame (c : CmdSpec) (r : Request) (f : FaultName) (addr : ℕ) (s : State) :
    let u := CmdSpec.checkFail c r f addr s
    u.now = s.now ∧ u.eng = s.eng ∧ u.slack = s.slack ∧ u.out = s.out ∧ u.fc = s.fc ∧ u.dike = s.dike ∧ u.tu = s.tu ∧ u.twin = s.twin ∧
    u.ring = s.ring ∧ u.sl = s.sl ∧ u.dram = s.dram ∧ u.cal = s.cal ∧ u.feed = s.feed ∧ u.br = s.br ∧ u.hem = s.hem ∧ u.job = s.job ∧
    u.bands = s.bands ∧ u.cc = s.cc ∧ u.loom = s.loom ∧ u.pol = s.pol ∧ u.sh = s.sh ∧ u.cf = s.cf ∧ u.pending = s.pending ∧ u.free = s.free := by
  simp [CmdSpec.checkFail]

@[simp] theorem CmdSpec.refuse_frame (c : CmdSpec) (r : Request) (status : ℕ) (s : State) :
    let u := CmdSpec.refuse c r status s
    u.now = s.now ∧ u.eng = s.eng ∧ u.slack = s.slack ∧ u.out = s.out ∧ u.fc = s.fc ∧ u.dike = s.dike ∧ u.tu = s.tu ∧ u.twin = s.twin ∧
    u.ring = s.ring ∧ u.sl = s.sl ∧ u.dram = s.dram ∧ u.cal = s.cal ∧ u.feed = s.feed ∧ u.br = s.br ∧ u.hem = s.hem ∧ u.job = s.job ∧
    u.bands = s.bands ∧ u.cc = s.cc ∧ u.loom = s.loom ∧ u.pol = s.pol ∧ u.sh = s.sh ∧ u.cf = s.cf ∧ u.pending = s.pending ∧ u.free = s.free := by
  simp [CmdSpec.refuse]

@[simp] theorem State.toBackground_frame (r : Request) (s : State) :
    let u := State.toBackground r s
    u.now = s.now ∧ u.eng = s.eng ∧ u.slack = s.slack ∧ u.arb = s.arb ∧ u.out = s.out ∧ u.fc = s.fc ∧ u.dike = s.dike ∧ u.tu = s.tu ∧
    u.twin = s.twin ∧ u.ring = s.ring ∧ u.mb = s.mb ∧ u.sl = s.sl ∧ u.dram = s.dram ∧ u.cal = s.cal ∧ u.jr = s.jr ∧ u.feed = s.feed ∧
    u.br = s.br ∧ u.hem = s.hem ∧ u.job = s.job ∧ u.bands = s.bands ∧ u.cc = s.cc ∧ u.loom = s.loom ∧ u.pol = s.pol ∧ u.sh = s.sh ∧
    u.cf = s.cf ∧ u.pending = s.pending ∧ u.free = s.free := by
  simp [State.toBackground]

@[simp] theorem State.mergeCaches_frame (s : State) :
    let u := State.mergeCaches s
    u.now = s.now ∧ u.eng = s.eng ∧ u.slack = s.slack ∧ u.arb = s.arb ∧ u.out = s.out ∧ u.fc = s.fc ∧ u.dike = s.dike ∧ u.tu = s.tu ∧
    u.twin = s.twin ∧ u.ring = s.ring ∧ u.cp = s.cp ∧ u.sl = s.sl ∧ u.dram = s.dram ∧ u.cal = s.cal ∧ u.jr = s.jr ∧ u.feed = s.feed ∧
    u.br = s.br ∧ u.hem = s.hem ∧ u.job = s.job ∧ u.bands = s.bands ∧ u.cc = s.cc ∧ u.loom = s.loom ∧ u.pol = s.pol ∧ u.sh = s.sh ∧
    u.cf = s.cf ∧ u.pending = s.pending ∧ u.free = s.free := by
  unfold State.mergeCaches
  split <;> simp

@[simp] theorem State.post_frame (n : ℕ) (c : Completion) (s : State) :
    let u := State.post n c s
    u.now = s.now ∧ u.eng = s.eng ∧ u.slack = s.slack ∧ u.fc = s.fc ∧ u.dike = s.dike ∧ u.tu = s.tu ∧ u.twin = s.twin ∧ u.ring = s.ring ∧
    u.cp = s.cp ∧ u.dram = s.dram ∧ u.cal = s.cal ∧ u.jr = s.jr ∧ u.feed = s.feed ∧ u.br = s.br ∧ u.hem = s.hem ∧ u.job = s.job ∧
    u.bands = s.bands ∧ u.cc = s.cc ∧ u.loom = s.loom ∧ u.pol = s.pol ∧ u.sh = s.sh ∧ u.cf = s.cf ∧ u.pending = s.pending ∧ u.free = s.free := by
  simp [State.post]

end Sys2Proof.Machine
end

