-- ==== Sys2Proof/Laws/FrameBands.lean ====
section
/-! SUPPORT. What each operation of the cell cache, Loom, Polder and the band streams leaves unchanged, field by field of the
state: the whole of what it can change is what its lemma does not name. -/

namespace Sys2Proof.Machine
open Sys2Proof

/-! ## Cells.lean -/

@[simp] theorem State.updBand_frame (stripe band : ℕ) (f : Band → Band) (s : State) :
    let u := State.updBand stripe band f s
    u.now = s.now ∧ u.eng = s.eng ∧ u.slack = s.slack ∧ u.arb = s.arb ∧ u.out = s.out ∧ u.fc = s.fc ∧ u.dike = s.dike ∧ u.tu = s.tu ∧
    u.twin = s.twin ∧ u.ring = s.ring ∧ u.mb = s.mb ∧ u.cp = s.cp ∧ u.sl = s.sl ∧ u.dram = s.dram ∧ u.cal = s.cal ∧ u.jr = s.jr ∧
    u.feed = s.feed ∧ u.br = s.br ∧ u.hem = s.hem ∧ u.job = s.job ∧ u.cc = s.cc ∧ u.loom = s.loom ∧ u.pol = s.pol ∧ u.sh = s.sh ∧
    u.cf = s.cf ∧ u.pending = s.pending ∧ u.free = s.free := by
  simp [State.updBand]

@[simp] theorem State.ensureBand_frame (stripe band : ℕ) (s : State) :
    let u := State.ensureBand stripe band s
    u.now = s.now ∧ u.eng = s.eng ∧ u.slack = s.slack ∧ u.arb = s.arb ∧ u.out = s.out ∧ u.fc = s.fc ∧ u.dike = s.dike ∧ u.tu = s.tu ∧
    u.twin = s.twin ∧ u.ring = s.ring ∧ u.mb = s.mb ∧ u.cp = s.cp ∧ u.sl = s.sl ∧ u.dram = s.dram ∧ u.cal = s.cal ∧ u.jr = s.jr ∧
    u.feed = s.feed ∧ u.br = s.br ∧ u.hem = s.hem ∧ u.job = s.job ∧ u.cc = s.cc ∧ u.loom = s.loom ∧ u.pol = s.pol ∧ u.sh = s.sh ∧
    u.cf = s.cf ∧ u.pending = s.pending ∧ u.free = s.free := by
  simp [State.ensureBand]

@[simp] theorem State.updCc_frame (f : Cache → Cache) (s : State) :
    let u := State.updCc f s
    u.now = s.now ∧ u.eng = s.eng ∧ u.slack = s.slack ∧ u.arb = s.arb ∧ u.out = s.out ∧ u.fc = s.fc ∧ u.dike = s.dike ∧ u.tu = s.tu ∧
    u.twin = s.twin ∧ u.ring = s.ring ∧ u.mb = s.mb ∧ u.cp = s.cp ∧ u.sl = s.sl ∧ u.dram = s.dram ∧ u.cal = s.cal ∧ u.jr = s.jr ∧
    u.feed = s.feed ∧ u.br = s.br ∧ u.hem = s.hem ∧ u.job = s.job ∧ u.bands = s.bands ∧ u.loom = s.loom ∧ u.pol = s.pol ∧ u.sh = s.sh ∧
    u.cf = s.cf ∧ u.pending = s.pending ∧ u.free = s.free := by
  simp [State.updCc]

@[simp] theorem State.updCell_frame (id : ℕ) (f : Cell → Cell) (s : State) :
    let u := State.updCell id f s
    u.now = s.now ∧ u.eng = s.eng ∧ u.slack = s.slack ∧ u.arb = s.arb ∧ u.out = s.out ∧ u.fc = s.fc ∧ u.dike = s.dike ∧ u.tu = s.tu ∧
    u.twin = s.twin ∧ u.ring = s.ring ∧ u.mb = s.mb ∧ u.cp = s.cp ∧ u.sl = s.sl ∧ u.dram = s.dram ∧ u.cal = s.cal ∧ u.jr = s.jr ∧
    u.feed = s.feed ∧ u.br = s.br ∧ u.hem = s.hem ∧ u.job = s.job ∧ u.bands = s.bands ∧ u.loom = s.loom ∧ u.pol = s.pol ∧ u.sh = s.sh ∧
    u.cf = s.cf ∧ u.pending = s.pending ∧ u.free = s.free := by
  simp [State.updCell]

@[simp] theorem State.ccStats_frame (f : CacheStats → CacheStats) (s : State) :
    let u := State.ccStats f s
    u.now = s.now ∧ u.eng = s.eng ∧ u.slack = s.slack ∧ u.arb = s.arb ∧ u.out = s.out ∧ u.fc = s.fc ∧ u.dike = s.dike ∧ u.tu = s.tu ∧
    u.twin = s.twin ∧ u.ring = s.ring ∧ u.mb = s.mb ∧ u.cp = s.cp ∧ u.sl = s.sl ∧ u.dram = s.dram ∧ u.cal = s.cal ∧ u.jr = s.jr ∧
    u.feed = s.feed ∧ u.br = s.br ∧ u.hem = s.hem ∧ u.job = s.job ∧ u.bands = s.bands ∧ u.loom = s.loom ∧ u.pol = s.pol ∧ u.sh = s.sh ∧
    u.cf = s.cf ∧ u.pending = s.pending ∧ u.free = s.free := by
  simp [State.ccStats]

@[simp] theorem State.queueFetch_frame (id : ℕ) (pinned : Bool) (s : State) :
    let u := State.queueFetch id pinned s
    u.now = s.now ∧ u.eng = s.eng ∧ u.slack = s.slack ∧ u.arb = s.arb ∧ u.out = s.out ∧ u.fc = s.fc ∧ u.dike = s.dike ∧ u.tu = s.tu ∧
    u.twin = s.twin ∧ u.ring = s.ring ∧ u.mb = s.mb ∧ u.cp = s.cp ∧ u.sl = s.sl ∧ u.dram = s.dram ∧ u.cal = s.cal ∧ u.jr = s.jr ∧
    u.feed = s.feed ∧ u.br = s.br ∧ u.hem = s.hem ∧ u.job = s.job ∧ u.bands = s.bands ∧ u.loom = s.loom ∧ u.pol = s.pol ∧ u.sh = s.sh ∧
    u.cf = s.cf ∧ u.pending = s.pending ∧ u.free = s.free := by
  unfold State.queueFetch
  split <;> simp

@[simp] theorem State.demoteQueue_frame (s : State) :
    let u := State.demoteQueue s
    u.now = s.now ∧ u.eng = s.eng ∧ u.slack = s.slack ∧ u.arb = s.arb ∧ u.out = s.out ∧ u.fc = s.fc ∧ u.dike = s.dike ∧ u.tu = s.tu ∧
    u.twin = s.twin ∧ u.ring = s.ring ∧ u.mb = s.mb ∧ u.cp = s.cp ∧ u.sl = s.sl ∧ u.dram = s.dram ∧ u.cal = s.cal ∧ u.jr = s.jr ∧
    u.feed = s.feed ∧ u.br = s.br ∧ u.hem = s.hem ∧ u.job = s.job ∧ u.bands = s.bands ∧ u.loom = s.loom ∧ u.pol = s.pol ∧ u.sh = s.sh ∧
    u.cf = s.cf ∧ u.pending = s.pending ∧ u.free = s.free := by
  simp [State.demoteQueue]

@[simp] theorem State.notePins_frame (s : State) :
    let u := State.notePins s
    u.now = s.now ∧ u.eng = s.eng ∧ u.slack = s.slack ∧ u.arb = s.arb ∧ u.out = s.out ∧ u.fc = s.fc ∧ u.dike = s.dike ∧ u.tu = s.tu ∧
    u.twin = s.twin ∧ u.ring = s.ring ∧ u.mb = s.mb ∧ u.cp = s.cp ∧ u.sl = s.sl ∧ u.dram = s.dram ∧ u.cal = s.cal ∧ u.jr = s.jr ∧
    u.feed = s.feed ∧ u.br = s.br ∧ u.hem = s.hem ∧ u.job = s.job ∧ u.bands = s.bands ∧ u.loom = s.loom ∧ u.pol = s.pol ∧ u.sh = s.sh ∧
    u.cf = s.cf ∧ u.pending = s.pending ∧ u.free = s.free := by
  simp [State.notePins]

@[simp] theorem State.claimBand_frame (stripe band : ℕ) (s : State) :
    let u := State.claimBand stripe band s
    u.now = s.now ∧ u.eng = s.eng ∧ u.slack = s.slack ∧ u.arb = s.arb ∧ u.out = s.out ∧ u.fc = s.fc ∧ u.dike = s.dike ∧ u.tu = s.tu ∧
    u.twin = s.twin ∧ u.ring = s.ring ∧ u.mb = s.mb ∧ u.cp = s.cp ∧ u.sl = s.sl ∧ u.dram = s.dram ∧ u.cal = s.cal ∧ u.jr = s.jr ∧
    u.feed = s.feed ∧ u.br = s.br ∧ u.hem = s.hem ∧ u.job = s.job ∧ u.loom = s.loom ∧ u.pol = s.pol ∧ u.sh = s.sh ∧ u.cf = s.cf ∧
    u.pending = s.pending ∧ u.free = s.free := by
  unfold State.claimBand
  dsimp only
  split <;> simp

@[simp] theorem State.pinBand_frame (stripe band : ℕ) (s : State) :
    let u := State.pinBand stripe band s
    u.now = s.now ∧ u.eng = s.eng ∧ u.slack = s.slack ∧ u.arb = s.arb ∧ u.out = s.out ∧ u.fc = s.fc ∧ u.dike = s.dike ∧ u.tu = s.tu ∧
    u.twin = s.twin ∧ u.ring = s.ring ∧ u.mb = s.mb ∧ u.cp = s.cp ∧ u.sl = s.sl ∧ u.dram = s.dram ∧ u.cal = s.cal ∧ u.jr = s.jr ∧
    u.feed = s.feed ∧ u.br = s.br ∧ u.hem = s.hem ∧ u.job = s.job ∧ u.loom = s.loom ∧ u.pol = s.pol ∧ u.sh = s.sh ∧ u.cf = s.cf ∧
    u.pending = s.pending ∧ u.free = s.free := by
  unfold State.pinBand
  dsimp only
  split <;> simp

@[simp] theorem State.evict_frame (page : ℕ) (s : State) :
    let u := State.evict page s
    u.now = s.now ∧ u.eng = s.eng ∧ u.slack = s.slack ∧ u.arb = s.arb ∧ u.out = s.out ∧ u.fc = s.fc ∧ u.dike = s.dike ∧ u.tu = s.tu ∧
    u.twin = s.twin ∧ u.ring = s.ring ∧ u.mb = s.mb ∧ u.cp = s.cp ∧ u.sl = s.sl ∧ u.dram = s.dram ∧ u.cal = s.cal ∧ u.jr = s.jr ∧
    u.feed = s.feed ∧ u.br = s.br ∧ u.hem = s.hem ∧ u.job = s.job ∧ u.bands = s.bands ∧ u.loom = s.loom ∧ u.pol = s.pol ∧ u.sh = s.sh ∧
    u.cf = s.cf ∧ u.pending = s.pending ∧ u.free = s.free := by
  simp [State.evict]

theorem takePage_frame {b : Bool} {kept : List Nat} {k : Nat} {s s' : State} (h : s.takePage b kept = some (k, s')) :
    s'.now = s.now ∧ s'.eng = s.eng ∧ s'.slack = s.slack ∧ s'.arb = s.arb ∧ s'.out = s.out ∧ s'.fc = s.fc ∧ s'.dike = s.dike ∧
    s'.tu = s.tu ∧ s'.twin = s.twin ∧ s'.ring = s.ring ∧ s'.mb = s.mb ∧ s'.cp = s.cp ∧ s'.sl = s.sl ∧ s'.dram = s.dram ∧ s'.cal = s.cal ∧
    s'.jr = s.jr ∧ s'.feed = s.feed ∧ s'.br = s.br ∧ s'.hem = s.hem ∧ s'.job = s.job ∧ s'.bands = s.bands ∧ s'.loom = s.loom ∧
    s'.pol = s.pol ∧ s'.sh = s.sh ∧ s'.cf = s.cf ∧ s'.pending = s.pending ∧ s'.free = s.free := by
  unfold State.takePage at h
  dsimp only at h
  split at h
  · cases h
    simp
  · cases hv : s.victim b kept with
    | none => simp [hv] at h
    | some p =>
      simp only [hv, Option.map_some, Option.some.injEq, Prod.mk.injEq] at h
      obtain ⟨-, rfl⟩ := h
      simp

theorem takePages_frame {b : Bool} {n : Nat} {kept l : List Nat} {s s' : State} (h : State.takePages b n kept s = some (l, s')) :
    s'.now = s.now ∧ s'.eng = s.eng ∧ s'.slack = s.slack ∧ s'.arb = s.arb ∧ s'.out = s.out ∧ s'.fc = s.fc ∧ s'.dike = s.dike ∧
    s'.tu = s.tu ∧ s'.twin = s.twin ∧ s'.ring = s.ring ∧ s'.mb = s.mb ∧ s'.cp = s.cp ∧ s'.sl = s.sl ∧ s'.dram = s.dram ∧ s'.cal = s.cal ∧
    s'.jr = s.jr ∧ s'.feed = s.feed ∧ s'.br = s.br ∧ s'.hem = s.hem ∧ s'.job = s.job ∧ s'.bands = s.bands ∧ s'.loom = s.loom ∧
    s'.pol = s.pol ∧ s'.sh = s.sh ∧ s'.cf = s.cf ∧ s'.pending = s.pending ∧ s'.free = s.free := by
  induction n generalizing s kept with
  | zero => cases h; simp
  | succ n ih =>
    unfold State.takePages at h
    split at h
    · cases h
    next p s1 e => simp [ih h, takePage_frame e]

@[simp] theorem State.freePages_frame (pages : List ℕ) (s : State) :
    let u := State.freePages pages s
    u.now = s.now ∧ u.eng = s.eng ∧ u.slack = s.slack ∧ u.arb = s.arb ∧ u.out = s.out ∧ u.fc = s.fc ∧ u.dike = s.dike ∧ u.tu = s.tu ∧
    u.twin = s.twin ∧ u.ring = s.ring ∧ u.mb = s.mb ∧ u.cp = s.cp ∧ u.sl = s.sl ∧ u.dram = s.dram ∧ u.cal = s.cal ∧ u.jr = s.jr ∧
    u.feed = s.feed ∧ u.br = s.br ∧ u.hem = s.hem ∧ u.job = s.job ∧ u.bands = s.bands ∧ u.loom = s.loom ∧ u.pol = s.pol ∧ u.sh = s.sh ∧
    u.cf = s.cf ∧ u.pending = s.pending ∧ u.free = s.free := by
  simp [State.freePages]

@[simp] theorem State.polStats_frame (f : PolStats → PolStats) (s : State) :
    let u := State.polStats f s
    u.now = s.now ∧ u.eng = s.eng ∧ u.slack = s.slack ∧ u.arb = s.arb ∧ u.out = s.out ∧ u.fc = s.fc ∧ u.dike = s.dike ∧ u.tu = s.tu ∧
    u.twin = s.twin ∧ u.ring = s.ring ∧ u.mb = s.mb ∧ u.cp = s.cp ∧ u.sl = s.sl ∧ u.dram = s.dram ∧ u.cal = s.cal ∧ u.jr = s.jr ∧
    u.feed = s.feed ∧ u.br = s.br ∧ u.hem = s.hem ∧ u.job = s.job ∧ u.bands = s.bands ∧ u.cc = s.cc ∧ u.loom = s.loom ∧ u.sh = s.sh ∧
    u.cf = s.cf ∧ u.pending = s.pending ∧ u.free = s.free ∧ u.pol.sram = s.pol.sram := by
  simp [State.polStats]

@[simp] theorem State.report_frame (stripe band outcome : ℕ) (failed : Bool) (s : State) :
    let u := State.report stripe band outcome failed s
    u.now = s.now ∧ u.eng = s.eng ∧ u.slack = s.slack ∧ u.out = s.out ∧ u.fc = s.fc ∧ u.dike = s.dike ∧ u.tu = s.tu ∧ u.ring = s.ring ∧
    u.mb = s.mb ∧ u.cp = s.cp ∧ u.dram = s.dram ∧ u.cal = s.cal ∧ u.jr = s.jr ∧ u.feed = s.feed ∧ u.br = s.br ∧ u.hem = s.hem ∧
    u.job = s.job ∧ u.bands = s.bands ∧ u.cc = s.cc ∧ u.loom = s.loom ∧ u.pol = s.pol ∧ u.sh = s.sh ∧ u.cf = s.cf ∧ u.pending = s.pending ∧
    u.free = s.free := by
  unfold State.report
  split <;> simp

theorem newFill_frame {b : Bool} {n g : Nat} {l : List Nat} {s s' : State} (h : s.newFill b n = some (l, g, s')) :
    s'.now = s.now ∧ s'.eng = s.eng ∧ s'.slack = s.slack ∧ s'.arb = s.arb ∧ s'.out = s.out ∧ s'.fc = s.fc ∧ s'.dike = s.dike ∧
    s'.tu = s.tu ∧ s'.twin = s.twin ∧ s'.ring = s.ring ∧ s'.mb = s.mb ∧ s'.cp = s.cp ∧ s'.sl = s.sl ∧ s'.dram = s.dram ∧ s'.cal = s.cal ∧
    s'.jr = s.jr ∧ s'.feed = s.feed ∧ s'.br = s.br ∧ s'.hem = s.hem ∧ s'.job = s.job ∧ s'.bands = s.bands ∧ s'.loom = s.loom ∧
    s'.pol = s.pol ∧ s'.sh = s.sh ∧ s'.cf = s.cf ∧ s'.pending = s.pending ∧ s'.free = s.free := by
  unfold State.newFill at h
  cases e : s.takePage b [] with
  | none => simp [e] at h
  | some r =>
    simp only [e, Option.map_some, Option.some.injEq, Prod.mk.injEq] at h
    obtain ⟨-, -, rfl⟩ := h
    simp [takePage_frame e]

theorem allocCell_frame {b : Bool} {n g : Nat} {l : List Nat} {s s' : State} (h : s.allocCell b n = some (l, g, s')) :
    s'.now = s.now ∧ s'.eng = s.eng ∧ s'.slack = s.slack ∧ s'.arb = s.arb ∧ s'.out = s.out ∧ s'.fc = s.fc ∧ s'.dike = s.dike ∧
    s'.tu = s.tu ∧ s'.twin = s.twin ∧ s'.ring = s.ring ∧ s'.mb = s.mb ∧ s'.cp = s.cp ∧ s'.sl = s.sl ∧ s'.dram = s.dram ∧ s'.cal = s.cal ∧
    s'.jr = s.jr ∧ s'.feed = s.feed ∧ s'.br = s.br ∧ s'.hem = s.hem ∧ s'.job = s.job ∧ s'.bands = s.bands ∧ s'.loom = s.loom ∧
    s'.pol = s.pol ∧ s'.sh = s.sh ∧ s'.cf = s.cf ∧ s'.pending = s.pending ∧ s'.free = s.free := by
  unfold State.allocCell at h
  split at h
  · cases e : State.takePages b (ceilDiv n 65536) [] s with
    | none => simp [e] at h
    | some r =>
      simp only [e, Option.map_some, Option.some.injEq, Prod.mk.injEq] at h
      obtain ⟨-, -, rfl⟩ := h
      simp [takePages_frame e]
  · dsimp only at h
    split at h
    · split at h
      · cases h
        simp
      · exact newFill_frame h
    · exact newFill_frame h

@[simp] theorem State.loomStats_frame (f : LoomStats → LoomStats) (s : State) :
    let u := State.loomStats f s
    u.now = s.now ∧ u.eng = s.eng ∧ u.slack = s.slack ∧ u.arb = s.arb ∧ u.out = s.out ∧ u.fc = s.fc ∧ u.dike = s.dike ∧ u.tu = s.tu ∧
    u.twin = s.twin ∧ u.ring = s.ring ∧ u.mb = s.mb ∧ u.cp = s.cp ∧ u.sl = s.sl ∧ u.dram = s.dram ∧ u.cal = s.cal ∧ u.jr = s.jr ∧
    u.feed = s.feed ∧ u.br = s.br ∧ u.hem = s.hem ∧ u.job = s.job ∧ u.bands = s.bands ∧ u.cc = s.cc ∧ u.pol = s.pol ∧ u.sh = s.sh ∧
    u.cf = s.cf ∧ u.pending = s.pending ∧ u.free = s.free := by
  simp [State.loomStats]

@[simp] theorem State.leaveTile_frame (stripe band : ℕ) (s : State) (w : Work) :
    let u := State.leaveTile stripe band s w
    u.now = s.now ∧ u.eng = s.eng ∧ u.slack = s.slack ∧ u.arb = s.arb ∧ u.out = s.out ∧ u.fc = s.fc ∧ u.dike = s.dike ∧ u.tu = s.tu ∧
    u.twin = s.twin ∧ u.ring = s.ring ∧ u.mb = s.mb ∧ u.cp = s.cp ∧ u.sl = s.sl ∧ u.dram = s.dram ∧ u.cal = s.cal ∧ u.jr = s.jr ∧
    u.feed = s.feed ∧ u.br = s.br ∧ u.hem = s.hem ∧ u.job = s.job ∧ u.pol = s.pol ∧ u.sh = s.sh ∧ u.cf = s.cf ∧ u.pending = s.pending ∧
    u.free = s.free := by
  simp [State.leaveTile]

@[simp] theorem State.idleUnits_frame (stripe band : ℕ) (s : State) :
    let u := State.idleUnits stripe band s
    u.now = s.now ∧ u.eng = s.eng ∧ u.slack = s.slack ∧ u.arb = s.arb ∧ u.out = s.out ∧ u.fc = s.fc ∧ u.dike = s.dike ∧ u.tu = s.tu ∧
    u.twin = s.twin ∧ u.ring = s.ring ∧ u.mb = s.mb ∧ u.cp = s.cp ∧ u.sl = s.sl ∧ u.dram = s.dram ∧ u.cal = s.cal ∧ u.jr = s.jr ∧
    u.feed = s.feed ∧ u.br = s.br ∧ u.hem = s.hem ∧ u.job = s.job ∧ u.pol = s.pol ∧ u.sh = s.sh ∧ u.cf = s.cf ∧ u.pending = s.pending ∧
    u.free = s.free := by
  unfold State.idleUnits
  split <;> simp

@[simp] theorem State.endWaits_frame (id : ℕ) (s : State) :
    let u := State.endWaits id s
    u.now = s.now ∧ u.eng = s.eng ∧ u.slack = s.slack ∧ u.arb = s.arb ∧ u.out = s.out ∧ u.fc = s.fc ∧ u.dike = s.dike ∧ u.tu = s.tu ∧
    u.twin = s.twin ∧ u.ring = s.ring ∧ u.mb = s.mb ∧ u.cp = s.cp ∧ u.sl = s.sl ∧ u.dram = s.dram ∧ u.cal = s.cal ∧ u.jr = s.jr ∧
    u.feed = s.feed ∧ u.br = s.br ∧ u.hem = s.hem ∧ u.job = s.job ∧ u.loom = s.loom ∧ u.pol = s.pol ∧ u.sh = s.sh ∧ u.cf = s.cf ∧
    u.pending = s.pending ∧ u.free = s.free := by
  simp [State.endWaits]

@[simp] theorem State.clearBandCauses_frame (s : State) :
    let u := State.clearBandCauses s
    u.now = s.now ∧ u.eng = s.eng ∧ u.slack = s.slack ∧ u.arb = s.arb ∧ u.out = s.out ∧ u.fc = s.fc ∧ u.dike = s.dike ∧ u.tu = s.tu ∧
    u.twin = s.twin ∧ u.ring = s.ring ∧ u.mb = s.mb ∧ u.cp = s.cp ∧ u.sl = s.sl ∧ u.dram = s.dram ∧ u.cal = s.cal ∧ u.jr = s.jr ∧
    u.feed = s.feed ∧ u.br = s.br ∧ u.job = s.job ∧ u.bands = s.bands ∧ u.cc = s.cc ∧ u.loom = s.loom ∧ u.pol = s.pol ∧ u.sh = s.sh ∧
    u.cf = s.cf ∧ u.pending = s.pending ∧ u.free = s.free := by
  simp [State.clearBandCauses]

@[simp] theorem State.clearFaultCauses_frame (stripe band : ℕ) (s : State) :
    let u := State.clearFaultCauses stripe band s
    u.now = s.now ∧ u.eng = s.eng ∧ u.slack = s.slack ∧ u.arb = s.arb ∧ u.out = s.out ∧ u.fc = s.fc ∧ u.dike = s.dike ∧ u.tu = s.tu ∧
    u.twin = s.twin ∧ u.ring = s.ring ∧ u.mb = s.mb ∧ u.cp = s.cp ∧ u.sl = s.sl ∧ u.dram = s.dram ∧ u.cal = s.cal ∧ u.jr = s.jr ∧
    u.feed = s.feed ∧ u.br = s.br ∧ u.job = s.job ∧ u.bands = s.bands ∧ u.cc = s.cc ∧ u.loom = s.loom ∧ u.pol = s.pol ∧ u.sh = s.sh ∧
    u.cf = s.cf ∧ u.pending = s.pending ∧ u.free = s.free := by
  simp [State.clearFaultCauses]

@[simp] theorem State.unstage_frame (stripe band : ℕ) (s : State) :
    let u := State.unstage stripe band s
    u.now = s.now ∧ u.eng = s.eng ∧ u.slack = s.slack ∧ u.arb = s.arb ∧ u.out = s.out ∧ u.fc = s.fc ∧ u.dike = s.dike ∧ u.tu = s.tu ∧
    u.twin = s.twin ∧ u.ring = s.ring ∧ u.mb = s.mb ∧ u.cp = s.cp ∧ u.sl = s.sl ∧ u.dram = s.dram ∧ u.cal = s.cal ∧ u.jr = s.jr ∧
    u.feed = s.feed ∧ u.br = s.br ∧ u.hem = s.hem ∧ u.bands = s.bands ∧ u.cc = s.cc ∧ u.loom = s.loom ∧ u.pol = s.pol ∧ u.sh = s.sh ∧
    u.cf = s.cf ∧ u.pending = s.pending ∧ u.free = s.free := by
  simp [State.unstage]

@[simp] theorem State.dropBand_frame (stripe band : ℕ) (s : State) :
    let u := State.dropBand stripe band s
    u.now = s.now ∧ u.eng = s.eng ∧ u.slack = s.slack ∧ u.arb = s.arb ∧ u.out = s.out ∧ u.fc = s.fc ∧ u.dike = s.dike ∧ u.tu = s.tu ∧
    u.twin = s.twin ∧ u.ring = s.ring ∧ u.mb = s.mb ∧ u.cp = s.cp ∧ u.sl = s.sl ∧ u.dram = s.dram ∧ u.cal = s.cal ∧ u.jr = s.jr ∧
    u.feed = s.feed ∧ u.br = s.br ∧ u.hem = s.hem ∧ u.pol = s.pol ∧ u.sh = s.sh ∧ u.cf = s.cf ∧ u.pending = s.pending ∧ u.free = s.free := by
  simp [State.dropBand]

@[simp] theorem State.leaveBands_frame (s : State) :
    let u := State.leaveBands s
    u.now = s.now ∧ u.eng = s.eng ∧ u.slack = s.slack ∧ u.arb = s.arb ∧ u.out = s.out ∧ u.fc = s.fc ∧ u.dike = s.dike ∧ u.tu = s.tu ∧
    u.twin = s.twin ∧ u.ring = s.ring ∧ u.mb = s.mb ∧ u.cp = s.cp ∧ u.sl = s.sl ∧ u.dram = s.dram ∧ u.cal = s.cal ∧ u.jr = s.jr ∧
    u.feed = s.feed ∧ u.br = s.br ∧ u.hem = s.hem ∧ u.pol = s.pol ∧ u.sh = s.sh ∧ u.cf = s.cf ∧ u.pending = s.pending ∧ u.free = s.free := by
  simp [State.leaveBands]

@[simp] theorem State.retryBad_frame (b : Band) (s : State) :
    let u := State.retryBad b s
    u.now = s.now ∧ u.eng = s.eng ∧ u.slack = s.slack ∧ u.arb = s.arb ∧ u.out = s.out ∧ u.fc = s.fc ∧ u.dike = s.dike ∧ u.tu = s.tu ∧
    u.twin = s.twin ∧ u.ring = s.ring ∧ u.mb = s.mb ∧ u.cp = s.cp ∧ u.sl = s.sl ∧ u.dram = s.dram ∧ u.cal = s.cal ∧ u.jr = s.jr ∧
    u.feed = s.feed ∧ u.br = s.br ∧ u.hem = s.hem ∧ u.job = s.job ∧ u.bands = s.bands ∧ u.loom = s.loom ∧ u.pol = s.pol ∧ u.sh = s.sh ∧
    u.cf = s.cf ∧ u.pending = s.pending ∧ u.free = s.free := by
  unfold State.retryBad
  dsimp only
  (repeat' split) <;> first
    | (simp; done)
    | (refine ⟨(foldl_keep State.now _ _ _ ?_).trans ?_, (foldl_keep State.eng _ _ _ ?_).trans ?_, (foldl_keep State.slack _ _ _ ?_).trans ?_,
        (foldl_keep State.arb _ _ _ ?_).trans ?_, (foldl_keep State.out _ _ _ ?_).trans ?_, (foldl_keep State.fc _ _ _ ?_).trans ?_,
        (foldl_keep State.dike _ _ _ ?_).trans ?_, (foldl_keep State.tu _ _ _ ?_).trans ?_, (foldl_keep State.twin _ _ _ ?_).trans ?_,
        (foldl_keep State.ring _ _ _ ?_).trans ?_, (foldl_keep State.mb _ _ _ ?_).trans ?_, (foldl_keep State.cp _ _ _ ?_).trans ?_,
        (foldl_keep State.sl _ _ _ ?_).trans ?_, (foldl_keep State.dram _ _ _ ?_).trans ?_, (foldl_keep State.cal _ _ _ ?_).trans ?_,
        (foldl_keep State.jr _ _ _ ?_).trans ?_, (foldl_keep State.feed _ _ _ ?_).trans ?_, (foldl_keep State.br _ _ _ ?_).trans ?_,
        (foldl_keep State.hem _ _ _ ?_).trans ?_, (foldl_keep State.job _ _ _ ?_).trans ?_, (foldl_keep State.bands _ _ _ ?_).trans ?_,
        (foldl_keep State.loom _ _ _ ?_).trans ?_, (foldl_keep State.pol _ _ _ ?_).trans ?_, (foldl_keep State.sh _ _ _ ?_).trans ?_,
        (foldl_keep State.cf _ _ _ ?_).trans ?_, (foldl_keep State.pending _ _ _ ?_).trans ?_, (foldl_keep State.free _ _ _ ?_).trans ?_⟩ <;>
        first | (simp; done) | (intro s x; (try dsimp only); (repeat' split) <;> simp; done))

@[simp] theorem State.bandFault_frame (stripe band : ℕ) (failed : Bool) (s : State) :
    let u := State.bandFault stripe band failed s
    u.now = s.now ∧ u.eng = s.eng ∧ u.slack = s.slack ∧ u.out = s.out ∧ u.fc = s.fc ∧ u.dike = s.dike ∧ u.tu = s.tu ∧ u.ring = s.ring ∧
    u.mb = s.mb ∧ u.cp = s.cp ∧ u.dram = s.dram ∧ u.cal = s.cal ∧ u.jr = s.jr ∧ u.feed = s.feed ∧ u.br = s.br ∧ u.hem = s.hem ∧
    u.job = s.job ∧ u.sh = s.sh ∧ u.cf = s.cf ∧ u.pending = s.pending ∧ u.free = s.free ∧ u.pol.sram = s.pol.sram := by
  simp [State.bandFault]

@[simp] theorem State.renderFailed_frame (stripe band : ℕ) (failed : Bool) (s : State) :
    let u := State.renderFailed stripe band failed s
    u.now = s.now ∧ u.eng = s.eng ∧ u.slack = s.slack ∧ u.out = s.out ∧ u.fc = s.fc ∧ u.dike = s.dike ∧ u.tu = s.tu ∧ u.ring = s.ring ∧
    u.mb = s.mb ∧ u.cp = s.cp ∧ u.dram = s.dram ∧ u.cal = s.cal ∧ u.jr = s.jr ∧ u.feed = s.feed ∧ u.br = s.br ∧ u.hem = s.hem ∧
    u.job = s.job ∧ u.sh = s.sh ∧ u.cf = s.cf ∧ u.pending = s.pending ∧ u.free = s.free ∧ u.pol.sram = s.pol.sram := by
  unfold State.renderFailed
  dsimp only
  (repeat' split) <;> simp

@[simp] theorem State.failStream_frame (stripe band : ℕ) (s : State) :
    let u := State.failStream stripe band s
    u.now = s.now ∧ u.eng = s.eng ∧ u.slack = s.slack ∧ u.out = s.out ∧ u.fc = s.fc ∧ u.dike = s.dike ∧ u.tu = s.tu ∧ u.ring = s.ring ∧
    u.mb = s.mb ∧ u.cp = s.cp ∧ u.dram = s.dram ∧ u.cal = s.cal ∧ u.jr = s.jr ∧ u.feed = s.feed ∧ u.br = s.br ∧ u.hem = s.hem ∧
    u.job = s.job ∧ u.sh = s.sh ∧ u.cf = s.cf ∧ u.pending = s.pending ∧ u.free = s.free ∧ u.pol.sram = s.pol.sram := by
  simp [State.failStream]

@[simp] theorem State.pumpBinner_frame (s : State) :
    let u := State.pumpBinner s
    u.now = s.now ∧ u.eng = s.eng ∧ u.slack = s.slack ∧ u.arb = s.arb ∧ u.out = s.out ∧ u.fc = s.fc ∧ u.dike = s.dike ∧ u.tu = s.tu ∧
    u.twin = s.twin ∧ u.ring = s.ring ∧ u.mb = s.mb ∧ u.cp = s.cp ∧ u.sl = s.sl ∧ u.dram = s.dram ∧ u.cal = s.cal ∧ u.jr = s.jr ∧
    u.feed = s.feed ∧ u.br = s.br ∧ u.hem = s.hem ∧ u.job = s.job ∧ u.cc = s.cc ∧ u.loom = s.loom ∧ u.pol = s.pol ∧ u.sh = s.sh ∧
    u.cf = s.cf ∧ u.pending = s.pending ∧ u.free = s.free := by
  unfold State.pumpBinner
  split <;> simp

@[simp] theorem State.claimHorizon_frame (s : State) :
    let u := State.claimHorizon s
    u.now = s.now ∧ u.eng = s.eng ∧ u.slack = s.slack ∧ u.arb = s.arb ∧ u.out = s.out ∧ u.fc = s.fc ∧ u.dike = s.dike ∧ u.tu = s.tu ∧
    u.twin = s.twin ∧ u.ring = s.ring ∧ u.mb = s.mb ∧ u.cp = s.cp ∧ u.sl = s.sl ∧ u.dram = s.dram ∧ u.cal = s.cal ∧ u.jr = s.jr ∧
    u.feed = s.feed ∧ u.br = s.br ∧ u.hem = s.hem ∧ u.job = s.job ∧ u.loom = s.loom ∧ u.pol = s.pol ∧ u.sh = s.sh ∧ u.cf = s.cf ∧
    u.pending = s.pending ∧ u.free = s.free := by
  unfold State.claimHorizon
  dsimp only
  (repeat' split) <;> first
    | (simp; done)
    | (refine ⟨(foldl_keep State.now _ _ _ ?_).trans ?_, (foldl_keep State.eng _ _ _ ?_).trans ?_, (foldl_keep State.slack _ _ _ ?_).trans ?_,
        (foldl_keep State.arb _ _ _ ?_).trans ?_, (foldl_keep State.out _ _ _ ?_).trans ?_, (foldl_keep State.fc _ _ _ ?_).trans ?_,
        (foldl_keep State.dike _ _ _ ?_).trans ?_, (foldl_keep State.tu _ _ _ ?_).trans ?_, (foldl_keep State.twin _ _ _ ?_).trans ?_,
        (foldl_keep State.ring _ _ _ ?_).trans ?_, (foldl_keep State.mb _ _ _ ?_).trans ?_, (foldl_keep State.cp _ _ _ ?_).trans ?_,
        (foldl_keep State.sl _ _ _ ?_).trans ?_, (foldl_keep State.dram _ _ _ ?_).trans ?_, (foldl_keep State.cal _ _ _ ?_).trans ?_,
        (foldl_keep State.jr _ _ _ ?_).trans ?_, (foldl_keep State.feed _ _ _ ?_).trans ?_, (foldl_keep State.br _ _ _ ?_).trans ?_,
        (foldl_keep State.hem _ _ _ ?_).trans ?_, (foldl_keep State.job _ _ _ ?_).trans ?_, (foldl_keep State.loom _ _ _ ?_).trans ?_,
        (foldl_keep State.pol _ _ _ ?_).trans ?_, (foldl_keep State.sh _ _ _ ?_).trans ?_, (foldl_keep State.cf _ _ _ ?_).trans ?_,
        (foldl_keep State.pending _ _ _ ?_).trans ?_, (foldl_keep State.free _ _ _ ?_).trans ?_⟩ <;>
        first | (simp; done) | (intro s x; (try dsimp only); (repeat' split) <;> simp; done))

@[simp] theorem State.takeInGo_frame (x0 : ℕ) (s : State) :
    let u := State.takeInGo x0 s
    u.now = s.now ∧ u.eng = s.eng ∧ u.slack = s.slack ∧ u.out = s.out ∧ u.fc = s.fc ∧ u.dike = s.dike ∧ u.tu = s.tu ∧ u.ring = s.ring ∧
    u.mb = s.mb ∧ u.cp = s.cp ∧ u.dram = s.dram ∧ u.cal = s.cal ∧ u.jr = s.jr ∧ u.feed = s.feed ∧ u.br = s.br ∧ u.hem = s.hem ∧
    u.job = s.job ∧ u.sh = s.sh ∧ u.cf = s.cf ∧ u.pending = s.pending ∧ u.free = s.free ∧ u.pol.sram = s.pol.sram := by
  induction x0 generalizing s with
  | zero => simp [State.takeInGo]
  | succ n ih =>
    unfold State.takeInGo
    dsimp only
    (repeat' split) <;> first
      | (simp [ih]; done)
      | (rename_i h; have h := congrArg Prod.snd h; dsimp only at h; subst h; simp [ih]; done)

@[simp] theorem State.takeIn_frame (s : State) :
    let u := State.takeIn s
    u.now = s.now ∧ u.eng = s.eng ∧ u.slack = s.slack ∧ u.out = s.out ∧ u.fc = s.fc ∧ u.dike = s.dike ∧ u.tu = s.tu ∧ u.ring = s.ring ∧
    u.mb = s.mb ∧ u.cp = s.cp ∧ u.dram = s.dram ∧ u.cal = s.cal ∧ u.jr = s.jr ∧ u.feed = s.feed ∧ u.br = s.br ∧ u.hem = s.hem ∧
    u.job = s.job ∧ u.sh = s.sh ∧ u.cf = s.cf ∧ u.pending = s.pending ∧ u.free = s.free ∧ u.pol.sram = s.pol.sram := by
  simp [State.takeIn]

@[simp] theorem State.restartRing_frame (stripe : ℕ) (s : State) :
    let u := State.restartRing stripe s
    u.now = s.now ∧ u.eng = s.eng ∧ u.slack = s.slack ∧ u.out = s.out ∧ u.fc = s.fc ∧ u.dike = s.dike ∧ u.tu = s.tu ∧ u.ring = s.ring ∧
    u.mb = s.mb ∧ u.cp = s.cp ∧ u.dram = s.dram ∧ u.cal = s.cal ∧ u.jr = s.jr ∧ u.feed = s.feed ∧ u.br = s.br ∧ u.hem = s.hem ∧
    u.sh = s.sh ∧ u.cf = s.cf ∧ u.pending = s.pending ∧ u.free = s.free ∧ u.pol.sram = s.pol.sram := by
  simp [State.restartRing]

@[simp] theorem State.freeRows_frame (m p : ℕ) (s : State) :
    let u := State.freeRows m p s
    u.now = s.now ∧ u.eng = s.eng ∧ u.slack = s.slack ∧ u.out = s.out ∧ u.fc = s.fc ∧ u.dike = s.dike ∧ u.tu = s.tu ∧ u.ring = s.ring ∧
    u.mb = s.mb ∧ u.cp = s.cp ∧ u.dram = s.dram ∧ u.cal = s.cal ∧ u.jr = s.jr ∧ u.feed = s.feed ∧ u.br = s.br ∧ u.hem = s.hem ∧
    u.sh = s.sh ∧ u.cf = s.cf ∧ u.pending = s.pending ∧ u.free = s.free ∧ u.pol.sram = s.pol.sram := by
  simp [State.freeRows]

@[simp] theorem State.release_frame (stripe band : ℕ) (s : State) :
    let u := State.release stripe band s
    u.now = s.now ∧ u.eng = s.eng ∧ u.slack = s.slack ∧ u.out = s.out ∧ u.fc = s.fc ∧ u.dike = s.dike ∧ u.tu = s.tu ∧ u.ring = s.ring ∧
    u.mb = s.mb ∧ u.cp = s.cp ∧ u.dram = s.dram ∧ u.cal = s.cal ∧ u.jr = s.jr ∧ u.feed = s.feed ∧ u.br = s.br ∧ u.sh = s.sh ∧ u.cf = s.cf ∧
    u.pending = s.pending ∧ u.free = s.free ∧ u.pol.sram = s.pol.sram := by
  unfold State.release
  dsimp only
  (repeat' split) <;> simp

/-! ## Bands.lean -/

@[simp] theorem State.takeTile_frame (s : State) (unit : ℕ) :
    let u := State.takeTile s unit
    u.now = s.now ∧ u.eng = s.eng ∧ u.slack = s.slack ∧ u.arb = s.arb ∧ u.out = s.out ∧ u.fc = s.fc ∧ u.dike = s.dike ∧ u.tu = s.tu ∧
    u.twin = s.twin ∧ u.ring = s.ring ∧ u.mb = s.mb ∧ u.cp = s.cp ∧ u.sl = s.sl ∧ u.dram = s.dram ∧ u.cal = s.cal ∧ u.jr = s.jr ∧
    u.feed = s.feed ∧ u.br = s.br ∧ u.hem = s.hem ∧ u.job = s.job ∧ u.cc = s.cc ∧ u.loom = s.loom ∧ u.pol = s.pol ∧ u.sh = s.sh ∧
    u.cf = s.cf ∧ u.pending = s.pending ∧ u.free = s.free := by
  unfold State.takeTile
  split <;> simp

@[simp] theorem State.assignUnits_frame (s : State) :
    let u := State.assignUnits s
    u.now = s.now ∧ u.eng = s.eng ∧ u.slack = s.slack ∧ u.arb = s.arb ∧ u.out = s.out ∧ u.fc = s.fc ∧ u.dike = s.dike ∧ u.tu = s.tu ∧
    u.twin = s.twin ∧ u.ring = s.ring ∧ u.mb = s.mb ∧ u.cp = s.cp ∧ u.sl = s.sl ∧ u.dram = s.dram ∧ u.cal = s.cal ∧ u.jr = s.jr ∧
    u.feed = s.feed ∧ u.br = s.br ∧ u.hem = s.hem ∧ u.job = s.job ∧ u.cc = s.cc ∧ u.loom = s.loom ∧ u.pol = s.pol ∧ u.sh = s.sh ∧
    u.cf = s.cf ∧ u.pending = s.pending ∧ u.free = s.free := by
  simp [State.assignUnits]

@[simp] theorem State.bandsOn_frame (s : State) :
    let u := State.bandsOn s
    u.now = s.now ∧ u.eng = s.eng ∧ u.slack = s.slack ∧ u.arb = s.arb ∧ u.out = s.out ∧ u.fc = s.fc ∧ u.dike = s.dike ∧ u.tu = s.tu ∧
    u.twin = s.twin ∧ u.ring = s.ring ∧ u.mb = s.mb ∧ u.cp = s.cp ∧ u.sl = s.sl ∧ u.dram = s.dram ∧ u.cal = s.cal ∧ u.jr = s.jr ∧
    u.feed = s.feed ∧ u.br = s.br ∧ u.hem = s.hem ∧ u.job = s.job ∧ u.cc = s.cc ∧ u.loom = s.loom ∧ u.pol = s.pol ∧ u.sh = s.sh ∧
    u.cf = s.cf ∧ u.pending = s.pending ∧ u.free = s.free := by
  simp [State.bandsOn]

@[simp] theorem State.testUnits_frame (s : State) :
    let u := State.testUnits s
    u.now = s.now ∧ u.eng = s.eng ∧ u.slack = s.slack ∧ u.out = s.out ∧ u.fc = s.fc ∧ u.dike = s.dike ∧ u.tu = s.tu ∧ u.twin = s.twin ∧
    u.ring = s.ring ∧ u.mb = s.mb ∧ u.cp = s.cp ∧ u.sl = s.sl ∧ u.dram = s.dram ∧ u.cal = s.cal ∧ u.jr = s.jr ∧ u.feed = s.feed ∧
    u.br = s.br ∧ u.hem = s.hem ∧ u.job = s.job ∧ u.bands = s.bands ∧ u.cc = s.cc ∧ u.pol = s.pol ∧ u.sh = s.sh ∧ u.cf = s.cf ∧
    u.pending = s.pending ∧ u.free = s.free := by
  simp [State.testUnits]

@[simp] theorem State.passEmpties_frame (x0 : ℕ) (s : State) :
    let u := State.passEmpties x0 s
    u.now = s.now ∧ u.eng = s.eng ∧ u.slack = s.slack ∧ u.arb = s.arb ∧ u.out = s.out ∧ u.fc = s.fc ∧ u.dike = s.dike ∧ u.tu = s.tu ∧
    u.twin = s.twin ∧ u.ring = s.ring ∧ u.mb = s.mb ∧ u.cp = s.cp ∧ u.sl = s.sl ∧ u.dram = s.dram ∧ u.cal = s.cal ∧ u.jr = s.jr ∧
    u.feed = s.feed ∧ u.br = s.br ∧ u.hem = s.hem ∧ u.cc = s.cc ∧ u.loom = s.loom ∧ u.pol = s.pol ∧ u.sh = s.sh ∧ u.cf = s.cf ∧
    u.pending = s.pending ∧ u.free = s.free := by
  induction x0 generalizing s with
  | zero => simp [State.passEmpties]
  | succ n ih =>
    unfold State.passEmpties
    dsimp only
    (repeat' split) <;> first
      | (simp [ih]; done)
      | (rename_i h; have h := congrArg Prod.snd h; dsimp only at h; subst h; simp [ih]; done)

@[simp] theorem State.passAll_frame (s : State) :
    let u := State.passAll s
    u.now = s.now ∧ u.eng = s.eng ∧ u.slack = s.slack ∧ u.arb = s.arb ∧ u.out = s.out ∧ u.fc = s.fc ∧ u.dike = s.dike ∧ u.tu = s.tu ∧
    u.twin = s.twin ∧ u.ring = s.ring ∧ u.mb = s.mb ∧ u.cp = s.cp ∧ u.sl = s.sl ∧ u.dram = s.dram ∧ u.cal = s.cal ∧ u.jr = s.jr ∧
    u.feed = s.feed ∧ u.br = s.br ∧ u.hem = s.hem ∧ u.cc = s.cc ∧ u.loom = s.loom ∧ u.pol = s.pol ∧ u.sh = s.sh ∧ u.cf = s.cf ∧
    u.pending = s.pending ∧ u.free = s.free := by
  simp [State.passAll]

@[simp] theorem State.stagingStart_frame (s : State) :
    let u := State.stagingStart s
    u.now = s.now ∧ u.eng = s.eng ∧ u.slack = s.slack ∧ u.out = s.out ∧ u.fc = s.fc ∧ u.dike = s.dike ∧ u.tu = s.tu ∧ u.ring = s.ring ∧
    u.mb = s.mb ∧ u.cp = s.cp ∧ u.dram = s.dram ∧ u.cal = s.cal ∧ u.jr = s.jr ∧ u.feed = s.feed ∧ u.br = s.br ∧ u.hem = s.hem ∧
    u.sh = s.sh ∧ u.cf = s.cf ∧ u.pending = s.pending ∧ u.free = s.free ∧ u.pol.sram = s.pol.sram := by
  unfold State.stagingStart
  dsimp only
  (repeat' split) <;> simp

@[simp] theorem State.lookups_frame (ids : List ℕ) (s : State) :
    let u := State.lookups ids s
    u.now = s.now ∧ u.eng = s.eng ∧ u.slack = s.slack ∧ u.arb = s.arb ∧ u.out = s.out ∧ u.fc = s.fc ∧ u.dike = s.dike ∧ u.tu = s.tu ∧
    u.twin = s.twin ∧ u.ring = s.ring ∧ u.mb = s.mb ∧ u.cp = s.cp ∧ u.sl = s.sl ∧ u.dram = s.dram ∧ u.cal = s.cal ∧ u.jr = s.jr ∧
    u.feed = s.feed ∧ u.br = s.br ∧ u.hem = s.hem ∧ u.job = s.job ∧ u.bands = s.bands ∧ u.loom = s.loom ∧ u.pol = s.pol ∧ u.sh = s.sh ∧
    u.cf = s.cf ∧ u.pending = s.pending ∧ u.free = s.free := by
  simp [State.lookups]

@[simp] theorem State.reach_frame (stripe band : ℕ) (ids : List ℕ) (s : State) :
    let u := State.reach stripe band ids s
    u.now = s.now ∧ u.eng = s.eng ∧ u.slack = s.slack ∧ u.arb = s.arb ∧ u.out = s.out ∧ u.fc = s.fc ∧ u.dike = s.dike ∧ u.tu = s.tu ∧
    u.twin = s.twin ∧ u.ring = s.ring ∧ u.mb = s.mb ∧ u.cp = s.cp ∧ u.sl = s.sl ∧ u.dram = s.dram ∧ u.cal = s.cal ∧ u.jr = s.jr ∧
    u.feed = s.feed ∧ u.br = s.br ∧ u.hem = s.hem ∧ u.job = s.job ∧ u.loom = s.loom ∧ u.pol = s.pol ∧ u.sh = s.sh ∧ u.cf = s.cf ∧
    u.pending = s.pending ∧ u.free = s.free := by
  simp [State.reach]

@[simp] theorem State.renderStop_frame (stripe band : ℕ) (e : RenderStop) (s : State) :
    let u := State.renderStop stripe band e s
    u.now = s.now ∧ u.eng = s.eng ∧ u.slack = s.slack ∧ u.out = s.out ∧ u.fc = s.fc ∧ u.dike = s.dike ∧ u.tu = s.tu ∧ u.ring = s.ring ∧
    u.mb = s.mb ∧ u.cp = s.cp ∧ u.dram = s.dram ∧ u.cal = s.cal ∧ u.jr = s.jr ∧ u.feed = s.feed ∧ u.br = s.br ∧ u.hem = s.hem ∧
    u.job = s.job ∧ u.sh = s.sh ∧ u.cf = s.cf ∧ u.pending = s.pending ∧ u.free = s.free ∧ u.pol.sram = s.pol.sram := by
  unfold State.renderStop
  split <;> simp

@[simp] theorem State.binNow_frame (s : State) :
    let u := State.binNow s
    u.now = s.now ∧ u.eng = s.eng ∧ u.slack = s.slack ∧ u.out = s.out ∧ u.fc = s.fc ∧ u.dike = s.dike ∧ u.tu = s.tu ∧ u.ring = s.ring ∧
    u.mb = s.mb ∧ u.cp = s.cp ∧ u.dram = s.dram ∧ u.cal = s.cal ∧ u.jr = s.jr ∧ u.feed = s.feed ∧ u.br = s.br ∧ u.hem = s.hem ∧
    u.job = s.job ∧ u.sh = s.sh ∧ u.cf = s.cf ∧ u.pending = s.pending ∧ u.free = s.free ∧ u.pol.sram = s.pol.sram := by
  unfold State.binNow
  dsimp only
  (repeat' split) <;> simp

@[simp] theorem State.streamError_frame (stripe band : ℕ) (f : FaultName) (offset : ℕ) (s : State) :
    let u := State.streamError stripe band f offset s
    u.now = s.now ∧ u.eng = s.eng ∧ u.slack = s.slack ∧ u.out = s.out ∧ u.fc = s.fc ∧ u.dike = s.dike ∧ u.tu = s.tu ∧ u.ring = s.ring ∧
    u.mb = s.mb ∧ u.cp = s.cp ∧ u.dram = s.dram ∧ u.cal = s.cal ∧ u.jr = s.jr ∧ u.feed = s.feed ∧ u.br = s.br ∧ u.hem = s.hem ∧
    u.job = s.job ∧ u.sh = s.sh ∧ u.cf = s.cf ∧ u.pending = s.pending ∧ u.free = s.free ∧ u.pol.sram = s.pol.sram := by
  simp [State.streamError]

@[simp] theorem State.drainBlocks_frame (stripe band x2 : ℕ) (s : State) :
    let u := State.drainBlocks stripe band x2 s
    u.now = s.now ∧ u.eng = s.eng ∧ u.slack = s.slack ∧ u.out = s.out ∧ u.fc = s.fc ∧ u.dike = s.dike ∧ u.tu = s.tu ∧ u.ring = s.ring ∧
    u.mb = s.mb ∧ u.cp = s.cp ∧ u.dram = s.dram ∧ u.cal = s.cal ∧ u.jr = s.jr ∧ u.feed = s.feed ∧ u.br = s.br ∧ u.hem = s.hem ∧
    u.job = s.job ∧ u.sh = s.sh ∧ u.cf = s.cf ∧ u.pending = s.pending ∧ u.free = s.free ∧ u.pol.sram = s.pol.sram := by
  induction x2 generalizing s with
  | zero => simp [State.drainBlocks]
  | succ n ih =>
    unfold State.drainBlocks
    dsimp only
    (repeat' split) <;> first
      | (simp [ih]; done)
      | (rename_i h; have h := congrArg Prod.snd h; dsimp only at h; subst h; simp [ih]; done)

@[simp] theorem State.queueTiles_frame (stripe band : ℕ) (s : State) :
    let u := State.queueTiles stripe band s
    u.now = s.now ∧ u.eng = s.eng ∧ u.slack = s.slack ∧ u.arb = s.arb ∧ u.out = s.out ∧ u.fc = s.fc ∧ u.dike = s.dike ∧ u.tu = s.tu ∧
    u.twin = s.twin ∧ u.ring = s.ring ∧ u.mb = s.mb ∧ u.cp = s.cp ∧ u.sl = s.sl ∧ u.dram = s.dram ∧ u.cal = s.cal ∧ u.jr = s.jr ∧
    u.feed = s.feed ∧ u.br = s.br ∧ u.hem = s.hem ∧ u.job = s.job ∧ u.cc = s.cc ∧ u.loom = s.loom ∧ u.pol = s.pol ∧ u.sh = s.sh ∧
    u.cf = s.cf ∧ u.pending = s.pending ∧ u.free = s.free := by
  simp [State.queueTiles]

@[simp] theorem State.binningDone_frame (s : State) :
    let u := State.binningDone s
    u.now = s.now ∧ u.eng = s.eng ∧ u.slack = s.slack ∧ u.out = s.out ∧ u.fc = s.fc ∧ u.dike = s.dike ∧ u.tu = s.tu ∧ u.ring = s.ring ∧
    u.mb = s.mb ∧ u.cp = s.cp ∧ u.dram = s.dram ∧ u.cal = s.cal ∧ u.jr = s.jr ∧ u.feed = s.feed ∧ u.br = s.br ∧ u.hem = s.hem ∧
    u.job = s.job ∧ u.sh = s.sh ∧ u.cf = s.cf ∧ u.pending = s.pending ∧ u.free = s.free ∧ u.pol.sram = s.pol.sram := by
  unfold State.binningDone
  dsimp only
  (repeat' split) <;> simp

@[simp] theorem State.encodeRow_frame (slice0 : ℕ) (doses : List ℕ) (s : State) :
    let u := (State.encodeRow slice0 doses s).2
    u.now = s.now ∧ u.eng = s.eng ∧ u.slack = s.slack ∧ u.arb = s.arb ∧ u.out = s.out ∧ u.dike = s.dike ∧ u.tu = s.tu ∧ u.twin = s.twin ∧
    u.ring = s.ring ∧ u.mb = s.mb ∧ u.cp = s.cp ∧ u.sl = s.sl ∧ u.dram = s.dram ∧ u.cal = s.cal ∧ u.jr = s.jr ∧ u.feed = s.feed ∧
    u.br = s.br ∧ u.hem = s.hem ∧ u.job = s.job ∧ u.bands = s.bands ∧ u.cc = s.cc ∧ u.loom = s.loom ∧ u.pol = s.pol ∧ u.sh = s.sh ∧
    u.cf = s.cf ∧ u.pending = s.pending ∧ u.free = s.free := by
  simp [State.encodeRow]

@[simp] theorem State.storeRow_frame (stripe band tile : ℕ) (doses : List ℕ) (s : State) (r : ℕ) :
    let u := State.storeRow stripe band tile doses s r
    u.now = s.now ∧ u.eng = s.eng ∧ u.slack = s.slack ∧ u.arb = s.arb ∧ u.out = s.out ∧ u.dike = s.dike ∧ u.tu = s.tu ∧ u.twin = s.twin ∧
    u.ring = s.ring ∧ u.mb = s.mb ∧ u.cp = s.cp ∧ u.sl = s.sl ∧ u.dram = s.dram ∧ u.cal = s.cal ∧ u.jr = s.jr ∧ u.feed = s.feed ∧
    u.br = s.br ∧ u.hem = s.hem ∧ u.job = s.job ∧ u.bands = s.bands ∧ u.cc = s.cc ∧ u.loom = s.loom ∧ u.sh = s.sh ∧ u.cf = s.cf ∧
    u.pending = s.pending ∧ u.free = s.free := by
  simp [State.storeRow]

@[simp] theorem State.storeTile_frame (stripe band tile : ℕ) (doses : List ℕ) (s : State) :
    let u := State.storeTile stripe band tile doses s
    u.now = s.now ∧ u.eng = s.eng ∧ u.slack = s.slack ∧ u.arb = s.arb ∧ u.out = s.out ∧ u.dike = s.dike ∧ u.tu = s.tu ∧ u.twin = s.twin ∧
    u.ring = s.ring ∧ u.mb = s.mb ∧ u.cp = s.cp ∧ u.sl = s.sl ∧ u.dram = s.dram ∧ u.cal = s.cal ∧ u.jr = s.jr ∧ u.feed = s.feed ∧
    u.br = s.br ∧ u.hem = s.hem ∧ u.job = s.job ∧ u.bands = s.bands ∧ u.cc = s.cc ∧ u.loom = s.loom ∧ u.sh = s.sh ∧ u.cf = s.cf ∧
    u.pending = s.pending ∧ u.free = s.free := by
  simp [State.storeTile]

@[simp] theorem State.bandWritten_frame (stripe band : ℕ) (s : State) :
    let u := State.bandWritten stripe band s
    u.now = s.now ∧ u.eng = s.eng ∧ u.slack = s.slack ∧ u.out = s.out ∧ u.dike = s.dike ∧ u.tu = s.tu ∧ u.ring = s.ring ∧ u.mb = s.mb ∧
    u.cp = s.cp ∧ u.dram = s.dram ∧ u.cal = s.cal ∧ u.jr = s.jr ∧ u.feed = s.feed ∧ u.br = s.br ∧ u.sh = s.sh ∧ u.cf = s.cf ∧
    u.pending = s.pending ∧ u.free = s.free ∧ u.pol.sram = s.pol.sram := by
  unfold State.bandWritten
  dsimp only
  (repeat' split) <;> simp

@[simp] theorem State.unitParity_frame (unit : ℕ) (s : State) :
    let u := State.unitParity unit s
    u.now = s.now ∧ u.eng = s.eng ∧ u.slack = s.slack ∧ u.out = s.out ∧ u.fc = s.fc ∧ u.dike = s.dike ∧ u.tu = s.tu ∧ u.ring = s.ring ∧
    u.mb = s.mb ∧ u.cp = s.cp ∧ u.dram = s.dram ∧ u.cal = s.cal ∧ u.jr = s.jr ∧ u.feed = s.feed ∧ u.br = s.br ∧ u.hem = s.hem ∧
    u.job = s.job ∧ u.sh = s.sh ∧ u.cf = s.cf ∧ u.pending = s.pending ∧ u.free = s.free ∧ u.pol.sram = s.pol.sram := by
  unfold State.unitParity
  dsimp only
  split <;> simp

@[simp] theorem State.noteTile_frame (stripe band : ℕ) (out : TileOut) (s : State) :
    let u := State.noteTile stripe band out s
    u.now = s.now ∧ u.eng = s.eng ∧ u.slack = s.slack ∧ u.out = s.out ∧ u.dike = s.dike ∧ u.tu = s.tu ∧ u.ring = s.ring ∧ u.mb = s.mb ∧
    u.cp = s.cp ∧ u.dram = s.dram ∧ u.cal = s.cal ∧ u.jr = s.jr ∧ u.feed = s.feed ∧ u.br = s.br ∧ u.sh = s.sh ∧ u.cf = s.cf ∧
    u.pending = s.pending ∧ u.free = s.free ∧ u.pol.sram = s.pol.sram := by
  unfold State.noteTile
  dsimp only
  split <;> simp

@[simp] theorem State.tileDone_frame (b : Band) (w : Work) (r : TileRender) (encoderUpset : Bool) (s : State) :
    let u := State.tileDone b w r encoderUpset s
    u.now = s.now ∧ u.eng = s.eng ∧ u.slack = s.slack ∧ u.out = s.out ∧ u.dike = s.dike ∧ u.tu = s.tu ∧ u.ring = s.ring ∧ u.mb = s.mb ∧
    u.cp = s.cp ∧ u.dram = s.dram ∧ u.cal = s.cal ∧ u.jr = s.jr ∧ u.feed = s.feed ∧ u.br = s.br ∧ u.sh = s.sh ∧ u.cf = s.cf ∧
    u.pending = s.pending ∧ u.free = s.free := by
  simp [State.tileDone]

@[simp] theorem State.tileStops_frame (b : Band) (w : Work) (e : RenderStop) (g : Gather) (s : State) :
    let u := State.tileStops b w e g s
    u.now = s.now ∧ u.eng = s.eng ∧ u.slack = s.slack ∧ u.out = s.out ∧ u.fc = s.fc ∧ u.dike = s.dike ∧ u.tu = s.tu ∧ u.ring = s.ring ∧
    u.mb = s.mb ∧ u.cp = s.cp ∧ u.dram = s.dram ∧ u.cal = s.cal ∧ u.jr = s.jr ∧ u.feed = s.feed ∧ u.br = s.br ∧ u.hem = s.hem ∧
    u.job = s.job ∧ u.sh = s.sh ∧ u.cf = s.cf ∧ u.pending = s.pending ∧ u.free = s.free ∧ u.pol.sram = s.pol.sram := by
  unfold State.tileStops
  split <;> simp

@[simp] theorem State.tileWritten_frame (unit : ℕ) (encoderUpset : Bool) (s : State) :
    let u := State.tileWritten unit encoderUpset s
    u.now = s.now ∧ u.eng = s.eng ∧ u.slack = s.slack ∧ u.out = s.out ∧ u.dike = s.dike ∧ u.tu = s.tu ∧ u.ring = s.ring ∧ u.mb = s.mb ∧
    u.cp = s.cp ∧ u.dram = s.dram ∧ u.cal = s.cal ∧ u.jr = s.jr ∧ u.feed = s.feed ∧ u.br = s.br ∧ u.sh = s.sh ∧ u.cf = s.cf ∧
    u.pending = s.pending ∧ u.free = s.free := by
  unfold State.tileWritten
  dsimp only
  (repeat' split) <;> simp

@[simp] theorem State.cellBad_frame (id : ℕ) (f : FaultName) (s : State) :
    let u := State.cellBad id f s
    u.now = s.now ∧ u.eng = s.eng ∧ u.slack = s.slack ∧ u.out = s.out ∧ u.fc = s.fc ∧ u.dike = s.dike ∧ u.tu = s.tu ∧ u.ring = s.ring ∧
    u.mb = s.mb ∧ u.cp = s.cp ∧ u.dram = s.dram ∧ u.cal = s.cal ∧ u.jr = s.jr ∧ u.feed = s.feed ∧ u.br = s.br ∧ u.hem = s.hem ∧
    u.job = s.job ∧ u.sh = s.sh ∧ u.cf = s.cf ∧ u.pending = s.pending ∧ u.free = s.free ∧ u.pol.sram = s.pol.sram := by
  simp [State.cellBad]

@[simp] theorem State.dropPins_frame (stripe band : ℕ) (s : State) :
    let u := State.dropPins stripe band s
    u.now = s.now ∧ u.eng = s.eng ∧ u.slack = s.slack ∧ u.arb = s.arb ∧ u.out = s.out ∧ u.fc = s.fc ∧ u.dike = s.dike ∧ u.tu = s.tu ∧
    u.twin = s.twin ∧ u.ring = s.ring ∧ u.mb = s.mb ∧ u.cp = s.cp ∧ u.sl = s.sl ∧ u.dram = s.dram ∧ u.cal = s.cal ∧ u.jr = s.jr ∧
    u.feed = s.feed ∧ u.br = s.br ∧ u.hem = s.hem ∧ u.job = s.job ∧ u.pol = s.pol ∧ u.sh = s.sh ∧ u.cf = s.cf ∧ u.pending = s.pending ∧
    u.free = s.free := by
  simp [State.dropPins]

theorem pinnedAlloc_frame {id n fuel : Nat} {r : Option (List Nat × Nat × State)} {o : Option Band} {s s' : State}
    (h : State.pinnedAlloc id n fuel s = (r, s', o)) :
    s'.now = s.now ∧ s'.eng = s.eng ∧ s'.slack = s.slack ∧ s'.arb = s.arb ∧ s'.out = s.out ∧ s'.fc = s.fc ∧ s'.dike = s.dike ∧
    s'.tu = s.tu ∧ s'.twin = s.twin ∧ s'.ring = s.ring ∧ s'.mb = s.mb ∧ s'.cp = s.cp ∧ s'.sl = s.sl ∧ s'.dram = s.dram ∧ s'.cal = s.cal ∧
    s'.jr = s.jr ∧ s'.feed = s.feed ∧ s'.br = s.br ∧ s'.hem = s.hem ∧ s'.job = s.job ∧ s'.pol = s.pol ∧ s'.sh = s.sh ∧ s'.cf = s.cf ∧
    s'.pending = s.pending ∧ s'.free = s.free ∧
    (∀ x, r = some x → x.2.2 = s') := by
  induction fuel generalizing s with
  | zero => cases h; simp
  | succ fuel ih =>
    unfold State.pinnedAlloc at h
    split at h
    next e => cases h; simp [allocCell_frame e]
    · dsimp only at h
      split at h
      · split at h
        · simpa using ih h
        · cases h; simp
      · cases h; simp

@[simp] theorem decodeBody_frame (stored : List Byte) (id x2 x3 x4 : ℕ) (x5 : RecScan) (s : State) :
    let u := (decodeBody stored id x2 x3 x4 x5 s).2
    u.now = s.now ∧ u.eng = s.eng ∧ u.slack = s.slack ∧ u.arb = s.arb ∧ u.out = s.out ∧ u.dike = s.dike ∧ u.tu = s.tu ∧ u.twin = s.twin ∧
    u.ring = s.ring ∧ u.mb = s.mb ∧ u.cp = s.cp ∧ u.sl = s.sl ∧ u.dram = s.dram ∧ u.cal = s.cal ∧ u.jr = s.jr ∧ u.feed = s.feed ∧
    u.br = s.br ∧ u.hem = s.hem ∧ u.job = s.job ∧ u.bands = s.bands ∧ u.cc = s.cc ∧ u.loom = s.loom ∧ u.pol = s.pol ∧ u.sh = s.sh ∧
    u.cf = s.cf ∧ u.pending = s.pending ∧ u.free = s.free := by
  induction x2 generalizing x3 x4 x5 s with
  | zero => simp [decodeBody]
  | succ n ih =>
    unfold decodeBody
    dsimp only
    (repeat' split) <;> first
      | (simp [ih]; done)
      | (rename_i h; have h := congrArg Prod.snd h; dsimp only at h; subst h; simp [ih]; done)

@[simp] theorem State.peerBand_frame (stripe band outcome computed : ℕ) (s : State) :
    let u := State.peerBand stripe band outcome computed s
    u.now = s.now ∧ u.eng = s.eng ∧ u.slack = s.slack ∧ u.out = s.out ∧ u.fc = s.fc ∧ u.dike = s.dike ∧ u.tu = s.tu ∧ u.twin = s.twin ∧
    u.ring = s.ring ∧ u.mb = s.mb ∧ u.cp = s.cp ∧ u.sl = s.sl ∧ u.dram = s.dram ∧ u.cal = s.cal ∧ u.jr = s.jr ∧ u.feed = s.feed ∧
    u.br = s.br ∧ u.job = s.job ∧ u.cc = s.cc ∧ u.loom = s.loom ∧ u.pol = s.pol ∧ u.sh = s.sh ∧ u.cf = s.cf ∧ u.pending = s.pending ∧
    u.free = s.free := by
  unfold State.peerBand
  dsimp only
  split <;> simp

end Sys2Proof.Machine
end

