-- ==== Sys2Proof/Laws/FrameLanes.lean ====
section
/-! SUPPORT. What each operation of Shuttle, Cuff and Feed leaves unchanged, field by field of the
state: the whole of what it can change is what its lemma does not name. -/

namespace Sys2Proof.Machine
open Sys2Proof

/-! ## Shuttle.lean -/

@[simp] theorem State.noteFlash_frame (f : Option ℕ) (w : ℕ) (s : State) :
    let u := State.noteFlash f w s
    u.now = s.now ∧ u.eng = s.eng ∧ u.arb = s.arb ∧ u.out = s.out ∧ u.fc = s.fc ∧ u.dike = s.dike ∧ u.tu = s.tu ∧ u.twin = s.twin ∧
    u.ring = s.ring ∧ u.mb = s.mb ∧ u.cp = s.cp ∧ u.sl = s.sl ∧ u.dram = s.dram ∧ u.cal = s.cal ∧ u.jr = s.jr ∧ u.feed = s.feed ∧
    u.br = s.br ∧ u.hem = s.hem ∧ u.job = s.job ∧ u.bands = s.bands ∧ u.cc = s.cc ∧ u.loom = s.loom ∧ u.pol = s.pol ∧ u.sh = s.sh ∧
    u.cf = s.cf ∧ u.pending = s.pending ∧ u.free = s.free := by
  simp [State.noteFlash]

@[simp] theorem State.noteWork_frame (f w : ℕ) (s : State) :
    let u := State.noteWork f w s
    u.now = s.now ∧ u.eng = s.eng ∧ u.arb = s.arb ∧ u.out = s.out ∧ u.fc = s.fc ∧ u.dike = s.dike ∧ u.tu = s.tu ∧ u.twin = s.twin ∧
    u.ring = s.ring ∧ u.mb = s.mb ∧ u.cp = s.cp ∧ u.sl = s.sl ∧ u.dram = s.dram ∧ u.cal = s.cal ∧ u.jr = s.jr ∧ u.feed = s.feed ∧
    u.br = s.br ∧ u.hem = s.hem ∧ u.job = s.job ∧ u.bands = s.bands ∧ u.cc = s.cc ∧ u.loom = s.loom ∧ u.pol = s.pol ∧ u.sh = s.sh ∧
    u.cf = s.cf ∧ u.pending = s.pending ∧ u.free = s.free := by
  unfold State.noteWork
  split <;> simp

@[simp] theorem State.readWords_frame (kind : ℕ) (words : List (ℕ × Option ℕ)) (s : State) :
    let u := State.readWords kind words s
    u.now = s.now ∧ u.eng = s.eng ∧ u.slack = s.slack ∧ u.out = s.out ∧ u.fc = s.fc ∧ u.dike = s.dike ∧ u.tu = s.tu ∧ u.twin = s.twin ∧
    u.ring = s.ring ∧ u.mb = s.mb ∧ u.cp = s.cp ∧ u.sl = s.sl ∧ u.dram = s.dram ∧ u.cal = s.cal ∧ u.jr = s.jr ∧ u.feed = s.feed ∧
    u.br = s.br ∧ u.hem = s.hem ∧ u.job = s.job ∧ u.bands = s.bands ∧ u.cc = s.cc ∧ u.loom = s.loom ∧ u.pol = s.pol ∧ u.cf = s.cf ∧
    u.pending = s.pending ∧ u.free = s.free := by
  unfold State.readWords
  dsimp only
  (repeat' split) <;> first
    | (simp; done)
    | (refine ⟨(foldl_keep State.now _ _ _ ?_).trans ?_, (foldl_keep State.eng _ _ _ ?_).trans ?_, (foldl_keep State.slack _ _ _ ?_).trans ?_,
        (foldl_keep State.out _ _ _ ?_).trans ?_, (foldl_keep State.fc _ _ _ ?_).trans ?_, (foldl_keep State.dike _ _ _ ?_).trans ?_,
        (foldl_keep State.tu _ _ _ ?_).trans ?_, (foldl_keep State.twin _ _ _ ?_).trans ?_, (foldl_keep State.ring _ _ _ ?_).trans ?_,
        (foldl_keep State.mb _ _ _ ?_).trans ?_, (foldl_keep State.cp _ _ _ ?_).trans ?_, (foldl_keep State.sl _ _ _ ?_).trans ?_,
        (foldl_keep State.dram _ _ _ ?_).trans ?_, (foldl_keep State.cal _ _ _ ?_).trans ?_, (foldl_keep State.jr _ _ _ ?_).trans ?_,
        (foldl_keep State.feed _ _ _ ?_).trans ?_, (foldl_keep State.br _ _ _ ?_).trans ?_, (foldl_keep State.hem _ _ _ ?_).trans ?_,
        (foldl_keep State.job _ _ _ ?_).trans ?_, (foldl_keep State.bands _ _ _ ?_).trans ?_, (foldl_keep State.cc _ _ _ ?_).trans ?_,
        (foldl_keep State.loom _ _ _ ?_).trans ?_, (foldl_keep State.pol _ _ _ ?_).trans ?_, (foldl_keep State.cf _ _ _ ?_).trans ?_,
        (foldl_keep State.pending _ _ _ ?_).trans ?_, (foldl_keep State.free _ _ _ ?_).trans ?_⟩ <;>
        first | (simp; done) | (intro s x; (try dsimp only); (repeat' split) <;> simp; done))

@[simp] theorem State.deflect_frame (f : FlashRec) (s : State) :
    let u := (State.deflect f s).2
    u.now = s.now ∧ u.eng = s.eng ∧ u.slack = s.slack ∧ u.out = s.out ∧ u.fc = s.fc ∧ u.dike = s.dike ∧ u.tu = s.tu ∧ u.twin = s.twin ∧
    u.ring = s.ring ∧ u.mb = s.mb ∧ u.cp = s.cp ∧ u.sl = s.sl ∧ u.dram = s.dram ∧ u.cal = s.cal ∧ u.jr = s.jr ∧ u.feed = s.feed ∧
    u.br = s.br ∧ u.hem = s.hem ∧ u.job = s.job ∧ u.bands = s.bands ∧ u.cc = s.cc ∧ u.loom = s.loom ∧ u.pol = s.pol ∧ u.cf = s.cf ∧
    u.pending = s.pending ∧ u.free = s.free := by
  simp [State.deflect]

@[simp] theorem State.updSlot_frame (i : ℕ) (f : Slot → Slot) (s : State) :
    let u := State.updSlot i f s
    u.now = s.now ∧ u.eng = s.eng ∧ u.slack = s.slack ∧ u.arb = s.arb ∧ u.out = s.out ∧ u.fc = s.fc ∧ u.dike = s.dike ∧ u.tu = s.tu ∧
    u.twin = s.twin ∧ u.ring = s.ring ∧ u.mb = s.mb ∧ u.cp = s.cp ∧ u.sl = s.sl ∧ u.dram = s.dram ∧ u.cal = s.cal ∧ u.jr = s.jr ∧
    u.feed = s.feed ∧ u.br = s.br ∧ u.hem = s.hem ∧ u.job = s.job ∧ u.bands = s.bands ∧ u.cc = s.cc ∧ u.loom = s.loom ∧ u.pol = s.pol ∧
    u.cf = s.cf ∧ u.pending = s.pending ∧ u.free = s.free := by
  simp [State.updSlot]

@[simp] theorem State.startSlot_frame (i : ℕ) (f : FlashRec) (tn : ℕ) (s : State) :
    let u := State.startSlot i f tn s
    u.now = s.now ∧ u.eng = s.eng ∧ u.slack = s.slack ∧ u.out = s.out ∧ u.fc = s.fc ∧ u.dike = s.dike ∧ u.tu = s.tu ∧ u.twin = s.twin ∧
    u.ring = s.ring ∧ u.mb = s.mb ∧ u.cp = s.cp ∧ u.sl = s.sl ∧ u.dram = s.dram ∧ u.cal = s.cal ∧ u.jr = s.jr ∧ u.feed = s.feed ∧
    u.br = s.br ∧ u.hem = s.hem ∧ u.job = s.job ∧ u.bands = s.bands ∧ u.cc = s.cc ∧ u.loom = s.loom ∧ u.pol = s.pol ∧ u.cf = s.cf ∧
    u.pending = s.pending ∧ u.free = s.free := by
  simp [State.startSlot]

@[simp] theorem State.pumpSlots_frame (s : State) :
    let u := State.pumpSlots s
    u.now = s.now ∧ u.eng = s.eng ∧ u.slack = s.slack ∧ u.out = s.out ∧ u.fc = s.fc ∧ u.dike = s.dike ∧ u.tu = s.tu ∧ u.twin = s.twin ∧
    u.ring = s.ring ∧ u.mb = s.mb ∧ u.cp = s.cp ∧ u.sl = s.sl ∧ u.dram = s.dram ∧ u.cal = s.cal ∧ u.jr = s.jr ∧ u.feed = s.feed ∧
    u.br = s.br ∧ u.hem = s.hem ∧ u.job = s.job ∧ u.bands = s.bands ∧ u.cc = s.cc ∧ u.loom = s.loom ∧ u.pol = s.pol ∧ u.cf = s.cf ∧
    u.pending = s.pending ∧ u.free = s.free := by
  unfold State.pumpSlots
  split <;> simp

@[simp] theorem State.shStats_frame (f : ShStats → ShStats) (s : State) :
    let u := State.shStats f s
    u.now = s.now ∧ u.eng = s.eng ∧ u.slack = s.slack ∧ u.arb = s.arb ∧ u.out = s.out ∧ u.fc = s.fc ∧ u.dike = s.dike ∧ u.tu = s.tu ∧
    u.twin = s.twin ∧ u.ring = s.ring ∧ u.mb = s.mb ∧ u.cp = s.cp ∧ u.sl = s.sl ∧ u.dram = s.dram ∧ u.cal = s.cal ∧ u.jr = s.jr ∧
    u.feed = s.feed ∧ u.br = s.br ∧ u.hem = s.hem ∧ u.job = s.job ∧ u.bands = s.bands ∧ u.cc = s.cc ∧ u.loom = s.loom ∧ u.pol = s.pol ∧
    u.cf = s.cf ∧ u.pending = s.pending ∧ u.free = s.free := by
  simp [State.shStats]

@[simp] theorem State.slotLate_frame (flash : ℕ) (s : State) :
    let u := State.slotLate flash s
    u.now = s.now ∧ u.eng = s.eng ∧ u.slack = s.slack ∧ u.out = s.out ∧ u.fc = s.fc ∧ u.dike = s.dike ∧ u.tu = s.tu ∧ u.twin = s.twin ∧
    u.ring = s.ring ∧ u.mb = s.mb ∧ u.cp = s.cp ∧ u.sl = s.sl ∧ u.dram = s.dram ∧ u.cal = s.cal ∧ u.jr = s.jr ∧ u.feed = s.feed ∧
    u.br = s.br ∧ u.hem = s.hem ∧ u.job = s.job ∧ u.bands = s.bands ∧ u.cc = s.cc ∧ u.loom = s.loom ∧ u.pol = s.pol ∧ u.cf = s.cf ∧
    u.pending = s.pending ∧ u.free = s.free := by
  simp [State.slotLate]

@[simp] theorem State.recordArrives_frame (f : FlashRec) (tn : ℕ) (s : State) :
    let u := State.recordArrives f tn s
    u.now = s.now ∧ u.eng = s.eng ∧ u.slack = s.slack ∧ u.out = s.out ∧ u.fc = s.fc ∧ u.dike = s.dike ∧ u.tu = s.tu ∧ u.twin = s.twin ∧
    u.ring = s.ring ∧ u.mb = s.mb ∧ u.cp = s.cp ∧ u.sl = s.sl ∧ u.dram = s.dram ∧ u.cal = s.cal ∧ u.jr = s.jr ∧ u.feed = s.feed ∧
    u.br = s.br ∧ u.hem = s.hem ∧ u.job = s.job ∧ u.bands = s.bands ∧ u.cc = s.cc ∧ u.loom = s.loom ∧ u.pol = s.pol ∧ u.cf = s.cf ∧
    u.pending = s.pending ∧ u.free = s.free := by
  unfold State.recordArrives
  (repeat' split) <;> simp

@[simp] theorem State.shWithdraw_frame (first : ℕ) (s : State) :
    let u := State.shWithdraw first s
    u.now = s.now ∧ u.eng = s.eng ∧ u.slack = s.slack ∧ u.out = s.out ∧ u.fc = s.fc ∧ u.dike = s.dike ∧ u.tu = s.tu ∧ u.twin = s.twin ∧
    u.ring = s.ring ∧ u.mb = s.mb ∧ u.cp = s.cp ∧ u.sl = s.sl ∧ u.dram = s.dram ∧ u.cal = s.cal ∧ u.jr = s.jr ∧ u.feed = s.feed ∧
    u.br = s.br ∧ u.hem = s.hem ∧ u.job = s.job ∧ u.bands = s.bands ∧ u.cc = s.cc ∧ u.loom = s.loom ∧ u.pol = s.pol ∧ u.cf = s.cf ∧
    u.pending = s.pending ∧ u.free = s.free := by
  simp [State.shWithdraw]

@[simp] theorem State.shClear_frame (s : State) :
    let u := State.shClear s
    u.now = s.now ∧ u.eng = s.eng ∧ u.slack = s.slack ∧ u.arb = s.arb ∧ u.out = s.out ∧ u.fc = s.fc ∧ u.dike = s.dike ∧ u.tu = s.tu ∧
    u.twin = s.twin ∧ u.ring = s.ring ∧ u.mb = s.mb ∧ u.cp = s.cp ∧ u.sl = s.sl ∧ u.dram = s.dram ∧ u.cal = s.cal ∧ u.jr = s.jr ∧
    u.feed = s.feed ∧ u.br = s.br ∧ u.hem = s.hem ∧ u.job = s.job ∧ u.bands = s.bands ∧ u.cc = s.cc ∧ u.loom = s.loom ∧ u.pol = s.pol ∧
    u.cf = s.cf ∧ u.pending = s.pending ∧ u.free = s.free := by
  simp [State.shClear]

@[simp] theorem State.bandData_frame (stripe band : ℕ) (s : State) :
    let u := State.bandData stripe band s
    u.now = s.now ∧ u.eng = s.eng ∧ u.slack = s.slack ∧ u.out = s.out ∧ u.fc = s.fc ∧ u.dike = s.dike ∧ u.tu = s.tu ∧ u.ring = s.ring ∧
    u.mb = s.mb ∧ u.cp = s.cp ∧ u.dram = s.dram ∧ u.cal = s.cal ∧ u.jr = s.jr ∧ u.feed = s.feed ∧ u.br = s.br ∧ u.hem = s.hem ∧
    u.job = s.job ∧ u.cc = s.cc ∧ u.loom = s.loom ∧ u.pol = s.pol ∧ u.sh = s.sh ∧ u.cf = s.cf ∧ u.pending = s.pending ∧ u.free = s.free := by
  unfold State.bandData
  split <;> simp

@[simp] theorem State.polderReads_frame (stripe lead : ℕ) (e : Seen) (s : State) :
    let u := State.polderReads stripe lead e s
    u.now = s.now ∧ u.eng = s.eng ∧ u.slack = s.slack ∧ u.out = s.out ∧ u.fc = s.fc ∧ u.dike = s.dike ∧ u.tu = s.tu ∧ u.ring = s.ring ∧
    u.mb = s.mb ∧ u.cp = s.cp ∧ u.dram = s.dram ∧ u.cal = s.cal ∧ u.jr = s.jr ∧ u.feed = s.feed ∧ u.br = s.br ∧ u.hem = s.hem ∧
    u.job = s.job ∧ u.cc = s.cc ∧ u.loom = s.loom ∧ u.sh = s.sh ∧ u.cf = s.cf ∧ u.pending = s.pending ∧ u.free = s.free ∧
    u.pol.sram = s.pol.sram := by
  unfold State.polderReads
  split <;> simp

@[simp] theorem State.unavailable_frame (stripe flash : ℕ) (bands : List ℕ) (s : State) :
    let u := State.unavailable stripe flash bands s
    u.now = s.now ∧ u.eng = s.eng ∧ u.slack = s.slack ∧ u.out = s.out ∧ u.fc = s.fc ∧ u.dike = s.dike ∧ u.tu = s.tu ∧ u.twin = s.twin ∧
    u.ring = s.ring ∧ u.mb = s.mb ∧ u.cp = s.cp ∧ u.sl = s.sl ∧ u.dram = s.dram ∧ u.cal = s.cal ∧ u.jr = s.jr ∧ u.feed = s.feed ∧
    u.br = s.br ∧ u.hem = s.hem ∧ u.job = s.job ∧ u.cc = s.cc ∧ u.loom = s.loom ∧ u.pol = s.pol ∧ u.sh = s.sh ∧ u.cf = s.cf ∧
    u.pending = s.pending ∧ u.free = s.free := by
  simp [State.unavailable]

@[simp] theorem State.slotComplete_frame (i w : ℕ) (f : FlashRec) (st : Stripe) (k : LaneWork) (s : State) :
    let u := State.slotComplete i w f st k s
    u.now = s.now ∧ u.eng = s.eng ∧ u.out = s.out ∧ u.fc = s.fc ∧ u.dike = s.dike ∧ u.tu = s.tu ∧ u.ring = s.ring ∧ u.mb = s.mb ∧
    u.cp = s.cp ∧ u.dram = s.dram ∧ u.cal = s.cal ∧ u.jr = s.jr ∧ u.feed = s.feed ∧ u.br = s.br ∧ u.hem = s.hem ∧ u.job = s.job ∧
    u.cc = s.cc ∧ u.loom = s.loom ∧ u.cf = s.cf ∧ u.pending = s.pending ∧ u.free = s.free ∧ u.pol.sram = s.pol.sram := by
  simp [State.slotComplete]

@[simp] theorem State.lanesDone_frame (flash w : ℕ) (pixelUpset tableUpset : List (ℕ × ℕ)) (s : State) :
    let u := State.lanesDone flash w pixelUpset tableUpset s
    u.now = s.now ∧ u.eng = s.eng ∧ u.out = s.out ∧ u.fc = s.fc ∧ u.dike = s.dike ∧ u.tu = s.tu ∧ u.ring = s.ring ∧ u.mb = s.mb ∧
    u.cp = s.cp ∧ u.dram = s.dram ∧ u.cal = s.cal ∧ u.jr = s.jr ∧ u.feed = s.feed ∧ u.br = s.br ∧ u.hem = s.hem ∧ u.job = s.job ∧
    u.cc = s.cc ∧ u.loom = s.loom ∧ u.cf = s.cf ∧ u.pending = s.pending ∧ u.free = s.free ∧ u.pol.sram = s.pol.sram := by
  unfold State.lanesDone
  dsimp only
  (repeat' split) <;> simp

/-! ## Line.lean -/



/-! ## Cuff.lean -/

@[simp] theorem State.updCf_frame (f : Cuff → Cuff) (s : State) :
    let u := State.updCf f s
    u.now = s.now ∧ u.eng = s.eng ∧ u.slack = s.slack ∧ u.arb = s.arb ∧ u.out = s.out ∧ u.fc = s.fc ∧ u.dike = s.dike ∧ u.tu = s.tu ∧
    u.twin = s.twin ∧ u.ring = s.ring ∧ u.mb = s.mb ∧ u.cp = s.cp ∧ u.sl = s.sl ∧ u.dram = s.dram ∧ u.cal = s.cal ∧ u.jr = s.jr ∧
    u.feed = s.feed ∧ u.br = s.br ∧ u.hem = s.hem ∧ u.job = s.job ∧ u.bands = s.bands ∧ u.cc = s.cc ∧ u.loom = s.loom ∧ u.pol = s.pol ∧
    u.sh = s.sh ∧ u.pending = s.pending ∧ u.free = s.free := by
  simp [State.updCf]

@[simp] theorem State.cuffStats_frame (f : CuffStats → CuffStats) (s : State) :
    let u := State.cuffStats f s
    u.now = s.now ∧ u.eng = s.eng ∧ u.slack = s.slack ∧ u.arb = s.arb ∧ u.out = s.out ∧ u.fc = s.fc ∧ u.dike = s.dike ∧ u.tu = s.tu ∧
    u.twin = s.twin ∧ u.ring = s.ring ∧ u.mb = s.mb ∧ u.cp = s.cp ∧ u.sl = s.sl ∧ u.dram = s.dram ∧ u.cal = s.cal ∧ u.jr = s.jr ∧
    u.feed = s.feed ∧ u.br = s.br ∧ u.hem = s.hem ∧ u.job = s.job ∧ u.bands = s.bands ∧ u.cc = s.cc ∧ u.loom = s.loom ∧ u.pol = s.pol ∧
    u.sh = s.sh ∧ u.pending = s.pending ∧ u.free = s.free := by
  simp [State.cuffStats]

@[simp] theorem State.sendFrame_frame (phys : ℕ) (bytes : List Byte) (s : State) :
    let u := State.sendFrame phys bytes s
    u.now = s.now ∧ u.eng = s.eng ∧ u.slack = s.slack ∧ u.arb = s.arb ∧ u.fc = s.fc ∧ u.dike = s.dike ∧ u.tu = s.tu ∧ u.twin = s.twin ∧
    u.ring = s.ring ∧ u.mb = s.mb ∧ u.cp = s.cp ∧ u.sl = s.sl ∧ u.dram = s.dram ∧ u.cal = s.cal ∧ u.jr = s.jr ∧ u.feed = s.feed ∧
    u.br = s.br ∧ u.hem = s.hem ∧ u.job = s.job ∧ u.bands = s.bands ∧ u.cc = s.cc ∧ u.loom = s.loom ∧ u.pol = s.pol ∧ u.sh = s.sh ∧
    u.pending = s.pending ∧ u.free = s.free := by
  simp [State.sendFrame]

@[simp] theorem State.sendControl_frame (phys kind epoch seq stripe band flags : ℕ) (tail : List Byte) (s : State) :
    let u := State.sendControl phys kind epoch seq stripe band flags tail s
    u.now = s.now ∧ u.eng = s.eng ∧ u.slack = s.slack ∧ u.arb = s.arb ∧ u.dike = s.dike ∧ u.tu = s.tu ∧ u.twin = s.twin ∧ u.ring = s.ring ∧
    u.mb = s.mb ∧ u.cp = s.cp ∧ u.sl = s.sl ∧ u.dram = s.dram ∧ u.cal = s.cal ∧ u.jr = s.jr ∧ u.feed = s.feed ∧ u.br = s.br ∧
    u.hem = s.hem ∧ u.job = s.job ∧ u.bands = s.bands ∧ u.cc = s.cc ∧ u.loom = s.loom ∧ u.pol = s.pol ∧ u.sh = s.sh ∧
    u.pending = s.pending ∧ u.free = s.free := by
  simp [State.sendControl]

@[simp] theorem State.frameBytes_frame (f : FlashFrames) (l : ℕ) (void : Bool) (cause : ℕ) (s : State) :
    let u := (State.frameBytes f l void cause s).2
    u.now = s.now ∧ u.eng = s.eng ∧ u.slack = s.slack ∧ u.arb = s.arb ∧ u.out = s.out ∧ u.dike = s.dike ∧ u.tu = s.tu ∧ u.twin = s.twin ∧
    u.ring = s.ring ∧ u.mb = s.mb ∧ u.cp = s.cp ∧ u.sl = s.sl ∧ u.dram = s.dram ∧ u.cal = s.cal ∧ u.jr = s.jr ∧ u.feed = s.feed ∧
    u.br = s.br ∧ u.hem = s.hem ∧ u.job = s.job ∧ u.bands = s.bands ∧ u.cc = s.cc ∧ u.loom = s.loom ∧ u.pol = s.pol ∧ u.sh = s.sh ∧
    u.cf = s.cf ∧ u.pending = s.pending ∧ u.free = s.free := by
  simp [State.frameBytes]

@[simp] theorem State.digestArrives_frame (d : Dig) (s : State) :
    let u := State.digestArrives d s
    u.now = s.now ∧ u.eng = s.eng ∧ u.slack = s.slack ∧ u.out = s.out ∧ u.fc = s.fc ∧ u.dike = s.dike ∧ u.tu = s.tu ∧ u.ring = s.ring ∧
    u.mb = s.mb ∧ u.cp = s.cp ∧ u.sl = s.sl ∧ u.dram = s.dram ∧ u.cal = s.cal ∧ u.jr = s.jr ∧ u.feed = s.feed ∧ u.br = s.br ∧
    u.hem = s.hem ∧ u.job = s.job ∧ u.bands = s.bands ∧ u.cc = s.cc ∧ u.loom = s.loom ∧ u.pol = s.pol ∧ u.sh = s.sh ∧ u.cf = s.cf ∧
    u.pending = s.pending ∧ u.free = s.free := by
  unfold State.digestArrives
  split <;> simp

@[simp] theorem State.sendDigest_frame (f : FlashFrames) (void : Bool) (s : State) :
    let u := State.sendDigest f void s
    u.now = s.now ∧ u.eng = s.eng ∧ u.slack = s.slack ∧ u.out = s.out ∧ u.dike = s.dike ∧ u.tu = s.tu ∧ u.ring = s.ring ∧ u.mb = s.mb ∧
    u.cp = s.cp ∧ u.sl = s.sl ∧ u.dram = s.dram ∧ u.cal = s.cal ∧ u.jr = s.jr ∧ u.feed = s.feed ∧ u.br = s.br ∧ u.hem = s.hem ∧
    u.job = s.job ∧ u.bands = s.bands ∧ u.cc = s.cc ∧ u.loom = s.loom ∧ u.pol = s.pol ∧ u.sh = s.sh ∧ u.cf = s.cf ∧ u.pending = s.pending ∧
    u.free = s.free := by
  simp [State.sendDigest]

@[simp] theorem State.doseClamp_frame (codes : List (List ℕ)) (s : State) :
    let u := (State.doseClamp codes s).2
    u.now = s.now ∧ u.eng = s.eng ∧ u.slack = s.slack ∧ u.out = s.out ∧ u.fc = s.fc ∧ u.tu = s.tu ∧ u.twin = s.twin ∧ u.ring = s.ring ∧
    u.mb = s.mb ∧ u.cp = s.cp ∧ u.sl = s.sl ∧ u.dram = s.dram ∧ u.cal = s.cal ∧ u.jr = s.jr ∧ u.feed = s.feed ∧ u.br = s.br ∧
    u.hem = s.hem ∧ u.job = s.job ∧ u.bands = s.bands ∧ u.cc = s.cc ∧ u.loom = s.loom ∧ u.pol = s.pol ∧ u.sh = s.sh ∧ u.cf = s.cf ∧
    u.pending = s.pending ∧ u.free = s.free := by
  simp [State.doseClamp]

@[simp] theorem State.takeSlot_frame (i : ℕ) (s : State) :
    let u := State.takeSlot i s
    u.now = s.now ∧ u.eng = s.eng ∧ u.slack = s.slack ∧ u.out = s.out ∧ u.fc = s.fc ∧ u.tu = s.tu ∧ u.twin = s.twin ∧ u.ring = s.ring ∧
    u.mb = s.mb ∧ u.cp = s.cp ∧ u.sl = s.sl ∧ u.dram = s.dram ∧ u.cal = s.cal ∧ u.jr = s.jr ∧ u.feed = s.feed ∧ u.br = s.br ∧
    u.hem = s.hem ∧ u.job = s.job ∧ u.bands = s.bands ∧ u.cc = s.cc ∧ u.loom = s.loom ∧ u.pending = s.pending ∧ u.free = s.free ∧
    u.pol.sram = s.pol.sram := by
  unfold State.takeSlot
  dsimp only
  (repeat' split) <;> simp

@[simp] theorem State.takeSlots_frame (x0 : ℕ) (s : State) :
    let u := State.takeSlots x0 s
    u.now = s.now ∧ u.eng = s.eng ∧ u.slack = s.slack ∧ u.out = s.out ∧ u.fc = s.fc ∧ u.tu = s.tu ∧ u.twin = s.twin ∧ u.ring = s.ring ∧
    u.mb = s.mb ∧ u.cp = s.cp ∧ u.sl = s.sl ∧ u.dram = s.dram ∧ u.cal = s.cal ∧ u.jr = s.jr ∧ u.feed = s.feed ∧ u.br = s.br ∧
    u.hem = s.hem ∧ u.job = s.job ∧ u.bands = s.bands ∧ u.cc = s.cc ∧ u.loom = s.loom ∧ u.pending = s.pending ∧ u.free = s.free ∧
    u.pol.sram = s.pol.sram := by
  induction x0 generalizing s with
  | zero => simp [State.takeSlots]
  | succ n ih =>
    unfold State.takeSlots
    dsimp only
    (repeat' split) <;> first
      | (simp [ih]; done)
      | (rename_i h; have h := congrArg Prod.snd h; dsimp only at h; subst h; simp [ih]; done)

@[simp] theorem State.captureFrame_frame (l flash : ℕ) (bytes : List Byte) (s : State) :
    let u := State.captureFrame l flash bytes s
    u.now = s.now ∧ u.eng = s.eng ∧ u.slack = s.slack ∧ u.arb = s.arb ∧ u.out = s.out ∧ u.fc = s.fc ∧ u.dike = s.dike ∧ u.tu = s.tu ∧
    u.twin = s.twin ∧ u.ring = s.ring ∧ u.mb = s.mb ∧ u.sl = s.sl ∧ u.dram = s.dram ∧ u.cal = s.cal ∧ u.jr = s.jr ∧ u.feed = s.feed ∧
    u.br = s.br ∧ u.hem = s.hem ∧ u.job = s.job ∧ u.bands = s.bands ∧ u.cc = s.cc ∧ u.loom = s.loom ∧ u.pol = s.pol ∧ u.sh = s.sh ∧
    u.cf = s.cf ∧ u.pending = s.pending ∧ u.free = s.free := by
  simp [State.captureFrame]

@[simp] theorem State.beginFrame_frame (f : FlashFrames) (l phys : ℕ) (void : Bool) (cause : ℕ) (s : State) :
    let u := State.beginFrame f l phys void cause s
    u.now = s.now ∧ u.eng = s.eng ∧ u.slack = s.slack ∧ u.arb = s.arb ∧ u.dike = s.dike ∧ u.tu = s.tu ∧ u.twin = s.twin ∧ u.ring = s.ring ∧
    u.mb = s.mb ∧ u.sl = s.sl ∧ u.dram = s.dram ∧ u.cal = s.cal ∧ u.jr = s.jr ∧ u.feed = s.feed ∧ u.br = s.br ∧ u.hem = s.hem ∧
    u.job = s.job ∧ u.bands = s.bands ∧ u.cc = s.cc ∧ u.loom = s.loom ∧ u.pol = s.pol ∧ u.sh = s.sh ∧ u.pending = s.pending ∧
    u.free = s.free := by
  simp [State.beginFrame]

@[simp] theorem State.pruneFrames_frame (s : State) :
    let u := State.pruneFrames s
    u.now = s.now ∧ u.eng = s.eng ∧ u.slack = s.slack ∧ u.out = s.out ∧ u.fc = s.fc ∧ u.tu = s.tu ∧ u.twin = s.twin ∧ u.ring = s.ring ∧
    u.mb = s.mb ∧ u.cp = s.cp ∧ u.sl = s.sl ∧ u.dram = s.dram ∧ u.cal = s.cal ∧ u.jr = s.jr ∧ u.feed = s.feed ∧ u.br = s.br ∧
    u.hem = s.hem ∧ u.job = s.job ∧ u.bands = s.bands ∧ u.cc = s.cc ∧ u.loom = s.loom ∧ u.pending = s.pending ∧ u.free = s.free ∧
    u.pol.sram = s.pol.sram := by
  simp [State.pruneFrames]

@[simp] theorem State.beginLane_frame (fr : FlashFrames) (void : Bool) (cause : ℕ) (s : State) (l : ℕ) :
    let u := State.beginLane fr void cause s l
    u.now = s.now ∧ u.eng = s.eng ∧ u.slack = s.slack ∧ u.arb = s.arb ∧ u.dike = s.dike ∧ u.tu = s.tu ∧ u.twin = s.twin ∧ u.ring = s.ring ∧
    u.mb = s.mb ∧ u.sl = s.sl ∧ u.dram = s.dram ∧ u.cal = s.cal ∧ u.jr = s.jr ∧ u.feed = s.feed ∧ u.br = s.br ∧ u.hem = s.hem ∧
    u.job = s.job ∧ u.bands = s.bands ∧ u.cc = s.cc ∧ u.loom = s.loom ∧ u.pol = s.pol ∧ u.sh = s.sh ∧ u.pending = s.pending ∧
    u.free = s.free := by
  unfold State.beginLane
  split <;> simp

@[simp] theorem State.lateFrames_frame (f : FlashRec) (tn : ℕ) (s : State) :
    let u := State.lateFrames f tn s
    u.now = s.now ∧ u.eng = s.eng ∧ u.slack = s.slack ∧ u.tu = s.tu ∧ u.ring = s.ring ∧ u.mb = s.mb ∧ u.sl = s.sl ∧ u.dram = s.dram ∧
    u.cal = s.cal ∧ u.jr = s.jr ∧ u.feed = s.feed ∧ u.br = s.br ∧ u.hem = s.hem ∧ u.job = s.job ∧ u.bands = s.bands ∧ u.cc = s.cc ∧
    u.loom = s.loom ∧ u.pending = s.pending ∧ u.free = s.free ∧ u.pol.sram = s.pol.sram := by
  unfold State.lateFrames
  dsimp only
  (repeat' split) <;> first
    | (simp; done)
    | (refine ⟨(foldl_keep State.now _ _ _ ?_).trans ?_, (foldl_keep State.eng _ _ _ ?_).trans ?_, (foldl_keep State.slack _ _ _ ?_).trans ?_,
        (foldl_keep State.tu _ _ _ ?_).trans ?_, (foldl_keep State.ring _ _ _ ?_).trans ?_, (foldl_keep State.mb _ _ _ ?_).trans ?_,
        (foldl_keep State.sl _ _ _ ?_).trans ?_, (foldl_keep State.dram _ _ _ ?_).trans ?_, (foldl_keep State.cal _ _ _ ?_).trans ?_,
        (foldl_keep State.jr _ _ _ ?_).trans ?_, (foldl_keep State.feed _ _ _ ?_).trans ?_, (foldl_keep State.br _ _ _ ?_).trans ?_,
        (foldl_keep State.hem _ _ _ ?_).trans ?_, (foldl_keep State.job _ _ _ ?_).trans ?_, (foldl_keep State.bands _ _ _ ?_).trans ?_,
        (foldl_keep State.cc _ _ _ ?_).trans ?_, (foldl_keep State.loom _ _ _ ?_).trans ?_, (foldl_keep State.pending _ _ _ ?_).trans ?_,
        (foldl_keep State.free _ _ _ ?_).trans ?_, (foldl_keep (fun s : State => s.pol.sram) _ _ _ ?_).trans ?_⟩ <;>
        first | (simp; done) | (intro s x; (try dsimp only); (repeat' split) <;> simp; done))

@[simp] theorem State.dueFrames_frame (f : FlashFrames) (s : State) :
    let u := State.dueFrames f s
    u.now = s.now ∧ u.eng = s.eng ∧ u.slack = s.slack ∧ u.dike = s.dike ∧ u.tu = s.tu ∧ u.ring = s.ring ∧ u.mb = s.mb ∧ u.sl = s.sl ∧
    u.dram = s.dram ∧ u.cal = s.cal ∧ u.jr = s.jr ∧ u.feed = s.feed ∧ u.br = s.br ∧ u.hem = s.hem ∧ u.job = s.job ∧ u.bands = s.bands ∧
    u.cc = s.cc ∧ u.loom = s.loom ∧ u.pol = s.pol ∧ u.sh = s.sh ∧ u.pending = s.pending ∧ u.free = s.free := by
  unfold State.dueFrames
  dsimp only
  (repeat' split) <;> first
    | (simp; done)
    | (refine ⟨(foldl_keep State.now _ _ _ ?_).trans ?_, (foldl_keep State.eng _ _ _ ?_).trans ?_, (foldl_keep State.slack _ _ _ ?_).trans ?_,
        (foldl_keep State.dike _ _ _ ?_).trans ?_, (foldl_keep State.tu _ _ _ ?_).trans ?_, (foldl_keep State.ring _ _ _ ?_).trans ?_,
        (foldl_keep State.mb _ _ _ ?_).trans ?_, (foldl_keep State.sl _ _ _ ?_).trans ?_, (foldl_keep State.dram _ _ _ ?_).trans ?_,
        (foldl_keep State.cal _ _ _ ?_).trans ?_, (foldl_keep State.jr _ _ _ ?_).trans ?_, (foldl_keep State.feed _ _ _ ?_).trans ?_,
        (foldl_keep State.br _ _ _ ?_).trans ?_, (foldl_keep State.hem _ _ _ ?_).trans ?_, (foldl_keep State.job _ _ _ ?_).trans ?_,
        (foldl_keep State.bands _ _ _ ?_).trans ?_, (foldl_keep State.cc _ _ _ ?_).trans ?_, (foldl_keep State.loom _ _ _ ?_).trans ?_,
        (foldl_keep State.pol _ _ _ ?_).trans ?_, (foldl_keep State.sh _ _ _ ?_).trans ?_, (foldl_keep State.pending _ _ _ ?_).trans ?_,
        (foldl_keep State.free _ _ _ ?_).trans ?_⟩ <;>
        first | (simp; done) | (intro s x; (try dsimp only); (repeat' split) <;> simp; done))

@[simp] theorem State.slotDue_frame (flash : ℕ) (s : State) :
    let u := State.slotDue flash s
    u.now = s.now ∧ u.eng = s.eng ∧ u.slack = s.slack ∧ u.tu = s.tu ∧ u.ring = s.ring ∧ u.mb = s.mb ∧ u.sl = s.sl ∧ u.dram = s.dram ∧
    u.cal = s.cal ∧ u.jr = s.jr ∧ u.feed = s.feed ∧ u.br = s.br ∧ u.hem = s.hem ∧ u.job = s.job ∧ u.bands = s.bands ∧ u.cc = s.cc ∧
    u.loom = s.loom ∧ u.pending = s.pending ∧ u.free = s.free ∧ u.pol.sram = s.pol.sram := by
  unfold State.slotDue
  dsimp only
  (repeat' split) <;> simp

@[simp] theorem State.frameDue_frame (flash : ℕ) (s : State) :
    let u := State.frameDue flash s
    u.now = s.now ∧ u.eng = s.eng ∧ u.slack = s.slack ∧ u.tu = s.tu ∧ u.ring = s.ring ∧ u.mb = s.mb ∧ u.sl = s.sl ∧ u.dram = s.dram ∧
    u.cal = s.cal ∧ u.jr = s.jr ∧ u.feed = s.feed ∧ u.br = s.br ∧ u.hem = s.hem ∧ u.job = s.job ∧ u.bands = s.bands ∧ u.cc = s.cc ∧
    u.loom = s.loom ∧ u.pending = s.pending ∧ u.free = s.free ∧ u.pol.sram = s.pol.sram := by
  unfold State.frameDue
  (repeat' split) <;> simp

@[simp] theorem State.beginNext_frame (s : State) (lane : ℕ) :
    let u := State.beginNext s lane
    u.now = s.now ∧ u.eng = s.eng ∧ u.slack = s.slack ∧ u.arb = s.arb ∧ u.dike = s.dike ∧ u.tu = s.tu ∧ u.twin = s.twin ∧ u.ring = s.ring ∧
    u.mb = s.mb ∧ u.sl = s.sl ∧ u.dram = s.dram ∧ u.cal = s.cal ∧ u.jr = s.jr ∧ u.feed = s.feed ∧ u.br = s.br ∧ u.hem = s.hem ∧
    u.job = s.job ∧ u.bands = s.bands ∧ u.cc = s.cc ∧ u.loom = s.loom ∧ u.pol = s.pol ∧ u.sh = s.sh ∧ u.pending = s.pending ∧
    u.free = s.free := by
  unfold State.beginNext
  split <;> simp

@[simp] theorem State.cuffWithdraw_frame (first : ℕ) (s : State) :
    let u := State.cuffWithdraw first s
    u.now = s.now ∧ u.eng = s.eng ∧ u.slack = s.slack ∧ u.tu = s.tu ∧ u.twin = s.twin ∧ u.ring = s.ring ∧ u.mb = s.mb ∧ u.cp = s.cp ∧
    u.sl = s.sl ∧ u.dram = s.dram ∧ u.cal = s.cal ∧ u.jr = s.jr ∧ u.feed = s.feed ∧ u.br = s.br ∧ u.hem = s.hem ∧ u.job = s.job ∧
    u.bands = s.bands ∧ u.cc = s.cc ∧ u.loom = s.loom ∧ u.pending = s.pending ∧ u.free = s.free ∧ u.pol.sram = s.pol.sram := by
  simp [State.cuffWithdraw]

@[simp] theorem State.sendStatus_frame (s : State) :
    let u := State.sendStatus s
    u.now = s.now ∧ u.eng = s.eng ∧ u.slack = s.slack ∧ u.arb = s.arb ∧ u.dike = s.dike ∧ u.tu = s.tu ∧ u.twin = s.twin ∧ u.ring = s.ring ∧
    u.mb = s.mb ∧ u.cp = s.cp ∧ u.sl = s.sl ∧ u.dram = s.dram ∧ u.cal = s.cal ∧ u.jr = s.jr ∧ u.feed = s.feed ∧ u.br = s.br ∧
    u.hem = s.hem ∧ u.job = s.job ∧ u.bands = s.bands ∧ u.cc = s.cc ∧ u.loom = s.loom ∧ u.pol = s.pol ∧ u.sh = s.sh ∧
    u.pending = s.pending ∧ u.free = s.free := by
  simp [State.sendStatus]

@[simp] theorem State.cuffStatus_frame (s : State) :
    let u := State.cuffStatus s
    u.now = s.now ∧ u.eng = s.eng ∧ u.slack = s.slack ∧ u.arb = s.arb ∧ u.dike = s.dike ∧ u.tu = s.tu ∧ u.twin = s.twin ∧ u.ring = s.ring ∧
    u.mb = s.mb ∧ u.cp = s.cp ∧ u.sl = s.sl ∧ u.dram = s.dram ∧ u.cal = s.cal ∧ u.jr = s.jr ∧ u.feed = s.feed ∧ u.br = s.br ∧
    u.hem = s.hem ∧ u.job = s.job ∧ u.bands = s.bands ∧ u.cc = s.cc ∧ u.loom = s.loom ∧ u.pol = s.pol ∧ u.sh = s.sh ∧
    u.pending = s.pending ∧ u.free = s.free := by
  simp [State.cuffStatus]

@[simp] theorem State.setLane_frame (k : ℕ) (st : LaneState) (s : State) :
    let u := State.setLane k st s
    u.now = s.now ∧ u.eng = s.eng ∧ u.slack = s.slack ∧ u.arb = s.arb ∧ u.out = s.out ∧ u.fc = s.fc ∧ u.dike = s.dike ∧ u.tu = s.tu ∧
    u.twin = s.twin ∧ u.ring = s.ring ∧ u.mb = s.mb ∧ u.cp = s.cp ∧ u.sl = s.sl ∧ u.dram = s.dram ∧ u.cal = s.cal ∧ u.jr = s.jr ∧
    u.feed = s.feed ∧ u.br = s.br ∧ u.hem = s.hem ∧ u.job = s.job ∧ u.bands = s.bands ∧ u.cc = s.cc ∧ u.loom = s.loom ∧ u.pol = s.pol ∧
    u.sh = s.sh ∧ u.pending = s.pending ∧ u.free = s.free := by
  simp [State.setLane]

@[simp] theorem State.trainLane_frame (k : ℕ) (s : State) :
    let u := State.trainLane k s
    u.now = s.now ∧ u.eng = s.eng ∧ u.slack = s.slack ∧ u.arb = s.arb ∧ u.out = s.out ∧ u.fc = s.fc ∧ u.dike = s.dike ∧ u.tu = s.tu ∧
    u.twin = s.twin ∧ u.ring = s.ring ∧ u.mb = s.mb ∧ u.cp = s.cp ∧ u.sl = s.sl ∧ u.dram = s.dram ∧ u.cal = s.cal ∧ u.jr = s.jr ∧
    u.feed = s.feed ∧ u.br = s.br ∧ u.hem = s.hem ∧ u.job = s.job ∧ u.bands = s.bands ∧ u.cc = s.cc ∧ u.loom = s.loom ∧ u.pol = s.pol ∧
    u.sh = s.sh ∧ u.pending = s.pending ∧ u.free = s.free := by
  simp [State.trainLane]

@[simp] theorem State.alignLane_frame (k : ℕ) (s : State) :
    let u := State.alignLane k s
    u.now = s.now ∧ u.eng = s.eng ∧ u.slack = s.slack ∧ u.arb = s.arb ∧ u.out = s.out ∧ u.fc = s.fc ∧ u.dike = s.dike ∧ u.tu = s.tu ∧
    u.twin = s.twin ∧ u.ring = s.ring ∧ u.mb = s.mb ∧ u.cp = s.cp ∧ u.sl = s.sl ∧ u.dram = s.dram ∧ u.cal = s.cal ∧ u.jr = s.jr ∧
    u.feed = s.feed ∧ u.br = s.br ∧ u.hem = s.hem ∧ u.job = s.job ∧ u.bands = s.bands ∧ u.cc = s.cc ∧ u.loom = s.loom ∧ u.pol = s.pol ∧
    u.sh = s.sh ∧ u.pending = s.pending ∧ u.free = s.free := by
  simp [State.alignLane]

@[simp] theorem State.lostLane_frame (k : ℕ) (s : State) :
    let u := State.lostLane k s
    u.now = s.now ∧ u.eng = s.eng ∧ u.slack = s.slack ∧ u.arb = s.arb ∧ u.out = s.out ∧ u.fc = s.fc ∧ u.dike = s.dike ∧ u.tu = s.tu ∧
    u.twin = s.twin ∧ u.ring = s.ring ∧ u.mb = s.mb ∧ u.cp = s.cp ∧ u.sl = s.sl ∧ u.dram = s.dram ∧ u.cal = s.cal ∧ u.jr = s.jr ∧
    u.feed = s.feed ∧ u.br = s.br ∧ u.hem = s.hem ∧ u.job = s.job ∧ u.bands = s.bands ∧ u.cc = s.cc ∧ u.loom = s.loom ∧ u.pol = s.pol ∧
    u.sh = s.sh ∧ u.pending = s.pending ∧ u.free = s.free := by
  simp [State.lostLane]

@[simp] theorem State.trainOff_frame (s : State) :
    let u := State.trainOff s
    u.now = s.now ∧ u.eng = s.eng ∧ u.slack = s.slack ∧ u.arb = s.arb ∧ u.out = s.out ∧ u.fc = s.fc ∧ u.dike = s.dike ∧ u.tu = s.tu ∧
    u.twin = s.twin ∧ u.ring = s.ring ∧ u.mb = s.mb ∧ u.cp = s.cp ∧ u.sl = s.sl ∧ u.dram = s.dram ∧ u.cal = s.cal ∧ u.jr = s.jr ∧
    u.feed = s.feed ∧ u.br = s.br ∧ u.hem = s.hem ∧ u.job = s.job ∧ u.bands = s.bands ∧ u.cc = s.cc ∧ u.loom = s.loom ∧ u.pol = s.pol ∧
    u.sh = s.sh ∧ u.pending = s.pending ∧ u.free = s.free := by
  simp [State.trainOff]

@[simp] theorem State.lanesOff_frame (s : State) :
    let u := State.lanesOff s
    u.now = s.now ∧ u.eng = s.eng ∧ u.slack = s.slack ∧ u.arb = s.arb ∧ u.out = s.out ∧ u.fc = s.fc ∧ u.dike = s.dike ∧ u.tu = s.tu ∧
    u.twin = s.twin ∧ u.ring = s.ring ∧ u.mb = s.mb ∧ u.cp = s.cp ∧ u.sl = s.sl ∧ u.dram = s.dram ∧ u.cal = s.cal ∧ u.jr = s.jr ∧
    u.feed = s.feed ∧ u.br = s.br ∧ u.hem = s.hem ∧ u.job = s.job ∧ u.bands = s.bands ∧ u.cc = s.cc ∧ u.loom = s.loom ∧ u.pol = s.pol ∧
    u.sh = s.sh ∧ u.pending = s.pending ∧ u.free = s.free := by
  simp [State.lanesOff]

@[simp] theorem State.restoreMap_frame (s : State) :
    let u := State.restoreMap s
    u.now = s.now ∧ u.eng = s.eng ∧ u.slack = s.slack ∧ u.arb = s.arb ∧ u.out = s.out ∧ u.fc = s.fc ∧ u.dike = s.dike ∧ u.tu = s.tu ∧
    u.twin = s.twin ∧ u.ring = s.ring ∧ u.mb = s.mb ∧ u.cp = s.cp ∧ u.sl = s.sl ∧ u.dram = s.dram ∧ u.cal = s.cal ∧ u.jr = s.jr ∧
    u.feed = s.feed ∧ u.br = s.br ∧ u.hem = s.hem ∧ u.job = s.job ∧ u.bands = s.bands ∧ u.cc = s.cc ∧ u.loom = s.loom ∧ u.pol = s.pol ∧
    u.sh = s.sh ∧ u.pending = s.pending ∧ u.free = s.free := by
  simp [State.restoreMap]

@[simp] theorem State.loseLane_frame (k : ℕ) (s : State) :
    let u := State.loseLane k s
    u.now = s.now ∧ u.eng = s.eng ∧ u.slack = s.slack ∧ u.dike = s.dike ∧ u.tu = s.tu ∧ u.twin = s.twin ∧ u.ring = s.ring ∧ u.mb = s.mb ∧
    u.cp = s.cp ∧ u.sl = s.sl ∧ u.dram = s.dram ∧ u.cal = s.cal ∧ u.jr = s.jr ∧ u.feed = s.feed ∧ u.br = s.br ∧ u.hem = s.hem ∧
    u.job = s.job ∧ u.bands = s.bands ∧ u.cc = s.cc ∧ u.loom = s.loom ∧ u.pol = s.pol ∧ u.sh = s.sh ∧ u.pending = s.pending ∧
    u.free = s.free := by
  unfold State.loseLane
  dsimp only
  (repeat' split) <;> simp

@[simp] theorem State.laneBit_frame (lock trained : BitVec 72) (s : State) (k : ℕ) :
    let u := State.laneBit lock trained s k
    u.now = s.now ∧ u.eng = s.eng ∧ u.slack = s.slack ∧ u.dike = s.dike ∧ u.tu = s.tu ∧ u.twin = s.twin ∧ u.ring = s.ring ∧ u.mb = s.mb ∧
    u.cp = s.cp ∧ u.sl = s.sl ∧ u.dram = s.dram ∧ u.cal = s.cal ∧ u.jr = s.jr ∧ u.feed = s.feed ∧ u.br = s.br ∧ u.hem = s.hem ∧
    u.job = s.job ∧ u.bands = s.bands ∧ u.cc = s.cc ∧ u.loom = s.loom ∧ u.pol = s.pol ∧ u.sh = s.sh ∧ u.pending = s.pending ∧
    u.free = s.free := by
  unfold State.laneBit
  split <;> simp

@[simp] theorem State.laneBits_frame (lock trained : BitVec 72) (s : State) :
    let u := State.laneBits lock trained s
    u.now = s.now ∧ u.eng = s.eng ∧ u.slack = s.slack ∧ u.dike = s.dike ∧ u.tu = s.tu ∧ u.twin = s.twin ∧ u.ring = s.ring ∧ u.mb = s.mb ∧
    u.cp = s.cp ∧ u.sl = s.sl ∧ u.dram = s.dram ∧ u.cal = s.cal ∧ u.jr = s.jr ∧ u.feed = s.feed ∧ u.br = s.br ∧ u.hem = s.hem ∧
    u.job = s.job ∧ u.bands = s.bands ∧ u.cc = s.cc ∧ u.loom = s.loom ∧ u.pol = s.pol ∧ u.sh = s.sh ∧ u.pending = s.pending ∧
    u.free = s.free := by
  unfold State.laneBits
  dsimp only
  (repeat' split) <;> first
    | (simp; done)
    | (refine ⟨(foldl_keep State.now _ _ _ ?_).trans ?_, (foldl_keep State.eng _ _ _ ?_).trans ?_, (foldl_keep State.slack _ _ _ ?_).trans ?_,
        (foldl_keep State.dike _ _ _ ?_).trans ?_, (foldl_keep State.tu _ _ _ ?_).trans ?_, (foldl_keep State.twin _ _ _ ?_).trans ?_,
        (foldl_keep State.ring _ _ _ ?_).trans ?_, (foldl_keep State.mb _ _ _ ?_).trans ?_, (foldl_keep State.cp _ _ _ ?_).trans ?_,
        (foldl_keep State.sl _ _ _ ?_).trans ?_, (foldl_keep State.dram _ _ _ ?_).trans ?_, (foldl_keep State.cal _ _ _ ?_).trans ?_,
        (foldl_keep State.jr _ _ _ ?_).trans ?_, (foldl_keep State.feed _ _ _ ?_).trans ?_, (foldl_keep State.br _ _ _ ?_).trans ?_,
        (foldl_keep State.hem _ _ _ ?_).trans ?_, (foldl_keep State.job _ _ _ ?_).trans ?_, (foldl_keep State.bands _ _ _ ?_).trans ?_,
        (foldl_keep State.cc _ _ _ ?_).trans ?_, (foldl_keep State.loom _ _ _ ?_).trans ?_, (foldl_keep State.pol _ _ _ ?_).trans ?_,
        (foldl_keep State.sh _ _ _ ?_).trans ?_, (foldl_keep State.pending _ _ _ ?_).trans ?_, (foldl_keep State.free _ _ _ ?_).trans ?_⟩ <;>
        first | (simp; done) | (intro s x; (try dsimp only); (repeat' split) <;> simp; done))

@[simp] theorem State.updRet_frame (f : CuffRet → CuffRet) (s : State) :
    let u := State.updRet f s
    u.now = s.now ∧ u.eng = s.eng ∧ u.slack = s.slack ∧ u.arb = s.arb ∧ u.out = s.out ∧ u.fc = s.fc ∧ u.dike = s.dike ∧ u.tu = s.tu ∧
    u.twin = s.twin ∧ u.ring = s.ring ∧ u.mb = s.mb ∧ u.cp = s.cp ∧ u.sl = s.sl ∧ u.dram = s.dram ∧ u.cal = s.cal ∧ u.jr = s.jr ∧
    u.feed = s.feed ∧ u.br = s.br ∧ u.hem = s.hem ∧ u.job = s.job ∧ u.bands = s.bands ∧ u.cc = s.cc ∧ u.loom = s.loom ∧ u.pol = s.pol ∧
    u.sh = s.sh ∧ u.pending = s.pending ∧ u.free = s.free := by
  simp [State.updRet]

@[simp] theorem State.badReturn_frame (lane : ℕ) (s : State) :
    let u := State.badReturn lane s
    u.now = s.now ∧ u.eng = s.eng ∧ u.slack = s.slack ∧ u.out = s.out ∧ u.fc = s.fc ∧ u.dike = s.dike ∧ u.tu = s.tu ∧ u.twin = s.twin ∧
    u.ring = s.ring ∧ u.mb = s.mb ∧ u.cp = s.cp ∧ u.sl = s.sl ∧ u.dram = s.dram ∧ u.cal = s.cal ∧ u.jr = s.jr ∧ u.feed = s.feed ∧
    u.br = s.br ∧ u.hem = s.hem ∧ u.job = s.job ∧ u.bands = s.bands ∧ u.cc = s.cc ∧ u.loom = s.loom ∧ u.pol = s.pol ∧ u.sh = s.sh ∧
    u.pending = s.pending ∧ u.free = s.free := by
  simp [State.badReturn]

@[simp] theorem State.accept_frame (x0 : RetHdr) (type : ℕ) (body : List Byte) (s : State) :
    let u := (State.accept x0 type body s).2
    u.now = s.now ∧ u.eng = s.eng ∧ u.slack = s.slack ∧ u.out = s.out ∧ u.dike = s.dike ∧ u.tu = s.tu ∧ u.twin = s.twin ∧ u.ring = s.ring ∧
    u.mb = s.mb ∧ u.cp = s.cp ∧ u.sl = s.sl ∧ u.dram = s.dram ∧ u.cal = s.cal ∧ u.jr = s.jr ∧ u.feed = s.feed ∧ u.br = s.br ∧
    u.hem = s.hem ∧ u.job = s.job ∧ u.bands = s.bands ∧ u.cc = s.cc ∧ u.loom = s.loom ∧ u.pol = s.pol ∧ u.sh = s.sh ∧
    u.pending = s.pending ∧ u.free = s.free := by
  unfold State.accept
  dsimp only
  (repeat' split) <;> simp

@[simp] theorem State.testCaps_frame (s : State) :
    let u := State.testCaps s
    u.now = s.now ∧ u.eng = s.eng ∧ u.slack = s.slack ∧ u.out = s.out ∧ u.fc = s.fc ∧ u.dike = s.dike ∧ u.tu = s.tu ∧ u.twin = s.twin ∧
    u.ring = s.ring ∧ u.mb = s.mb ∧ u.cp = s.cp ∧ u.sl = s.sl ∧ u.dram = s.dram ∧ u.cal = s.cal ∧ u.jr = s.jr ∧ u.feed = s.feed ∧
    u.br = s.br ∧ u.hem = s.hem ∧ u.job = s.job ∧ u.bands = s.bands ∧ u.cc = s.cc ∧ u.loom = s.loom ∧ u.pol = s.pol ∧ u.sh = s.sh ∧
    u.pending = s.pending ∧ u.free = s.free := by
  simp [State.testCaps]

/-! ## Feed.lean -/

@[simp] theorem State.updFeed_frame (f : Feed → Feed) (s : State) :
    let u := State.updFeed f s
    u.now = s.now ∧ u.eng = s.eng ∧ u.slack = s.slack ∧ u.arb = s.arb ∧ u.out = s.out ∧ u.fc = s.fc ∧ u.dike = s.dike ∧ u.tu = s.tu ∧
    u.twin = s.twin ∧ u.ring = s.ring ∧ u.mb = s.mb ∧ u.cp = s.cp ∧ u.sl = s.sl ∧ u.dram = s.dram ∧ u.cal = s.cal ∧ u.jr = s.jr ∧
    u.br = s.br ∧ u.hem = s.hem ∧ u.job = s.job ∧ u.bands = s.bands ∧ u.cc = s.cc ∧ u.loom = s.loom ∧ u.pol = s.pol ∧ u.sh = s.sh ∧
    u.cf = s.cf ∧ u.pending = s.pending ∧ u.free = s.free := by
  simp [State.updFeed]

@[simp] theorem State.updSrc_frame (n : ℕ) (f : Source → Source) (s : State) :
    let u := State.updSrc n f s
    u.now = s.now ∧ u.eng = s.eng ∧ u.slack = s.slack ∧ u.arb = s.arb ∧ u.out = s.out ∧ u.fc = s.fc ∧ u.dike = s.dike ∧ u.tu = s.tu ∧
    u.twin = s.twin ∧ u.ring = s.ring ∧ u.mb = s.mb ∧ u.cp = s.cp ∧ u.sl = s.sl ∧ u.dram = s.dram ∧ u.cal = s.cal ∧ u.jr = s.jr ∧
    u.br = s.br ∧ u.hem = s.hem ∧ u.job = s.job ∧ u.bands = s.bands ∧ u.cc = s.cc ∧ u.loom = s.loom ∧ u.pol = s.pol ∧ u.sh = s.sh ∧
    u.cf = s.cf ∧ u.pending = s.pending ∧ u.free = s.free := by
  simp [State.updSrc]

@[simp] theorem State.convert_frame (n : ℕ) (raw : ℤ) (s : State) :
    let u := (State.convert n raw s).2
    u.now = s.now ∧ u.eng = s.eng ∧ u.slack = s.slack ∧ u.out = s.out ∧ u.fc = s.fc ∧ u.dike = s.dike ∧ u.tu = s.tu ∧ u.twin = s.twin ∧
    u.ring = s.ring ∧ u.mb = s.mb ∧ u.cp = s.cp ∧ u.sl = s.sl ∧ u.dram = s.dram ∧ u.cal = s.cal ∧ u.jr = s.jr ∧ u.feed = s.feed ∧
    u.br = s.br ∧ u.hem = s.hem ∧ u.job = s.job ∧ u.bands = s.bands ∧ u.cc = s.cc ∧ u.loom = s.loom ∧ u.pol = s.pol ∧ u.sh = s.sh ∧
    u.cf = s.cf ∧ u.pending = s.pending ∧ u.free = s.free := by
  unfold State.convert
  split <;> simp

@[simp] theorem State.settle_frame (n : ℕ) (s : State) :
    let u := State.settle n s
    u.now = s.now ∧ u.eng = s.eng ∧ u.slack = s.slack ∧ u.arb = s.arb ∧ u.out = s.out ∧ u.fc = s.fc ∧ u.dike = s.dike ∧ u.tu = s.tu ∧
    u.twin = s.twin ∧ u.ring = s.ring ∧ u.mb = s.mb ∧ u.cp = s.cp ∧ u.sl = s.sl ∧ u.dram = s.dram ∧ u.cal = s.cal ∧ u.jr = s.jr ∧
    u.br = s.br ∧ u.hem = s.hem ∧ u.job = s.job ∧ u.bands = s.bands ∧ u.cc = s.cc ∧ u.loom = s.loom ∧ u.pol = s.pol ∧ u.sh = s.sh ∧
    u.cf = s.cf ∧ u.pending = s.pending ∧ u.free = s.free := by
  unfold State.settle
  split <;> simp

@[simp] theorem State.acquire_frame (n : ℕ) (s : State) :
    let u := State.acquire n s
    u.now = s.now ∧ u.eng = s.eng ∧ u.slack = s.slack ∧ u.arb = s.arb ∧ u.out = s.out ∧ u.fc = s.fc ∧ u.dike = s.dike ∧ u.tu = s.tu ∧
    u.twin = s.twin ∧ u.ring = s.ring ∧ u.mb = s.mb ∧ u.cp = s.cp ∧ u.sl = s.sl ∧ u.dram = s.dram ∧ u.cal = s.cal ∧ u.jr = s.jr ∧
    u.br = s.br ∧ u.hem = s.hem ∧ u.job = s.job ∧ u.bands = s.bands ∧ u.cc = s.cc ∧ u.loom = s.loom ∧ u.pol = s.pol ∧ u.sh = s.sh ∧
    u.cf = s.cf ∧ u.pending = s.pending ∧ u.free = s.free := by
  simp [State.acquire]

@[simp] theorem State.loseSource_frame (n cause : ℕ) (s : State) :
    let u := State.loseSource n cause s
    u.now = s.now ∧ u.eng = s.eng ∧ u.slack = s.slack ∧ u.out = s.out ∧ u.fc = s.fc ∧ u.dike = s.dike ∧ u.tu = s.tu ∧ u.twin = s.twin ∧
    u.ring = s.ring ∧ u.mb = s.mb ∧ u.cp = s.cp ∧ u.sl = s.sl ∧ u.dram = s.dram ∧ u.cal = s.cal ∧ u.jr = s.jr ∧ u.br = s.br ∧
    u.hem = s.hem ∧ u.job = s.job ∧ u.bands = s.bands ∧ u.cc = s.cc ∧ u.loom = s.loom ∧ u.pol = s.pol ∧ u.sh = s.sh ∧ u.cf = s.cf ∧
    u.pending = s.pending ∧ u.free = s.free := by
  simp [State.loseSource]

@[simp] theorem State.acquireEnabled_frame (s : State) :
    let u := State.acquireEnabled s
    u.now = s.now ∧ u.eng = s.eng ∧ u.slack = s.slack ∧ u.arb = s.arb ∧ u.out = s.out ∧ u.fc = s.fc ∧ u.dike = s.dike ∧ u.tu = s.tu ∧
    u.twin = s.twin ∧ u.ring = s.ring ∧ u.mb = s.mb ∧ u.cp = s.cp ∧ u.sl = s.sl ∧ u.dram = s.dram ∧ u.cal = s.cal ∧ u.jr = s.jr ∧
    u.br = s.br ∧ u.hem = s.hem ∧ u.job = s.job ∧ u.bands = s.bands ∧ u.cc = s.cc ∧ u.loom = s.loom ∧ u.pol = s.pol ∧ u.sh = s.sh ∧
    u.cf = s.cf ∧ u.pending = s.pending ∧ u.free = s.free := by
  simp [State.acquireEnabled]

@[simp] theorem State.sourcesOff_frame (s : State) :
    let u := State.sourcesOff s
    u.now = s.now ∧ u.eng = s.eng ∧ u.slack = s.slack ∧ u.arb = s.arb ∧ u.out = s.out ∧ u.fc = s.fc ∧ u.dike = s.dike ∧ u.tu = s.tu ∧
    u.twin = s.twin ∧ u.ring = s.ring ∧ u.mb = s.mb ∧ u.cp = s.cp ∧ u.sl = s.sl ∧ u.dram = s.dram ∧ u.cal = s.cal ∧ u.jr = s.jr ∧
    u.br = s.br ∧ u.hem = s.hem ∧ u.job = s.job ∧ u.bands = s.bands ∧ u.cc = s.cc ∧ u.loom = s.loom ∧ u.pol = s.pol ∧ u.sh = s.sh ∧
    u.cf = s.cf ∧ u.pending = s.pending ∧ u.free = s.free := by
  simp [State.sourcesOff]

@[simp] theorem State.missWord_frame (n : ℕ) (s : State) :
    let u := State.missWord n s
    u.now = s.now ∧ u.eng = s.eng ∧ u.slack = s.slack ∧ u.out = s.out ∧ u.fc = s.fc ∧ u.dike = s.dike ∧ u.tu = s.tu ∧ u.twin = s.twin ∧
    u.ring = s.ring ∧ u.mb = s.mb ∧ u.cp = s.cp ∧ u.sl = s.sl ∧ u.dram = s.dram ∧ u.cal = s.cal ∧ u.jr = s.jr ∧ u.br = s.br ∧
    u.hem = s.hem ∧ u.job = s.job ∧ u.bands = s.bands ∧ u.cc = s.cc ∧ u.loom = s.loom ∧ u.pol = s.pol ∧ u.sh = s.sh ∧ u.cf = s.cf ∧
    u.pending = s.pending ∧ u.free = s.free := by
  simp [State.missWord]

@[simp] theorem State.posRequest_frame (n : ℕ) (s : State) :
    let u := State.posRequest n s
    u.now = s.now ∧ u.eng = s.eng ∧ u.slack = s.slack ∧ u.fc = s.fc ∧ u.dike = s.dike ∧ u.tu = s.tu ∧ u.twin = s.twin ∧ u.ring = s.ring ∧
    u.mb = s.mb ∧ u.cp = s.cp ∧ u.sl = s.sl ∧ u.dram = s.dram ∧ u.cal = s.cal ∧ u.jr = s.jr ∧ u.br = s.br ∧ u.hem = s.hem ∧ u.job = s.job ∧
    u.bands = s.bands ∧ u.cc = s.cc ∧ u.loom = s.loom ∧ u.pol = s.pol ∧ u.sh = s.sh ∧ u.cf = s.cf ∧ u.pending = s.pending ∧ u.free = s.free := by
  simp [State.posRequest]

@[simp] theorem State.posWord_frame (n : ℕ) (reply : List Bool) (s : State) :
    let u := State.posWord n reply s
    u.now = s.now ∧ u.eng = s.eng ∧ u.slack = s.slack ∧ u.dike = s.dike ∧ u.tu = s.tu ∧ u.twin = s.twin ∧ u.ring = s.ring ∧ u.mb = s.mb ∧
    u.cp = s.cp ∧ u.sl = s.sl ∧ u.dram = s.dram ∧ u.cal = s.cal ∧ u.jr = s.jr ∧ u.br = s.br ∧ u.hem = s.hem ∧ u.job = s.job ∧
    u.bands = s.bands ∧ u.cc = s.cc ∧ u.loom = s.loom ∧ u.pol = s.pol ∧ u.sh = s.sh ∧ u.cf = s.cf ∧ u.pending = s.pending ∧ u.free = s.free := by
  unfold State.posWord
  dsimp only
  (repeat' split) <;> simp

@[simp] theorem State.sampleSource_frame (tick n : ℕ) (s : State) :
    let u := State.sampleSource tick n s
    u.now = s.now ∧ u.eng = s.eng ∧ u.slack = s.slack ∧ u.out = s.out ∧ u.fc = s.fc ∧ u.dike = s.dike ∧ u.tu = s.tu ∧ u.twin = s.twin ∧
    u.ring = s.ring ∧ u.mb = s.mb ∧ u.cp = s.cp ∧ u.sl = s.sl ∧ u.dram = s.dram ∧ u.cal = s.cal ∧ u.jr = s.jr ∧ u.br = s.br ∧
    u.hem = s.hem ∧ u.job = s.job ∧ u.bands = s.bands ∧ u.cc = s.cc ∧ u.loom = s.loom ∧ u.pol = s.pol ∧ u.sh = s.sh ∧ u.cf = s.cf ∧
    u.pending = s.pending ∧ u.free = s.free := by
  simp [State.sampleSource]

@[simp] theorem State.quadEdge_frame (e : ℕ) (a b : Bool) (s : State) :
    let u := State.quadEdge e a b s
    u.now = s.now ∧ u.eng = s.eng ∧ u.slack = s.slack ∧ u.out = s.out ∧ u.fc = s.fc ∧ u.dike = s.dike ∧ u.tu = s.tu ∧ u.twin = s.twin ∧
    u.ring = s.ring ∧ u.mb = s.mb ∧ u.cp = s.cp ∧ u.sl = s.sl ∧ u.dram = s.dram ∧ u.cal = s.cal ∧ u.jr = s.jr ∧ u.br = s.br ∧
    u.hem = s.hem ∧ u.job = s.job ∧ u.bands = s.bands ∧ u.cc = s.cc ∧ u.loom = s.loom ∧ u.pol = s.pol ∧ u.sh = s.sh ∧ u.cf = s.cf ∧
    u.pending = s.pending ∧ u.free = s.free := by
  simp [State.quadEdge]

@[simp] theorem State.indexEvent_frame (e : ℕ) (s : State) :
    let u := State.indexEvent e s
    u.now = s.now ∧ u.eng = s.eng ∧ u.slack = s.slack ∧ u.arb = s.arb ∧ u.out = s.out ∧ u.fc = s.fc ∧ u.dike = s.dike ∧ u.tu = s.tu ∧
    u.twin = s.twin ∧ u.ring = s.ring ∧ u.mb = s.mb ∧ u.cp = s.cp ∧ u.sl = s.sl ∧ u.dram = s.dram ∧ u.cal = s.cal ∧ u.jr = s.jr ∧
    u.br = s.br ∧ u.hem = s.hem ∧ u.job = s.job ∧ u.bands = s.bands ∧ u.cc = s.cc ∧ u.loom = s.loom ∧ u.pol = s.pol ∧ u.sh = s.sh ∧
    u.cf = s.cf ∧ u.pending = s.pending ∧ u.free = s.free := by
  simp [State.indexEvent]

@[simp] theorem State.sincosSample_frame (e : ℕ) (rawS rawC : ℤ) (s : State) :
    let u := State.sincosSample e rawS rawC s
    u.now = s.now ∧ u.eng = s.eng ∧ u.slack = s.slack ∧ u.out = s.out ∧ u.fc = s.fc ∧ u.dike = s.dike ∧ u.tu = s.tu ∧ u.twin = s.twin ∧
    u.ring = s.ring ∧ u.mb = s.mb ∧ u.cp = s.cp ∧ u.sl = s.sl ∧ u.dram = s.dram ∧ u.cal = s.cal ∧ u.jr = s.jr ∧ u.br = s.br ∧
    u.hem = s.hem ∧ u.job = s.job ∧ u.bands = s.bands ∧ u.cc = s.cc ∧ u.loom = s.loom ∧ u.pol = s.pol ∧ u.sh = s.sh ∧ u.cf = s.cf ∧
    u.pending = s.pending := by
  simp [State.sincosSample]

@[simp] theorem State.updProbe_frame (n : ℕ) (f : Probe → Probe) (s : State) :
    let u := State.updProbe n f s
    u.now = s.now ∧ u.eng = s.eng ∧ u.slack = s.slack ∧ u.arb = s.arb ∧ u.out = s.out ∧ u.fc = s.fc ∧ u.dike = s.dike ∧ u.tu = s.tu ∧
    u.twin = s.twin ∧ u.ring = s.ring ∧ u.mb = s.mb ∧ u.cp = s.cp ∧ u.sl = s.sl ∧ u.dram = s.dram ∧ u.cal = s.cal ∧ u.jr = s.jr ∧
    u.br = s.br ∧ u.hem = s.hem ∧ u.job = s.job ∧ u.bands = s.bands ∧ u.cc = s.cc ∧ u.loom = s.loom ∧ u.pol = s.pol ∧ u.sh = s.sh ∧
    u.cf = s.cf ∧ u.pending = s.pending ∧ u.free = s.free := by
  simp [State.updProbe]

@[simp] theorem State.completeProbe_frame (n : ℕ) (s : State) (w : ℕ × Bool × ℕ × Bool) :
    let u := State.completeProbe n s w
    u.now = s.now ∧ u.eng = s.eng ∧ u.slack = s.slack ∧ u.out = s.out ∧ u.fc = s.fc ∧ u.dike = s.dike ∧ u.tu = s.tu ∧ u.twin = s.twin ∧
    u.ring = s.ring ∧ u.mb = s.mb ∧ u.cp = s.cp ∧ u.sl = s.sl ∧ u.dram = s.dram ∧ u.cal = s.cal ∧ u.jr = s.jr ∧ u.br = s.br ∧
    u.hem = s.hem ∧ u.job = s.job ∧ u.bands = s.bands ∧ u.cc = s.cc ∧ u.loom = s.loom ∧ u.pol = s.pol ∧ u.sh = s.sh ∧ u.cf = s.cf ∧
    u.pending = s.pending ∧ u.free = s.free := by
  simp [State.completeProbe]

@[simp] theorem State.completeProbes_frame (s : State) :
    let u := State.completeProbes s
    u.now = s.now ∧ u.eng = s.eng ∧ u.slack = s.slack ∧ u.out = s.out ∧ u.fc = s.fc ∧ u.dike = s.dike ∧ u.tu = s.tu ∧ u.twin = s.twin ∧
    u.ring = s.ring ∧ u.mb = s.mb ∧ u.cp = s.cp ∧ u.sl = s.sl ∧ u.dram = s.dram ∧ u.cal = s.cal ∧ u.jr = s.jr ∧ u.br = s.br ∧
    u.hem = s.hem ∧ u.job = s.job ∧ u.bands = s.bands ∧ u.cc = s.cc ∧ u.loom = s.loom ∧ u.pol = s.pol ∧ u.sh = s.sh ∧ u.cf = s.cf ∧
    u.pending = s.pending ∧ u.free = s.free := by
  simp [State.completeProbes]

@[simp] theorem State.probeEdge_frame (n te : ℕ) (rising : Bool) (s : State) :
    let u := State.probeEdge n te rising s
    u.now = s.now ∧ u.eng = s.eng ∧ u.slack = s.slack ∧ u.out = s.out ∧ u.fc = s.fc ∧ u.dike = s.dike ∧ u.tu = s.tu ∧ u.twin = s.twin ∧
    u.ring = s.ring ∧ u.mb = s.mb ∧ u.cp = s.cp ∧ u.sl = s.sl ∧ u.dram = s.dram ∧ u.cal = s.cal ∧ u.jr = s.jr ∧ u.br = s.br ∧
    u.hem = s.hem ∧ u.job = s.job ∧ u.bands = s.bands ∧ u.cc = s.cc ∧ u.loom = s.loom ∧ u.pol = s.pol ∧ u.sh = s.sh ∧ u.cf = s.cf ∧
    u.pending = s.pending ∧ u.free = s.free := by
  simp [State.probeEdge]

@[simp] theorem State.updCmp_frame (n : ℕ) (f : Compare → Compare) (s : State) :
    let u := State.updCmp n f s
    u.now = s.now ∧ u.eng = s.eng ∧ u.slack = s.slack ∧ u.arb = s.arb ∧ u.out = s.out ∧ u.fc = s.fc ∧ u.dike = s.dike ∧ u.tu = s.tu ∧
    u.twin = s.twin ∧ u.ring = s.ring ∧ u.mb = s.mb ∧ u.cp = s.cp ∧ u.sl = s.sl ∧ u.dram = s.dram ∧ u.cal = s.cal ∧ u.jr = s.jr ∧
    u.br = s.br ∧ u.hem = s.hem ∧ u.job = s.job ∧ u.bands = s.bands ∧ u.cc = s.cc ∧ u.loom = s.loom ∧ u.pol = s.pol ∧ u.sh = s.sh ∧
    u.cf = s.cf ∧ u.pending = s.pending ∧ u.free = s.free := by
  simp [State.updCmp]

@[simp] theorem State.testCompares_frame (tick : ℕ) (s : State) :
    let u := State.testCompares tick s
    u.now = s.now ∧ u.eng = s.eng ∧ u.slack = s.slack ∧ u.arb = s.arb ∧ u.out = s.out ∧ u.fc = s.fc ∧ u.dike = s.dike ∧ u.tu = s.tu ∧
    u.twin = s.twin ∧ u.ring = s.ring ∧ u.mb = s.mb ∧ u.cp = s.cp ∧ u.sl = s.sl ∧ u.dram = s.dram ∧ u.cal = s.cal ∧ u.jr = s.jr ∧
    u.br = s.br ∧ u.hem = s.hem ∧ u.job = s.job ∧ u.bands = s.bands ∧ u.cc = s.cc ∧ u.loom = s.loom ∧ u.pol = s.pol ∧ u.sh = s.sh ∧
    u.cf = s.cf ∧ u.pending = s.pending ∧ u.free = s.free := by
  simp [State.testCompares]

@[simp] theorem State.compareFire_frame (n : ℕ) (s : State) :
    let u := State.compareFire n s
    u.now = s.now ∧ u.eng = s.eng ∧ u.slack = s.slack ∧ u.fc = s.fc ∧ u.dike = s.dike ∧ u.tu = s.tu ∧ u.twin = s.twin ∧ u.ring = s.ring ∧
    u.mb = s.mb ∧ u.cp = s.cp ∧ u.sl = s.sl ∧ u.dram = s.dram ∧ u.cal = s.cal ∧ u.jr = s.jr ∧ u.br = s.br ∧ u.hem = s.hem ∧ u.job = s.job ∧
    u.bands = s.bands ∧ u.cc = s.cc ∧ u.loom = s.loom ∧ u.pol = s.pol ∧ u.sh = s.sh ∧ u.cf = s.cf ∧ u.pending = s.pending ∧ u.free = s.free := by
  unfold State.compareFire
  dsimp only
  split <;> simp

@[simp] theorem State.comparePulseEnd_frame (s : State) :
    let u := State.comparePulseEnd s
    u.now = s.now ∧ u.eng = s.eng ∧ u.slack = s.slack ∧ u.arb = s.arb ∧ u.fc = s.fc ∧ u.dike = s.dike ∧ u.tu = s.tu ∧ u.twin = s.twin ∧
    u.ring = s.ring ∧ u.mb = s.mb ∧ u.cp = s.cp ∧ u.sl = s.sl ∧ u.dram = s.dram ∧ u.cal = s.cal ∧ u.jr = s.jr ∧ u.br = s.br ∧
    u.hem = s.hem ∧ u.job = s.job ∧ u.bands = s.bands ∧ u.cc = s.cc ∧ u.loom = s.loom ∧ u.pol = s.pol ∧ u.sh = s.sh ∧ u.cf = s.cf ∧
    u.pending = s.pending ∧ u.free = s.free := by
  unfold State.comparePulseEnd
  dsimp only
  (repeat' split) <;> first
    | (simp; done)
    | (refine ⟨(foldl_keep State.now _ _ _ ?_).trans ?_, (foldl_keep State.eng _ _ _ ?_).trans ?_, (foldl_keep State.slack _ _ _ ?_).trans ?_,
        (foldl_keep State.arb _ _ _ ?_).trans ?_, (foldl_keep State.fc _ _ _ ?_).trans ?_, (foldl_keep State.dike _ _ _ ?_).trans ?_,
        (foldl_keep State.tu _ _ _ ?_).trans ?_, (foldl_keep State.twin _ _ _ ?_).trans ?_, (foldl_keep State.ring _ _ _ ?_).trans ?_,
        (foldl_keep State.mb _ _ _ ?_).trans ?_, (foldl_keep State.cp _ _ _ ?_).trans ?_, (foldl_keep State.sl _ _ _ ?_).trans ?_,
        (foldl_keep State.dram _ _ _ ?_).trans ?_, (foldl_keep State.cal _ _ _ ?_).trans ?_, (foldl_keep State.jr _ _ _ ?_).trans ?_,
        (foldl_keep State.br _ _ _ ?_).trans ?_, (foldl_keep State.hem _ _ _ ?_).trans ?_, (foldl_keep State.job _ _ _ ?_).trans ?_,
        (foldl_keep State.bands _ _ _ ?_).trans ?_, (foldl_keep State.cc _ _ _ ?_).trans ?_, (foldl_keep State.loom _ _ _ ?_).trans ?_,
        (foldl_keep State.pol _ _ _ ?_).trans ?_, (foldl_keep State.sh _ _ _ ?_).trans ?_, (foldl_keep State.cf _ _ _ ?_).trans ?_,
        (foldl_keep State.pending _ _ _ ?_).trans ?_, (foldl_keep State.free _ _ _ ?_).trans ?_⟩ <;>
        first | (simp; done) | (intro s x; (try dsimp only); (repeat' split) <;> simp; done))

@[simp] theorem State.comparesLow_frame (s : State) :
    let u := State.comparesLow s
    u.now = s.now ∧ u.eng = s.eng ∧ u.slack = s.slack ∧ u.arb = s.arb ∧ u.fc = s.fc ∧ u.dike = s.dike ∧ u.tu = s.tu ∧ u.twin = s.twin ∧
    u.ring = s.ring ∧ u.mb = s.mb ∧ u.cp = s.cp ∧ u.sl = s.sl ∧ u.dram = s.dram ∧ u.cal = s.cal ∧ u.jr = s.jr ∧ u.br = s.br ∧
    u.hem = s.hem ∧ u.job = s.job ∧ u.bands = s.bands ∧ u.cc = s.cc ∧ u.loom = s.loom ∧ u.pol = s.pol ∧ u.sh = s.sh ∧ u.cf = s.cf ∧
    u.pending = s.pending ∧ u.free = s.free := by
  simp [State.comparesLow]

@[simp] theorem State.updSw_frame (n input : ℕ) (f : Switch → Switch) (s : State) :
    let u := State.updSw n input f s
    u.now = s.now ∧ u.eng = s.eng ∧ u.slack = s.slack ∧ u.arb = s.arb ∧ u.out = s.out ∧ u.fc = s.fc ∧ u.dike = s.dike ∧ u.tu = s.tu ∧
    u.twin = s.twin ∧ u.ring = s.ring ∧ u.mb = s.mb ∧ u.cp = s.cp ∧ u.sl = s.sl ∧ u.dram = s.dram ∧ u.cal = s.cal ∧ u.jr = s.jr ∧
    u.br = s.br ∧ u.hem = s.hem ∧ u.job = s.job ∧ u.bands = s.bands ∧ u.cc = s.cc ∧ u.loom = s.loom ∧ u.pol = s.pol ∧ u.sh = s.sh ∧
    u.cf = s.cf ∧ u.pending = s.pending ∧ u.free = s.free := by
  simp [State.updSw]

@[simp] theorem State.latchSwitches_frame (s : State) :
    let u := State.latchSwitches s
    u.now = s.now ∧ u.eng = s.eng ∧ u.slack = s.slack ∧ u.out = s.out ∧ u.fc = s.fc ∧ u.dike = s.dike ∧ u.tu = s.tu ∧ u.twin = s.twin ∧
    u.ring = s.ring ∧ u.mb = s.mb ∧ u.cp = s.cp ∧ u.sl = s.sl ∧ u.dram = s.dram ∧ u.cal = s.cal ∧ u.jr = s.jr ∧ u.br = s.br ∧
    u.hem = s.hem ∧ u.job = s.job ∧ u.bands = s.bands ∧ u.cc = s.cc ∧ u.loom = s.loom ∧ u.pol = s.pol ∧ u.sh = s.sh ∧ u.cf = s.cf ∧
    u.pending = s.pending ∧ u.free = s.free := by
  unfold State.latchSwitches
  dsimp only
  (repeat' split) <;> first
    | (simp; done)
    | (refine ⟨(foldl_keep State.now _ _ _ ?_).trans ?_, (foldl_keep State.eng _ _ _ ?_).trans ?_, (foldl_keep State.slack _ _ _ ?_).trans ?_,
        (foldl_keep State.out _ _ _ ?_).trans ?_, (foldl_keep State.fc _ _ _ ?_).trans ?_, (foldl_keep State.dike _ _ _ ?_).trans ?_,
        (foldl_keep State.tu _ _ _ ?_).trans ?_, (foldl_keep State.twin _ _ _ ?_).trans ?_, (foldl_keep State.ring _ _ _ ?_).trans ?_,
        (foldl_keep State.mb _ _ _ ?_).trans ?_, (foldl_keep State.cp _ _ _ ?_).trans ?_, (foldl_keep State.sl _ _ _ ?_).trans ?_,
        (foldl_keep State.dram _ _ _ ?_).trans ?_, (foldl_keep State.cal _ _ _ ?_).trans ?_, (foldl_keep State.jr _ _ _ ?_).trans ?_,
        (foldl_keep State.br _ _ _ ?_).trans ?_, (foldl_keep State.hem _ _ _ ?_).trans ?_, (foldl_keep State.job _ _ _ ?_).trans ?_,
        (foldl_keep State.bands _ _ _ ?_).trans ?_, (foldl_keep State.cc _ _ _ ?_).trans ?_, (foldl_keep State.loom _ _ _ ?_).trans ?_,
        (foldl_keep State.pol _ _ _ ?_).trans ?_, (foldl_keep State.sh _ _ _ ?_).trans ?_, (foldl_keep State.cf _ _ _ ?_).trans ?_,
        (foldl_keep State.pending _ _ _ ?_).trans ?_, (foldl_keep State.free _ _ _ ?_).trans ?_⟩ <;>
        first | (simp; done) | (intro s x; (try dsimp only); (repeat' split) <;> simp; done))

@[simp] theorem State.acceptEdge_frame (n input : ℕ) (e : HeldEdge) (s : State) :
    let u := State.acceptEdge n input e s
    u.now = s.now ∧ u.eng = s.eng ∧ u.slack = s.slack ∧ u.out = s.out ∧ u.fc = s.fc ∧ u.dike = s.dike ∧ u.tu = s.tu ∧ u.twin = s.twin ∧
    u.ring = s.ring ∧ u.mb = s.mb ∧ u.cp = s.cp ∧ u.sl = s.sl ∧ u.dram = s.dram ∧ u.cal = s.cal ∧ u.jr = s.jr ∧ u.br = s.br ∧
    u.hem = s.hem ∧ u.job = s.job ∧ u.bands = s.bands ∧ u.cc = s.cc ∧ u.loom = s.loom ∧ u.pol = s.pol ∧ u.sh = s.sh ∧ u.cf = s.cf ∧
    u.pending = s.pending ∧ u.free = s.free := by
  simp [State.acceptEdge]

@[simp] theorem State.switchEdge_frame (n input : ℕ) (raw : Bool) (tRaw : ℕ) (s : State) :
    let u := (State.switchEdge n input raw tRaw s).2
    u.now = s.now ∧ u.eng = s.eng ∧ u.slack = s.slack ∧ u.out = s.out ∧ u.fc = s.fc ∧ u.dike = s.dike ∧ u.tu = s.tu ∧ u.twin = s.twin ∧
    u.ring = s.ring ∧ u.mb = s.mb ∧ u.cp = s.cp ∧ u.sl = s.sl ∧ u.dram = s.dram ∧ u.cal = s.cal ∧ u.jr = s.jr ∧ u.br = s.br ∧
    u.hem = s.hem ∧ u.job = s.job ∧ u.bands = s.bands ∧ u.cc = s.cc ∧ u.loom = s.loom ∧ u.pol = s.pol ∧ u.sh = s.sh ∧ u.cf = s.cf ∧
    u.pending = s.pending ∧ u.free = s.free := by
  unfold State.switchEdge
  dsimp only
  (repeat' split) <;> simp

@[simp] theorem State.heldPosition_frame (n input : ℕ) (s : State) :
    let u := State.heldPosition n input s
    u.now = s.now ∧ u.eng = s.eng ∧ u.slack = s.slack ∧ u.arb = s.arb ∧ u.out = s.out ∧ u.fc = s.fc ∧ u.dike = s.dike ∧ u.tu = s.tu ∧
    u.twin = s.twin ∧ u.ring = s.ring ∧ u.mb = s.mb ∧ u.cp = s.cp ∧ u.sl = s.sl ∧ u.dram = s.dram ∧ u.cal = s.cal ∧ u.jr = s.jr ∧
    u.br = s.br ∧ u.hem = s.hem ∧ u.job = s.job ∧ u.bands = s.bands ∧ u.cc = s.cc ∧ u.loom = s.loom ∧ u.pol = s.pol ∧ u.sh = s.sh ∧
    u.cf = s.cf ∧ u.pending = s.pending ∧ u.free = s.free := by
  simp [State.heldPosition]

end Sys2Proof.Machine
end

