-- ==== Sys2Proof/Laws/FrameMotion.lean ====
section
/-! SUPPORT. What each operation of Brace and Hem leaves unchanged, field by field of the
state: the whole of what it can change is what its lemma does not name. -/

namespace Sys2Proof.Machine
open Sys2Proof

/-! ## Brace.lean -/

@[simp] theorem State.updBr_frame (f : Brace → Brace) (s : State) :
    let u := State.updBr f s
    u.now = s.now ∧ u.eng = s.eng ∧ u.slack = s.slack ∧ u.arb = s.arb ∧ u.out = s.out ∧ u.fc = s.fc ∧ u.dike = s.dike ∧ u.tu = s.tu ∧
    u.twin = s.twin ∧ u.ring = s.ring ∧ u.mb = s.mb ∧ u.cp = s.cp ∧ u.sl = s.sl ∧ u.dram = s.dram ∧ u.cal = s.cal ∧ u.jr = s.jr ∧
    u.feed = s.feed ∧ u.hem = s.hem ∧ u.job = s.job ∧ u.bands = s.bands ∧ u.cc = s.cc ∧ u.loom = s.loom ∧ u.pol = s.pol ∧ u.sh = s.sh ∧
    u.cf = s.cf ∧ u.pending = s.pending ∧ u.free = s.free := by
  simp [State.updBr]

@[simp] theorem State.updAxis_frame (a : ℕ) (f : Axis → Axis) (s : State) :
    let u := State.updAxis a f s
    u.now = s.now ∧ u.eng = s.eng ∧ u.slack = s.slack ∧ u.arb = s.arb ∧ u.out = s.out ∧ u.fc = s.fc ∧ u.dike = s.dike ∧ u.tu = s.tu ∧
    u.twin = s.twin ∧ u.ring = s.ring ∧ u.mb = s.mb ∧ u.cp = s.cp ∧ u.sl = s.sl ∧ u.dram = s.dram ∧ u.cal = s.cal ∧ u.jr = s.jr ∧
    u.feed = s.feed ∧ u.hem = s.hem ∧ u.job = s.job ∧ u.bands = s.bands ∧ u.cc = s.cc ∧ u.loom = s.loom ∧ u.pol = s.pol ∧ u.sh = s.sh ∧
    u.cf = s.cf ∧ u.pending = s.pending ∧ u.free = s.free := by
  simp [State.updAxis]

@[simp] theorem State.updDike_frame (f : Dike → Dike) (s : State) :
    let u := State.updDike f s
    u.now = s.now ∧ u.eng = s.eng ∧ u.slack = s.slack ∧ u.arb = s.arb ∧ u.out = s.out ∧ u.fc = s.fc ∧ u.tu = s.tu ∧ u.twin = s.twin ∧
    u.ring = s.ring ∧ u.mb = s.mb ∧ u.cp = s.cp ∧ u.sl = s.sl ∧ u.dram = s.dram ∧ u.cal = s.cal ∧ u.jr = s.jr ∧ u.feed = s.feed ∧
    u.br = s.br ∧ u.hem = s.hem ∧ u.job = s.job ∧ u.bands = s.bands ∧ u.cc = s.cc ∧ u.loom = s.loom ∧ u.pol = s.pol ∧ u.sh = s.sh ∧
    u.cf = s.cf ∧ u.pending = s.pending ∧ u.free = s.free := by
  simp [State.updDike]

@[simp] theorem State.updDikeAxis_frame (a : ℕ) (f : DikeAxis → DikeAxis) (s : State) :
    let u := State.updDikeAxis a f s
    u.now = s.now ∧ u.eng = s.eng ∧ u.slack = s.slack ∧ u.arb = s.arb ∧ u.out = s.out ∧ u.fc = s.fc ∧ u.tu = s.tu ∧ u.twin = s.twin ∧
    u.ring = s.ring ∧ u.mb = s.mb ∧ u.cp = s.cp ∧ u.sl = s.sl ∧ u.dram = s.dram ∧ u.cal = s.cal ∧ u.jr = s.jr ∧ u.feed = s.feed ∧
    u.br = s.br ∧ u.hem = s.hem ∧ u.job = s.job ∧ u.bands = s.bands ∧ u.cc = s.cc ∧ u.loom = s.loom ∧ u.pol = s.pol ∧ u.sh = s.sh ∧
    u.cf = s.cf ∧ u.pending = s.pending ∧ u.free = s.free := by
  simp [State.updDikeAxis]

@[simp] theorem State.startPlan_frame (a : ℕ) (st : AxisState) (pl : Plan) (after : Option Plan) (s : State) :
    let u := State.startPlan a st pl after s
    u.now = s.now ∧ u.eng = s.eng ∧ u.slack = s.slack ∧ u.arb = s.arb ∧ u.out = s.out ∧ u.fc = s.fc ∧ u.dike = s.dike ∧ u.tu = s.tu ∧
    u.twin = s.twin ∧ u.ring = s.ring ∧ u.mb = s.mb ∧ u.cp = s.cp ∧ u.sl = s.sl ∧ u.dram = s.dram ∧ u.cal = s.cal ∧ u.jr = s.jr ∧
    u.feed = s.feed ∧ u.hem = s.hem ∧ u.job = s.job ∧ u.bands = s.bands ∧ u.cc = s.cc ∧ u.loom = s.loom ∧ u.pol = s.pol ∧ u.sh = s.sh ∧
    u.cf = s.cf ∧ u.pending = s.pending ∧ u.free = s.free := by
  simp [State.startPlan]

theorem tryPlan_frame {a : Nat} {st : AxisState} {pl : Plan} {after : Option Plan} {s s' : State} (h : State.tryPlan a st pl after s = .ok s') :
    s'.now = s.now ∧ s'.eng = s.eng ∧ s'.slack = s.slack ∧ s'.arb = s.arb ∧ s'.out = s.out ∧ s'.fc = s.fc ∧ s'.dike = s.dike ∧ s'.tu = s.tu ∧ s'.twin = s.twin ∧ s'.ring = s.ring ∧ s'.mb = s.mb ∧ s'.cp = s.cp ∧ s'.sl = s.sl ∧ s'.dram = s.dram ∧ s'.cal = s.cal ∧ s'.jr = s.jr ∧ s'.feed = s.feed ∧ s'.hem = s.hem ∧ s'.job = s.job ∧ s'.bands = s.bands ∧ s'.cc = s.cc ∧ s'.loom = s.loom ∧ s'.pol = s.pol ∧ s'.sh = s.sh ∧ s'.cf = s.cf ∧ s'.pending = s.pending ∧ s'.free = s.free := by
  unfold State.tryPlan at h
  split at h
  · cases h
  · cases h; simp

@[simp] theorem State.stopAxis_frame (a : ℕ) (s : State) :
    let u := State.stopAxis a s
    u.now = s.now ∧ u.eng = s.eng ∧ u.slack = s.slack ∧ u.arb = s.arb ∧ u.out = s.out ∧ u.fc = s.fc ∧ u.dike = s.dike ∧ u.tu = s.tu ∧
    u.twin = s.twin ∧ u.ring = s.ring ∧ u.mb = s.mb ∧ u.cp = s.cp ∧ u.sl = s.sl ∧ u.dram = s.dram ∧ u.cal = s.cal ∧ u.jr = s.jr ∧
    u.feed = s.feed ∧ u.hem = s.hem ∧ u.job = s.job ∧ u.bands = s.bands ∧ u.cc = s.cc ∧ u.loom = s.loom ∧ u.pol = s.pol ∧ u.sh = s.sh ∧
    u.cf = s.cf ∧ u.pending = s.pending ∧ u.free = s.free := by
  simp [State.stopAxis]

@[simp] theorem State.stopMoving_frame (a : ℕ) (s : State) :
    let u := State.stopMoving a s
    u.now = s.now ∧ u.eng = s.eng ∧ u.slack = s.slack ∧ u.arb = s.arb ∧ u.out = s.out ∧ u.fc = s.fc ∧ u.dike = s.dike ∧ u.tu = s.tu ∧
    u.twin = s.twin ∧ u.ring = s.ring ∧ u.mb = s.mb ∧ u.cp = s.cp ∧ u.sl = s.sl ∧ u.dram = s.dram ∧ u.cal = s.cal ∧ u.jr = s.jr ∧
    u.feed = s.feed ∧ u.hem = s.hem ∧ u.job = s.job ∧ u.bands = s.bands ∧ u.cc = s.cc ∧ u.loom = s.loom ∧ u.pol = s.pol ∧ u.sh = s.sh ∧
    u.cf = s.cf ∧ u.pending = s.pending ∧ u.free = s.free := by
  simp [State.stopMoving]

@[simp] theorem eachAxis_now (g : Nat → State → State) (s : State) (h : ∀ a s, (g a s).now = s.now) : (State.eachAxis g s).now = s.now :=
  foldl_keep State.now _ _ _ fun s a => h a s
@[simp] theorem eachAxis_eng (g : Nat → State → State) (s : State) (h : ∀ a s, (g a s).eng = s.eng) : (State.eachAxis g s).eng = s.eng :=
  foldl_keep State.eng _ _ _ fun s a => h a s
@[simp] theorem eachAxis_slack (g : Nat → State → State) (s : State) (h : ∀ a s, (g a s).slack = s.slack) : (State.eachAxis g s).slack = s.slack :=
  foldl_keep State.slack _ _ _ fun s a => h a s
@[simp] theorem eachAxis_arb (g : Nat → State → State) (s : State) (h : ∀ a s, (g a s).arb = s.arb) : (State.eachAxis g s).arb = s.arb :=
  foldl_keep State.arb _ _ _ fun s a => h a s
@[simp] theorem eachAxis_out (g : Nat → State → State) (s : State) (h : ∀ a s, (g a s).out = s.out) : (State.eachAxis g s).out = s.out :=
  foldl_keep State.out _ _ _ fun s a => h a s
@[simp] theorem eachAxis_fc (g : Nat → State → State) (s : State) (h : ∀ a s, (g a s).fc = s.fc) : (State.eachAxis g s).fc = s.fc :=
  foldl_keep State.fc _ _ _ fun s a => h a s
@[simp] theorem eachAxis_dike (g : Nat → State → State) (s : State) (h : ∀ a s, (g a s).dike = s.dike) : (State.eachAxis g s).dike = s.dike :=
  foldl_keep State.dike _ _ _ fun s a => h a s
@[simp] theorem eachAxis_tu (g : Nat → State → State) (s : State) (h : ∀ a s, (g a s).tu = s.tu) : (State.eachAxis g s).tu = s.tu :=
  foldl_keep State.tu _ _ _ fun s a => h a s
@[simp] theorem eachAxis_twin (g : Nat → State → State) (s : State) (h : ∀ a s, (g a s).twin = s.twin) : (State.eachAxis g s).twin = s.twin :=
  foldl_keep State.twin _ _ _ fun s a => h a s
@[simp] theorem eachAxis_ring (g : Nat → State → State) (s : State) (h : ∀ a s, (g a s).ring = s.ring) : (State.eachAxis g s).ring = s.ring :=
  foldl_keep State.ring _ _ _ fun s a => h a s
@[simp] theorem eachAxis_mb (g : Nat → State → State) (s : State) (h : ∀ a s, (g a s).mb = s.mb) : (State.eachAxis g s).mb = s.mb :=
  foldl_keep State.mb _ _ _ fun s a => h a s
@[simp] theorem eachAxis_cp (g : Nat → State → State) (s : State) (h : ∀ a s, (g a s).cp = s.cp) : (State.eachAxis g s).cp = s.cp :=
  foldl_keep State.cp _ _ _ fun s a => h a s
@[simp] theorem eachAxis_sl (g : Nat → State → State) (s : State) (h : ∀ a s, (g a s).sl = s.sl) : (State.eachAxis g s).sl = s.sl :=
  foldl_keep State.sl _ _ _ fun s a => h a s
@[simp] theorem eachAxis_dram (g : Nat → State → State) (s : State) (h : ∀ a s, (g a s).dram = s.dram) : (State.eachAxis g s).dram = s.dram :=
  foldl_keep State.dram _ _ _ fun s a => h a s
@[simp] theorem eachAxis_cal (g : Nat → State → State) (s : State) (h : ∀ a s, (g a s).cal = s.cal) : (State.eachAxis g s).cal = s.cal :=
  foldl_keep State.cal _ _ _ fun s a => h a s
@[simp] theorem eachAxis_jr (g : Nat → State → State) (s : State) (h : ∀ a s, (g a s).jr = s.jr) : (State.eachAxis g s).jr = s.jr :=
  foldl_keep State.jr _ _ _ fun s a => h a s
@[simp] theorem eachAxis_feed (g : Nat → State → State) (s : State) (h : ∀ a s, (g a s).feed = s.feed) : (State.eachAxis g s).feed = s.feed :=
  foldl_keep State.feed _ _ _ fun s a => h a s
@[simp] theorem eachAxis_br (g : Nat → State → State) (s : State) (h : ∀ a s, (g a s).br = s.br) : (State.eachAxis g s).br = s.br :=
  foldl_keep State.br _ _ _ fun s a => h a s
@[simp] theorem eachAxis_hem (g : Nat → State → State) (s : State) (h : ∀ a s, (g a s).hem = s.hem) : (State.eachAxis g s).hem = s.hem :=
  foldl_keep State.hem _ _ _ fun s a => h a s
@[simp] theorem eachAxis_job (g : Nat → State → State) (s : State) (h : ∀ a s, (g a s).job = s.job) : (State.eachAxis g s).job = s.job :=
  foldl_keep State.job _ _ _ fun s a => h a s
@[simp] theorem eachAxis_bands (g : Nat → State → State) (s : State) (h : ∀ a s, (g a s).bands = s.bands) : (State.eachAxis g s).bands = s.bands :=
  foldl_keep State.bands _ _ _ fun s a => h a s
@[simp] theorem eachAxis_cc (g : Nat → State → State) (s : State) (h : ∀ a s, (g a s).cc = s.cc) : (State.eachAxis g s).cc = s.cc :=
  foldl_keep State.cc _ _ _ fun s a => h a s
@[simp] theorem eachAxis_loom (g : Nat → State → State) (s : State) (h : ∀ a s, (g a s).loom = s.loom) : (State.eachAxis g s).loom = s.loom :=
  foldl_keep State.loom _ _ _ fun s a => h a s
@[simp] theorem eachAxis_pol (g : Nat → State → State) (s : State) (h : ∀ a s, (g a s).pol = s.pol) : (State.eachAxis g s).pol = s.pol :=
  foldl_keep State.pol _ _ _ fun s a => h a s
@[simp] theorem eachAxis_sh (g : Nat → State → State) (s : State) (h : ∀ a s, (g a s).sh = s.sh) : (State.eachAxis g s).sh = s.sh :=
  foldl_keep State.sh _ _ _ fun s a => h a s
@[simp] theorem eachAxis_cf (g : Nat → State → State) (s : State) (h : ∀ a s, (g a s).cf = s.cf) : (State.eachAxis g s).cf = s.cf :=
  foldl_keep State.cf _ _ _ fun s a => h a s
@[simp] theorem eachAxis_pending (g : Nat → State → State) (s : State) (h : ∀ a s, (g a s).pending = s.pending) : (State.eachAxis g s).pending = s.pending :=
  foldl_keep State.pending _ _ _ fun s a => h a s
@[simp] theorem eachAxis_free (g : Nat → State → State) (s : State) (h : ∀ a s, (g a s).free = s.free) : (State.eachAxis g s).free = s.free :=
  foldl_keep State.free _ _ _ fun s a => h a s
@[simp] theorem eachAxis_pol_sram (g : Nat → State → State) (s : State) (h : ∀ a s, (g a s).pol.sram = s.pol.sram) : (State.eachAxis g s).pol.sram = s.pol.sram :=
  foldl_keep (fun s : State => s.pol.sram) _ _ _ fun s a => h a s
@[simp] theorem State.controlledStop_frame (s : State) :
    let u := State.controlledStop s
    u.now = s.now ∧ u.eng = s.eng ∧ u.slack = s.slack ∧ u.arb = s.arb ∧ u.out = s.out ∧ u.fc = s.fc ∧ u.dike = s.dike ∧ u.tu = s.tu ∧
    u.twin = s.twin ∧ u.ring = s.ring ∧ u.mb = s.mb ∧ u.cp = s.cp ∧ u.sl = s.sl ∧ u.dram = s.dram ∧ u.cal = s.cal ∧ u.jr = s.jr ∧
    u.feed = s.feed ∧ u.hem = s.hem ∧ u.job = s.job ∧ u.bands = s.bands ∧ u.cc = s.cc ∧ u.loom = s.loom ∧ u.pol = s.pol ∧ u.sh = s.sh ∧
    u.cf = s.cf ∧ u.pending = s.pending ∧ u.free = s.free := by
  simp [State.controlledStop]

@[simp] theorem State.axisOff_frame (a : ℕ) (s : State) :
    let u := State.axisOff a s
    u.now = s.now ∧ u.eng = s.eng ∧ u.slack = s.slack ∧ u.arb = s.arb ∧ u.out = s.out ∧ u.fc = s.fc ∧ u.tu = s.tu ∧ u.twin = s.twin ∧
    u.ring = s.ring ∧ u.mb = s.mb ∧ u.cp = s.cp ∧ u.sl = s.sl ∧ u.dram = s.dram ∧ u.cal = s.cal ∧ u.jr = s.jr ∧ u.feed = s.feed ∧
    u.hem = s.hem ∧ u.job = s.job ∧ u.bands = s.bands ∧ u.cc = s.cc ∧ u.loom = s.loom ∧ u.pol = s.pol ∧ u.sh = s.sh ∧ u.cf = s.cf ∧
    u.pending = s.pending ∧ u.free = s.free := by
  simp [State.axisOff]

@[simp] theorem State.axesOff_frame (s : State) :
    let u := State.axesOff s
    u.now = s.now ∧ u.eng = s.eng ∧ u.slack = s.slack ∧ u.arb = s.arb ∧ u.out = s.out ∧ u.fc = s.fc ∧ u.tu = s.tu ∧ u.twin = s.twin ∧
    u.ring = s.ring ∧ u.mb = s.mb ∧ u.cp = s.cp ∧ u.sl = s.sl ∧ u.dram = s.dram ∧ u.cal = s.cal ∧ u.jr = s.jr ∧ u.feed = s.feed ∧
    u.hem = s.hem ∧ u.job = s.job ∧ u.bands = s.bands ∧ u.cc = s.cc ∧ u.loom = s.loom ∧ u.pol = s.pol ∧ u.sh = s.sh ∧ u.cf = s.cf ∧
    u.pending = s.pending ∧ u.free = s.free := by
  simp [State.axesOff]

@[simp] theorem State.holdAxis_frame (a : ℕ) (s : State) :
    let u := State.holdAxis a s
    u.now = s.now ∧ u.eng = s.eng ∧ u.slack = s.slack ∧ u.arb = s.arb ∧ u.out = s.out ∧ u.fc = s.fc ∧ u.dike = s.dike ∧ u.tu = s.tu ∧
    u.twin = s.twin ∧ u.ring = s.ring ∧ u.mb = s.mb ∧ u.cp = s.cp ∧ u.sl = s.sl ∧ u.dram = s.dram ∧ u.cal = s.cal ∧ u.jr = s.jr ∧
    u.feed = s.feed ∧ u.hem = s.hem ∧ u.job = s.job ∧ u.bands = s.bands ∧ u.cc = s.cc ∧ u.loom = s.loom ∧ u.pol = s.pol ∧ u.sh = s.sh ∧
    u.cf = s.cf ∧ u.pending = s.pending ∧ u.free = s.free := by
  simp [State.holdAxis]

@[simp] theorem State.coastAxis_frame (a : ℕ) (s : State) :
    let u := State.coastAxis a s
    u.now = s.now ∧ u.eng = s.eng ∧ u.slack = s.slack ∧ u.out = s.out ∧ u.fc = s.fc ∧ u.dike = s.dike ∧ u.tu = s.tu ∧ u.twin = s.twin ∧
    u.ring = s.ring ∧ u.mb = s.mb ∧ u.cp = s.cp ∧ u.sl = s.sl ∧ u.dram = s.dram ∧ u.cal = s.cal ∧ u.jr = s.jr ∧ u.feed = s.feed ∧
    u.hem = s.hem ∧ u.job = s.job ∧ u.bands = s.bands ∧ u.cc = s.cc ∧ u.loom = s.loom ∧ u.pol = s.pol ∧ u.sh = s.sh ∧ u.cf = s.cf ∧
    u.pending = s.pending ∧ u.free = s.free := by
  simp [State.coastAxis]

@[simp] theorem State.axisFollow_frame (a : ℕ) (s : State) :
    let u := State.axisFollow a s
    u.now = s.now ∧ u.eng = s.eng ∧ u.slack = s.slack ∧ u.out = s.out ∧ u.fc = s.fc ∧ u.dike = s.dike ∧ u.tu = s.tu ∧ u.twin = s.twin ∧
    u.ring = s.ring ∧ u.mb = s.mb ∧ u.cp = s.cp ∧ u.sl = s.sl ∧ u.dram = s.dram ∧ u.cal = s.cal ∧ u.jr = s.jr ∧ u.feed = s.feed ∧
    u.hem = s.hem ∧ u.job = s.job ∧ u.bands = s.bands ∧ u.cc = s.cc ∧ u.loom = s.loom ∧ u.pol = s.pol ∧ u.sh = s.sh ∧ u.cf = s.cf ∧
    u.pending = s.pending ∧ u.free = s.free := by
  simp [State.axisFollow]

@[simp] theorem State.axesFollow_frame (s : State) :
    let u := State.axesFollow s
    u.now = s.now ∧ u.eng = s.eng ∧ u.slack = s.slack ∧ u.out = s.out ∧ u.fc = s.fc ∧ u.dike = s.dike ∧ u.tu = s.tu ∧ u.twin = s.twin ∧
    u.ring = s.ring ∧ u.mb = s.mb ∧ u.cp = s.cp ∧ u.sl = s.sl ∧ u.dram = s.dram ∧ u.cal = s.cal ∧ u.jr = s.jr ∧ u.feed = s.feed ∧
    u.hem = s.hem ∧ u.job = s.job ∧ u.bands = s.bands ∧ u.cc = s.cc ∧ u.loom = s.loom ∧ u.pol = s.pol ∧ u.sh = s.sh ∧ u.cf = s.cf ∧
    u.pending = s.pending ∧ u.free = s.free := by
  unfold State.axesFollow
  dsimp only
  (repeat' split) <;> first
    | (simp; done)
    | (refine ⟨(foldl_keep State.now _ _ _ ?_).trans ?_, (foldl_keep State.eng _ _ _ ?_).trans ?_, (foldl_keep State.slack _ _ _ ?_).trans ?_,
        (foldl_keep State.out _ _ _ ?_).trans ?_, (foldl_keep State.fc _ _ _ ?_).trans ?_, (foldl_keep State.dike _ _ _ ?_).trans ?_,
        (foldl_keep State.tu _ _ _ ?_).trans ?_, (foldl_keep State.twin _ _ _ ?_).trans ?_, (foldl_keep State.ring _ _ _ ?_).trans ?_,
        (foldl_keep State.mb _ _ _ ?_).trans ?_, (foldl_keep State.cp _ _ _ ?_).trans ?_, (foldl_keep State.sl _ _ _ ?_).trans ?_,
        (foldl_keep State.dram _ _ _ ?_).trans ?_, (foldl_keep State.cal _ _ _ ?_).trans ?_, (foldl_keep State.jr _ _ _ ?_).trans ?_,
        (foldl_keep State.feed _ _ _ ?_).trans ?_, (foldl_keep State.hem _ _ _ ?_).trans ?_, (foldl_keep State.job _ _ _ ?_).trans ?_,
        (foldl_keep State.bands _ _ _ ?_).trans ?_, (foldl_keep State.cc _ _ _ ?_).trans ?_, (foldl_keep State.loom _ _ _ ?_).trans ?_,
        (foldl_keep State.pol _ _ _ ?_).trans ?_, (foldl_keep State.sh _ _ _ ?_).trans ?_, (foldl_keep State.cf _ _ _ ?_).trans ?_,
        (foldl_keep State.pending _ _ _ ?_).trans ?_, (foldl_keep State.free _ _ _ ?_).trans ?_⟩ <;>
        first | (simp; done) | (intro s x; (try dsimp only); (repeat' split) <;> simp; done))

@[simp] theorem State.dikeCycle_frame (a : ℕ) (y : Option ℤ) (s : State) :
    let u := State.dikeCycle a y s
    u.now = s.now ∧ u.eng = s.eng ∧ u.slack = s.slack ∧ u.out = s.out ∧ u.fc = s.fc ∧ u.tu = s.tu ∧ u.twin = s.twin ∧ u.ring = s.ring ∧
    u.mb = s.mb ∧ u.cp = s.cp ∧ u.sl = s.sl ∧ u.dram = s.dram ∧ u.cal = s.cal ∧ u.jr = s.jr ∧ u.feed = s.feed ∧ u.hem = s.hem ∧
    u.job = s.job ∧ u.bands = s.bands ∧ u.cc = s.cc ∧ u.loom = s.loom ∧ u.pol = s.pol ∧ u.sh = s.sh ∧ u.cf = s.cf ∧ u.pending = s.pending ∧
    u.free = s.free := by
  unfold State.dikeCycle
  dsimp only
  (repeat' split) <;> simp

@[simp] theorem State.brakeTimeout_frame (a : ℕ) (s : State) :
    let u := State.brakeTimeout a s
    u.now = s.now ∧ u.eng = s.eng ∧ u.slack = s.slack ∧ u.arb = s.arb ∧ u.out = s.out ∧ u.fc = s.fc ∧ u.tu = s.tu ∧ u.twin = s.twin ∧
    u.ring = s.ring ∧ u.mb = s.mb ∧ u.cp = s.cp ∧ u.sl = s.sl ∧ u.dram = s.dram ∧ u.cal = s.cal ∧ u.jr = s.jr ∧ u.feed = s.feed ∧
    u.br = s.br ∧ u.hem = s.hem ∧ u.job = s.job ∧ u.bands = s.bands ∧ u.cc = s.cc ∧ u.loom = s.loom ∧ u.pol = s.pol ∧ u.sh = s.sh ∧
    u.cf = s.cf ∧ u.pending = s.pending ∧ u.free = s.free := by
  simp [State.brakeTimeout]

@[simp] theorem State.makeFrame_frame (s : State) :
    let u := State.makeFrame s
    u.now = s.now ∧ u.eng = s.eng ∧ u.slack = s.slack ∧ u.arb = s.arb ∧ u.out = s.out ∧ u.fc = s.fc ∧ u.dike = s.dike ∧ u.tu = s.tu ∧
    u.twin = s.twin ∧ u.ring = s.ring ∧ u.mb = s.mb ∧ u.cp = s.cp ∧ u.sl = s.sl ∧ u.dram = s.dram ∧ u.cal = s.cal ∧ u.jr = s.jr ∧
    u.feed = s.feed ∧ u.hem = s.hem ∧ u.job = s.job ∧ u.bands = s.bands ∧ u.cc = s.cc ∧ u.loom = s.loom ∧ u.pol = s.pol ∧ u.sh = s.sh ∧
    u.cf = s.cf ∧ u.pending = s.pending ∧ u.free = s.free := by
  simp [State.makeFrame]

@[simp] theorem State.sendLink_frame (link cycle : ℕ) (set : List ℤ) (ctrl : ℕ) (s : State) :
    let u := State.sendLink link cycle set ctrl s
    u.now = s.now ∧ u.eng = s.eng ∧ u.slack = s.slack ∧ u.arb = s.arb ∧ u.dike = s.dike ∧ u.tu = s.tu ∧ u.twin = s.twin ∧ u.ring = s.ring ∧
    u.mb = s.mb ∧ u.cp = s.cp ∧ u.sl = s.sl ∧ u.dram = s.dram ∧ u.cal = s.cal ∧ u.jr = s.jr ∧ u.feed = s.feed ∧ u.hem = s.hem ∧
    u.job = s.job ∧ u.bands = s.bands ∧ u.cc = s.cc ∧ u.loom = s.loom ∧ u.pol = s.pol ∧ u.sh = s.sh ∧ u.cf = s.cf ∧ u.pending = s.pending ∧
    u.free = s.free := by
  simp [State.sendLink]

@[simp] theorem State.sendAct_frame (f : ActFrame) (s : State) :
    let u := State.sendAct f s
    u.now = s.now ∧ u.eng = s.eng ∧ u.slack = s.slack ∧ u.arb = s.arb ∧ u.dike = s.dike ∧ u.tu = s.tu ∧ u.twin = s.twin ∧ u.ring = s.ring ∧
    u.mb = s.mb ∧ u.cp = s.cp ∧ u.sl = s.sl ∧ u.dram = s.dram ∧ u.cal = s.cal ∧ u.jr = s.jr ∧ u.feed = s.feed ∧ u.hem = s.hem ∧
    u.job = s.job ∧ u.bands = s.bands ∧ u.cc = s.cc ∧ u.loom = s.loom ∧ u.pol = s.pol ∧ u.sh = s.sh ∧ u.cf = s.cf ∧ u.pending = s.pending ∧
    u.free = s.free := by
  simp [State.sendAct]

@[simp] theorem State.copyMissed_frame (s : State) :
    let u := State.copyMissed s
    u.now = s.now ∧ u.eng = s.eng ∧ u.slack = s.slack ∧ u.out = s.out ∧ u.fc = s.fc ∧ u.dike = s.dike ∧ u.tu = s.tu ∧ u.twin = s.twin ∧
    u.ring = s.ring ∧ u.mb = s.mb ∧ u.cp = s.cp ∧ u.sl = s.sl ∧ u.dram = s.dram ∧ u.cal = s.cal ∧ u.jr = s.jr ∧ u.feed = s.feed ∧
    u.hem = s.hem ∧ u.job = s.job ∧ u.bands = s.bands ∧ u.cc = s.cc ∧ u.loom = s.loom ∧ u.pol = s.pol ∧ u.sh = s.sh ∧ u.cf = s.cf ∧
    u.pending = s.pending ∧ u.free = s.free := by
  simp [State.copyMissed]

@[simp] theorem State.becomeActive_frame (s : State) :
    let u := State.becomeActive s
    u.now = s.now ∧ u.slack = s.slack ∧ u.tu = s.tu ∧ u.ring = s.ring ∧ u.cp = s.cp ∧ u.dram = s.dram ∧ u.cal = s.cal ∧ u.jr = s.jr ∧
    u.feed = s.feed ∧ u.job = s.job ∧ u.bands = s.bands ∧ u.cc = s.cc ∧ u.loom = s.loom ∧ u.pol = s.pol ∧ u.sh = s.sh ∧
    u.pending = s.pending ∧ u.free = s.free := by
  simp [State.becomeActive]

@[simp] theorem State.outputPhase_frame (finished : Bool) (s : State) :
    let u := State.outputPhase finished s
    u.now = s.now ∧ u.slack = s.slack ∧ u.tu = s.tu ∧ u.ring = s.ring ∧ u.cp = s.cp ∧ u.dram = s.dram ∧ u.cal = s.cal ∧ u.jr = s.jr ∧
    u.feed = s.feed ∧ u.job = s.job ∧ u.bands = s.bands ∧ u.cc = s.cc ∧ u.loom = s.loom ∧ u.pol = s.pol ∧ u.sh = s.sh ∧
    u.pending = s.pending ∧ u.free = s.free := by
  unfold State.outputPhase
  dsimp only
  (repeat' split) <;> simp

@[simp] theorem State.approach_frame (st : Stripe) (s : State) :
    let u := State.approach st s
    u.now = s.now ∧ u.eng = s.eng ∧ u.slack = s.slack ∧ u.arb = s.arb ∧ u.out = s.out ∧ u.fc = s.fc ∧ u.dike = s.dike ∧ u.tu = s.tu ∧
    u.twin = s.twin ∧ u.ring = s.ring ∧ u.mb = s.mb ∧ u.cp = s.cp ∧ u.sl = s.sl ∧ u.dram = s.dram ∧ u.cal = s.cal ∧ u.jr = s.jr ∧
    u.feed = s.feed ∧ u.hem = s.hem ∧ u.job = s.job ∧ u.bands = s.bands ∧ u.cc = s.cc ∧ u.loom = s.loom ∧ u.pol = s.pol ∧ u.sh = s.sh ∧
    u.cf = s.cf ∧ u.pending = s.pending ∧ u.free = s.free := by
  unfold State.approach
  dsimp only
  (repeat' split) <;> first
    | (simp; done)
    | (refine ⟨(foldl_keep State.now _ _ _ ?_).trans ?_, (foldl_keep State.eng _ _ _ ?_).trans ?_, (foldl_keep State.slack _ _ _ ?_).trans ?_,
        (foldl_keep State.arb _ _ _ ?_).trans ?_, (foldl_keep State.out _ _ _ ?_).trans ?_, (foldl_keep State.fc _ _ _ ?_).trans ?_,
        (foldl_keep State.dike _ _ _ ?_).trans ?_, (foldl_keep State.tu _ _ _ ?_).trans ?_, (foldl_keep State.twin _ _ _ ?_).trans ?_,
        (foldl_keep State.ring _ _ _ ?_).trans ?_, (foldl_keep State.mb _ _ _ ?_).trans ?_, (foldl_keep State.cp _ _ _ ?_).trans ?_,
        (foldl_keep State.sl _ _ _ ?_).trans ?_, (foldl_keep State.dram _ _ _ ?_).trans ?_, (foldl_keep State.cal _ _ _ ?_).trans ?_,
        (foldl_keep State.jr _ _ _ ?_).trans ?_, (foldl_keep State.feed _ _ _ ?_).trans ?_, (foldl_keep State.hem _ _ _ ?_).trans ?_,
        (foldl_keep State.job _ _ _ ?_).trans ?_, (foldl_keep State.bands _ _ _ ?_).trans ?_, (foldl_keep State.cc _ _ _ ?_).trans ?_,
        (foldl_keep State.loom _ _ _ ?_).trans ?_, (foldl_keep State.pol _ _ _ ?_).trans ?_, (foldl_keep State.sh _ _ _ ?_).trans ?_,
        (foldl_keep State.cf _ _ _ ?_).trans ?_, (foldl_keep State.pending _ _ _ ?_).trans ?_, (foldl_keep State.free _ _ _ ?_).trans ?_⟩ <;>
        first | (simp; done) | (intro s x; (try dsimp only); (repeat' split) <;> simp; done))

@[simp] theorem State.runMotion_frame (f : ℕ) (s : State) :
    let u := State.runMotion f s
    u.now = s.now ∧ u.eng = s.eng ∧ u.slack = s.slack ∧ u.out = s.out ∧ u.fc = s.fc ∧ u.dike = s.dike ∧ u.tu = s.tu ∧ u.twin = s.twin ∧
    u.ring = s.ring ∧ u.mb = s.mb ∧ u.cp = s.cp ∧ u.sl = s.sl ∧ u.dram = s.dram ∧ u.cal = s.cal ∧ u.jr = s.jr ∧ u.feed = s.feed ∧
    u.hem = s.hem ∧ u.job = s.job ∧ u.bands = s.bands ∧ u.cc = s.cc ∧ u.loom = s.loom ∧ u.pol = s.pol ∧ u.sh = s.sh ∧ u.cf = s.cf ∧
    u.pending = s.pending ∧ u.free = s.free := by
  unfold State.runMotion
  try dsimp only
  (repeat' split) <;> first
    | (simp; done)
    | (rename_i h; have h := tryPlan_frame h; simp [h]; done)

@[simp] theorem State.seamStopMotion_frame (s : State) :
    let u := State.seamStopMotion s
    u.now = s.now ∧ u.eng = s.eng ∧ u.slack = s.slack ∧ u.arb = s.arb ∧ u.out = s.out ∧ u.fc = s.fc ∧ u.dike = s.dike ∧ u.tu = s.tu ∧
    u.twin = s.twin ∧ u.ring = s.ring ∧ u.mb = s.mb ∧ u.cp = s.cp ∧ u.sl = s.sl ∧ u.dram = s.dram ∧ u.cal = s.cal ∧ u.jr = s.jr ∧
    u.feed = s.feed ∧ u.hem = s.hem ∧ u.job = s.job ∧ u.bands = s.bands ∧ u.cc = s.cc ∧ u.loom = s.loom ∧ u.pol = s.pol ∧ u.sh = s.sh ∧
    u.cf = s.cf ∧ u.pending = s.pending ∧ u.free = s.free := by
  simp [State.seamStopMotion]

@[simp] theorem State.runOut_frame (s : State) :
    let u := State.runOut s
    u.now = s.now ∧ u.eng = s.eng ∧ u.slack = s.slack ∧ u.arb = s.arb ∧ u.out = s.out ∧ u.fc = s.fc ∧ u.dike = s.dike ∧ u.tu = s.tu ∧
    u.twin = s.twin ∧ u.ring = s.ring ∧ u.mb = s.mb ∧ u.cp = s.cp ∧ u.sl = s.sl ∧ u.dram = s.dram ∧ u.cal = s.cal ∧ u.jr = s.jr ∧
    u.feed = s.feed ∧ u.hem = s.hem ∧ u.job = s.job ∧ u.bands = s.bands ∧ u.cc = s.cc ∧ u.loom = s.loom ∧ u.pol = s.pol ∧ u.sh = s.sh ∧
    u.cf = s.cf ∧ u.pending = s.pending ∧ u.free = s.free := by
  simp [State.runOut]

@[simp] theorem State.backUp_frame (s : State) :
    let u := State.backUp s
    u.now = s.now ∧ u.eng = s.eng ∧ u.slack = s.slack ∧ u.out = s.out ∧ u.fc = s.fc ∧ u.dike = s.dike ∧ u.tu = s.tu ∧ u.twin = s.twin ∧
    u.ring = s.ring ∧ u.mb = s.mb ∧ u.cp = s.cp ∧ u.sl = s.sl ∧ u.dram = s.dram ∧ u.cal = s.cal ∧ u.jr = s.jr ∧ u.feed = s.feed ∧
    u.hem = s.hem ∧ u.job = s.job ∧ u.bands = s.bands ∧ u.cc = s.cc ∧ u.loom = s.loom ∧ u.pol = s.pol ∧ u.sh = s.sh ∧ u.cf = s.cf ∧
    u.pending = s.pending ∧ u.free = s.free := by
  unfold State.backUp
  try dsimp only
  (repeat' split) <;> first
    | (simp; done)
    | (rename_i h; have h := tryPlan_frame h; simp [h]; done)

@[simp] theorem State.stageStopped_frame (s : State) :
    let u := State.stageStopped s
    u.now = s.now ∧ u.eng = s.eng ∧ u.slack = s.slack ∧ u.out = s.out ∧ u.fc = s.fc ∧ u.dike = s.dike ∧ u.tu = s.tu ∧ u.twin = s.twin ∧
    u.ring = s.ring ∧ u.mb = s.mb ∧ u.cp = s.cp ∧ u.sl = s.sl ∧ u.dram = s.dram ∧ u.cal = s.cal ∧ u.jr = s.jr ∧ u.feed = s.feed ∧
    u.job = s.job ∧ u.bands = s.bands ∧ u.cc = s.cc ∧ u.loom = s.loom ∧ u.pol = s.pol ∧ u.sh = s.sh ∧ u.cf = s.cf ∧ u.pending = s.pending ∧
    u.free = s.free := by
  simp [State.stageStopped]

@[simp] theorem State.updHoming_frame (a : ℕ) (f : Homing → Homing) (s : State) :
    let u := State.updHoming a f s
    u.now = s.now ∧ u.eng = s.eng ∧ u.slack = s.slack ∧ u.arb = s.arb ∧ u.out = s.out ∧ u.fc = s.fc ∧ u.dike = s.dike ∧ u.tu = s.tu ∧
    u.twin = s.twin ∧ u.ring = s.ring ∧ u.mb = s.mb ∧ u.cp = s.cp ∧ u.sl = s.sl ∧ u.dram = s.dram ∧ u.cal = s.cal ∧ u.jr = s.jr ∧
    u.feed = s.feed ∧ u.hem = s.hem ∧ u.job = s.job ∧ u.bands = s.bands ∧ u.cc = s.cc ∧ u.loom = s.loom ∧ u.pol = s.pol ∧ u.sh = s.sh ∧
    u.cf = s.cf ∧ u.pending = s.pending ∧ u.free = s.free := by
  simp [State.updHoming]

@[simp] theorem State.homeFail_frame (a : ℕ) (s : State) :
    let u := State.homeFail a s
    u.now = s.now ∧ u.eng = s.eng ∧ u.slack = s.slack ∧ u.out = s.out ∧ u.fc = s.fc ∧ u.dike = s.dike ∧ u.tu = s.tu ∧ u.twin = s.twin ∧
    u.ring = s.ring ∧ u.mb = s.mb ∧ u.cp = s.cp ∧ u.sl = s.sl ∧ u.dram = s.dram ∧ u.cal = s.cal ∧ u.jr = s.jr ∧ u.feed = s.feed ∧
    u.hem = s.hem ∧ u.job = s.job ∧ u.bands = s.bands ∧ u.cc = s.cc ∧ u.loom = s.loom ∧ u.pol = s.pol ∧ u.sh = s.sh ∧ u.cf = s.cf ∧
    u.pending = s.pending ∧ u.free = s.free := by
  simp [State.homeFail]

@[simp] theorem State.homePlan_frame (a : ℕ) (plan : Option (Plan × Option Plan)) (s : State) :
    let u := State.homePlan a plan s
    u.now = s.now ∧ u.eng = s.eng ∧ u.slack = s.slack ∧ u.out = s.out ∧ u.fc = s.fc ∧ u.dike = s.dike ∧ u.tu = s.tu ∧ u.twin = s.twin ∧
    u.ring = s.ring ∧ u.mb = s.mb ∧ u.cp = s.cp ∧ u.sl = s.sl ∧ u.dram = s.dram ∧ u.cal = s.cal ∧ u.jr = s.jr ∧ u.feed = s.feed ∧
    u.hem = s.hem ∧ u.job = s.job ∧ u.bands = s.bands ∧ u.cc = s.cc ∧ u.loom = s.loom ∧ u.pol = s.pol ∧ u.sh = s.sh ∧ u.cf = s.cf ∧
    u.pending = s.pending ∧ u.free = s.free := by
  unfold State.homePlan
  try dsimp only
  (repeat' split) <;> first
    | (simp; done)
    | (rename_i h; have h := tryPlan_frame h; simp [h]; done)

@[simp] theorem State.homeSpeed_frame (a : ℕ) (v : ℤ) (s : State) :
    let u := State.homeSpeed a v s
    u.now = s.now ∧ u.eng = s.eng ∧ u.slack = s.slack ∧ u.out = s.out ∧ u.fc = s.fc ∧ u.dike = s.dike ∧ u.tu = s.tu ∧ u.twin = s.twin ∧
    u.ring = s.ring ∧ u.mb = s.mb ∧ u.cp = s.cp ∧ u.sl = s.sl ∧ u.dram = s.dram ∧ u.cal = s.cal ∧ u.jr = s.jr ∧ u.feed = s.feed ∧
    u.hem = s.hem ∧ u.job = s.job ∧ u.bands = s.bands ∧ u.cc = s.cc ∧ u.loom = s.loom ∧ u.pol = s.pol ∧ u.sh = s.sh ∧ u.cf = s.cf ∧
    u.pending = s.pending ∧ u.free = s.free := by
  simp [State.homeSpeed]

@[simp] theorem State.homeStop_frame (a : ℕ) (seg : HomeSeg) (s : State) :
    let u := State.homeStop a seg s
    u.now = s.now ∧ u.eng = s.eng ∧ u.slack = s.slack ∧ u.arb = s.arb ∧ u.out = s.out ∧ u.fc = s.fc ∧ u.dike = s.dike ∧ u.tu = s.tu ∧
    u.twin = s.twin ∧ u.ring = s.ring ∧ u.mb = s.mb ∧ u.cp = s.cp ∧ u.sl = s.sl ∧ u.dram = s.dram ∧ u.cal = s.cal ∧ u.jr = s.jr ∧
    u.feed = s.feed ∧ u.hem = s.hem ∧ u.job = s.job ∧ u.bands = s.bands ∧ u.cc = s.cc ∧ u.loom = s.loom ∧ u.pol = s.pol ∧ u.sh = s.sh ∧
    u.cf = s.cf ∧ u.pending = s.pending ∧ u.free = s.free := by
  simp [State.homeStop]

@[simp] theorem State.homeSearch_frame (a : ℕ) (seg : HomeSeg) (v : ℤ) (s : State) :
    let u := State.homeSearch a seg v s
    u.now = s.now ∧ u.eng = s.eng ∧ u.slack = s.slack ∧ u.out = s.out ∧ u.fc = s.fc ∧ u.dike = s.dike ∧ u.tu = s.tu ∧ u.twin = s.twin ∧
    u.ring = s.ring ∧ u.mb = s.mb ∧ u.cp = s.cp ∧ u.sl = s.sl ∧ u.dram = s.dram ∧ u.cal = s.cal ∧ u.jr = s.jr ∧ u.feed = s.feed ∧
    u.hem = s.hem ∧ u.job = s.job ∧ u.bands = s.bands ∧ u.cc = s.cc ∧ u.loom = s.loom ∧ u.pol = s.pol ∧ u.sh = s.sh ∧ u.cf = s.cf ∧
    u.pending = s.pending ∧ u.free = s.free := by
  simp [State.homeSearch]

@[simp] theorem State.homeReference_frame (a : ℕ) (x1 : Homing) (ph : ℤ) (s : State) :
    let u := State.homeReference a x1 ph s
    u.now = s.now ∧ u.eng = s.eng ∧ u.slack = s.slack ∧ u.arb = s.arb ∧ u.out = s.out ∧ u.fc = s.fc ∧ u.tu = s.tu ∧ u.twin = s.twin ∧
    u.ring = s.ring ∧ u.mb = s.mb ∧ u.cp = s.cp ∧ u.sl = s.sl ∧ u.dram = s.dram ∧ u.cal = s.cal ∧ u.jr = s.jr ∧ u.hem = s.hem ∧
    u.job = s.job ∧ u.bands = s.bands ∧ u.cc = s.cc ∧ u.loom = s.loom ∧ u.pol = s.pol ∧ u.sh = s.sh ∧ u.cf = s.cf ∧ u.pending = s.pending ∧
    u.free = s.free := by
  simp [State.homeReference]

@[simp] theorem State.homeDone_frame (a : ℕ) (s : State) :
    let u := State.homeDone a s
    u.now = s.now ∧ u.eng = s.eng ∧ u.slack = s.slack ∧ u.arb = s.arb ∧ u.out = s.out ∧ u.fc = s.fc ∧ u.dike = s.dike ∧ u.tu = s.tu ∧
    u.twin = s.twin ∧ u.ring = s.ring ∧ u.mb = s.mb ∧ u.cp = s.cp ∧ u.sl = s.sl ∧ u.dram = s.dram ∧ u.cal = s.cal ∧ u.jr = s.jr ∧
    u.hem = s.hem ∧ u.job = s.job ∧ u.bands = s.bands ∧ u.cc = s.cc ∧ u.loom = s.loom ∧ u.pol = s.pol ∧ u.sh = s.sh ∧ u.cf = s.cf ∧
    u.pending = s.pending ∧ u.free = s.free := by
  simp [State.homeDone]

@[simp] theorem State.homeIndexEvent_frame (src : ℕ) (s : State) :
    let u := State.homeIndexEvent src s
    u.now = s.now ∧ u.eng = s.eng ∧ u.slack = s.slack ∧ u.arb = s.arb ∧ u.out = s.out ∧ u.fc = s.fc ∧ u.dike = s.dike ∧ u.tu = s.tu ∧
    u.twin = s.twin ∧ u.ring = s.ring ∧ u.mb = s.mb ∧ u.cp = s.cp ∧ u.sl = s.sl ∧ u.dram = s.dram ∧ u.cal = s.cal ∧ u.jr = s.jr ∧
    u.feed = s.feed ∧ u.hem = s.hem ∧ u.job = s.job ∧ u.bands = s.bands ∧ u.cc = s.cc ∧ u.loom = s.loom ∧ u.pol = s.pol ∧ u.sh = s.sh ∧
    u.cf = s.cf ∧ u.pending = s.pending ∧ u.free = s.free := by
  unfold State.homeIndexEvent
  dsimp only
  (repeat' split) <;> first
    | (simp; done)
    | (refine ⟨(foldl_keep State.now _ _ _ ?_).trans ?_, (foldl_keep State.eng _ _ _ ?_).trans ?_, (foldl_keep State.slack _ _ _ ?_).trans ?_,
        (foldl_keep State.arb _ _ _ ?_).trans ?_, (foldl_keep State.out _ _ _ ?_).trans ?_, (foldl_keep State.fc _ _ _ ?_).trans ?_,
        (foldl_keep State.dike _ _ _ ?_).trans ?_, (foldl_keep State.tu _ _ _ ?_).trans ?_, (foldl_keep State.twin _ _ _ ?_).trans ?_,
        (foldl_keep State.ring _ _ _ ?_).trans ?_, (foldl_keep State.mb _ _ _ ?_).trans ?_, (foldl_keep State.cp _ _ _ ?_).trans ?_,
        (foldl_keep State.sl _ _ _ ?_).trans ?_, (foldl_keep State.dram _ _ _ ?_).trans ?_, (foldl_keep State.cal _ _ _ ?_).trans ?_,
        (foldl_keep State.jr _ _ _ ?_).trans ?_, (foldl_keep State.feed _ _ _ ?_).trans ?_, (foldl_keep State.hem _ _ _ ?_).trans ?_,
        (foldl_keep State.job _ _ _ ?_).trans ?_, (foldl_keep State.bands _ _ _ ?_).trans ?_, (foldl_keep State.cc _ _ _ ?_).trans ?_,
        (foldl_keep State.loom _ _ _ ?_).trans ?_, (foldl_keep State.pol _ _ _ ?_).trans ?_, (foldl_keep State.sh _ _ _ ?_).trans ?_,
        (foldl_keep State.cf _ _ _ ?_).trans ?_, (foldl_keep State.pending _ _ _ ?_).trans ?_, (foldl_keep State.free _ _ _ ?_).trans ?_⟩ <;>
        first | (simp; done) | (intro s x; (try dsimp only); (repeat' split) <;> simp; done))

@[simp] theorem State.homeIndex_frame (a : ℕ) (x1 : Homing) (far : Bool) (s : State) :
    let u := State.homeIndex a x1 far s
    u.now = s.now ∧ u.eng = s.eng ∧ u.slack = s.slack ∧ u.out = s.out ∧ u.fc = s.fc ∧ u.tu = s.tu ∧ u.twin = s.twin ∧ u.ring = s.ring ∧
    u.mb = s.mb ∧ u.cp = s.cp ∧ u.sl = s.sl ∧ u.dram = s.dram ∧ u.cal = s.cal ∧ u.jr = s.jr ∧ u.hem = s.hem ∧ u.job = s.job ∧
    u.bands = s.bands ∧ u.cc = s.cc ∧ u.loom = s.loom ∧ u.pol = s.pol ∧ u.sh = s.sh ∧ u.cf = s.cf ∧ u.pending = s.pending ∧ u.free = s.free := by
  unfold State.homeIndex
  dsimp only
  (repeat' split) <;> simp

@[simp] theorem State.homeStep_frame (a : ℕ) (last : Bool) (s : State) :
    let u := State.homeStep a last s
    u.now = s.now ∧ u.eng = s.eng ∧ u.slack = s.slack ∧ u.out = s.out ∧ u.fc = s.fc ∧ u.tu = s.tu ∧ u.twin = s.twin ∧ u.ring = s.ring ∧
    u.mb = s.mb ∧ u.cp = s.cp ∧ u.sl = s.sl ∧ u.dram = s.dram ∧ u.cal = s.cal ∧ u.jr = s.jr ∧ u.hem = s.hem ∧ u.job = s.job ∧
    u.bands = s.bands ∧ u.cc = s.cc ∧ u.loom = s.loom ∧ u.pol = s.pol ∧ u.sh = s.sh ∧ u.cf = s.cf ∧ u.pending = s.pending ∧ u.free = s.free := by
  unfold State.homeStep
  dsimp only
  (repeat' split) <;> simp

@[simp] theorem State.homeEdge_frame (n tRaw : ℕ) (s : State) :
    let u := State.homeEdge n tRaw s
    u.now = s.now ∧ u.eng = s.eng ∧ u.slack = s.slack ∧ u.arb = s.arb ∧ u.out = s.out ∧ u.fc = s.fc ∧ u.dike = s.dike ∧ u.tu = s.tu ∧
    u.twin = s.twin ∧ u.ring = s.ring ∧ u.mb = s.mb ∧ u.cp = s.cp ∧ u.sl = s.sl ∧ u.dram = s.dram ∧ u.cal = s.cal ∧ u.jr = s.jr ∧
    u.feed = s.feed ∧ u.hem = s.hem ∧ u.job = s.job ∧ u.bands = s.bands ∧ u.cc = s.cc ∧ u.loom = s.loom ∧ u.pol = s.pol ∧ u.sh = s.sh ∧
    u.cf = s.cf ∧ u.pending = s.pending ∧ u.free = s.free := by
  simp [State.homeEdge]

@[simp] theorem State.limitHit_frame (a input : ℕ) (s : State) :
    let u := State.limitHit a input s
    u.now = s.now ∧ u.eng = s.eng ∧ u.slack = s.slack ∧ u.out = s.out ∧ u.fc = s.fc ∧ u.dike = s.dike ∧ u.tu = s.tu ∧ u.twin = s.twin ∧
    u.ring = s.ring ∧ u.mb = s.mb ∧ u.cp = s.cp ∧ u.sl = s.sl ∧ u.dram = s.dram ∧ u.cal = s.cal ∧ u.jr = s.jr ∧ u.feed = s.feed ∧
    u.hem = s.hem ∧ u.job = s.job ∧ u.bands = s.bands ∧ u.cc = s.cc ∧ u.loom = s.loom ∧ u.pol = s.pol ∧ u.sh = s.sh ∧ u.cf = s.cf ∧
    u.pending = s.pending ∧ u.free = s.free := by
  unfold State.limitHit
  dsimp only
  split <;> simp

@[simp] theorem State.takeSample_frame (a : ℕ) (s : State) :
    let u := State.takeSample a s
    u.now = s.now ∧ u.eng = s.eng ∧ u.slack = s.slack ∧ u.out = s.out ∧ u.fc = s.fc ∧ u.dike = s.dike ∧ u.tu = s.tu ∧ u.twin = s.twin ∧
    u.ring = s.ring ∧ u.mb = s.mb ∧ u.cp = s.cp ∧ u.sl = s.sl ∧ u.dram = s.dram ∧ u.cal = s.cal ∧ u.jr = s.jr ∧ u.feed = s.feed ∧
    u.hem = s.hem ∧ u.job = s.job ∧ u.bands = s.bands ∧ u.cc = s.cc ∧ u.loom = s.loom ∧ u.pol = s.pol ∧ u.sh = s.sh ∧ u.cf = s.cf ∧
    u.pending = s.pending ∧ u.free = s.free := by
  simp [State.takeSample]

@[simp] theorem State.advanceAxes_frame (s : State) :
    let u := (State.advanceAxes s).2
    u.now = s.now ∧ u.eng = s.eng ∧ u.slack = s.slack ∧ u.arb = s.arb ∧ u.out = s.out ∧ u.fc = s.fc ∧ u.dike = s.dike ∧ u.tu = s.tu ∧
    u.twin = s.twin ∧ u.ring = s.ring ∧ u.mb = s.mb ∧ u.cp = s.cp ∧ u.sl = s.sl ∧ u.dram = s.dram ∧ u.cal = s.cal ∧ u.jr = s.jr ∧
    u.feed = s.feed ∧ u.hem = s.hem ∧ u.job = s.job ∧ u.bands = s.bands ∧ u.cc = s.cc ∧ u.loom = s.loom ∧ u.pol = s.pol ∧ u.sh = s.sh ∧
    u.cf = s.cf ∧ u.pending = s.pending ∧ u.free = s.free := by
  unfold State.advanceAxes
  dsimp only
  (repeat' split) <;> first
    | (simp; done)
    | (refine ⟨(foldl_keep₂ State.now _ _ _ ?_).trans ?_, (foldl_keep₂ State.eng _ _ _ ?_).trans ?_, (foldl_keep₂ State.slack _ _ _ ?_).trans ?_,
        (foldl_keep₂ State.arb _ _ _ ?_).trans ?_, (foldl_keep₂ State.out _ _ _ ?_).trans ?_, (foldl_keep₂ State.fc _ _ _ ?_).trans ?_,
        (foldl_keep₂ State.dike _ _ _ ?_).trans ?_, (foldl_keep₂ State.tu _ _ _ ?_).trans ?_, (foldl_keep₂ State.twin _ _ _ ?_).trans ?_,
        (foldl_keep₂ State.ring _ _ _ ?_).trans ?_, (foldl_keep₂ State.mb _ _ _ ?_).trans ?_, (foldl_keep₂ State.cp _ _ _ ?_).trans ?_,
        (foldl_keep₂ State.sl _ _ _ ?_).trans ?_, (foldl_keep₂ State.dram _ _ _ ?_).trans ?_, (foldl_keep₂ State.cal _ _ _ ?_).trans ?_,
        (foldl_keep₂ State.jr _ _ _ ?_).trans ?_, (foldl_keep₂ State.feed _ _ _ ?_).trans ?_, (foldl_keep₂ State.hem _ _ _ ?_).trans ?_,
        (foldl_keep₂ State.job _ _ _ ?_).trans ?_, (foldl_keep₂ State.bands _ _ _ ?_).trans ?_, (foldl_keep₂ State.cc _ _ _ ?_).trans ?_,
        (foldl_keep₂ State.loom _ _ _ ?_).trans ?_, (foldl_keep₂ State.pol _ _ _ ?_).trans ?_, (foldl_keep₂ State.sh _ _ _ ?_).trans ?_,
        (foldl_keep₂ State.cf _ _ _ ?_).trans ?_, (foldl_keep₂ State.pending _ _ _ ?_).trans ?_, (foldl_keep₂ State.free _ _ _ ?_).trans ?_⟩ <;>
        first | (simp; done) | (intro s x; (try dsimp only); (repeat' split) <;> simp; done))

@[simp] theorem State.regionCycle_frame (a : ℕ) (last : Bool) (s : State) :
    let u := State.regionCycle a last s
    u.now = s.now ∧ u.eng = s.eng ∧ u.slack = s.slack ∧ u.arb = s.arb ∧ u.out = s.out ∧ u.fc = s.fc ∧ u.dike = s.dike ∧ u.tu = s.tu ∧
    u.twin = s.twin ∧ u.ring = s.ring ∧ u.mb = s.mb ∧ u.cp = s.cp ∧ u.sl = s.sl ∧ u.dram = s.dram ∧ u.cal = s.cal ∧ u.jr = s.jr ∧
    u.feed = s.feed ∧ u.hem = s.hem ∧ u.job = s.job ∧ u.bands = s.bands ∧ u.cc = s.cc ∧ u.loom = s.loom ∧ u.pol = s.pol ∧ u.sh = s.sh ∧
    u.cf = s.cf ∧ u.pending = s.pending ∧ u.free = s.free := by
  simp [State.regionCycle]

@[simp] theorem State.errorCycle_frame (a : ℕ) (s : State) :
    let u := State.errorCycle a s
    u.now = s.now ∧ u.eng = s.eng ∧ u.slack = s.slack ∧ u.out = s.out ∧ u.fc = s.fc ∧ u.dike = s.dike ∧ u.tu = s.tu ∧ u.twin = s.twin ∧
    u.ring = s.ring ∧ u.mb = s.mb ∧ u.cp = s.cp ∧ u.sl = s.sl ∧ u.dram = s.dram ∧ u.cal = s.cal ∧ u.jr = s.jr ∧ u.feed = s.feed ∧
    u.hem = s.hem ∧ u.job = s.job ∧ u.bands = s.bands ∧ u.cc = s.cc ∧ u.loom = s.loom ∧ u.pol = s.pol ∧ u.sh = s.sh ∧ u.cf = s.cf ∧
    u.pending = s.pending ∧ u.free = s.free := by
  simp [State.errorCycle]

@[simp] theorem State.chainCycle_frame (a : ℕ) (scan first : Bool) (qref vc : ℤ) (s : State) :
    let u := State.chainCycle a scan first qref vc s
    u.now = s.now ∧ u.eng = s.eng ∧ u.slack = s.slack ∧ u.out = s.out ∧ u.fc = s.fc ∧ u.tu = s.tu ∧ u.twin = s.twin ∧ u.ring = s.ring ∧
    u.mb = s.mb ∧ u.cp = s.cp ∧ u.sl = s.sl ∧ u.dram = s.dram ∧ u.cal = s.cal ∧ u.jr = s.jr ∧ u.feed = s.feed ∧ u.hem = s.hem ∧
    u.job = s.job ∧ u.bands = s.bands ∧ u.cc = s.cc ∧ u.loom = s.loom ∧ u.pol = s.pol ∧ u.sh = s.sh ∧ u.cf = s.cf ∧ u.pending = s.pending ∧
    u.free = s.free := by
  simp [State.chainCycle]

@[simp] theorem State.segmentCycle_frame (lasts : List ℕ) (s : State) :
    let u := State.segmentCycle lasts s
    u.now = s.now ∧ u.eng = s.eng ∧ u.slack = s.slack ∧ u.out = s.out ∧ u.fc = s.fc ∧ u.dike = s.dike ∧ u.tu = s.tu ∧ u.twin = s.twin ∧
    u.ring = s.ring ∧ u.mb = s.mb ∧ u.cp = s.cp ∧ u.sl = s.sl ∧ u.dram = s.dram ∧ u.cal = s.cal ∧ u.jr = s.jr ∧ u.feed = s.feed ∧
    u.job = s.job ∧ u.bands = s.bands ∧ u.cc = s.cc ∧ u.loom = s.loom ∧ u.pol = s.pol ∧ u.sh = s.sh ∧ u.cf = s.cf ∧ u.pending = s.pending ∧
    u.free = s.free := by
  unfold State.segmentCycle
  split <;> simp

@[simp] theorem State.shadowCycle_frame (s : State) :
    let u := State.shadowCycle s
    u.now = s.now ∧ u.eng = s.eng ∧ u.slack = s.slack ∧ u.out = s.out ∧ u.fc = s.fc ∧ u.tu = s.tu ∧ u.twin = s.twin ∧ u.ring = s.ring ∧
    u.mb = s.mb ∧ u.cp = s.cp ∧ u.sl = s.sl ∧ u.dram = s.dram ∧ u.cal = s.cal ∧ u.jr = s.jr ∧ u.feed = s.feed ∧ u.hem = s.hem ∧
    u.job = s.job ∧ u.bands = s.bands ∧ u.cc = s.cc ∧ u.loom = s.loom ∧ u.pol = s.pol ∧ u.sh = s.sh ∧ u.cf = s.cf ∧ u.pending = s.pending ∧
    u.free = s.free := by
  unfold State.shadowCycle
  split <;> simp

@[simp] theorem State.servoMotion_frame (s : State) :
    let u := State.servoMotion s
    u.now = s.now ∧ u.eng = s.eng ∧ u.slack = s.slack ∧ u.out = s.out ∧ u.fc = s.fc ∧ u.tu = s.tu ∧ u.twin = s.twin ∧ u.ring = s.ring ∧
    u.mb = s.mb ∧ u.cp = s.cp ∧ u.sl = s.sl ∧ u.dram = s.dram ∧ u.cal = s.cal ∧ u.jr = s.jr ∧ u.job = s.job ∧ u.bands = s.bands ∧
    u.cc = s.cc ∧ u.loom = s.loom ∧ u.pol = s.pol ∧ u.sh = s.sh ∧ u.cf = s.cf ∧ u.pending = s.pending ∧ u.free = s.free := by
  simp [State.servoMotion]

@[simp] theorem State.settleTimeout_frame (a : ℕ) (s : State) :
    let u := State.settleTimeout a s
    u.now = s.now ∧ u.eng = s.eng ∧ u.slack = s.slack ∧ u.out = s.out ∧ u.fc = s.fc ∧ u.dike = s.dike ∧ u.tu = s.tu ∧ u.twin = s.twin ∧
    u.ring = s.ring ∧ u.mb = s.mb ∧ u.cp = s.cp ∧ u.sl = s.sl ∧ u.dram = s.dram ∧ u.cal = s.cal ∧ u.jr = s.jr ∧ u.feed = s.feed ∧
    u.hem = s.hem ∧ u.job = s.job ∧ u.bands = s.bands ∧ u.cc = s.cc ∧ u.loom = s.loom ∧ u.pol = s.pol ∧ u.sh = s.sh ∧ u.cf = s.cf ∧
    u.pending = s.pending ∧ u.free = s.free := by
  simp [State.settleTimeout]

@[simp] theorem State.track_frame (resync : Bool) (ex ey px py : ℤ) (s : State) :
    let u := (State.track resync ex ey px py s).2
    u.now = s.now ∧ u.eng = s.eng ∧ u.slack = s.slack ∧ u.out = s.out ∧ u.fc = s.fc ∧ u.dike = s.dike ∧ u.tu = s.tu ∧ u.twin = s.twin ∧
    u.ring = s.ring ∧ u.mb = s.mb ∧ u.cp = s.cp ∧ u.sl = s.sl ∧ u.dram = s.dram ∧ u.cal = s.cal ∧ u.jr = s.jr ∧ u.feed = s.feed ∧
    u.hem = s.hem ∧ u.job = s.job ∧ u.bands = s.bands ∧ u.cc = s.cc ∧ u.loom = s.loom ∧ u.pol = s.pol ∧ u.sh = s.sh ∧ u.cf = s.cf ∧
    u.pending = s.pending ∧ u.free = s.free := by
  unfold State.track
  split <;> simp

/-! ## Hem.lean -/

@[simp] theorem State.updHem_frame (f : Hem → Hem) (s : State) :
    let u := State.updHem f s
    u.now = s.now ∧ u.eng = s.eng ∧ u.slack = s.slack ∧ u.arb = s.arb ∧ u.out = s.out ∧ u.fc = s.fc ∧ u.dike = s.dike ∧ u.tu = s.tu ∧
    u.twin = s.twin ∧ u.ring = s.ring ∧ u.mb = s.mb ∧ u.cp = s.cp ∧ u.sl = s.sl ∧ u.dram = s.dram ∧ u.cal = s.cal ∧ u.jr = s.jr ∧
    u.feed = s.feed ∧ u.br = s.br ∧ u.job = s.job ∧ u.bands = s.bands ∧ u.cc = s.cc ∧ u.loom = s.loom ∧ u.pol = s.pol ∧ u.sh = s.sh ∧
    u.cf = s.cf ∧ u.pending = s.pending ∧ u.free = s.free := by
  simp [State.updHem]

@[simp] theorem State.hemStats_frame (f : HemStats → HemStats) (s : State) :
    let u := State.hemStats f s
    u.now = s.now ∧ u.eng = s.eng ∧ u.slack = s.slack ∧ u.arb = s.arb ∧ u.out = s.out ∧ u.fc = s.fc ∧ u.dike = s.dike ∧ u.tu = s.tu ∧
    u.twin = s.twin ∧ u.ring = s.ring ∧ u.mb = s.mb ∧ u.cp = s.cp ∧ u.sl = s.sl ∧ u.dram = s.dram ∧ u.cal = s.cal ∧ u.jr = s.jr ∧
    u.feed = s.feed ∧ u.br = s.br ∧ u.job = s.job ∧ u.bands = s.bands ∧ u.cc = s.cc ∧ u.loom = s.loom ∧ u.pol = s.pol ∧ u.sh = s.sh ∧
    u.cf = s.cf ∧ u.pending = s.pending ∧ u.free = s.free := by
  simp [State.hemStats]

@[simp] theorem State.overspeed_frame (f : FaultName) (flash : ℕ) (s : State) :
    let u := State.overspeed f flash s
    u.now = s.now ∧ u.eng = s.eng ∧ u.slack = s.slack ∧ u.out = s.out ∧ u.fc = s.fc ∧ u.dike = s.dike ∧ u.tu = s.tu ∧ u.twin = s.twin ∧
    u.ring = s.ring ∧ u.mb = s.mb ∧ u.cp = s.cp ∧ u.sl = s.sl ∧ u.dram = s.dram ∧ u.cal = s.cal ∧ u.jr = s.jr ∧ u.feed = s.feed ∧
    u.br = s.br ∧ u.hem = s.hem ∧ u.job = s.job ∧ u.bands = s.bands ∧ u.cc = s.cc ∧ u.loom = s.loom ∧ u.pol = s.pol ∧ u.sh = s.sh ∧
    u.cf = s.cf ∧ u.pending = s.pending ∧ u.free = s.free := by
  simp [State.overspeed]

@[simp] theorem State.lateBand_frame (stripe band : ℕ) (s : State) :
    let u := State.lateBand stripe band s
    u.now = s.now ∧ u.eng = s.eng ∧ u.slack = s.slack ∧ u.out = s.out ∧ u.fc = s.fc ∧ u.dike = s.dike ∧ u.tu = s.tu ∧ u.twin = s.twin ∧
    u.ring = s.ring ∧ u.mb = s.mb ∧ u.cp = s.cp ∧ u.sl = s.sl ∧ u.dram = s.dram ∧ u.cal = s.cal ∧ u.jr = s.jr ∧ u.feed = s.feed ∧
    u.br = s.br ∧ u.hem = s.hem ∧ u.job = s.job ∧ u.bands = s.bands ∧ u.cc = s.cc ∧ u.loom = s.loom ∧ u.pol = s.pol ∧ u.sh = s.sh ∧
    u.cf = s.cf ∧ u.pending = s.pending ∧ u.free = s.free := by
  simp [State.lateBand]

@[simp] theorem State.doseFactor_frame (s : State) :
    let u := (State.doseFactor s).2
    u.now = s.now ∧ u.eng = s.eng ∧ u.slack = s.slack ∧ u.out = s.out ∧ u.fc = s.fc ∧ u.dike = s.dike ∧ u.tu = s.tu ∧ u.twin = s.twin ∧
    u.ring = s.ring ∧ u.mb = s.mb ∧ u.cp = s.cp ∧ u.sl = s.sl ∧ u.dram = s.dram ∧ u.cal = s.cal ∧ u.jr = s.jr ∧ u.feed = s.feed ∧
    u.br = s.br ∧ u.job = s.job ∧ u.bands = s.bands ∧ u.cc = s.cc ∧ u.loom = s.loom ∧ u.pol = s.pol ∧ u.sh = s.sh ∧ u.cf = s.cf ∧
    u.pending = s.pending ∧ u.free = s.free := by
  simp [State.doseFactor]

@[simp] theorem State.captureCommit_frame (f : FlashRec) (tn : ℕ) (s : State) :
    let u := State.captureCommit f tn s
    u.now = s.now ∧ u.eng = s.eng ∧ u.slack = s.slack ∧ u.arb = s.arb ∧ u.out = s.out ∧ u.fc = s.fc ∧ u.dike = s.dike ∧ u.tu = s.tu ∧
    u.twin = s.twin ∧ u.ring = s.ring ∧ u.mb = s.mb ∧ u.sl = s.sl ∧ u.dram = s.dram ∧ u.cal = s.cal ∧ u.jr = s.jr ∧ u.feed = s.feed ∧
    u.br = s.br ∧ u.hem = s.hem ∧ u.job = s.job ∧ u.bands = s.bands ∧ u.cc = s.cc ∧ u.loom = s.loom ∧ u.pol = s.pol ∧ u.sh = s.sh ∧
    u.cf = s.cf ∧ u.pending = s.pending ∧ u.free = s.free := by
  simp [State.captureCommit]

@[simp] theorem State.commit_frame (st : Stripe) (m tx : ℕ) (s : State) :
    let u := State.commit st m tx s
    u.now = s.now ∧ u.slack = s.slack ∧ u.tu = s.tu ∧ u.ring = s.ring ∧ u.mb = s.mb ∧ u.dram = s.dram ∧ u.cal = s.cal ∧ u.jr = s.jr ∧
    u.feed = s.feed ∧ u.job = s.job ∧ u.bands = s.bands ∧ u.cc = s.cc ∧ u.loom = s.loom ∧ u.pending = s.pending ∧ u.free = s.free ∧
    u.pol.sram = s.pol.sram := by
  simp [State.commit]

@[simp] theorem State.closeWindow_frame (s : State) :
    let u := State.closeWindow s
    u.now = s.now ∧ u.eng = s.eng ∧ u.slack = s.slack ∧ u.arb = s.arb ∧ u.out = s.out ∧ u.fc = s.fc ∧ u.dike = s.dike ∧ u.tu = s.tu ∧
    u.twin = s.twin ∧ u.ring = s.ring ∧ u.mb = s.mb ∧ u.cp = s.cp ∧ u.sl = s.sl ∧ u.dram = s.dram ∧ u.cal = s.cal ∧ u.jr = s.jr ∧
    u.feed = s.feed ∧ u.br = s.br ∧ u.job = s.job ∧ u.bands = s.bands ∧ u.cc = s.cc ∧ u.loom = s.loom ∧ u.pol = s.pol ∧ u.sh = s.sh ∧
    u.cf = s.cf ∧ u.pending = s.pending ∧ u.free = s.free := by
  simp [State.closeWindow]

@[simp] theorem State.commits_frame (st : Stripe) (ts x2 : ℕ) (s : State) :
    let u := State.commits st ts x2 s
    u.now = s.now ∧ u.slack = s.slack ∧ u.tu = s.tu ∧ u.ring = s.ring ∧ u.mb = s.mb ∧ u.dram = s.dram ∧ u.cal = s.cal ∧ u.jr = s.jr ∧
    u.feed = s.feed ∧ u.job = s.job ∧ u.bands = s.bands ∧ u.cc = s.cc ∧ u.loom = s.loom ∧ u.pending = s.pending ∧ u.free = s.free ∧
    u.pol.sram = s.pol.sram := by
  induction x2 generalizing s with
  | zero => simp [State.commits]
  | succ n ih =>
    unfold State.commits
    dsimp only
    (repeat' split) <;> first
      | (simp [ih]; done)
      | (rename_i h; have h := congrArg Prod.snd h; dsimp only at h; subst h; simp [ih]; done)

@[simp] theorem State.gates_frame (st : Stripe) (ts : ℕ) (s : State) :
    let u := State.gates st ts s
    u.now = s.now ∧ u.eng = s.eng ∧ u.slack = s.slack ∧ u.out = s.out ∧ u.fc = s.fc ∧ u.dike = s.dike ∧ u.tu = s.tu ∧ u.twin = s.twin ∧
    u.ring = s.ring ∧ u.mb = s.mb ∧ u.cp = s.cp ∧ u.sl = s.sl ∧ u.dram = s.dram ∧ u.cal = s.cal ∧ u.jr = s.jr ∧ u.feed = s.feed ∧
    u.br = s.br ∧ u.job = s.job ∧ u.bands = s.bands ∧ u.cc = s.cc ∧ u.loom = s.loom ∧ u.pol = s.pol ∧ u.sh = s.sh ∧ u.cf = s.cf ∧
    u.pending = s.pending ∧ u.free = s.free := by
  simp [State.gates]

@[simp] theorem State.withdrawUngated_frame (key : ℕ) (s : State) :
    let u := State.withdrawUngated key s
    u.now = s.now ∧ u.slack = s.slack ∧ u.tu = s.tu ∧ u.ring = s.ring ∧ u.mb = s.mb ∧ u.cp = s.cp ∧ u.sl = s.sl ∧ u.dram = s.dram ∧
    u.cal = s.cal ∧ u.jr = s.jr ∧ u.feed = s.feed ∧ u.br = s.br ∧ u.job = s.job ∧ u.bands = s.bands ∧ u.cc = s.cc ∧ u.loom = s.loom ∧
    u.pending = s.pending ∧ u.free = s.free ∧ u.pol.sram = s.pol.sram := by
  unfold State.withdrawUngated
  dsimp only
  split <;> simp

@[simp] theorem State.enterHeld_frame (s : State) :
    let u := State.enterHeld s
    u.now = s.now ∧ u.slack = s.slack ∧ u.dike = s.dike ∧ u.tu = s.tu ∧ u.twin = s.twin ∧ u.ring = s.ring ∧ u.mb = s.mb ∧ u.cp = s.cp ∧
    u.dram = s.dram ∧ u.cal = s.cal ∧ u.jr = s.jr ∧ u.feed = s.feed ∧ u.br = s.br ∧ u.job = s.job ∧ u.bands = s.bands ∧ u.cc = s.cc ∧
    u.loom = s.loom ∧ u.pol = s.pol ∧ u.sh = s.sh ∧ u.pending = s.pending ∧ u.free = s.free := by
  simp [State.enterHeld]

@[simp] theorem State.dropCause_frame (c : Cause) (s : State) :
    let u := State.dropCause c s
    u.now = s.now ∧ u.eng = s.eng ∧ u.slack = s.slack ∧ u.out = s.out ∧ u.fc = s.fc ∧ u.dike = s.dike ∧ u.tu = s.tu ∧ u.twin = s.twin ∧
    u.ring = s.ring ∧ u.mb = s.mb ∧ u.cp = s.cp ∧ u.sl = s.sl ∧ u.dram = s.dram ∧ u.cal = s.cal ∧ u.jr = s.jr ∧ u.feed = s.feed ∧
    u.br = s.br ∧ u.hem = s.hem ∧ u.job = s.job ∧ u.bands = s.bands ∧ u.cc = s.cc ∧ u.loom = s.loom ∧ u.pol = s.pol ∧ u.sh = s.sh ∧
    u.cf = s.cf ∧ u.pending = s.pending ∧ u.free = s.free := by
  simp [State.dropCause]

@[simp] theorem State.exitHeld_frame (s : State) :
    let u := State.exitHeld s
    u.now = s.now ∧ u.slack = s.slack ∧ u.tu = s.tu ∧ u.ring = s.ring ∧ u.mb = s.mb ∧ u.cp = s.cp ∧ u.dram = s.dram ∧ u.cal = s.cal ∧
    u.jr = s.jr ∧ u.feed = s.feed ∧ u.br = s.br ∧ u.job = s.job ∧ u.bands = s.bands ∧ u.cc = s.cc ∧ u.loom = s.loom ∧
    u.pending = s.pending ∧ u.free = s.free ∧ u.pol.sram = s.pol.sram := by
  unfold State.exitHeld
  split <;> simp

@[simp] theorem State.abandonHeld_frame (depth : ℤ) (s : State) :
    let u := State.abandonHeld depth s
    u.now = s.now ∧ u.eng = s.eng ∧ u.slack = s.slack ∧ u.out = s.out ∧ u.fc = s.fc ∧ u.dike = s.dike ∧ u.tu = s.tu ∧ u.twin = s.twin ∧
    u.ring = s.ring ∧ u.mb = s.mb ∧ u.cp = s.cp ∧ u.sl = s.sl ∧ u.dram = s.dram ∧ u.cal = s.cal ∧ u.jr = s.jr ∧ u.feed = s.feed ∧
    u.br = s.br ∧ u.hem = s.hem ∧ u.job = s.job ∧ u.bands = s.bands ∧ u.cc = s.cc ∧ u.loom = s.loom ∧ u.pol = s.pol ∧ u.sh = s.sh ∧
    u.cf = s.cf ∧ u.pending = s.pending ∧ u.free = s.free := by
  simp [State.abandonHeld]

@[simp] theorem State.reversal_frame (st : Stripe) (q : ℤ) (s : State) :
    let u := State.reversal st q s
    u.now = s.now ∧ u.slack = s.slack ∧ u.dike = s.dike ∧ u.tu = s.tu ∧ u.twin = s.twin ∧ u.ring = s.ring ∧ u.mb = s.mb ∧ u.cp = s.cp ∧
    u.dram = s.dram ∧ u.cal = s.cal ∧ u.jr = s.jr ∧ u.feed = s.feed ∧ u.br = s.br ∧ u.job = s.job ∧ u.bands = s.bands ∧ u.cc = s.cc ∧
    u.loom = s.loom ∧ u.pol = s.pol ∧ u.sh = s.sh ∧ u.pending = s.pending ∧ u.free = s.free := by
  simp [State.reversal]

@[simp] theorem State.heldTests_frame (st : Stripe) (y : Option ℤ) (s : State) :
    let u := State.heldTests st y s
    u.now = s.now ∧ u.slack = s.slack ∧ u.tu = s.tu ∧ u.ring = s.ring ∧ u.mb = s.mb ∧ u.cp = s.cp ∧ u.dram = s.dram ∧ u.cal = s.cal ∧
    u.jr = s.jr ∧ u.feed = s.feed ∧ u.br = s.br ∧ u.job = s.job ∧ u.bands = s.bands ∧ u.cc = s.cc ∧ u.loom = s.loom ∧
    u.pending = s.pending ∧ u.free = s.free ∧ u.pol.sram = s.pol.sram := by
  unfold State.heldTests
  (repeat' split) <;> simp

@[simp] theorem State.heldTimeout_frame (s : State) :
    let u := State.heldTimeout s
    u.now = s.now ∧ u.eng = s.eng ∧ u.slack = s.slack ∧ u.out = s.out ∧ u.fc = s.fc ∧ u.dike = s.dike ∧ u.tu = s.tu ∧ u.twin = s.twin ∧
    u.ring = s.ring ∧ u.mb = s.mb ∧ u.cp = s.cp ∧ u.sl = s.sl ∧ u.dram = s.dram ∧ u.cal = s.cal ∧ u.jr = s.jr ∧ u.feed = s.feed ∧
    u.br = s.br ∧ u.hem = s.hem ∧ u.job = s.job ∧ u.bands = s.bands ∧ u.cc = s.cc ∧ u.loom = s.loom ∧ u.pol = s.pol ∧ u.sh = s.sh ∧
    u.cf = s.cf ∧ u.pending = s.pending ∧ u.free = s.free := by
  unfold State.heldTimeout
  split <;> simp

@[simp] theorem State.shadowTest_frame (m : ℕ) (s : State) :
    let u := State.shadowTest m s
    u.now = s.now ∧ u.eng = s.eng ∧ u.slack = s.slack ∧ u.out = s.out ∧ u.fc = s.fc ∧ u.dike = s.dike ∧ u.tu = s.tu ∧ u.twin = s.twin ∧
    u.ring = s.ring ∧ u.mb = s.mb ∧ u.cp = s.cp ∧ u.sl = s.sl ∧ u.dram = s.dram ∧ u.cal = s.cal ∧ u.jr = s.jr ∧ u.feed = s.feed ∧
    u.br = s.br ∧ u.job = s.job ∧ u.bands = s.bands ∧ u.cc = s.cc ∧ u.loom = s.loom ∧ u.pol = s.pol ∧ u.sh = s.sh ∧ u.cf = s.cf ∧
    u.pending = s.pending ∧ u.free = s.free := by
  unfold State.shadowTest
  split <;> simp

@[simp] theorem State.shadowCommits_frame (st : Stripe) (ts x2 : ℕ) (s : State) :
    let u := State.shadowCommits st ts x2 s
    u.now = s.now ∧ u.eng = s.eng ∧ u.slack = s.slack ∧ u.out = s.out ∧ u.fc = s.fc ∧ u.dike = s.dike ∧ u.tu = s.tu ∧ u.twin = s.twin ∧
    u.ring = s.ring ∧ u.mb = s.mb ∧ u.cp = s.cp ∧ u.sl = s.sl ∧ u.dram = s.dram ∧ u.cal = s.cal ∧ u.jr = s.jr ∧ u.feed = s.feed ∧
    u.br = s.br ∧ u.job = s.job ∧ u.bands = s.bands ∧ u.cc = s.cc ∧ u.loom = s.loom ∧ u.pol = s.pol ∧ u.sh = s.sh ∧ u.cf = s.cf ∧
    u.pending = s.pending ∧ u.free = s.free := by
  induction x2 generalizing s with
  | zero => simp [State.shadowCommits]
  | succ n ih =>
    unfold State.shadowCommits
    dsimp only
    (repeat' split) <;> first
      | (simp [ih]; done)
      | (rename_i h; have h := congrArg Prod.snd h; dsimp only at h; subst h; simp [ih]; done)

@[simp] theorem State.shadowArm_frame (st : Stripe) (y : Option ℤ) (s : State) :
    let u := State.shadowArm st y s
    u.now = s.now ∧ u.eng = s.eng ∧ u.slack = s.slack ∧ u.arb = s.arb ∧ u.out = s.out ∧ u.fc = s.fc ∧ u.dike = s.dike ∧ u.tu = s.tu ∧
    u.twin = s.twin ∧ u.ring = s.ring ∧ u.mb = s.mb ∧ u.cp = s.cp ∧ u.sl = s.sl ∧ u.dram = s.dram ∧ u.cal = s.cal ∧ u.jr = s.jr ∧
    u.feed = s.feed ∧ u.br = s.br ∧ u.job = s.job ∧ u.bands = s.bands ∧ u.cc = s.cc ∧ u.loom = s.loom ∧ u.pol = s.pol ∧ u.sh = s.sh ∧
    u.cf = s.cf ∧ u.pending = s.pending ∧ u.free = s.free := by
  simp [State.shadowArm]

@[simp] theorem State.hemSample_frame (ts : ℕ) (s : State) :
    let u := State.hemSample ts s
    u.now = s.now ∧ u.slack = s.slack ∧ u.tu = s.tu ∧ u.ring = s.ring ∧ u.mb = s.mb ∧ u.dram = s.dram ∧ u.cal = s.cal ∧ u.jr = s.jr ∧
    u.feed = s.feed ∧ u.job = s.job ∧ u.bands = s.bands ∧ u.cc = s.cc ∧ u.loom = s.loom ∧ u.pending = s.pending ∧ u.free = s.free ∧
    u.pol.sram = s.pol.sram := by
  unfold State.hemSample
  dsimp only
  (repeat' split) <;> simp

@[simp] theorem State.endCapture_frame (s : State) :
    let u := State.endCapture s
    u.now = s.now ∧ u.eng = s.eng ∧ u.slack = s.slack ∧ u.arb = s.arb ∧ u.out = s.out ∧ u.fc = s.fc ∧ u.dike = s.dike ∧ u.tu = s.tu ∧
    u.twin = s.twin ∧ u.ring = s.ring ∧ u.mb = s.mb ∧ u.sl = s.sl ∧ u.dram = s.dram ∧ u.cal = s.cal ∧ u.jr = s.jr ∧ u.feed = s.feed ∧
    u.br = s.br ∧ u.hem = s.hem ∧ u.job = s.job ∧ u.bands = s.bands ∧ u.cc = s.cc ∧ u.loom = s.loom ∧ u.pol = s.pol ∧ u.sh = s.sh ∧
    u.cf = s.cf ∧ u.pending = s.pending ∧ u.free = s.free := by
  simp [State.endCapture]

@[simp] theorem State.storeTrim_frame (s : State) :
    let u := State.storeTrim s
    u.now = s.now ∧ u.eng = s.eng ∧ u.slack = s.slack ∧ u.out = s.out ∧ u.fc = s.fc ∧ u.dike = s.dike ∧ u.tu = s.tu ∧ u.twin = s.twin ∧
    u.ring = s.ring ∧ u.mb = s.mb ∧ u.cp = s.cp ∧ u.sl = s.sl ∧ u.dram = s.dram ∧ u.cal = s.cal ∧ u.feed = s.feed ∧ u.br = s.br ∧
    u.hem = s.hem ∧ u.job = s.job ∧ u.bands = s.bands ∧ u.cc = s.cc ∧ u.loom = s.loom ∧ u.pol = s.pol ∧ u.sh = s.sh ∧ u.cf = s.cf ∧
    u.pending = s.pending ∧ u.free = s.free := by
  simp [State.storeTrim]

@[simp] theorem State.endStripe_frame (aborted : Bool) (s : State) :
    let u := State.endStripe aborted s
    u.now = s.now ∧ u.eng = s.eng ∧ u.slack = s.slack ∧ u.out = s.out ∧ u.fc = s.fc ∧ u.dike = s.dike ∧ u.tu = s.tu ∧ u.mb = s.mb ∧
    u.dram = s.dram ∧ u.cal = s.cal ∧ u.feed = s.feed ∧ u.br = s.br ∧ u.cf = s.cf ∧ u.pending = s.pending ∧ u.free = s.free ∧
    u.pol.sram = s.pol.sram := by
  unfold State.endStripe
  split <;> simp

@[simp] theorem State.tgoodUp_frame (s : State) :
    let u := State.tgoodUp s
    u.now = s.now ∧ u.slack = s.slack ∧ u.out = s.out ∧ u.fc = s.fc ∧ u.dike = s.dike ∧ u.tu = s.tu ∧ u.twin = s.twin ∧ u.ring = s.ring ∧
    u.mb = s.mb ∧ u.cp = s.cp ∧ u.sl = s.sl ∧ u.dram = s.dram ∧ u.cal = s.cal ∧ u.jr = s.jr ∧ u.feed = s.feed ∧ u.br = s.br ∧
    u.hem = s.hem ∧ u.job = s.job ∧ u.bands = s.bands ∧ u.cc = s.cc ∧ u.loom = s.loom ∧ u.pol = s.pol ∧ u.sh = s.sh ∧ u.cf = s.cf ∧
    u.pending = s.pending ∧ u.free = s.free := by
  simp [State.tgoodUp]

@[simp] theorem State.enterReady_frame (s : State) :
    let u := State.enterReady s
    u.now = s.now ∧ u.slack = s.slack ∧ u.dike = s.dike ∧ u.tu = s.tu ∧ u.twin = s.twin ∧ u.ring = s.ring ∧ u.mb = s.mb ∧ u.cp = s.cp ∧
    u.dram = s.dram ∧ u.cal = s.cal ∧ u.jr = s.jr ∧ u.feed = s.feed ∧ u.br = s.br ∧ u.hem = s.hem ∧ u.job = s.job ∧ u.bands = s.bands ∧
    u.cc = s.cc ∧ u.loom = s.loom ∧ u.pol = s.pol ∧ u.sh = s.sh ∧ u.pending = s.pending ∧ u.free = s.free := by
  simp [State.enterReady]

@[simp] theorem State.stripeComplete_frame (s : State) :
    let u := State.stripeComplete s
    u.now = s.now ∧ u.slack = s.slack ∧ u.dike = s.dike ∧ u.tu = s.tu ∧ u.mb = s.mb ∧ u.dram = s.dram ∧ u.cal = s.cal ∧ u.feed = s.feed ∧
    u.pending = s.pending ∧ u.free = s.free ∧ u.pol.sram = s.pol.sram := by
  unfold State.stripeComplete
  split <;> simp

@[simp] theorem State.hemStop_frame (key : ℕ) (s : State) :
    let u := State.hemStop key s
    u.now = s.now ∧ u.slack = s.slack ∧ u.tu = s.tu ∧ u.ring = s.ring ∧ u.mb = s.mb ∧ u.cp = s.cp ∧ u.sl = s.sl ∧ u.dram = s.dram ∧
    u.cal = s.cal ∧ u.jr = s.jr ∧ u.feed = s.feed ∧ u.br = s.br ∧ u.job = s.job ∧ u.bands = s.bands ∧ u.cc = s.cc ∧ u.loom = s.loom ∧
    u.pending = s.pending ∧ u.free = s.free ∧ u.pol.sram = s.pol.sram := by
  unfold State.hemStop
  dsimp only
  split <;> simp

@[simp] theorem State.countRun_frame (s : State) :
    let u := State.countRun s
    u.now = s.now ∧ u.eng = s.eng ∧ u.slack = s.slack ∧ u.out = s.out ∧ u.fc = s.fc ∧ u.dike = s.dike ∧ u.tu = s.tu ∧ u.twin = s.twin ∧
    u.ring = s.ring ∧ u.mb = s.mb ∧ u.cp = s.cp ∧ u.sl = s.sl ∧ u.dram = s.dram ∧ u.cal = s.cal ∧ u.jr = s.jr ∧ u.feed = s.feed ∧
    u.br = s.br ∧ u.job = s.job ∧ u.bands = s.bands ∧ u.cc = s.cc ∧ u.loom = s.loom ∧ u.pol = s.pol ∧ u.sh = s.sh ∧ u.cf = s.cf ∧
    u.pending = s.pending ∧ u.free = s.free := by
  simp [State.countRun]

@[simp] theorem State.seamStop_frame (st : Stripe) (s : State) :
    let u := State.seamStop st s
    u.now = s.now ∧ u.eng = s.eng ∧ u.slack = s.slack ∧ u.arb = s.arb ∧ u.out = s.out ∧ u.fc = s.fc ∧ u.dike = s.dike ∧ u.tu = s.tu ∧
    u.twin = s.twin ∧ u.ring = s.ring ∧ u.mb = s.mb ∧ u.cp = s.cp ∧ u.sl = s.sl ∧ u.dram = s.dram ∧ u.cal = s.cal ∧ u.jr = s.jr ∧
    u.feed = s.feed ∧ u.job = s.job ∧ u.bands = s.bands ∧ u.cc = s.cc ∧ u.loom = s.loom ∧ u.pol = s.pol ∧ u.sh = s.sh ∧ u.cf = s.cf ∧
    u.pending = s.pending ∧ u.free = s.free := by
  simp [State.seamStop]

@[simp] theorem State.acceptSeam_frame (key : ℕ) (c : Cause) (s : State) :
    let u := State.acceptSeam key c s
    u.now = s.now ∧ u.slack = s.slack ∧ u.tu = s.tu ∧ u.mb = s.mb ∧ u.cp = s.cp ∧ u.dram = s.dram ∧ u.cal = s.cal ∧ u.jr = s.jr ∧
    u.feed = s.feed ∧ u.job = s.job ∧ u.bands = s.bands ∧ u.cc = s.cc ∧ u.loom = s.loom ∧ u.pending = s.pending ∧ u.free = s.free ∧
    u.pol.sram = s.pol.sram := by
  unfold State.acceptSeam
  dsimp only
  (repeat' split) <;> simp

@[simp] theorem State.seamResume_frame (s : State) :
    let u := State.seamResume s
    u.now = s.now ∧ u.eng = s.eng ∧ u.slack = s.slack ∧ u.out = s.out ∧ u.fc = s.fc ∧ u.dike = s.dike ∧ u.tu = s.tu ∧ u.twin = s.twin ∧
    u.ring = s.ring ∧ u.mb = s.mb ∧ u.cp = s.cp ∧ u.sl = s.sl ∧ u.dram = s.dram ∧ u.cal = s.cal ∧ u.jr = s.jr ∧ u.feed = s.feed ∧
    u.job = s.job ∧ u.bands = s.bands ∧ u.cc = s.cc ∧ u.loom = s.loom ∧ u.pol = s.pol ∧ u.sh = s.sh ∧ u.cf = s.cf ∧ u.pending = s.pending ∧
    u.free = s.free := by
  unfold State.seamResume
  split <;> simp

@[simp] theorem State.beginStripe_frame (s : State) :
    let u := State.beginStripe s
    u.now = s.now ∧ u.slack = s.slack ∧ u.dike = s.dike ∧ u.tu = s.tu ∧ u.twin = s.twin ∧ u.ring = s.ring ∧ u.mb = s.mb ∧ u.cp = s.cp ∧
    u.dram = s.dram ∧ u.cal = s.cal ∧ u.jr = s.jr ∧ u.feed = s.feed ∧ u.job = s.job ∧ u.bands = s.bands ∧ u.cc = s.cc ∧ u.loom = s.loom ∧
    u.pol = s.pol ∧ u.sh = s.sh ∧ u.pending = s.pending ∧ u.free = s.free := by
  simp [State.beginStripe]

@[simp] theorem State.noteBand_frame (m : ℕ) (st : Stripe) (s : State) :
    let u := State.noteBand m st s
    u.now = s.now ∧ u.eng = s.eng ∧ u.slack = s.slack ∧ u.arb = s.arb ∧ u.out = s.out ∧ u.fc = s.fc ∧ u.dike = s.dike ∧ u.tu = s.tu ∧
    u.twin = s.twin ∧ u.ring = s.ring ∧ u.mb = s.mb ∧ u.cp = s.cp ∧ u.sl = s.sl ∧ u.dram = s.dram ∧ u.cal = s.cal ∧ u.jr = s.jr ∧
    u.feed = s.feed ∧ u.br = s.br ∧ u.hem = s.hem ∧ u.job = s.job ∧ u.bands = s.bands ∧ u.cc = s.cc ∧ u.loom = s.loom ∧ u.pol = s.pol ∧
    u.sh = s.sh ∧ u.pending = s.pending ∧ u.free = s.free := by
  simp [State.noteBand]

@[simp] theorem State.flashIssue_frame (s : State) :
    let u := State.flashIssue s
    u.now = s.now ∧ u.slack = s.slack ∧ u.tu = s.tu ∧ u.mb = s.mb ∧ u.dram = s.dram ∧ u.cal = s.cal ∧ u.feed = s.feed ∧
    u.pending = s.pending ∧ u.free = s.free ∧ u.pol.sram = s.pol.sram := by
  unfold State.flashIssue
  dsimp only
  (repeat' split) <;> simp

@[simp] theorem State.edgeLateOf_frame (s : State) :
    let u := State.edgeLateOf s
    u.now = s.now ∧ u.eng = s.eng ∧ u.slack = s.slack ∧ u.out = s.out ∧ u.fc = s.fc ∧ u.dike = s.dike ∧ u.tu = s.tu ∧ u.twin = s.twin ∧
    u.ring = s.ring ∧ u.mb = s.mb ∧ u.cp = s.cp ∧ u.sl = s.sl ∧ u.dram = s.dram ∧ u.cal = s.cal ∧ u.jr = s.jr ∧ u.feed = s.feed ∧
    u.br = s.br ∧ u.job = s.job ∧ u.bands = s.bands ∧ u.cc = s.cc ∧ u.loom = s.loom ∧ u.pol = s.pol ∧ u.sh = s.sh ∧ u.cf = s.cf ∧
    u.pending = s.pending ∧ u.free = s.free := by
  unfold State.edgeLateOf
  split <;> simp

@[simp] theorem State.tgoodDrop_frame (flash : ℕ) (s : State) :
    let u := State.tgoodDrop flash s
    u.now = s.now ∧ u.slack = s.slack ∧ u.out = s.out ∧ u.fc = s.fc ∧ u.dike = s.dike ∧ u.tu = s.tu ∧ u.twin = s.twin ∧ u.ring = s.ring ∧
    u.mb = s.mb ∧ u.cp = s.cp ∧ u.sl = s.sl ∧ u.dram = s.dram ∧ u.cal = s.cal ∧ u.jr = s.jr ∧ u.feed = s.feed ∧ u.br = s.br ∧
    u.job = s.job ∧ u.bands = s.bands ∧ u.cc = s.cc ∧ u.loom = s.loom ∧ u.pol = s.pol ∧ u.sh = s.sh ∧ u.cf = s.cf ∧ u.pending = s.pending ∧
    u.free = s.free := by
  simp [State.tgoodDrop]

@[simp] theorem State.peerEdge_frame (flash : ℕ) (d : ℤ) (s : State) :
    let u := State.peerEdge flash d s
    u.now = s.now ∧ u.eng = s.eng ∧ u.slack = s.slack ∧ u.out = s.out ∧ u.fc = s.fc ∧ u.dike = s.dike ∧ u.tu = s.tu ∧ u.twin = s.twin ∧
    u.ring = s.ring ∧ u.mb = s.mb ∧ u.cp = s.cp ∧ u.sl = s.sl ∧ u.dram = s.dram ∧ u.cal = s.cal ∧ u.jr = s.jr ∧ u.feed = s.feed ∧
    u.br = s.br ∧ u.job = s.job ∧ u.bands = s.bands ∧ u.cc = s.cc ∧ u.loom = s.loom ∧ u.pol = s.pol ∧ u.sh = s.sh ∧ u.cf = s.cf ∧
    u.pending = s.pending ∧ u.free = s.free := by
  simp [State.peerEdge]

end Sys2Proof.Machine
end

