-- ==== Sys2Proof/Laws/FrameEngine.lean ====
section
/-! SUPPORT. What each operation of the fault collector, the sampled motion path, power and calibration, jobs and the clock leaves unchanged, field by field of the
state: the whole of what it can change is what its lemma does not name. -/

namespace Sys2Proof.Machine
open Sys2Proof

/-! ## Collector.lean -/

@[simp] theorem State.updFc_frame (f : Fc → Fc) (s : State) :
    let u := State.updFc f s
    u.now = s.now ∧ u.eng = s.eng ∧ u.slack = s.slack ∧ u.arb = s.arb ∧ u.out = s.out ∧ u.dike = s.dike ∧ u.tu = s.tu ∧ u.twin = s.twin ∧
    u.ring = s.ring ∧ u.mb = s.mb ∧ u.cp = s.cp ∧ u.sl = s.sl ∧ u.dram = s.dram ∧ u.cal = s.cal ∧ u.jr = s.jr ∧ u.feed = s.feed ∧
    u.br = s.br ∧ u.hem = s.hem ∧ u.job = s.job ∧ u.bands = s.bands ∧ u.cc = s.cc ∧ u.loom = s.loom ∧ u.pol = s.pol ∧ u.sh = s.sh ∧
    u.cf = s.cf ∧ u.pending = s.pending ∧ u.free = s.free := by
  simp [State.updFc]

@[simp] theorem State.updFcSrc_frame (src : ℕ) (f : FcSrc → FcSrc) (s : State) :
    let u := State.updFcSrc src f s
    u.now = s.now ∧ u.eng = s.eng ∧ u.slack = s.slack ∧ u.arb = s.arb ∧ u.out = s.out ∧ u.dike = s.dike ∧ u.tu = s.tu ∧ u.twin = s.twin ∧
    u.ring = s.ring ∧ u.mb = s.mb ∧ u.cp = s.cp ∧ u.sl = s.sl ∧ u.dram = s.dram ∧ u.cal = s.cal ∧ u.jr = s.jr ∧ u.feed = s.feed ∧
    u.br = s.br ∧ u.hem = s.hem ∧ u.job = s.job ∧ u.bands = s.bands ∧ u.cc = s.cc ∧ u.loom = s.loom ∧ u.pol = s.pol ∧ u.sh = s.sh ∧
    u.cf = s.cf ∧ u.pending = s.pending ∧ u.free = s.free := by
  simp [State.updFcSrc]

@[simp] theorem State.abandonCal_frame (s : State) :
    let u := State.abandonCal s
    u.now = s.now ∧ u.eng = s.eng ∧ u.slack = s.slack ∧ u.arb = s.arb ∧ u.out = s.out ∧ u.fc = s.fc ∧ u.dike = s.dike ∧ u.tu = s.tu ∧
    u.twin = s.twin ∧ u.ring = s.ring ∧ u.mb = s.mb ∧ u.cp = s.cp ∧ u.sl = s.sl ∧ u.dram = s.dram ∧ u.jr = s.jr ∧ u.feed = s.feed ∧
    u.br = s.br ∧ u.hem = s.hem ∧ u.job = s.job ∧ u.bands = s.bands ∧ u.cc = s.cc ∧ u.loom = s.loom ∧ u.pol = s.pol ∧ u.sh = s.sh ∧
    u.cf = s.cf ∧ u.pending = s.pending ∧ u.free = s.free := by
  simp [State.abandonCal]

@[simp] theorem State.endWrite_frame (key : ℕ) (s : State) :
    let u := State.endWrite key s
    u.now = s.now ∧ u.slack = s.slack ∧ u.tu = s.tu ∧ u.mb = s.mb ∧ u.dram = s.dram ∧ u.cal = s.cal ∧ u.feed = s.feed ∧ u.br = s.br ∧
    u.pending = s.pending ∧ u.free = s.free ∧ u.pol.sram = s.pol.sram := by
  unfold State.endWrite
  split <;> simp

@[simp] theorem State.endEscalation_frame (s : State) :
    let u := State.endEscalation s
    u.now = s.now ∧ u.eng = s.eng ∧ u.slack = s.slack ∧ u.arb = s.arb ∧ u.out = s.out ∧ u.dike = s.dike ∧ u.tu = s.tu ∧ u.twin = s.twin ∧
    u.ring = s.ring ∧ u.mb = s.mb ∧ u.cp = s.cp ∧ u.sl = s.sl ∧ u.dram = s.dram ∧ u.cal = s.cal ∧ u.jr = s.jr ∧ u.feed = s.feed ∧
    u.br = s.br ∧ u.hem = s.hem ∧ u.job = s.job ∧ u.bands = s.bands ∧ u.cc = s.cc ∧ u.loom = s.loom ∧ u.pol = s.pol ∧ u.sh = s.sh ∧
    u.cf = s.cf ∧ u.pending = s.pending ∧ u.free = s.free := by
  simp [State.endEscalation]

@[simp] theorem State.enterFault_frame (key : ℕ) (off : Bool) (s : State) :
    let u := State.enterFault key off s
    u.now = s.now ∧ u.slack = s.slack ∧ u.tu = s.tu ∧ u.mb = s.mb ∧ u.dram = s.dram ∧ u.feed = s.feed ∧ u.pending = s.pending ∧
    u.free = s.free ∧ u.pol.sram = s.pol.sram := by
  unfold State.enterFault
  dsimp only
  (repeat' split) <;> simp

@[simp] theorem State.pauseStripe_frame (group : Bool) (s : State) :
    let u := State.pauseStripe group s
    u.now = s.now ∧ u.slack = s.slack ∧ u.tu = s.tu ∧ u.mb = s.mb ∧ u.cp = s.cp ∧ u.dram = s.dram ∧ u.cal = s.cal ∧ u.jr = s.jr ∧
    u.feed = s.feed ∧ u.job = s.job ∧ u.bands = s.bands ∧ u.cc = s.cc ∧ u.loom = s.loom ∧ u.pending = s.pending ∧ u.free = s.free ∧
    u.pol.sram = s.pol.sram := by
  unfold State.pauseStripe
  split <;> simp

@[simp] theorem State.stopAxes_frame (mask : ℕ) (s : State) :
    let u := State.stopAxes mask s
    u.now = s.now ∧ u.eng = s.eng ∧ u.slack = s.slack ∧ u.arb = s.arb ∧ u.out = s.out ∧ u.fc = s.fc ∧ u.dike = s.dike ∧ u.tu = s.tu ∧
    u.twin = s.twin ∧ u.ring = s.ring ∧ u.mb = s.mb ∧ u.cp = s.cp ∧ u.sl = s.sl ∧ u.dram = s.dram ∧ u.cal = s.cal ∧ u.jr = s.jr ∧
    u.feed = s.feed ∧ u.hem = s.hem ∧ u.job = s.job ∧ u.bands = s.bands ∧ u.cc = s.cc ∧ u.loom = s.loom ∧ u.pol = s.pol ∧ u.sh = s.sh ∧
    u.cf = s.cf ∧ u.pending = s.pending ∧ u.free = s.free := by
  simp [State.stopAxes]

@[simp] theorem State.nmi_frame (s : State) :
    let u := State.nmi s
    u.now = s.now ∧ u.slack = s.slack ∧ u.tu = s.tu ∧ u.mb = s.mb ∧ u.cp = s.cp ∧ u.dram = s.dram ∧ u.cal = s.cal ∧ u.jr = s.jr ∧
    u.feed = s.feed ∧ u.job = s.job ∧ u.bands = s.bands ∧ u.cc = s.cc ∧ u.loom = s.loom ∧ u.pending = s.pending ∧ u.free = s.free ∧
    u.pol.sram = s.pol.sram := by
  unfold State.nmi
  split <;> simp

@[simp] theorem State.cuffRetrain_frame (s : State) :
    let u := State.cuffRetrain s
    u.now = s.now ∧ u.eng = s.eng ∧ u.slack = s.slack ∧ u.arb = s.arb ∧ u.out = s.out ∧ u.fc = s.fc ∧ u.dike = s.dike ∧ u.tu = s.tu ∧
    u.twin = s.twin ∧ u.ring = s.ring ∧ u.mb = s.mb ∧ u.cp = s.cp ∧ u.sl = s.sl ∧ u.dram = s.dram ∧ u.cal = s.cal ∧ u.jr = s.jr ∧
    u.feed = s.feed ∧ u.br = s.br ∧ u.hem = s.hem ∧ u.job = s.job ∧ u.bands = s.bands ∧ u.cc = s.cc ∧ u.loom = s.loom ∧ u.pol = s.pol ∧
    u.sh = s.sh ∧ u.pending = s.pending ∧ u.free = s.free := by
  simp [State.cuffRetrain]

@[simp] theorem State.blockReset_frame (src : ℕ) (s : State) :
    let u := State.blockReset src s
    u.now = s.now ∧ u.eng = s.eng ∧ u.slack = s.slack ∧ u.arb = s.arb ∧ u.out = s.out ∧ u.fc = s.fc ∧ u.dike = s.dike ∧ u.tu = s.tu ∧
    u.twin = s.twin ∧ u.ring = s.ring ∧ u.mb = s.mb ∧ u.cp = s.cp ∧ u.sl = s.sl ∧ u.dram = s.dram ∧ u.cal = s.cal ∧ u.jr = s.jr ∧
    u.feed = s.feed ∧ u.br = s.br ∧ u.hem = s.hem ∧ u.job = s.job ∧ u.bands = s.bands ∧ u.cc = s.cc ∧ u.loom = s.loom ∧ u.pol = s.pol ∧
    u.sh = s.sh ∧ u.pending = s.pending ∧ u.free = s.free := by
  simp [State.blockReset]

@[simp] theorem State.react_frame (key src : ℕ) (f : FaultName) (stage : ℕ) (s : State) :
    let u := State.react key src f stage s
    u.now = s.now ∧ u.slack = s.slack ∧ u.tu = s.tu ∧ u.mb = s.mb ∧ u.dram = s.dram ∧ u.feed = s.feed ∧ u.pending = s.pending ∧
    u.free = s.free ∧ u.pol.sram = s.pol.sram := by
  unfold State.react
  dsimp only
  split <;> simp

@[simp] theorem State.captureFault_frame (f : FaultName) (s : State) :
    let u := State.captureFault f s
    u.now = s.now ∧ u.eng = s.eng ∧ u.slack = s.slack ∧ u.arb = s.arb ∧ u.out = s.out ∧ u.fc = s.fc ∧ u.dike = s.dike ∧ u.tu = s.tu ∧
    u.twin = s.twin ∧ u.ring = s.ring ∧ u.mb = s.mb ∧ u.sl = s.sl ∧ u.dram = s.dram ∧ u.cal = s.cal ∧ u.jr = s.jr ∧ u.feed = s.feed ∧
    u.br = s.br ∧ u.hem = s.hem ∧ u.job = s.job ∧ u.bands = s.bands ∧ u.cc = s.cc ∧ u.loom = s.loom ∧ u.pol = s.pol ∧ u.sh = s.sh ∧
    u.cf = s.cf ∧ u.pending = s.pending ∧ u.free = s.free := by
  simp [State.captureFault]

@[simp] theorem State.collect_frame (m : Raised) (s : State) :
    let u := State.collect m s
    u.now = s.now ∧ u.slack = s.slack ∧ u.tu = s.tu ∧ u.mb = s.mb ∧ u.dram = s.dram ∧ u.feed = s.feed ∧ u.pending = s.pending ∧
    u.free = s.free ∧ u.pol.sram = s.pol.sram := by
  unfold State.collect
  dsimp only
  (repeat' split) <;> simp

@[simp] theorem State.faultAccept_frame (s : State) :
    let u := State.faultAccept s
    u.now = s.now ∧ u.slack = s.slack ∧ u.tu = s.tu ∧ u.mb = s.mb ∧ u.dram = s.dram ∧ u.feed = s.feed ∧ u.pending = s.pending ∧
    u.free = s.free ∧ u.pol.sram = s.pol.sram := by
  unfold State.faultAccept
  split <;> simp

@[simp] theorem State.escalate_frame (src : ℕ) (s : State) :
    let u := State.escalate src s
    u.now = s.now ∧ u.slack = s.slack ∧ u.tu = s.tu ∧ u.mb = s.mb ∧ u.dram = s.dram ∧ u.feed = s.feed ∧ u.pending = s.pending ∧
    u.free = s.free ∧ u.pol.sram = s.pol.sram := by
  unfold State.escalate
  dsimp only
  (repeat' split) <;> simp

@[simp] theorem State.watchdog_frame (s : State) :
    let u := State.watchdog s
    u.now = s.now ∧ u.slack = s.slack ∧ u.tu = s.tu ∧ u.mb = s.mb ∧ u.dram = s.dram ∧ u.feed = s.feed ∧ u.pending = s.pending ∧
    u.free = s.free ∧ u.pol.sram = s.pol.sram := by
  unfold State.watchdog
  (repeat' split) <;> simp

@[simp] theorem State.armWatchdog_frame (s : State) :
    let u := State.armWatchdog s
    u.now = s.now ∧ u.eng = s.eng ∧ u.slack = s.slack ∧ u.arb = s.arb ∧ u.out = s.out ∧ u.fc = s.fc ∧ u.tu = s.tu ∧ u.twin = s.twin ∧
    u.ring = s.ring ∧ u.mb = s.mb ∧ u.cp = s.cp ∧ u.sl = s.sl ∧ u.dram = s.dram ∧ u.cal = s.cal ∧ u.jr = s.jr ∧ u.feed = s.feed ∧
    u.br = s.br ∧ u.hem = s.hem ∧ u.job = s.job ∧ u.bands = s.bands ∧ u.cc = s.cc ∧ u.loom = s.loom ∧ u.pol = s.pol ∧ u.sh = s.sh ∧
    u.cf = s.cf ∧ u.pending = s.pending ∧ u.free = s.free := by
  simp [State.armWatchdog]

@[simp] theorem State.causeAccept_frame (s : State) :
    let u := State.causeAccept s
    u.now = s.now ∧ u.slack = s.slack ∧ u.tu = s.tu ∧ u.mb = s.mb ∧ u.dram = s.dram ∧ u.feed = s.feed ∧ u.pending = s.pending ∧
    u.free = s.free ∧ u.pol.sram = s.pol.sram := by
  unfold State.causeAccept
  dsimp only
  (repeat' split) <;> simp

/-! ## Motion.lean -/

@[simp] theorem State.switchActs_frame (before : State) (n input tRaw : ℕ) (s : State) :
    let u := State.switchActs before n input tRaw s
    u.now = s.now ∧ u.eng = s.eng ∧ u.slack = s.slack ∧ u.out = s.out ∧ u.fc = s.fc ∧ u.dike = s.dike ∧ u.tu = s.tu ∧ u.twin = s.twin ∧
    u.ring = s.ring ∧ u.mb = s.mb ∧ u.cp = s.cp ∧ u.sl = s.sl ∧ u.dram = s.dram ∧ u.cal = s.cal ∧ u.jr = s.jr ∧ u.feed = s.feed ∧
    u.hem = s.hem ∧ u.job = s.job ∧ u.bands = s.bands ∧ u.cc = s.cc ∧ u.loom = s.loom ∧ u.pol = s.pol ∧ u.sh = s.sh ∧ u.cf = s.cf ∧
    u.pending = s.pending ∧ u.free = s.free := by
  simp [State.switchActs]

@[simp] theorem State.heldEdge_frame (s : State) (i : ℕ) :
    let u := State.heldEdge s i
    u.now = s.now ∧ u.eng = s.eng ∧ u.slack = s.slack ∧ u.out = s.out ∧ u.fc = s.fc ∧ u.dike = s.dike ∧ u.tu = s.tu ∧ u.twin = s.twin ∧
    u.ring = s.ring ∧ u.mb = s.mb ∧ u.cp = s.cp ∧ u.sl = s.sl ∧ u.dram = s.dram ∧ u.cal = s.cal ∧ u.jr = s.jr ∧ u.hem = s.hem ∧
    u.job = s.job ∧ u.bands = s.bands ∧ u.cc = s.cc ∧ u.loom = s.loom ∧ u.pol = s.pol ∧ u.sh = s.sh ∧ u.cf = s.cf ∧ u.pending = s.pending ∧
    u.free = s.free := by
  unfold State.heldEdge
  dsimp only
  split <;> simp

@[simp] theorem State.heldEdges_frame (s : State) :
    let u := State.heldEdges s
    u.now = s.now ∧ u.eng = s.eng ∧ u.slack = s.slack ∧ u.out = s.out ∧ u.fc = s.fc ∧ u.dike = s.dike ∧ u.tu = s.tu ∧ u.twin = s.twin ∧
    u.ring = s.ring ∧ u.mb = s.mb ∧ u.cp = s.cp ∧ u.sl = s.sl ∧ u.dram = s.dram ∧ u.cal = s.cal ∧ u.jr = s.jr ∧ u.hem = s.hem ∧
    u.job = s.job ∧ u.bands = s.bands ∧ u.cc = s.cc ∧ u.loom = s.loom ∧ u.pol = s.pol ∧ u.sh = s.sh ∧ u.cf = s.cf ∧ u.pending = s.pending ∧
    u.free = s.free := by
  simp [State.heldEdges]

@[simp] theorem State.sampleAll_frame (s : State) :
    let u := State.sampleAll s
    u.now = s.now ∧ u.slack = s.slack ∧ u.tu = s.tu ∧ u.ring = s.ring ∧ u.mb = s.mb ∧ u.dram = s.dram ∧ u.cal = s.cal ∧ u.jr = s.jr ∧
    u.job = s.job ∧ u.bands = s.bands ∧ u.cc = s.cc ∧ u.loom = s.loom ∧ u.pending = s.pending ∧ u.free = s.free ∧ u.pol.sram = s.pol.sram := by
  simp [State.sampleAll]

@[simp] theorem State.switchFirst_frame (set input : ℕ) (raw : Bool) (s : State) :
    let u := State.switchFirst set input raw s
    u.now = s.now ∧ u.eng = s.eng ∧ u.slack = s.slack ∧ u.out = s.out ∧ u.fc = s.fc ∧ u.dike = s.dike ∧ u.tu = s.tu ∧ u.twin = s.twin ∧
    u.ring = s.ring ∧ u.mb = s.mb ∧ u.cp = s.cp ∧ u.sl = s.sl ∧ u.dram = s.dram ∧ u.cal = s.cal ∧ u.jr = s.jr ∧ u.hem = s.hem ∧
    u.job = s.job ∧ u.bands = s.bands ∧ u.cc = s.cc ∧ u.loom = s.loom ∧ u.pol = s.pol ∧ u.sh = s.sh ∧ u.cf = s.cf ∧ u.pending = s.pending ∧
    u.free = s.free := by
  simp [State.switchFirst]

/-! ## Power.lean -/

@[simp] theorem State.updEng_frame (f : Eng → Eng) (s : State) :
    let u := State.updEng f s
    u.now = s.now ∧ u.slack = s.slack ∧ u.arb = s.arb ∧ u.out = s.out ∧ u.fc = s.fc ∧ u.dike = s.dike ∧ u.tu = s.tu ∧ u.twin = s.twin ∧
    u.ring = s.ring ∧ u.mb = s.mb ∧ u.cp = s.cp ∧ u.sl = s.sl ∧ u.dram = s.dram ∧ u.cal = s.cal ∧ u.jr = s.jr ∧ u.feed = s.feed ∧
    u.br = s.br ∧ u.hem = s.hem ∧ u.job = s.job ∧ u.bands = s.bands ∧ u.cc = s.cc ∧ u.loom = s.loom ∧ u.pol = s.pol ∧ u.sh = s.sh ∧
    u.cf = s.cf ∧ u.pending = s.pending ∧ u.free = s.free := by
  simp [State.updEng]

@[simp] theorem State.updCal_frame (f : Cal → Cal) (s : State) :
    let u := State.updCal f s
    u.now = s.now ∧ u.eng = s.eng ∧ u.slack = s.slack ∧ u.arb = s.arb ∧ u.out = s.out ∧ u.fc = s.fc ∧ u.dike = s.dike ∧ u.tu = s.tu ∧
    u.twin = s.twin ∧ u.ring = s.ring ∧ u.mb = s.mb ∧ u.cp = s.cp ∧ u.sl = s.sl ∧ u.dram = s.dram ∧ u.jr = s.jr ∧ u.feed = s.feed ∧
    u.br = s.br ∧ u.hem = s.hem ∧ u.job = s.job ∧ u.bands = s.bands ∧ u.cc = s.cc ∧ u.loom = s.loom ∧ u.pol = s.pol ∧ u.sh = s.sh ∧
    u.cf = s.cf ∧ u.pending = s.pending ∧ u.free = s.free := by
  simp [State.updCal]

@[simp] theorem State.updSlack_frame (f : Slack → Slack) (s : State) :
    let u := State.updSlack f s
    u.now = s.now ∧ u.eng = s.eng ∧ u.arb = s.arb ∧ u.out = s.out ∧ u.fc = s.fc ∧ u.dike = s.dike ∧ u.tu = s.tu ∧ u.twin = s.twin ∧
    u.ring = s.ring ∧ u.mb = s.mb ∧ u.cp = s.cp ∧ u.sl = s.sl ∧ u.dram = s.dram ∧ u.cal = s.cal ∧ u.jr = s.jr ∧ u.feed = s.feed ∧
    u.br = s.br ∧ u.hem = s.hem ∧ u.job = s.job ∧ u.bands = s.bands ∧ u.cc = s.cc ∧ u.loom = s.loom ∧ u.pol = s.pol ∧ u.sh = s.sh ∧
    u.cf = s.cf ∧ u.pending = s.pending ∧ u.free = s.free := by
  simp [State.updSlack]

@[simp] theorem State.updTu_frame (f : TimeUnit → TimeUnit) (s : State) :
    let u := State.updTu f s
    u.now = s.now ∧ u.eng = s.eng ∧ u.slack = s.slack ∧ u.arb = s.arb ∧ u.out = s.out ∧ u.fc = s.fc ∧ u.dike = s.dike ∧ u.twin = s.twin ∧
    u.ring = s.ring ∧ u.mb = s.mb ∧ u.cp = s.cp ∧ u.sl = s.sl ∧ u.dram = s.dram ∧ u.cal = s.cal ∧ u.jr = s.jr ∧ u.feed = s.feed ∧
    u.br = s.br ∧ u.hem = s.hem ∧ u.job = s.job ∧ u.bands = s.bands ∧ u.cc = s.cc ∧ u.loom = s.loom ∧ u.pol = s.pol ∧ u.sh = s.sh ∧
    u.cf = s.cf ∧ u.pending = s.pending ∧ u.free = s.free := by
  simp [State.updTu]

@[simp] theorem State.commitOpen_frame (s : State) :
    let u := State.commitOpen s
    u.now = s.now ∧ u.eng = s.eng ∧ u.slack = s.slack ∧ u.arb = s.arb ∧ u.out = s.out ∧ u.fc = s.fc ∧ u.dike = s.dike ∧ u.tu = s.tu ∧
    u.twin = s.twin ∧ u.ring = s.ring ∧ u.mb = s.mb ∧ u.cp = s.cp ∧ u.sl = s.sl ∧ u.dram = s.dram ∧ u.cal = s.cal ∧ u.feed = s.feed ∧
    u.br = s.br ∧ u.hem = s.hem ∧ u.job = s.job ∧ u.bands = s.bands ∧ u.cc = s.cc ∧ u.loom = s.loom ∧ u.pol = s.pol ∧ u.sh = s.sh ∧
    u.cf = s.cf ∧ u.pending = s.pending ∧ u.free = s.free := by
  simp [State.commitOpen]

@[simp] theorem State.pulsesLow_frame (s : State) :
    let u := State.pulsesLow s
    u.now = s.now ∧ u.eng = s.eng ∧ u.slack = s.slack ∧ u.arb = s.arb ∧ u.fc = s.fc ∧ u.dike = s.dike ∧ u.twin = s.twin ∧ u.ring = s.ring ∧
    u.mb = s.mb ∧ u.cp = s.cp ∧ u.sl = s.sl ∧ u.dram = s.dram ∧ u.cal = s.cal ∧ u.jr = s.jr ∧ u.feed = s.feed ∧ u.br = s.br ∧
    u.hem = s.hem ∧ u.job = s.job ∧ u.bands = s.bands ∧ u.cc = s.cc ∧ u.loom = s.loom ∧ u.pol = s.pol ∧ u.sh = s.sh ∧ u.cf = s.cf ∧
    u.pending = s.pending ∧ u.free = s.free := by
  simp [State.pulsesLow]

@[simp] theorem State.fresh_frame (s : State) :
    let u := State.fresh s
    u.now = s.now ∧ u.out = s.out ∧ u.pending = s.pending ∧ u.free = s.free := by
  simp [State.fresh]

@[simp] theorem State.noteCause_frame (c : ResetCause) (kind : ℕ) (s : State) :
    let u := State.noteCause c kind s
    u.now = s.now ∧ u.slack = s.slack ∧ u.arb = s.arb ∧ u.out = s.out ∧ u.fc = s.fc ∧ u.dike = s.dike ∧ u.tu = s.tu ∧ u.twin = s.twin ∧
    u.ring = s.ring ∧ u.mb = s.mb ∧ u.cp = s.cp ∧ u.sl = s.sl ∧ u.dram = s.dram ∧ u.cal = s.cal ∧ u.jr = s.jr ∧ u.feed = s.feed ∧
    u.br = s.br ∧ u.hem = s.hem ∧ u.job = s.job ∧ u.bands = s.bands ∧ u.cc = s.cc ∧ u.loom = s.loom ∧ u.pol = s.pol ∧ u.sh = s.sh ∧
    u.cf = s.cf ∧ u.pending = s.pending ∧ u.free = s.free := by
  simp [State.noteCause]

@[simp] theorem State.recordCause_frame (c : ResetCause) (s : State) :
    let u := State.recordCause c s
    u.now = s.now ∧ u.slack = s.slack ∧ u.arb = s.arb ∧ u.out = s.out ∧ u.fc = s.fc ∧ u.dike = s.dike ∧ u.tu = s.tu ∧ u.twin = s.twin ∧
    u.ring = s.ring ∧ u.mb = s.mb ∧ u.cp = s.cp ∧ u.sl = s.sl ∧ u.dram = s.dram ∧ u.cal = s.cal ∧ u.jr = s.jr ∧ u.feed = s.feed ∧
    u.br = s.br ∧ u.hem = s.hem ∧ u.job = s.job ∧ u.bands = s.bands ∧ u.cc = s.cc ∧ u.loom = s.loom ∧ u.pol = s.pol ∧ u.sh = s.sh ∧
    u.cf = s.cf ∧ u.pending = s.pending ∧ u.free = s.free := by
  simp [State.recordCause]

@[simp] theorem State.holdReset_frame (s : State) :
    let u := State.holdReset s
    u.now = s.now ∧ u.pending = s.pending ∧ u.free = s.free := by
  simp [State.holdReset]

@[simp] theorem State.enterBoot_frame (c : ResetCause) (twinB : Bool) (pairId : ℕ) (s : State) :
    let u := State.enterBoot c twinB pairId s
    u.out = s.out ∧ u.pending = s.pending ∧ u.free = s.free := by
  simp [State.enterBoot]

@[simp] theorem State.recordSleep_frame (s : State) :
    let u := State.recordSleep s
    u.now = s.now ∧ u.eng = s.eng ∧ u.slack = s.slack ∧ u.arb = s.arb ∧ u.out = s.out ∧ u.fc = s.fc ∧ u.dike = s.dike ∧ u.tu = s.tu ∧
    u.twin = s.twin ∧ u.ring = s.ring ∧ u.mb = s.mb ∧ u.cp = s.cp ∧ u.sl = s.sl ∧ u.dram = s.dram ∧ u.cal = s.cal ∧ u.feed = s.feed ∧
    u.br = s.br ∧ u.hem = s.hem ∧ u.job = s.job ∧ u.bands = s.bands ∧ u.cc = s.cc ∧ u.loom = s.loom ∧ u.pol = s.pol ∧ u.sh = s.sh ∧
    u.cf = s.cf ∧ u.pending = s.pending ∧ u.free = s.free := by
  simp [State.recordSleep]

@[simp] theorem State.enterSleep_frame (s : State) :
    let u := State.enterSleep s
    u.now = s.now ∧ u.out = s.out ∧ u.pending = s.pending ∧ u.free = s.free := by
  simp [State.enterSleep]

@[simp] theorem State.leaveReset_frame (c : ResetCause) (wakeN twinB : Bool) (pairId : ℕ) (s : State) :
    let u := State.leaveReset c wakeN twinB pairId s
    u.out = s.out ∧ u.pending = s.pending ∧ u.free = s.free := by
  simp [State.leaveReset]

@[simp] theorem State.loadShed_frame (kind : ℕ) (s : State) :
    let u := State.loadShed kind s
    u.now = s.now ∧ u.pending = s.pending ∧ u.free = s.free := by
  simp [State.loadShed]

@[simp] theorem State.dropLane_frame (s : State) (k : ℕ) :
    let u := State.dropLane s k
    u.now = s.now ∧ u.eng = s.eng ∧ u.slack = s.slack ∧ u.arb = s.arb ∧ u.out = s.out ∧ u.fc = s.fc ∧ u.dike = s.dike ∧ u.tu = s.tu ∧
    u.twin = s.twin ∧ u.ring = s.ring ∧ u.mb = s.mb ∧ u.cp = s.cp ∧ u.sl = s.sl ∧ u.dram = s.dram ∧ u.cal = s.cal ∧ u.jr = s.jr ∧
    u.feed = s.feed ∧ u.br = s.br ∧ u.hem = s.hem ∧ u.job = s.job ∧ u.bands = s.bands ∧ u.cc = s.cc ∧ u.loom = s.loom ∧ u.pol = s.pol ∧
    u.sh = s.sh ∧ u.pending = s.pending ∧ u.free = s.free := by
  unfold State.dropLane
  split <;> simp

@[simp] theorem State.loseLanes_frame (s : State) :
    let u := State.loseLanes s
    u.now = s.now ∧ u.eng = s.eng ∧ u.slack = s.slack ∧ u.dike = s.dike ∧ u.tu = s.tu ∧ u.twin = s.twin ∧ u.ring = s.ring ∧ u.mb = s.mb ∧
    u.cp = s.cp ∧ u.sl = s.sl ∧ u.dram = s.dram ∧ u.cal = s.cal ∧ u.jr = s.jr ∧ u.feed = s.feed ∧ u.br = s.br ∧ u.hem = s.hem ∧
    u.job = s.job ∧ u.bands = s.bands ∧ u.cc = s.cc ∧ u.loom = s.loom ∧ u.pol = s.pol ∧ u.sh = s.sh ∧ u.pending = s.pending ∧
    u.free = s.free := by
  simp [State.loseLanes]

@[simp] theorem State.updOutput_frame (o : ℕ) (f : Output → Output) (s : State) :
    let u := State.updOutput o f s
    u.now = s.now ∧ u.eng = s.eng ∧ u.slack = s.slack ∧ u.arb = s.arb ∧ u.out = s.out ∧ u.fc = s.fc ∧ u.dike = s.dike ∧ u.tu = s.tu ∧
    u.twin = s.twin ∧ u.ring = s.ring ∧ u.mb = s.mb ∧ u.cp = s.cp ∧ u.sl = s.sl ∧ u.dram = s.dram ∧ u.jr = s.jr ∧ u.feed = s.feed ∧
    u.br = s.br ∧ u.hem = s.hem ∧ u.job = s.job ∧ u.bands = s.bands ∧ u.cc = s.cc ∧ u.loom = s.loom ∧ u.pol = s.pol ∧ u.sh = s.sh ∧
    u.cf = s.cf ∧ u.pending = s.pending ∧ u.free = s.free := by
  simp [State.updOutput]

@[simp] theorem State.appendCal_frame (s : State) :
    let u := State.appendCal s
    u.now = s.now ∧ u.eng = s.eng ∧ u.slack = s.slack ∧ u.out = s.out ∧ u.fc = s.fc ∧ u.dike = s.dike ∧ u.tu = s.tu ∧ u.twin = s.twin ∧
    u.ring = s.ring ∧ u.mb = s.mb ∧ u.cp = s.cp ∧ u.sl = s.sl ∧ u.dram = s.dram ∧ u.cal = s.cal ∧ u.feed = s.feed ∧ u.br = s.br ∧
    u.hem = s.hem ∧ u.job = s.job ∧ u.bands = s.bands ∧ u.cc = s.cc ∧ u.loom = s.loom ∧ u.pol = s.pol ∧ u.sh = s.sh ∧ u.cf = s.cf ∧
    u.pending = s.pending ∧ u.free = s.free := by
  simp [State.appendCal]

@[simp] theorem State.clearAttempts_frame (s : State) :
    let u := State.clearAttempts s
    u.now = s.now ∧ u.eng = s.eng ∧ u.slack = s.slack ∧ u.arb = s.arb ∧ u.out = s.out ∧ u.fc = s.fc ∧ u.dike = s.dike ∧ u.tu = s.tu ∧
    u.twin = s.twin ∧ u.ring = s.ring ∧ u.mb = s.mb ∧ u.cp = s.cp ∧ u.sl = s.sl ∧ u.dram = s.dram ∧ u.jr = s.jr ∧ u.feed = s.feed ∧
    u.br = s.br ∧ u.hem = s.hem ∧ u.job = s.job ∧ u.bands = s.bands ∧ u.cc = s.cc ∧ u.loom = s.loom ∧ u.pol = s.pol ∧ u.sh = s.sh ∧
    u.cf = s.cf ∧ u.pending = s.pending ∧ u.free = s.free := by
  simp [State.clearAttempts]

@[simp] theorem State.startCal_frame (s : State) :
    let u := State.startCal s
    u.now = s.now ∧ u.eng = s.eng ∧ u.slack = s.slack ∧ u.arb = s.arb ∧ u.out = s.out ∧ u.fc = s.fc ∧ u.dike = s.dike ∧ u.tu = s.tu ∧
    u.twin = s.twin ∧ u.ring = s.ring ∧ u.mb = s.mb ∧ u.cp = s.cp ∧ u.sl = s.sl ∧ u.dram = s.dram ∧ u.jr = s.jr ∧ u.feed = s.feed ∧
    u.br = s.br ∧ u.hem = s.hem ∧ u.job = s.job ∧ u.bands = s.bands ∧ u.cc = s.cc ∧ u.loom = s.loom ∧ u.pol = s.pol ∧ u.sh = s.sh ∧
    u.cf = s.cf ∧ u.pending = s.pending ∧ u.free = s.free := by
  simp [State.startCal]

@[simp] theorem State.ringLanesOn_frame (s : State) :
    let u := State.ringLanesOn s
    u.now = s.now ∧ u.eng = s.eng ∧ u.slack = s.slack ∧ u.arb = s.arb ∧ u.out = s.out ∧ u.fc = s.fc ∧ u.dike = s.dike ∧ u.tu = s.tu ∧
    u.mb = s.mb ∧ u.cp = s.cp ∧ u.sl = s.sl ∧ u.dram = s.dram ∧ u.cal = s.cal ∧ u.jr = s.jr ∧ u.feed = s.feed ∧ u.br = s.br ∧
    u.hem = s.hem ∧ u.job = s.job ∧ u.bands = s.bands ∧ u.cc = s.cc ∧ u.loom = s.loom ∧ u.pol = s.pol ∧ u.sh = s.sh ∧ u.cf = s.cf ∧
    u.pending = s.pending ∧ u.free = s.free := by
  simp [State.ringLanesOn]

@[simp] theorem State.enterCalibrate_frame (s : State) :
    let u := State.enterCalibrate s
    u.now = s.now ∧ u.slack = s.slack ∧ u.dike = s.dike ∧ u.tu = s.tu ∧ u.mb = s.mb ∧ u.cp = s.cp ∧ u.dram = s.dram ∧ u.jr = s.jr ∧
    u.hem = s.hem ∧ u.job = s.job ∧ u.bands = s.bands ∧ u.cc = s.cc ∧ u.loom = s.loom ∧ u.pol = s.pol ∧ u.sh = s.sh ∧
    u.pending = s.pending ∧ u.free = s.free := by
  simp [State.enterCalibrate]

@[simp] theorem State.startBackground_frame (s : State) :
    let u := State.startBackground s
    u.now = s.now ∧ u.eng = s.eng ∧ u.slack = s.slack ∧ u.arb = s.arb ∧ u.out = s.out ∧ u.fc = s.fc ∧ u.dike = s.dike ∧ u.tu = s.tu ∧
    u.twin = s.twin ∧ u.ring = s.ring ∧ u.mb = s.mb ∧ u.cp = s.cp ∧ u.sl = s.sl ∧ u.dram = s.dram ∧ u.jr = s.jr ∧ u.feed = s.feed ∧
    u.br = s.br ∧ u.hem = s.hem ∧ u.job = s.job ∧ u.bands = s.bands ∧ u.cc = s.cc ∧ u.loom = s.loom ∧ u.pol = s.pol ∧ u.sh = s.sh ∧
    u.cf = s.cf ∧ u.pending = s.pending ∧ u.free = s.free := by
  simp [State.startBackground]

@[simp] theorem State.calFail_frame (o bank : ℕ) (s : State) :
    let u := State.calFail o bank s
    u.now = s.now ∧ u.slack = s.slack ∧ u.tu = s.tu ∧ u.mb = s.mb ∧ u.dram = s.dram ∧ u.feed = s.feed ∧ u.pending = s.pending ∧
    u.free = s.free ∧ u.pol.sram = s.pol.sram := by
  unfold State.calFail
  dsimp only
  split <;> simp

@[simp] theorem State.attemptFailed_frame (o bank : ℕ) (s : State) :
    let u := State.attemptFailed o bank s
    u.now = s.now ∧ u.slack = s.slack ∧ u.tu = s.tu ∧ u.mb = s.mb ∧ u.dram = s.dram ∧ u.feed = s.feed ∧ u.pending = s.pending ∧
    u.free = s.free ∧ u.pol.sram = s.pol.sram := by
  unfold State.attemptFailed
  dsimp only
  split <;> simp

@[simp] theorem State.attemptPassed_frame (o bank : ℕ) (taps : List ℕ) (err : ℕ) (tAvg : ℤ) (s : State) :
    let u := State.attemptPassed o bank taps err tAvg s
    u.now = s.now ∧ u.slack = s.slack ∧ u.out = s.out ∧ u.fc = s.fc ∧ u.dike = s.dike ∧ u.tu = s.tu ∧ u.twin = s.twin ∧ u.ring = s.ring ∧
    u.mb = s.mb ∧ u.cp = s.cp ∧ u.sl = s.sl ∧ u.dram = s.dram ∧ u.feed = s.feed ∧ u.br = s.br ∧ u.hem = s.hem ∧ u.job = s.job ∧
    u.bands = s.bands ∧ u.cc = s.cc ∧ u.loom = s.loom ∧ u.pol = s.pol ∧ u.sh = s.sh ∧ u.cf = s.cf ∧ u.pending = s.pending ∧ u.free = s.free := by
  simp [State.attemptPassed]

@[simp] theorem State.trimLaunch_frame (o bank : ℕ) (s : State) :
    let u := State.trimLaunch o bank s
    u.now = s.now ∧ u.eng = s.eng ∧ u.slack = s.slack ∧ u.arb = s.arb ∧ u.out = s.out ∧ u.fc = s.fc ∧ u.dike = s.dike ∧ u.tu = s.tu ∧
    u.twin = s.twin ∧ u.ring = s.ring ∧ u.mb = s.mb ∧ u.cp = s.cp ∧ u.sl = s.sl ∧ u.dram = s.dram ∧ u.jr = s.jr ∧ u.feed = s.feed ∧
    u.br = s.br ∧ u.hem = s.hem ∧ u.job = s.job ∧ u.bands = s.bands ∧ u.cc = s.cc ∧ u.loom = s.loom ∧ u.pol = s.pol ∧ u.sh = s.sh ∧
    u.cf = s.cf ∧ u.pending = s.pending := by
  simp [State.trimLaunch]

@[simp] theorem State.testStale_frame (s : State) :
    let u := State.testStale s
    u.now = s.now ∧ u.eng = s.eng ∧ u.slack = s.slack ∧ u.out = s.out ∧ u.fc = s.fc ∧ u.dike = s.dike ∧ u.tu = s.tu ∧ u.twin = s.twin ∧
    u.ring = s.ring ∧ u.mb = s.mb ∧ u.cp = s.cp ∧ u.sl = s.sl ∧ u.dram = s.dram ∧ u.jr = s.jr ∧ u.feed = s.feed ∧ u.br = s.br ∧
    u.hem = s.hem ∧ u.job = s.job ∧ u.bands = s.bands ∧ u.cc = s.cc ∧ u.loom = s.loom ∧ u.pol = s.pol ∧ u.sh = s.sh ∧ u.cf = s.cf ∧
    u.pending = s.pending ∧ u.free = s.free := by
  simp [State.testStale]

@[simp] theorem State.noteTemp_frame (s : State) :
    let u := State.noteTemp s
    u.now = s.now ∧ u.eng = s.eng ∧ u.slack = s.slack ∧ u.arb = s.arb ∧ u.out = s.out ∧ u.fc = s.fc ∧ u.dike = s.dike ∧ u.tu = s.tu ∧
    u.twin = s.twin ∧ u.ring = s.ring ∧ u.mb = s.mb ∧ u.cp = s.cp ∧ u.sl = s.sl ∧ u.dram = s.dram ∧ u.jr = s.jr ∧ u.feed = s.feed ∧
    u.br = s.br ∧ u.hem = s.hem ∧ u.job = s.job ∧ u.bands = s.bands ∧ u.cc = s.cc ∧ u.loom = s.loom ∧ u.pol = s.pol ∧ u.sh = s.sh ∧
    u.cf = s.cf ∧ u.pending = s.pending ∧ u.free = s.free := by
  simp [State.noteTemp]

@[simp] theorem State.bootRom_frame (s : State) :
    let u := State.bootRom s
    u.now = s.now ∧ u.slack = s.slack ∧ u.out = s.out ∧ u.fc = s.fc ∧ u.dike = s.dike ∧ u.tu = s.tu ∧ u.twin = s.twin ∧ u.ring = s.ring ∧
    u.mb = s.mb ∧ u.cp = s.cp ∧ u.sl = s.sl ∧ u.dram = s.dram ∧ u.cal = s.cal ∧ u.feed = s.feed ∧ u.br = s.br ∧ u.hem = s.hem ∧
    u.job = s.job ∧ u.bands = s.bands ∧ u.cc = s.cc ∧ u.loom = s.loom ∧ u.pol = s.pol ∧ u.sh = s.sh ∧ u.cf = s.cf ∧ u.pending = s.pending ∧
    u.free = s.free := by
  simp [State.bootRom]

@[simp] theorem State.loadConfig_frame (s : State) :
    let u := State.loadConfig s
    u.now = s.now ∧ u.eng = s.eng ∧ u.slack = s.slack ∧ u.arb = s.arb ∧ u.out = s.out ∧ u.fc = s.fc ∧ u.tu = s.tu ∧ u.ring = s.ring ∧
    u.mb = s.mb ∧ u.cp = s.cp ∧ u.sl = s.sl ∧ u.jr = s.jr ∧ u.feed = s.feed ∧ u.br = s.br ∧ u.hem = s.hem ∧ u.job = s.job ∧
    u.bands = s.bands ∧ u.cc = s.cc ∧ u.loom = s.loom ∧ u.pol = s.pol ∧ u.sh = s.sh ∧ u.cf = s.cf ∧ u.pending = s.pending ∧
    u.free = s.free ∧ u.dram.wf = s.dram.wf := by
  unfold State.loadConfig
  try dsimp only
  (repeat' split) <;> simp [Dram.wf, Dram.blank]

@[simp] theorem State.pairUp_frame (s : State) :
    let u := State.pairUp s
    u.now = s.now ∧ u.eng = s.eng ∧ u.slack = s.slack ∧ u.arb = s.arb ∧ u.out = s.out ∧ u.fc = s.fc ∧ u.dike = s.dike ∧ u.tu = s.tu ∧
    u.ring = s.ring ∧ u.mb = s.mb ∧ u.cp = s.cp ∧ u.sl = s.sl ∧ u.dram = s.dram ∧ u.cal = s.cal ∧ u.jr = s.jr ∧ u.feed = s.feed ∧
    u.br = s.br ∧ u.hem = s.hem ∧ u.job = s.job ∧ u.bands = s.bands ∧ u.cc = s.cc ∧ u.loom = s.loom ∧ u.pol = s.pol ∧ u.sh = s.sh ∧
    u.cf = s.cf ∧ u.pending = s.pending ∧ u.free = s.free := by
  simp [State.pairUp]

/-! ## Blocks.lean -/

@[simp] theorem State.digestChanged_frame (before s : State) :
    let u := State.digestChanged before s
    u.now = s.now ∧ u.eng = s.eng ∧ u.slack = s.slack ∧ u.arb = s.arb ∧ u.out = s.out ∧ u.fc = s.fc ∧ u.dike = s.dike ∧ u.tu = s.tu ∧
    u.ring = s.ring ∧ u.mb = s.mb ∧ u.cp = s.cp ∧ u.sl = s.sl ∧ u.dram = s.dram ∧ u.cal = s.cal ∧ u.jr = s.jr ∧ u.feed = s.feed ∧
    u.br = s.br ∧ u.hem = s.hem ∧ u.job = s.job ∧ u.bands = s.bands ∧ u.cc = s.cc ∧ u.loom = s.loom ∧ u.pol = s.pol ∧ u.sh = s.sh ∧
    u.cf = s.cf ∧ u.pending = s.pending ∧ u.free = s.free := by
  simp [State.digestChanged]

/-! ## Jobs.lean -/

@[simp] theorem State.openJob_frame (j : Job) (s : State) :
    let u := State.openJob j s
    u.now = s.now ∧ u.slack = s.slack ∧ u.out = s.out ∧ u.fc = s.fc ∧ u.dike = s.dike ∧ u.tu = s.tu ∧ u.ring = s.ring ∧ u.mb = s.mb ∧
    u.cp = s.cp ∧ u.dram = s.dram ∧ u.cal = s.cal ∧ u.feed = s.feed ∧ u.br = s.br ∧ u.hem = s.hem ∧ u.pending = s.pending ∧
    u.free = s.free ∧ u.pol.sram = s.pol.sram := by
  simp [State.openJob]

@[simp] theorem State.closeJob_frame (s : State) :
    let u := State.closeJob s
    u.now = s.now ∧ u.eng = s.eng ∧ u.slack = s.slack ∧ u.arb = s.arb ∧ u.out = s.out ∧ u.fc = s.fc ∧ u.dike = s.dike ∧ u.tu = s.tu ∧
    u.twin = s.twin ∧ u.ring = s.ring ∧ u.mb = s.mb ∧ u.sl = s.sl ∧ u.dram = s.dram ∧ u.cal = s.cal ∧ u.jr = s.jr ∧ u.feed = s.feed ∧
    u.br = s.br ∧ u.hem = s.hem ∧ u.cf = s.cf ∧ u.pending = s.pending ∧ u.free = s.free ∧ u.pol.sram = s.pol.sram := by
  simp [State.closeJob]

@[simp] theorem State.newStripeFlags_frame (s : State) :
    let u := State.newStripeFlags s
    u.now = s.now ∧ u.slack = s.slack ∧ u.arb = s.arb ∧ u.out = s.out ∧ u.fc = s.fc ∧ u.tu = s.tu ∧ u.twin = s.twin ∧ u.ring = s.ring ∧
    u.mb = s.mb ∧ u.cp = s.cp ∧ u.sl = s.sl ∧ u.jr = s.jr ∧ u.job = s.job ∧ u.bands = s.bands ∧ u.cc = s.cc ∧ u.loom = s.loom ∧
    u.pending = s.pending ∧ u.free = s.free ∧ u.pol.sram = s.pol.sram ∧ u.dram.wf = s.dram.wf := by
  unfold State.newStripeFlags
  try dsimp only
  (repeat' split) <;> simp [Dram.wf, Dram.blank]

@[simp] theorem State.skipTo_frame (stripe : ℕ) (s : State) :
    let u := State.skipTo stripe s
    u.now = s.now ∧ u.eng = s.eng ∧ u.slack = s.slack ∧ u.out = s.out ∧ u.fc = s.fc ∧ u.dike = s.dike ∧ u.tu = s.tu ∧ u.ring = s.ring ∧
    u.mb = s.mb ∧ u.cp = s.cp ∧ u.dram = s.dram ∧ u.cal = s.cal ∧ u.jr = s.jr ∧ u.feed = s.feed ∧ u.br = s.br ∧ u.hem = s.hem ∧
    u.sh = s.sh ∧ u.cf = s.cf ∧ u.pending = s.pending ∧ u.free = s.free ∧ u.pol.sram = s.pol.sram := by
  unfold State.skipTo
  dsimp only
  (repeat' split) <;> simp

@[simp] theorem State.stripeAccepted_frame (st : Stripe) (s : State) :
    let u := State.stripeAccepted st s
    u.now = s.now ∧ u.slack = s.slack ∧ u.out = s.out ∧ u.fc = s.fc ∧ u.tu = s.tu ∧ u.ring = s.ring ∧ u.mb = s.mb ∧ u.cp = s.cp ∧
    u.jr = s.jr ∧ u.pending = s.pending ∧ u.free = s.free ∧ u.pol.sram = s.pol.sram ∧ u.dram.wf = s.dram.wf := by
  simp [State.stripeAccepted]

/-! ## Clock.lean -/

@[simp] theorem State.updPls_frame (n : ℕ) (f : Pulse → Pulse) (s : State) :
    let u := State.updPls n f s
    u.now = s.now ∧ u.eng = s.eng ∧ u.slack = s.slack ∧ u.arb = s.arb ∧ u.out = s.out ∧ u.fc = s.fc ∧ u.dike = s.dike ∧ u.twin = s.twin ∧
    u.ring = s.ring ∧ u.mb = s.mb ∧ u.cp = s.cp ∧ u.sl = s.sl ∧ u.dram = s.dram ∧ u.cal = s.cal ∧ u.jr = s.jr ∧ u.feed = s.feed ∧
    u.br = s.br ∧ u.hem = s.hem ∧ u.job = s.job ∧ u.bands = s.bands ∧ u.cc = s.cc ∧ u.loom = s.loom ∧ u.pol = s.pol ∧ u.sh = s.sh ∧
    u.cf = s.cf ∧ u.pending = s.pending ∧ u.free = s.free := by
  simp [State.updPls]

@[simp] theorem State.steer_frame (offset : ℤ) (s : State) :
    let u := State.steer offset s
    u.now = s.now ∧ u.eng = s.eng ∧ u.slack = s.slack ∧ u.arb = s.arb ∧ u.out = s.out ∧ u.fc = s.fc ∧ u.dike = s.dike ∧ u.twin = s.twin ∧
    u.ring = s.ring ∧ u.mb = s.mb ∧ u.cp = s.cp ∧ u.sl = s.sl ∧ u.dram = s.dram ∧ u.cal = s.cal ∧ u.jr = s.jr ∧ u.feed = s.feed ∧
    u.br = s.br ∧ u.hem = s.hem ∧ u.job = s.job ∧ u.bands = s.bands ∧ u.cc = s.cc ∧ u.loom = s.loom ∧ u.pol = s.pol ∧ u.sh = s.sh ∧
    u.cf = s.cf ∧ u.pending = s.pending ∧ u.free = s.free := by
  simp [State.steer]

end Sys2Proof.Machine
end

