-- ==== Sys2Proof/Laws/FrameTwins.lean ====
section
/-! SUPPORT. What each operation of Gusset and Stitch leaves unchanged, field by field of the
state: the whole of what it can change is what its lemma does not name. -/

namespace Sys2Proof.Machine
open Sys2Proof

/-! ## Stitch.lean -/

@[simp] theorem State.updRing_frame (f : RingNet → RingNet) (s : State) :
    let u := State.updRing f s
    u.now = s.now ∧ u.eng = s.eng ∧ u.slack = s.slack ∧ u.arb = s.arb ∧ u.out = s.out ∧ u.fc = s.fc ∧ u.dike = s.dike ∧ u.tu = s.tu ∧
    u.twin = s.twin ∧ u.mb = s.mb ∧ u.cp = s.cp ∧ u.sl = s.sl ∧ u.dram = s.dram ∧ u.cal = s.cal ∧ u.jr = s.jr ∧ u.feed = s.feed ∧
    u.br = s.br ∧ u.hem = s.hem ∧ u.job = s.job ∧ u.bands = s.bands ∧ u.cc = s.cc ∧ u.loom = s.loom ∧ u.pol = s.pol ∧ u.sh = s.sh ∧
    u.cf = s.cf ∧ u.pending = s.pending ∧ u.free = s.free := by
  simp [State.updRing]

@[simp] theorem State.updTwin_frame (f : Twin → Twin) (s : State) :
    let u := State.updTwin f s
    u.now = s.now ∧ u.eng = s.eng ∧ u.slack = s.slack ∧ u.arb = s.arb ∧ u.out = s.out ∧ u.fc = s.fc ∧ u.dike = s.dike ∧ u.tu = s.tu ∧
    u.ring = s.ring ∧ u.mb = s.mb ∧ u.cp = s.cp ∧ u.sl = s.sl ∧ u.dram = s.dram ∧ u.cal = s.cal ∧ u.jr = s.jr ∧ u.feed = s.feed ∧
    u.br = s.br ∧ u.hem = s.hem ∧ u.job = s.job ∧ u.bands = s.bands ∧ u.cc = s.cc ∧ u.loom = s.loom ∧ u.pol = s.pol ∧ u.sh = s.sh ∧
    u.cf = s.cf ∧ u.pending = s.pending ∧ u.free = s.free := by
  simp [State.updTwin]

@[simp] theorem State.forward_frame (x0 : MsgHdr) (m : SMsg) (s : State) :
    let u := State.forward x0 m s
    u.now = s.now ∧ u.eng = s.eng ∧ u.slack = s.slack ∧ u.arb = s.arb ∧ u.fc = s.fc ∧ u.dike = s.dike ∧ u.tu = s.tu ∧ u.twin = s.twin ∧
    u.mb = s.mb ∧ u.cp = s.cp ∧ u.sl = s.sl ∧ u.dram = s.dram ∧ u.cal = s.cal ∧ u.jr = s.jr ∧ u.feed = s.feed ∧ u.br = s.br ∧
    u.hem = s.hem ∧ u.job = s.job ∧ u.bands = s.bands ∧ u.cc = s.cc ∧ u.loom = s.loom ∧ u.pol = s.pol ∧ u.sh = s.sh ∧ u.cf = s.cf ∧
    u.pending = s.pending := by
  simp [State.forward]

@[simp] theorem State.stitchRx_frame (x0 : MsgHdr) (m : SMsg) (s : State) :
    let u := (State.stitchRx x0 m s).2
    u.now = s.now ∧ u.eng = s.eng ∧ u.slack = s.slack ∧ u.arb = s.arb ∧ u.fc = s.fc ∧ u.dike = s.dike ∧ u.tu = s.tu ∧ u.twin = s.twin ∧
    u.mb = s.mb ∧ u.cp = s.cp ∧ u.sl = s.sl ∧ u.dram = s.dram ∧ u.cal = s.cal ∧ u.jr = s.jr ∧ u.feed = s.feed ∧ u.br = s.br ∧
    u.hem = s.hem ∧ u.job = s.job ∧ u.bands = s.bands ∧ u.cc = s.cc ∧ u.loom = s.loom ∧ u.pol = s.pol ∧ u.sh = s.sh ∧ u.cf = s.cf ∧
    u.pending = s.pending := by
  unfold State.stitchRx
  split <;> simp

@[simp] theorem State.quarantine_frame (s : State) :
    let u := State.quarantine s
    u.now = s.now ∧ u.eng = s.eng ∧ u.slack = s.slack ∧ u.out = s.out ∧ u.fc = s.fc ∧ u.dike = s.dike ∧ u.tu = s.tu ∧ u.twin = s.twin ∧
    u.mb = s.mb ∧ u.cp = s.cp ∧ u.sl = s.sl ∧ u.dram = s.dram ∧ u.cal = s.cal ∧ u.jr = s.jr ∧ u.feed = s.feed ∧ u.br = s.br ∧
    u.hem = s.hem ∧ u.job = s.job ∧ u.bands = s.bands ∧ u.cc = s.cc ∧ u.loom = s.loom ∧ u.pol = s.pol ∧ u.sh = s.sh ∧ u.cf = s.cf ∧
    u.pending = s.pending ∧ u.free = s.free := by
  simp [State.quarantine]

@[simp] theorem State.stitchHello_frame (src : ℕ) (x1 : Hello) (s : State) :
    let u := State.stitchHello src x1 s
    u.now = s.now ∧ u.eng = s.eng ∧ u.slack = s.slack ∧ u.out = s.out ∧ u.fc = s.fc ∧ u.dike = s.dike ∧ u.tu = s.tu ∧ u.twin = s.twin ∧
    u.mb = s.mb ∧ u.cp = s.cp ∧ u.sl = s.sl ∧ u.dram = s.dram ∧ u.cal = s.cal ∧ u.jr = s.jr ∧ u.feed = s.feed ∧ u.br = s.br ∧
    u.hem = s.hem ∧ u.job = s.job ∧ u.bands = s.bands ∧ u.cc = s.cc ∧ u.loom = s.loom ∧ u.pol = s.pol ∧ u.sh = s.sh ∧ u.cf = s.cf ∧
    u.pending = s.pending ∧ u.free = s.free := by
  simp [State.stitchHello]

@[simp] theorem State.ringTime_frame (offset : ℤ) (s : State) :
    let u := State.ringTime offset s
    u.now = s.now ∧ u.eng = s.eng ∧ u.slack = s.slack ∧ u.out = s.out ∧ u.fc = s.fc ∧ u.dike = s.dike ∧ u.twin = s.twin ∧ u.mb = s.mb ∧
    u.cp = s.cp ∧ u.sl = s.sl ∧ u.dram = s.dram ∧ u.cal = s.cal ∧ u.jr = s.jr ∧ u.feed = s.feed ∧ u.br = s.br ∧ u.hem = s.hem ∧
    u.job = s.job ∧ u.bands = s.bands ∧ u.cc = s.cc ∧ u.loom = s.loom ∧ u.pol = s.pol ∧ u.sh = s.sh ∧ u.cf = s.cf ∧ u.pending = s.pending ∧
    u.free = s.free := by
  simp [State.ringTime]

@[simp] theorem State.stitchTime_frame (x0 : MsgHdr) (kind ta tb : ℕ) (correction : ℤ) (s : State) :
    let u := State.stitchTime x0 kind ta tb correction s
    u.now = s.now ∧ u.eng = s.eng ∧ u.slack = s.slack ∧ u.fc = s.fc ∧ u.dike = s.dike ∧ u.twin = s.twin ∧ u.mb = s.mb ∧ u.cp = s.cp ∧
    u.sl = s.sl ∧ u.dram = s.dram ∧ u.cal = s.cal ∧ u.jr = s.jr ∧ u.feed = s.feed ∧ u.br = s.br ∧ u.hem = s.hem ∧ u.job = s.job ∧
    u.bands = s.bands ∧ u.cc = s.cc ∧ u.loom = s.loom ∧ u.pol = s.pol ∧ u.sh = s.sh ∧ u.cf = s.cf ∧ u.pending = s.pending := by
  unfold State.stitchTime
  dsimp only
  (repeat' split) <;> simp

@[simp] theorem State.orderOut_frame (event member stripe mask at' : ℕ) (s : State) :
    let u := State.orderOut event member stripe mask at' s
    u.now = s.now ∧ u.eng = s.eng ∧ u.slack = s.slack ∧ u.arb = s.arb ∧ u.dike = s.dike ∧ u.tu = s.tu ∧ u.twin = s.twin ∧ u.mb = s.mb ∧
    u.cp = s.cp ∧ u.sl = s.sl ∧ u.dram = s.dram ∧ u.cal = s.cal ∧ u.jr = s.jr ∧ u.feed = s.feed ∧ u.br = s.br ∧ u.hem = s.hem ∧
    u.job = s.job ∧ u.bands = s.bands ∧ u.cc = s.cc ∧ u.loom = s.loom ∧ u.pol = s.pol ∧ u.sh = s.sh ∧ u.cf = s.cf ∧ u.pending = s.pending ∧
    u.free = s.free := by
  simp [State.orderOut]

@[simp] theorem State.groupHold_frame (s : State) :
    let u := State.groupHold s
    u.now = s.now ∧ u.slack = s.slack ∧ u.tu = s.tu ∧ u.mb = s.mb ∧ u.cp = s.cp ∧ u.dram = s.dram ∧ u.cal = s.cal ∧ u.jr = s.jr ∧
    u.feed = s.feed ∧ u.job = s.job ∧ u.bands = s.bands ∧ u.cc = s.cc ∧ u.loom = s.loom ∧ u.pending = s.pending ∧ u.free = s.free ∧
    u.pol.sram = s.pol.sram := by
  unfold State.groupHold
  dsimp only
  split <;> simp

@[simp] theorem State.act_frame (o : OrderMsg) (s : State) :
    let u := State.act o s
    u.now = s.now ∧ u.slack = s.slack ∧ u.tu = s.tu ∧ u.mb = s.mb ∧ u.cp = s.cp ∧ u.dram = s.dram ∧ u.cal = s.cal ∧ u.jr = s.jr ∧
    u.feed = s.feed ∧ u.job = s.job ∧ u.bands = s.bands ∧ u.cc = s.cc ∧ u.loom = s.loom ∧ u.pending = s.pending ∧ u.free = s.free ∧
    u.pol.sram = s.pol.sram := by
  unfold State.act
  dsimp only
  (repeat' split) <;> simp

@[simp] theorem State.actHeld_frame (x0 : ℕ) (s : State) :
    let u := State.actHeld x0 s
    u.now = s.now ∧ u.slack = s.slack ∧ u.tu = s.tu ∧ u.mb = s.mb ∧ u.cp = s.cp ∧ u.dram = s.dram ∧ u.cal = s.cal ∧ u.jr = s.jr ∧
    u.feed = s.feed ∧ u.job = s.job ∧ u.bands = s.bands ∧ u.cc = s.cc ∧ u.loom = s.loom ∧ u.pending = s.pending ∧ u.free = s.free ∧
    u.pol.sram = s.pol.sram := by
  induction x0 generalizing s with
  | zero => simp [State.actHeld]
  | succ n ih =>
    unfold State.actHeld
    dsimp only
    (repeat' split) <;> first
      | (simp [ih]; done)
      | (rename_i h; have h := congrArg Prod.snd h; dsimp only at h; subst h; simp [ih]; done)

@[simp] theorem State.takeOrder_frame (o : OrderMsg) (s : State) :
    let u := State.takeOrder o s
    u.now = s.now ∧ u.slack = s.slack ∧ u.tu = s.tu ∧ u.mb = s.mb ∧ u.cp = s.cp ∧ u.dram = s.dram ∧ u.cal = s.cal ∧ u.jr = s.jr ∧
    u.feed = s.feed ∧ u.job = s.job ∧ u.bands = s.bands ∧ u.cc = s.cc ∧ u.loom = s.loom ∧ u.pending = s.pending ∧ u.free = s.free ∧
    u.pol.sram = s.pol.sram := by
  unfold State.takeOrder
  (repeat' split) <;> simp

@[simp] theorem State.giveOrder_frame (event member stripe mask at' : ℕ) (s : State) :
    let u := State.giveOrder event member stripe mask at' s
    u.now = s.now ∧ u.slack = s.slack ∧ u.tu = s.tu ∧ u.mb = s.mb ∧ u.cp = s.cp ∧ u.dram = s.dram ∧ u.cal = s.cal ∧ u.jr = s.jr ∧
    u.feed = s.feed ∧ u.job = s.job ∧ u.bands = s.bands ∧ u.cc = s.cc ∧ u.loom = s.loom ∧ u.pending = s.pending ∧ u.free = s.free ∧
    u.pol.sram = s.pol.sram := by
  simp [State.giveOrder]

@[simp] theorem State.leaderRequest_frame (src event stripe mask asked : ℕ) (s : State) :
    let u := State.leaderRequest src event stripe mask asked s
    u.now = s.now ∧ u.slack = s.slack ∧ u.tu = s.tu ∧ u.mb = s.mb ∧ u.cp = s.cp ∧ u.dram = s.dram ∧ u.cal = s.cal ∧ u.jr = s.jr ∧
    u.feed = s.feed ∧ u.job = s.job ∧ u.bands = s.bands ∧ u.cc = s.cc ∧ u.loom = s.loom ∧ u.pending = s.pending ∧ u.free = s.free ∧
    u.pol.sram = s.pol.sram := by
  unfold State.leaderRequest
  dsimp only
  (repeat' split) <;> simp

@[simp] theorem State.syncStart_frame (s : State) :
    let u := State.syncStart s
    u.now = s.now ∧ u.slack = s.slack ∧ u.dike = s.dike ∧ u.tu = s.tu ∧ u.twin = s.twin ∧ u.mb = s.mb ∧ u.cp = s.cp ∧ u.dram = s.dram ∧
    u.cal = s.cal ∧ u.jr = s.jr ∧ u.feed = s.feed ∧ u.job = s.job ∧ u.bands = s.bands ∧ u.cc = s.cc ∧ u.loom = s.loom ∧ u.pol = s.pol ∧
    u.sh = s.sh ∧ u.pending = s.pending ∧ u.free = s.free := by
  unfold State.syncStart
  split <;> simp

@[simp] theorem State.clearPause_frame (group : Bool) (s : State) :
    let u := State.clearPause group s
    u.now = s.now ∧ u.eng = s.eng ∧ u.slack = s.slack ∧ u.arb = s.arb ∧ u.out = s.out ∧ u.fc = s.fc ∧ u.dike = s.dike ∧ u.tu = s.tu ∧
    u.twin = s.twin ∧ u.ring = s.ring ∧ u.mb = s.mb ∧ u.cp = s.cp ∧ u.sl = s.sl ∧ u.dram = s.dram ∧ u.cal = s.cal ∧ u.jr = s.jr ∧
    u.feed = s.feed ∧ u.br = s.br ∧ u.job = s.job ∧ u.bands = s.bands ∧ u.cc = s.cc ∧ u.loom = s.loom ∧ u.pol = s.pol ∧ u.sh = s.sh ∧
    u.cf = s.cf ∧ u.pending = s.pending ∧ u.free = s.free := by
  simp [State.clearPause]

/-! ## Twins.lean -/

@[simp] theorem State.alone_frame (s : State) :
    let u := State.alone s
    u.now = s.now ∧ u.eng = s.eng ∧ u.arb = s.arb ∧ u.dike = s.dike ∧ u.tu = s.tu ∧ u.ring = s.ring ∧ u.mb = s.mb ∧ u.cp = s.cp ∧
    u.sl = s.sl ∧ u.dram = s.dram ∧ u.cal = s.cal ∧ u.jr = s.jr ∧ u.feed = s.feed ∧ u.hem = s.hem ∧ u.job = s.job ∧ u.cc = s.cc ∧
    u.loom = s.loom ∧ u.pol = s.pol ∧ u.sh = s.sh ∧ u.pending = s.pending ∧ u.free = s.free := by
  simp [State.alone]

@[simp] theorem State.sendImage_frame (s : State) :
    let u := State.sendImage s
    u.now = s.now ∧ u.eng = s.eng ∧ u.slack = s.slack ∧ u.arb = s.arb ∧ u.out = s.out ∧ u.dike = s.dike ∧ u.tu = s.tu ∧ u.ring = s.ring ∧
    u.mb = s.mb ∧ u.cp = s.cp ∧ u.sl = s.sl ∧ u.dram = s.dram ∧ u.cal = s.cal ∧ u.jr = s.jr ∧ u.feed = s.feed ∧ u.br = s.br ∧
    u.hem = s.hem ∧ u.job = s.job ∧ u.bands = s.bands ∧ u.cc = s.cc ∧ u.loom = s.loom ∧ u.pol = s.pol ∧ u.sh = s.sh ∧ u.cf = s.cf ∧
    u.pending = s.pending := by
  simp [State.sendImage]

@[simp] theorem State.copyState_frame (im : Image) (s : State) :
    let u := State.copyState im s
    u.now = s.now ∧ u.slack = s.slack ∧ u.tu = s.tu ∧ u.mb = s.mb ∧ u.dram = s.dram ∧ u.feed = s.feed ∧ u.pending = s.pending ∧
    u.free = s.free ∧ u.pol.sram = s.pol.sram := by
  unfold State.copyState
  (repeat' split) <;> simp

@[simp] theorem State.copyStripe_frame (im : Image) (s : State) :
    let u := State.copyStripe im s
    u.now = s.now ∧ u.slack = s.slack ∧ u.out = s.out ∧ u.fc = s.fc ∧ u.tu = s.tu ∧ u.mb = s.mb ∧ u.pending = s.pending ∧ u.free = s.free ∧
    u.pol.sram = s.pol.sram ∧ u.dram.wf = s.dram.wf := by
  unfold State.copyStripe
  (repeat' split) <;> simp

@[simp] theorem State.copyHem_frame (im : Image) (s : State) :
    let u := State.copyHem im s
    u.now = s.now ∧ u.slack = s.slack ∧ u.arb = s.arb ∧ u.out = s.out ∧ u.fc = s.fc ∧ u.dike = s.dike ∧ u.tu = s.tu ∧ u.twin = s.twin ∧
    u.ring = s.ring ∧ u.mb = s.mb ∧ u.cp = s.cp ∧ u.sl = s.sl ∧ u.dram = s.dram ∧ u.cal = s.cal ∧ u.jr = s.jr ∧ u.feed = s.feed ∧
    u.br = s.br ∧ u.job = s.job ∧ u.bands = s.bands ∧ u.cc = s.cc ∧ u.loom = s.loom ∧ u.pol = s.pol ∧ u.sh = s.sh ∧ u.pending = s.pending ∧
    u.free = s.free := by
  simp [State.copyHem]

@[simp] theorem State.copyBrace_frame (im : Image) (s : State) :
    let u := State.copyBrace im s
    u.now = s.now ∧ u.eng = s.eng ∧ u.slack = s.slack ∧ u.arb = s.arb ∧ u.out = s.out ∧ u.fc = s.fc ∧ u.dike = s.dike ∧ u.tu = s.tu ∧
    u.twin = s.twin ∧ u.ring = s.ring ∧ u.mb = s.mb ∧ u.cp = s.cp ∧ u.sl = s.sl ∧ u.dram = s.dram ∧ u.cal = s.cal ∧ u.jr = s.jr ∧
    u.hem = s.hem ∧ u.job = s.job ∧ u.bands = s.bands ∧ u.cc = s.cc ∧ u.loom = s.loom ∧ u.pol = s.pol ∧ u.sh = s.sh ∧ u.cf = s.cf ∧
    u.pending = s.pending ∧ u.free = s.free := by
  simp [State.copyBrace]

@[simp] theorem State.copyTime_frame (im : Image) (cycle : ℕ) (s : State) :
    let u := State.copyTime im cycle s
    u.now = s.now ∧ u.eng = s.eng ∧ u.slack = s.slack ∧ u.arb = s.arb ∧ u.out = s.out ∧ u.fc = s.fc ∧ u.dike = s.dike ∧ u.twin = s.twin ∧
    u.ring = s.ring ∧ u.mb = s.mb ∧ u.cp = s.cp ∧ u.sl = s.sl ∧ u.dram = s.dram ∧ u.cal = s.cal ∧ u.jr = s.jr ∧ u.feed = s.feed ∧
    u.br = s.br ∧ u.hem = s.hem ∧ u.job = s.job ∧ u.bands = s.bands ∧ u.cc = s.cc ∧ u.loom = s.loom ∧ u.pol = s.pol ∧ u.sh = s.sh ∧
    u.cf = s.cf ∧ u.pending = s.pending ∧ u.free = s.free := by
  simp [State.copyTime]

@[simp] theorem State.applyImage_frame (im : Image) (cycle : ℕ) (s : State) :
    let u := State.applyImage im cycle s
    u.now = s.now ∧ u.slack = s.slack ∧ u.mb = s.mb ∧ u.pending = s.pending ∧ u.free = s.free ∧ u.pol.sram = s.pol.sram ∧
    u.dram.wf = s.dram.wf := by
  unfold State.applyImage
  split <;> simp

@[simp] theorem State.imageLost_frame (s : State) :
    let u := State.imageLost s
    u.now = s.now ∧ u.eng = s.eng ∧ u.slack = s.slack ∧ u.dike = s.dike ∧ u.tu = s.tu ∧ u.ring = s.ring ∧ u.mb = s.mb ∧ u.cp = s.cp ∧
    u.sl = s.sl ∧ u.dram = s.dram ∧ u.cal = s.cal ∧ u.jr = s.jr ∧ u.feed = s.feed ∧ u.br = s.br ∧ u.hem = s.hem ∧ u.job = s.job ∧
    u.bands = s.bands ∧ u.cc = s.cc ∧ u.loom = s.loom ∧ u.pol = s.pol ∧ u.sh = s.sh ∧ u.pending = s.pending ∧ u.free = s.free := by
  simp [State.imageLost]

@[simp] theorem State.stateEnd_frame (cycle count : ℕ) (crc : Word) (im : Image) (s : State) :
    let u := State.stateEnd cycle count crc im s
    u.now = s.now ∧ u.slack = s.slack ∧ u.mb = s.mb ∧ u.pending = s.pending ∧ u.free = s.free ∧ u.pol.sram = s.pol.sram ∧
    u.dram.wf = s.dram.wf := by
  unfold State.stateEnd
  dsimp only
  (repeat' split) <;> simp

@[simp] theorem State.peerCommit_frame (r : FlashRec) (tn : ℕ) (f : ℤ) (s : State) :
    let u := State.peerCommit r tn f s
    u.now = s.now ∧ u.slack = s.slack ∧ u.out = s.out ∧ u.fc = s.fc ∧ u.tu = s.tu ∧ u.twin = s.twin ∧ u.ring = s.ring ∧ u.mb = s.mb ∧
    u.sl = s.sl ∧ u.dram = s.dram ∧ u.cal = s.cal ∧ u.jr = s.jr ∧ u.feed = s.feed ∧ u.job = s.job ∧ u.bands = s.bands ∧ u.cc = s.cc ∧
    u.loom = s.loom ∧ u.pending = s.pending ∧ u.free = s.free ∧ u.pol.sram = s.pol.sram := by
  unfold State.peerCommit
  (repeat' split) <;> simp

@[simp] theorem State.peerWithdraw_frame (flash epoch : ℕ) (s : State) :
    let u := State.peerWithdraw flash epoch s
    u.now = s.now ∧ u.slack = s.slack ∧ u.tu = s.tu ∧ u.twin = s.twin ∧ u.ring = s.ring ∧ u.mb = s.mb ∧ u.cp = s.cp ∧ u.sl = s.sl ∧
    u.dram = s.dram ∧ u.cal = s.cal ∧ u.jr = s.jr ∧ u.feed = s.feed ∧ u.br = s.br ∧ u.job = s.job ∧ u.bands = s.bands ∧ u.cc = s.cc ∧
    u.loom = s.loom ∧ u.pending = s.pending ∧ u.free = s.free ∧ u.pol.sram = s.pol.sram := by
  unfold State.peerWithdraw
  split <;> simp

@[simp] theorem State.peerSetpoint_frame (cycle ctrl0 ctrl1 : ℕ) (set0 set1 : List ℤ) (s : State) :
    let u := State.peerSetpoint cycle ctrl0 ctrl1 set0 set1 s
    u.now = s.now ∧ u.eng = s.eng ∧ u.slack = s.slack ∧ u.arb = s.arb ∧ u.out = s.out ∧ u.fc = s.fc ∧ u.dike = s.dike ∧ u.tu = s.tu ∧
    u.twin = s.twin ∧ u.ring = s.ring ∧ u.mb = s.mb ∧ u.cp = s.cp ∧ u.sl = s.sl ∧ u.dram = s.dram ∧ u.cal = s.cal ∧ u.jr = s.jr ∧
    u.feed = s.feed ∧ u.hem = s.hem ∧ u.job = s.job ∧ u.bands = s.bands ∧ u.cc = s.cc ∧ u.loom = s.loom ∧ u.pol = s.pol ∧ u.sh = s.sh ∧
    u.cf = s.cf ∧ u.pending = s.pending ∧ u.free = s.free := by
  simp [State.peerSetpoint]

@[simp] theorem State.peerTakeover_frame (cause : ℕ) (s : State) :
    let u := State.peerTakeover cause s
    u.now = s.now ∧ u.eng = s.eng ∧ u.arb = s.arb ∧ u.dike = s.dike ∧ u.tu = s.tu ∧ u.ring = s.ring ∧ u.mb = s.mb ∧ u.cp = s.cp ∧
    u.sl = s.sl ∧ u.dram = s.dram ∧ u.cal = s.cal ∧ u.jr = s.jr ∧ u.feed = s.feed ∧ u.hem = s.hem ∧ u.job = s.job ∧ u.cc = s.cc ∧
    u.loom = s.loom ∧ u.pol = s.pol ∧ u.sh = s.sh ∧ u.pending = s.pending ∧ u.free = s.free := by
  simp [State.peerTakeover]

@[simp] theorem State.peerCheck_frame (item : ℕ) (value : Word) (s : State) :
    let u := State.peerCheck item value s
    u.now = s.now ∧ u.eng = s.eng ∧ u.slack = s.slack ∧ u.arb = s.arb ∧ u.out = s.out ∧ u.fc = s.fc ∧ u.dike = s.dike ∧ u.tu = s.tu ∧
    u.ring = s.ring ∧ u.mb = s.mb ∧ u.cp = s.cp ∧ u.sl = s.sl ∧ u.dram = s.dram ∧ u.cal = s.cal ∧ u.jr = s.jr ∧ u.feed = s.feed ∧
    u.br = s.br ∧ u.hem = s.hem ∧ u.job = s.job ∧ u.bands = s.bands ∧ u.cc = s.cc ∧ u.loom = s.loom ∧ u.pol = s.pol ∧ u.sh = s.sh ∧
    u.cf = s.cf ∧ u.pending = s.pending ∧ u.free = s.free := by
  simp [State.peerCheck]

@[simp] theorem State.peerHello_frame (x0 : Hello) (s : State) :
    let u := State.peerHello x0 s
    u.now = s.now ∧ u.slack = s.slack ∧ u.tu = s.tu ∧ u.mb = s.mb ∧ u.dram = s.dram ∧ u.feed = s.feed ∧ u.pending = s.pending ∧
    u.free = s.free ∧ u.pol.sram = s.pol.sram := by
  unfold State.peerHello
  dsimp only
  (repeat' split) <;> simp

@[simp] theorem State.pairTime_frame (kind ta : ℕ) (s : State) :
    let u := State.pairTime kind ta s
    u.now = s.now ∧ u.eng = s.eng ∧ u.slack = s.slack ∧ u.arb = s.arb ∧ u.out = s.out ∧ u.fc = s.fc ∧ u.dike = s.dike ∧ u.tu = s.tu ∧
    u.ring = s.ring ∧ u.mb = s.mb ∧ u.cp = s.cp ∧ u.sl = s.sl ∧ u.dram = s.dram ∧ u.cal = s.cal ∧ u.jr = s.jr ∧ u.feed = s.feed ∧
    u.br = s.br ∧ u.hem = s.hem ∧ u.job = s.job ∧ u.bands = s.bands ∧ u.cc = s.cc ∧ u.loom = s.loom ∧ u.pol = s.pol ∧ u.sh = s.sh ∧
    u.cf = s.cf ∧ u.pending = s.pending ∧ u.free = s.free := by
  simp [State.pairTime]

@[simp] theorem State.deliver_frame (m : GMsg) (s : State) :
    let u := State.deliver m s
    u.now = s.now ∧ u.mb = s.mb ∧ u.pending = s.pending ∧ u.free = s.free ∧ u.pol.sram = s.pol.sram ∧ u.dram.wf = s.dram.wf := by
  unfold State.deliver
  split <;> simp

@[simp] theorem State.deliverHeld_frame (x0 : ℕ) (s : State) :
    let u := State.deliverHeld x0 s
    u.now = s.now ∧ u.mb = s.mb ∧ u.pending = s.pending ∧ u.free = s.free ∧ u.pol.sram = s.pol.sram ∧ u.dram.wf = s.dram.wf := by
  induction x0 generalizing s with
  | zero => simp [State.deliverHeld]
  | succ n ih =>
    unfold State.deliverHeld
    dsimp only
    (repeat' split) <;> first
      | (simp [ih]; done)
      | (rename_i h; have h := congrArg Prod.snd h; dsimp only at h; subst h; simp [ih]; done)

@[simp] theorem State.gussetRx_frame (x0 : MsgHdr) (m : GMsg) (s : State) :
    let u := State.gussetRx x0 m s
    u.now = s.now ∧ u.mb = s.mb ∧ u.pending = s.pending ∧ u.free = s.free ∧ u.pol.sram = s.pol.sram ∧ u.dram.wf = s.dram.wf := by
  unfold State.gussetRx
  dsimp only
  (repeat' split) <;> simp

@[simp] theorem State.gussetHello_frame (s : State) :
    let u := State.gussetHello s
    u.now = s.now ∧ u.eng = s.eng ∧ u.slack = s.slack ∧ u.arb = s.arb ∧ u.out = s.out ∧ u.fc = s.fc ∧ u.dike = s.dike ∧ u.tu = s.tu ∧
    u.ring = s.ring ∧ u.mb = s.mb ∧ u.cp = s.cp ∧ u.sl = s.sl ∧ u.dram = s.dram ∧ u.cal = s.cal ∧ u.jr = s.jr ∧ u.feed = s.feed ∧
    u.br = s.br ∧ u.hem = s.hem ∧ u.job = s.job ∧ u.bands = s.bands ∧ u.cc = s.cc ∧ u.loom = s.loom ∧ u.pol = s.pol ∧ u.sh = s.sh ∧
    u.cf = s.cf ∧ u.pending = s.pending ∧ u.free = s.free := by
  simp [State.gussetHello]

@[simp] theorem State.shiftSteps_frame (d : ℤ) (s : State) :
    let u := State.shiftSteps d s
    u.eng = s.eng ∧ u.slack = s.slack ∧ u.out = s.out ∧ u.tu = s.tu ∧ u.mb = s.mb ∧ u.cp = s.cp ∧ u.sl = s.sl ∧ u.dram = s.dram ∧
    u.cal = s.cal ∧ u.jr = s.jr ∧ u.br = s.br ∧ u.job = s.job ∧ u.bands = s.bands ∧ u.cc = s.cc ∧ u.loom = s.loom ∧ u.pol = s.pol ∧
    u.sh = s.sh ∧ u.pending = s.pending ∧ u.free = s.free := by
  simp [State.shiftSteps]

@[simp] theorem State.takeFc_frame (s : State) :
    let u := State.takeFc s
    u.now = s.now ∧ u.eng = s.eng ∧ u.slack = s.slack ∧ u.arb = s.arb ∧ u.out = s.out ∧ u.dike = s.dike ∧ u.tu = s.tu ∧ u.twin = s.twin ∧
    u.ring = s.ring ∧ u.mb = s.mb ∧ u.cp = s.cp ∧ u.sl = s.sl ∧ u.dram = s.dram ∧ u.cal = s.cal ∧ u.jr = s.jr ∧ u.feed = s.feed ∧
    u.br = s.br ∧ u.hem = s.hem ∧ u.job = s.job ∧ u.bands = s.bands ∧ u.cc = s.cc ∧ u.loom = s.loom ∧ u.pol = s.pol ∧ u.sh = s.sh ∧
    u.cf = s.cf ∧ u.pending = s.pending ∧ u.free = s.free := by
  unfold State.takeFc
  split <;> simp

@[simp] theorem State.takeOver_frame (s : State) :
    let u := State.takeOver s
    u.now = s.now ∧ u.tu = s.tu ∧ u.ring = s.ring ∧ u.cp = s.cp ∧ u.dram = s.dram ∧ u.cal = s.cal ∧ u.jr = s.jr ∧ u.feed = s.feed ∧
    u.job = s.job ∧ u.cc = s.cc ∧ u.loom = s.loom ∧ u.pol = s.pol ∧ u.sh = s.sh ∧ u.pending = s.pending ∧ u.free = s.free := by
  simp [State.takeOver]

@[simp] theorem State.peerGone_frame (peerLive : Bool) (s : State) :
    let u := State.peerGone peerLive s
    u.now = s.now ∧ u.tu = s.tu ∧ u.dram = s.dram ∧ u.feed = s.feed ∧ u.pending = s.pending ∧ u.free = s.free ∧ u.pol.sram = s.pol.sram := by
  unfold State.peerGone
  (repeat' split) <;> simp

@[simp] theorem State.gussetLane_frame (lanes : ℕ) (s : State) (k : ℕ) :
    let u := State.gussetLane lanes s k
    u.now = s.now ∧ u.eng = s.eng ∧ u.slack = s.slack ∧ u.out = s.out ∧ u.fc = s.fc ∧ u.dike = s.dike ∧ u.tu = s.tu ∧ u.ring = s.ring ∧
    u.mb = s.mb ∧ u.cp = s.cp ∧ u.sl = s.sl ∧ u.dram = s.dram ∧ u.cal = s.cal ∧ u.jr = s.jr ∧ u.feed = s.feed ∧ u.br = s.br ∧
    u.hem = s.hem ∧ u.job = s.job ∧ u.bands = s.bands ∧ u.cc = s.cc ∧ u.loom = s.loom ∧ u.pol = s.pol ∧ u.sh = s.sh ∧ u.cf = s.cf ∧
    u.pending = s.pending ∧ u.free = s.free := by
  unfold State.gussetLane
  dsimp only
  split <;> simp

@[simp] theorem State.gussetLanes_frame (lanes : ℕ) (s : State) :
    let u := State.gussetLanes lanes s
    u.now = s.now ∧ u.eng = s.eng ∧ u.slack = s.slack ∧ u.out = s.out ∧ u.fc = s.fc ∧ u.dike = s.dike ∧ u.tu = s.tu ∧ u.ring = s.ring ∧
    u.mb = s.mb ∧ u.cp = s.cp ∧ u.sl = s.sl ∧ u.dram = s.dram ∧ u.cal = s.cal ∧ u.jr = s.jr ∧ u.feed = s.feed ∧ u.br = s.br ∧
    u.hem = s.hem ∧ u.job = s.job ∧ u.bands = s.bands ∧ u.cc = s.cc ∧ u.loom = s.loom ∧ u.pol = s.pol ∧ u.sh = s.sh ∧ u.cf = s.cf ∧
    u.pending = s.pending ∧ u.free = s.free := by
  simp [State.gussetLanes]

@[simp] theorem State.becomeStandby_frame (s : State) :
    let u := State.becomeStandby s
    u.now = s.now ∧ u.eng = s.eng ∧ u.slack = s.slack ∧ u.arb = s.arb ∧ u.fc = s.fc ∧ u.dike = s.dike ∧ u.ring = s.ring ∧ u.mb = s.mb ∧
    u.cp = s.cp ∧ u.sl = s.sl ∧ u.dram = s.dram ∧ u.cal = s.cal ∧ u.jr = s.jr ∧ u.hem = s.hem ∧ u.job = s.job ∧ u.bands = s.bands ∧
    u.cc = s.cc ∧ u.loom = s.loom ∧ u.pol = s.pol ∧ u.sh = s.sh ∧ u.cf = s.cf ∧ u.pending = s.pending ∧ u.free = s.free := by
  simp [State.becomeStandby]

@[simp] theorem State.tellPeer_frame (s : State) :
    let u := State.tellPeer s
    u.now = s.now ∧ u.eng = s.eng ∧ u.arb = s.arb ∧ u.dike = s.dike ∧ u.ring = s.ring ∧ u.mb = s.mb ∧ u.cp = s.cp ∧ u.sl = s.sl ∧
    u.dram = s.dram ∧ u.cal = s.cal ∧ u.jr = s.jr ∧ u.hem = s.hem ∧ u.job = s.job ∧ u.bands = s.bands ∧ u.cc = s.cc ∧ u.loom = s.loom ∧
    u.pol = s.pol ∧ u.sh = s.sh ∧ u.cf = s.cf ∧ u.pending = s.pending := by
  simp [State.tellPeer]

end Sys2Proof.Machine
end

