-- ==== Sys2Proof/Laws/Mailbox.lean ====
section
/-! SUPPORT. What the step of a mailbox command can do (13 R412, R531), said once: nothing while its request
is not at work, a refusal by the first failing check, or its effect. -/

namespace Sys2Proof.Machine
open Sys2Proof

theorem CmdSpec.run_cases (c : CmdSpec) (s : State) (f : Request → List Byte → State → State) :
    c.run s f = s ∨
    (∃ r st, c.refusal r s = some st ∧ c.run s f = c.refuse r st s) ∨
    ∃ r b, c.refusal r s = none ∧ c.run s f = f r b s := by
  unfold CmdSpec.run
  split
  · split
    · exact .inl rfl
    · split
      · split
        next h => exact .inr (.inl ⟨_, _, h, rfl⟩)
        next h => exact .inr (.inr ⟨_, _, h, rfl⟩)
      · exact .inl rfl
  · exact .inl rfl

/-- The step of a command whose request is at work with its copies in hand, and which no check refuses. -/
theorem CmdSpec.run_effect (c : CmdSpec) (s : State) (f : Request → List Byte → State → State) {cur : Current}
    (hcp : s.cp.halted = false) (hcur : s.cp.current = some cur) (hop : cur.req.opcode = c.opcode)
    (hph : cur.phase = .ready) (hok : c.refusal cur.req s = none) : c.run s f = f cur.req cur.data s := by
  simp [CmdSpec.run, hcur, hcp, hop, hph, hok]

/-- The same where a check refuses it. -/
theorem CmdSpec.run_refused (c : CmdSpec) (s : State) (f : Request → List Byte → State → State) {cur : Current} {st : Nat}
    (hcp : s.cp.halted = false) (hcur : s.cp.current = some cur) (hop : cur.req.opcode = c.opcode)
    (hph : cur.phase = .ready) (hbad : c.refusal cur.req s = some st) : c.run s f = c.refuse cur.req st s := by
  simp [CmdSpec.run, hcur, hcp, hop, hph, hbad]

end Sys2Proof.Machine
end

