-- ==== Sys2Proof/Laws/Sparse.lean ====
section
/-! SUPPORT. The sparse lists that hold memories: every operation keeps keys rising, what a changed list
holds, and what it reads as. -/

namespace Sys2Proof.Machine
open Sys2Proof

variable {β : Type}

theorem risingKeys_iff (l : List (Nat × β)) : risingKeys l = true ↔ l.Pairwise fun p q => p.1 < q.1 := by
  induction l with
  | nil => simp [risingKeys]
  | cons p l ih =>
    cases l with
    | nil => simp [risingKeys]
    | cons q l =>
      simp only [risingKeys, Bool.and_eq_true, decide_eq_true_eq, ih, List.pairwise_cons, List.mem_cons, forall_eq_or_imp]
      constructor
      · exact fun ⟨h, h1, h2⟩ => ⟨⟨h, fun x hx => h.trans (h1 x hx)⟩, h1, h2⟩
      · exact fun ⟨⟨h, _⟩, h1, h2⟩ => ⟨h, h1, h2⟩

theorem risingNats_iff (l : List Nat) : risingNats l = true ↔ l.Pairwise (· < ·) := by
  induction l with
  | nil => simp [risingNats]
  | cons p l ih =>
    cases l with
    | nil => simp [risingNats]
    | cons q l =>
      simp only [risingNats, Bool.and_eq_true, decide_eq_true_eq, ih, List.pairwise_cons, List.mem_cons, forall_eq_or_imp]
      constructor
      · exact fun ⟨h, h1, h2⟩ => ⟨⟨h, fun x hx => h.trans (h1 x hx)⟩, h1, h2⟩
      · exact fun ⟨⟨h, _⟩, h1, h2⟩ => ⟨h, h1, h2⟩

/-- What a list holds after a write was there before, or is what was written. -/
theorem mem_sparseSet {l : List (Nat × β)} {k : Nat} {v : β} {drop : Bool} {p : Nat × β} (h : p ∈ sparseSet l k v drop) :
    p ∈ l ∨ (p = (k, v) ∧ drop = false) := by
  induction l with
  | nil => cases drop <;> simp_all [sparseSet]
  | cons q l ih =>
    obtain ⟨a, w⟩ := q
    rw [sparseSet] at h
    split at h
    · cases drop
      · exact (List.mem_cons.1 h).elim (fun e => .inr ⟨e, rfl⟩) .inl
      · exact .inl h
    · split at h
      · cases drop
        · exact (List.mem_cons.1 h).elim (fun e => .inr ⟨e, rfl⟩) fun m => .inl (List.mem_cons_of_mem _ m)
        · exact .inl (List.mem_cons_of_mem _ h)
      · exact (List.mem_cons.1 h).elim (fun e => .inl (e ▸ List.mem_cons_self))
          fun m => (ih m).imp (List.mem_cons_of_mem _) id

theorem sparseSet_rising {l : List (Nat × β)} (h : risingKeys l = true) (k : Nat) (v : β) (drop : Bool) :
    risingKeys (sparseSet l k v drop) = true := by
  rw [risingKeys_iff] at h ⊢
  induction l with
  | nil => cases drop <;> simp [sparseSet]
  | cons q l ih =>
    obtain ⟨a, w⟩ := q
    have hq := List.pairwise_cons.1 h
    rw [sparseSet]
    split
    · cases drop
      · refine List.pairwise_cons.2 ⟨fun x hx => ?_, h⟩
        rcases List.mem_cons.1 hx with rfl | hx
        · assumption
        · exact Nat.lt_trans ‹_› (hq.1 x hx)
      · exact h
    · split
      · subst_vars
        cases drop
        · exact List.pairwise_cons.2 ⟨hq.1, hq.2⟩
        · exact hq.2
      · refine List.pairwise_cons.2 ⟨fun x hx => ?_, ih hq.2⟩
        rcases mem_sparseSet hx with hx | ⟨rfl, -⟩
        · exact hq.1 x hx
        · show a < k
          omega

/-- A property of every entry holds after a write if it holds of the entry written. -/
theorem sparseSet_all {P : Nat × β → Bool} {l : List (Nat × β)} (h : l.all P = true) {k : Nat} {v : β} {drop : Bool}
    (hv : drop = false → P (k, v) = true) : (sparseSet l k v drop).all P = true := by
  rw [List.all_eq_true] at h ⊢
  intro p hp
  rcases mem_sparseSet hp with hp | ⟨rfl, hd⟩
  · exact h p hp
  · exact hv hd

/-- What a key reads as that no entry lists. -/
theorem sparseGet_unlisted {d : β} {l : List (Nat × β)} {k : Nat} (h : ∀ p ∈ l, p.1 ≠ k) : sparseGet d l k = d := by
  induction l with
  | nil => rfl
  | cons p l ih =>
    obtain ⟨a, w⟩ := p
    rw [sparseGet, if_neg (h (a, w) List.mem_cons_self), ih fun p hp => h p (List.mem_cons_of_mem _ hp)]

/-- A read after a write: the value written at its key, what was there at any other. -/
theorem sparseGet_sparseSet {d v : β} {l : List (Nat × β)} (h : risingKeys l = true) {k : Nat} {drop : Bool}
    (hd : drop = true → v = d) (k' : Nat) :
    sparseGet d (sparseSet l k v drop) k' = if k' = k then v else sparseGet d l k' := by
  rw [risingKeys_iff] at h
  induction l with
  | nil =>
    cases drop
    · by_cases hk : k' = k
      · simp [sparseSet, sparseGet, hk]
      · simp [sparseSet, sparseGet, hk, Ne.symm hk]
    · simp [sparseSet, sparseGet, hd rfl]
  | cons q l ih =>
    obtain ⟨a, w⟩ := q
    have hq := List.pairwise_cons.1 h
    have later : k ≤ a → ∀ p ∈ l, p.1 ≠ k := fun hk p hp => by
      have := hq.1 p hp
      simp only at this
      omega
    rw [sparseSet]
    split
    · have lt : k < a := ‹_›
      cases drop
      · by_cases hk : k' = k
        · simp [sparseGet, hk]
        · simp [sparseGet, hk, Ne.symm hk]
      · by_cases hk : k' = k
        · subst hk
          rw [if_pos rfl, hd rfl, if_pos rfl]
          exact sparseGet_unlisted fun p hp => by
            rcases List.mem_cons.1 hp with rfl | hp
            · show a ≠ k'
              omega
            · exact later lt.le p hp
        · simp [hk]
    · split
      · subst_vars
        cases drop
        · by_cases hk : k' = a
          · simp [sparseGet, hk]
          · simp [sparseGet, hk, Ne.symm hk]
        · by_cases hk : k' = a
          · subst hk
            rw [if_pos rfl, if_pos rfl, hd rfl]
            exact sparseGet_unlisted (later le_rfl)
          · simp [sparseGet, hk, Ne.symm hk]
      · have ne : k ≠ a := ‹_›
        by_cases ha : a = k'
        · subst ha
          simp [sparseGet, Ne.symm ne]
        · simp [sparseGet, ha, ih hq.2]

theorem mem_insertNat {l : List Nat} {k x : Nat} : x ∈ insertNat l k ↔ x = k ∨ x ∈ l := by
  induction l with
  | nil => simp [insertNat]
  | cons a l ih =>
    rw [insertNat]
    split
    · simp
    · split
      · subst_vars
        simp
      · simp only [List.mem_cons, ih]
        tauto

theorem insertNat_rising {l : List Nat} (h : risingNats l = true) (k : Nat) : risingNats (insertNat l k) = true := by
  rw [risingNats_iff] at h ⊢
  induction l with
  | nil => simp [insertNat]
  | cons a l ih =>
    have ha := List.pairwise_cons.1 h
    rw [insertNat]
    split
    · refine List.pairwise_cons.2 ⟨fun x hx => ?_, h⟩
      rcases List.mem_cons.1 hx with rfl | hx
      · assumption
      · exact Nat.lt_trans ‹_› (ha.1 x hx)
    · split
      · exact h
      · refine List.pairwise_cons.2 ⟨fun x hx => ?_, ih ha.2⟩
        rcases mem_insertNat.1 hx with rfl | hx
        · omega
        · exact ha.1 x hx

theorem filter_risingNats {l : List Nat} (h : risingNats l = true) (P : Nat → Bool) : risingNats (l.filter P) = true := by
  rw [risingNats_iff] at h ⊢
  exact h.sublist List.filter_sublist

theorem filter_risingKeys {l : List (Nat × β)} (h : risingKeys l = true) (P : Nat × β → Bool) :
    risingKeys (l.filter P) = true := by
  rw [risingKeys_iff] at h ⊢
  exact h.sublist List.filter_sublist

theorem filter_all {l : List (Nat × β)} {Q : Nat × β → Bool} (h : l.all Q = true) (P : Nat × β → Bool) :
    (l.filter P).all Q = true := by
  rw [List.all_eq_true] at h ⊢
  exact fun x hx => h x (List.mem_of_mem_filter hx)

/-- The middle of a `sparseSpan`: rising, in its range, and without entries that an unlisted key reads as. -/
theorem spanMiddle (unlisted : β → Bool) (lo hi : Nat) (new l : List (Nat × β)) (h : risingKeys l = true)
    (hl : ∀ p ∈ l, lo ≤ p.1 ∧ p.1 < hi ∧ unlisted p.2 = false) :
    risingKeys (new.foldl (fun acc p => if lo ≤ p.1 ∧ p.1 < hi then sparseSet acc p.1 p.2 (unlisted p.2) else acc) l) = true ∧
    ∀ p ∈ new.foldl (fun acc p => if lo ≤ p.1 ∧ p.1 < hi then sparseSet acc p.1 p.2 (unlisted p.2) else acc) l,
      lo ≤ p.1 ∧ p.1 < hi ∧ unlisted p.2 = false := by
  induction new generalizing l with
  | nil => exact ⟨h, hl⟩
  | cons q new ih =>
    rw [List.foldl_cons]
    by_cases hq : lo ≤ q.1 ∧ q.1 < hi
    · rw [if_pos hq]
      refine ih _ (sparseSet_rising h ..) fun p hp => ?_
      rcases mem_sparseSet hp with hp | ⟨rfl, hd⟩
      · exact hl p hp
      · exact ⟨hq.1, hq.2, hd⟩
    · rw [if_neg hq]
      exact ih l h hl

theorem sparseSpan_rising {l : List (Nat × β)} (h : risingKeys l = true) (unlisted : β → Bool) {lo hi : Nat} (hb : lo ≤ hi)
    (new : List (Nat × β)) : risingKeys (sparseSpan unlisted l lo hi new) = true := by
  have m := spanMiddle unlisted lo hi new [] rfl (by simp)
  rw [risingKeys_iff] at h m ⊢
  rw [sparseSpan, List.pairwise_append, List.pairwise_append]
  refine ⟨⟨h.sublist List.filter_sublist, m.1, fun a ha b hb' => ?_⟩, h.sublist List.filter_sublist, fun a ha b hb' => ?_⟩
  · have := (m.2 b hb').1
    have ha := (List.mem_filter.1 ha).2
    simp only [decide_eq_true_eq] at ha
    omega
  · have hb'' := (List.mem_filter.1 hb').2
    simp only [decide_eq_true_eq] at hb''
    rcases List.mem_append.1 ha with ha | ha
    · have ha := (List.mem_filter.1 ha).2
      simp only [decide_eq_true_eq] at ha
      omega
    · have := (m.2 a ha).2.1
      omega

theorem sparseSpan_listed {l : List (Nat × β)} (unlisted : β → Bool) (h : l.all (fun p => !unlisted p.2) = true) (lo hi : Nat)
    (new : List (Nat × β)) : (sparseSpan unlisted l lo hi new).all (fun p => !unlisted p.2) = true := by
  have m := spanMiddle unlisted lo hi new [] rfl (by simp)
  rw [sparseSpan, List.all_append, List.all_append, filter_all h, filter_all h]
  simp only [Bool.true_and, Bool.and_true, List.all_eq_true]
  intro p hp
  simp [(m.2 p hp).2.2]

@[simp] theorem listUpd_length (l : List β) (i : Nat) (f : β → β) : (listUpd l i f).length = l.length := by
  induction l generalizing i with
  | nil => rfl
  | cons x l ih => cases i <;> simp [listUpd, ih]

theorem listUpd_get? (l : List β) (i j : Nat) (f : β → β) :
    (listUpd l i f)[j]? = if i = j then l[j]?.map f else l[j]? := by
  induction l generalizing i j with
  | nil => simp [listUpd]
  | cons x l ih =>
    cases i <;> cases j <;> simp [listUpd, ih]

theorem listUpd_getD (l : List β) (i j : Nat) (f : β → β) (d : β) (h : i < l.length) :
    (listUpd l i f).getD j d = if i = j then f (l.getD j d) else l.getD j d := by
  rw [List.getD_eq_getElem?_getD, List.getD_eq_getElem?_getD, listUpd_get?]
  split
  · subst_vars
    rw [List.getElem?_eq_getElem h]
    rfl
  · rfl

end Sys2Proof.Machine
end

