-- ==== Sys2Proof/Laws/Memory.lean ====
section
/-! SUPPORT. The two memories that the module addresses, DRAM (14) and Polder's SRAM (05): every
operation keeps their canonical form. -/

namespace Sys2Proof.Machine
open Sys2Proof

/-! ## DRAM contents -/

theorem Dram.wf_iff (d : Dram) : d.wf = true ↔
    risingKeys d.blocks = true ∧ d.blocks.all (fun p => decide (p.2 ≠ d.blank p.1)) = true ∧ risingNats d.valid = true ∧
    risingNats d.filled = true ∧ risingKeys d.mapCheck = true ∧ d.mapCheck.all (fun p => decide (p.2 ≠ 0)) = true := by
  simp only [Dram.wf, Bool.and_eq_true, and_assoc]

theorem Dram.put_wf {d : Dram} (h : d.wf = true) (block : Nat) (syms : List Word) : (d.put block syms).wf = true := by
  rw [Dram.wf_iff] at h ⊢
  obtain ⟨h1, h2, h3⟩ := h
  refine ⟨sparseSet_rising h1 .., ?_, h3⟩
  exact sparseSet_all h2 fun hd => by
    have : ¬ syms = d.blank block := of_decide_eq_false hd
    exact decide_eq_true this

theorem Dram.fill_wf {d : Dram} (h : d.wf = true) (page : Nat) : (d.fill page).wf = true := by
  rw [Dram.wf_iff] at h ⊢
  obtain ⟨h1, h2, h3, h4, h5⟩ := h
  refine ⟨filter_risingKeys h1 _, ?_, insertNat_rising h3 _, insertNat_rising h4 _, h5⟩
  rw [List.all_eq_true] at h2 ⊢
  intro p hp
  obtain ⟨hp, hk⟩ := List.mem_filter.1 hp
  have := h2 p hp
  have hne : p.1 / 64 ≠ page := by simpa using hk
  have hb : (d.fill page).blank p.1 = d.blank p.1 := by
    have : (insertNat d.filled page).contains (p.1 / 64) = d.filled.contains (p.1 / 64) := by
      rw [Bool.eq_iff_iff, List.contains_iff_mem, List.contains_iff_mem, mem_insertNat]
      simp [hne]
    simp only [Dram.blank, Dram.fill, this]
  rw [hb]
  exact this

/-- The valid map's pages and check bits may change: nothing that a block reads as depends on them. -/
theorem Dram.setMap_wf {d : Dram} (h : d.wf = true) {valid : List Nat} {check : List (Nat × Nat)} (hv : risingNats valid = true)
    (hc : risingKeys check = true) (hz : check.all (fun p => decide (p.2 ≠ 0)) = true) :
    ({ d with valid := valid, mapCheck := check } : Dram).wf = true := by
  rw [Dram.wf_iff] at h ⊢
  exact ⟨h.1, h.2.1, hv, h.2.2.2.1, hc, hz⟩

theorem Dram.setValid_wf {d : Dram} (h : d.wf = true) {valid : List Nat} (hv : risingNats valid = true) :
    ({ d with valid := valid } : Dram).wf = true :=
  have w := d.wf_iff.1 h
  setMap_wf h hv w.2.2.2.2.1 w.2.2.2.2.2

theorem Dram.setCheck_wf {d : Dram} (h : d.wf = true) (word v : Nat) (drop : Bool) (hd : drop = false → v ≠ 0) :
    ({ d with mapCheck := sparseSet d.mapCheck word v drop } : Dram).wf = true :=
  have w := d.wf_iff.1 h
  setMap_wf h w.2.2.1 (sparseSet_rising w.2.2.2.2.1 ..) (sparseSet_all w.2.2.2.2.2 fun e => decide_eq_true (hd e))

theorem Dram.toggle_wf {d : Dram} (h : d.wf = true) (pages : List Nat) :
    (pages.foldl (fun d p =>
      if d.valid.contains p then { d with valid := d.valid.filter (· != p) }
      else { d with valid := insertNat d.valid p }) d).wf = true := by
  induction pages generalizing d with
  | nil => exact h
  | cons p pages ih =>
    rw [List.foldl_cons]
    have w := d.wf_iff.1 h
    split
    · exact ih (setValid_wf h (filter_risingNats w.2.2.1 _))
    · exact ih (setValid_wf h (insertNat_rising w.2.2.1 _))

theorem Dram.setAll_wf {d : Dram} (h : d.wf = true) (pages : List Nat) :
    (pages.foldl (fun d p => if d.valid.contains p then d else { d with valid := insertNat d.valid p }) d).wf = true := by
  induction pages generalizing d with
  | nil => exact h
  | cons p pages ih =>
    rw [List.foldl_cons]
    split
    · exact ih h
    · exact ih (setValid_wf h (insertNat_rising (d.wf_iff.1 h).2.2.1 _))

theorem Dram.toggle_mapCheck (d : Dram) (pages : List Nat) :
    (pages.foldl (fun d p =>
      if d.valid.contains p then { d with valid := d.valid.filter (· != p) }
      else { d with valid := insertNat d.valid p }) d).mapCheck = d.mapCheck := by
  induction pages generalizing d with
  | nil => rfl
  | cons p pages ih =>
    rw [List.foldl_cons, ih]
    split <;> rfl

/-! ## DRAM operations -/

theorem State.mapRead_dram_wf {s : State} (h : s.dram.wf = true) (page upset : Nat) : (s.mapRead page upset).dram.wf = true := by
  have toggled := fun l => Dram.toggle_wf h l
  have cleared : ∀ {d : Dram}, d.wf = true → ∀ w, ({ d with mapCheck := sparseSet d.mapCheck w 0 true } : Dram).wf = true :=
    fun hd w => Dram.setCheck_wf hd w 0 true nofun
  have fixed := fun l w => (Dram.toggle_mapCheck s.dram l) ▸ cleared (toggled l) w
  unfold State.mapRead
  dsimp only
  split
  · split
    · exact h
    · exact toggled _
  · exact fixed _ _
  · exact fixed _ _
  · simp only [State.raise_frame]
    exact cleared (Dram.setAll_wf h _) _

theorem State.storeBlock_dram_wf {s : State} (h : s.dram.wf = true) (block : Nat) (syms err : List Word) :
    (s.storeBlock block syms err).dram.wf = true := by
  unfold State.storeBlock
  dsimp only
  refine Dram.put_wf ?_ _ _
  simp only [State.inject_frame]
  split
  · exact h
  · refine Dram.setCheck_wf (Dram.fill_wf (by simpa using h) _) _ _ _ fun e => ?_
    simpa using e

theorem State.readRaw_dram_wf {s : State} (h : s.dram.wf = true) (requester block : Nat) (err : List Word) :
    (s.readRaw requester block err).2.dram.wf = true := by
  unfold State.readRaw
  split
  · exact h
  · dsimp only
    split <;> try exact h
    simp only [State.countCe_frame]
    exact storeBlock_dram_wf h ..

theorem State.readBlock_dram_wf {s : State} (h : s.dram.wf = true) (requester block : Nat) (err : List Word) (upset : Nat) :
    (s.readBlock requester block err upset).2.dram.wf = true :=
  readRaw_dram_wf (mapRead_dram_wf h ..) ..

theorem State.readRange_dram_wf {s : State} (h : s.dram.wf = true) (requester fuel addr len : Nat) :
    (State.readRange requester fuel addr len s).2.dram.wf = true := by
  induction fuel generalizing addr len s with
  | zero => exact h
  | succ n ih =>
    unfold State.readRange
    dsimp only
    split
    · exact h
    · have h1 := readBlock_dram_wf h requester (addr / 64) [] 0
      split
      next e => rw [e] at h1; exact h1
      next e =>
        rw [e] at h1
        have h2 := ih h1 (addr + min len (64 - addr % 64)) (len - min len (64 - addr % 64))
        split
        next e => rw [e] at h2; exact h2
        next e => rw [e] at h2; exact h2

theorem State.readBytes_dram_wf {s : State} (h : s.dram.wf = true) (requester addr len : Nat) :
    (s.readBytes requester addr len).2.dram.wf = true := readRange_dram_wf h ..


theorem State.flushEntry_dram_wf {s : State} (h : s.dram.wf = true) (m : Merge) (err : List Word) :
    (s.flushEntry m err).dram.wf = true := by
  unfold State.flushEntry
  have h0 : ((s.dropEntry m.block).enqueue m.block 1 m.cls true).dram.wf = true := by simpa using h
  dsimp only
  split
  · exact storeBlock_dram_wf h0 ..
  · have h1 := readRaw_dram_wf h0 m.who m.block err
    split
    next e => rw [e] at h1; exact storeBlock_dram_wf h1 ..
    next e => rw [e] at h1; exact storeBlock_dram_wf h1 ..

theorem State.mergeEntry_dram_wf {s : State} (h : s.dram.wf = true) (who cls block : Nat) : (s.mergeEntry who cls block).dram.wf = true := by
  have room : s.mergeRoom.dram.wf = true := by
    unfold State.mergeRoom
    (repeat' split)
    · exact h
    · exact flushEntry_dram_wf h ..
    · exact h
  unfold State.mergeEntry
  split
  · exact h
  · exact room

theorem State.mergeWrite_dram_wf {s : State} (h : s.dram.wf = true) (who cls block off : Nat) (data : List Byte) :
    (s.mergeWrite who cls block off data).dram.wf = true := by
  unfold State.mergeWrite
  have h1 := mergeEntry_dram_wf h who cls block
  dsimp only
  (repeat' split)
  · exact flushEntry_dram_wf (by simpa using h1) ..
  · simpa using h1
  · simpa using h1

theorem State.modifyBlock_dram_wf {s : State} (h : s.dram.wf = true) (who block off : Nat) (data : List Byte) (err : List Word) :
    (s.modifyBlock who block off data err).dram.wf = true := by
  unfold State.modifyBlock
  have h1 := readRaw_dram_wf (s := s.dropEntry block) (by simpa using h) who block []
  dsimp only
  split
  next e => rw [e] at h1; exact storeBlock_dram_wf h1 ..
  next e => rw [e] at h1; exact storeBlock_dram_wf h1 ..

theorem State.writePart_dram_wf {s : State} (h : s.dram.wf = true) (who cls block off : Nat) (data : List Byte) (err : List Word) :
    (s.writePart who cls block off data err).dram.wf = true := by
  unfold State.writePart
  (repeat' split)
  · exact storeBlock_dram_wf (by simpa using h) ..
  · exact modifyBlock_dram_wf h ..
  · exact mergeWrite_dram_wf h ..

theorem State.writeRange_dram_wf {s : State} (h : s.dram.wf = true) (who cls : Nat) (err : List Word) (fuel addr : Nat)
    (data : List Byte) : (State.writeRange who cls err fuel addr data s).dram.wf = true := by
  induction fuel generalizing addr data s with
  | zero => exact h
  | succ n ih =>
    unfold State.writeRange
    split
    · exact h
    · exact ih (writePart_dram_wf h ..) _ _

theorem State.writeBytes_dram_wf {s : State} (h : s.dram.wf = true) (who cls addr : Nat) (data : List Byte) :
    (s.writeBytes who cls addr data).dram.wf = true := writeRange_dram_wf h ..

theorem State.initDram_dram_wf {s s' : State} (fail : Option (Nat × Nat)) (e : s.initDram fail = some s') :
    s'.dram.wf = true := by
  unfold State.initDram at e
  (repeat' split at e) <;> simp at e
  subst e
  rfl

/-- What every step of a fold keeps, the fold keeps. -/
theorem foldl_preserves {β : Type} {P : State → Prop} {f : State → β → State} (l : List β) {s : State} (h : P s)
    (step : ∀ s x, P s → P (f s x)) : P (l.foldl f s) := by
  induction l generalizing s with
  | nil => exact h
  | cons x l ih => exact ih (step s x h)

/-! ## Sluice, captures, loads and the firmware's code -/

theorem State.scramble_dram_wf {s : State} (h : s.dram.wf = true) (n : Nat) (d : Desc) : (s.scramble n d).dram.wf = true := by
  unfold State.scramble
  split
  · exact writeBytes_dram_wf (s := s.nextFree.2) (by simpa using h) ..
  · exact h

theorem State.failDesc_dram_wf {s : State} (h : s.dram.wf = true) (n : Nat) (d : Desc) (status : Nat) (f : FaultName) :
    (s.failDesc n d status f).dram.wf = true := by
  have := scramble_dram_wf (s := s.raise f (ringAddr n d.addr)) (by simpa using h) n d
  simpa [State.failDesc] using this

theorem State.startDesc_dram_wf {s : State} (h : s.dram.wf = true) (n : Nat) : (s.startDesc n).dram.wf = true := by
  unfold State.startDesc
  dsimp only
  (repeat' split)
  · exact h
  · exact h
  · exact failDesc_dram_wf h ..
  · simpa [State.sendAll] using h
  · simpa [State.sendAll] using h

theorem State.takeFree_dram_wf {s : State} (h : s.dram.wf = true) (n : Nat) (d : Desc) : (s.takeFree n d).dram.wf = true := by
  unfold State.takeFree
  split
  · exact failDesc_dram_wf h ..
  · simpa using h

theorem State.moveData_dram_wf {s s' : State} (h : s.dram.wf = true) {n : Nat} {d : Desc} {data : List Byte}
    (e : s.moveData n d data = some s') : s'.dram.wf = true := by
  unfold State.moveData at e
  split at e
  · cases e
    exact writeBytes_dram_wf h ..
  · have h1 := readBytes_dram_wf h 2 d.src d.len
    split at e
    next e1 =>
      rw [e1] at h1
      cases e
      simpa using h1
    · cases e

theorem State.haltRing_dram_wf {s : State} (h : s.dram.wf = true) (n : Nat) (own : Bool) : (s.haltRing n own).dram.wf = true := by
  unfold State.haltRing
  dsimp only
  (repeat' split) <;> first
    | simpa using h
    | (simp only [State.record_frame, State.updRing'_frame]; exact scramble_dram_wf (by simpa using h) ..)

theorem State.haltAll_dram_wf {s : State} (h : s.dram.wf = true) (f : FaultName) (cause addr chan req : Nat) :
    (s.haltAll f cause addr chan req).dram.wf = true := by
  simp only [State.haltAll, State.bandsOn_frame, State.haltCopies_frame]
  refine foldl_preserves (P := fun s => s.dram.wf = true) _ ?_ fun s c h => by simpa using h
  exact foldl_preserves (P := fun s => s.dram.wf = true) _ (by simpa using h) fun s n h => haltRing_dram_wf h ..

theorem State.captureContent_dram_wf {s : State} (h : s.dram.wf = true) (c : Capture) (sweep : List Byte) :
    (s.captureContent c sweep).2.dram.wf = true := by
  unfold State.captureContent
  split
  · exact h
  · exact h
  · simpa using h
  · exact readBytes_dram_wf h ..
  · exact h

theorem State.captureEnd_dram_wf {s : State} (h : s.dram.wf = true) (r : Request) (c : Capture) (sweep : List Byte) :
    (s.captureEnd r c sweep).dram.wf = true := by
  unfold State.captureEnd
  have h1 := captureContent_dram_wf h c sweep
  split
  · simpa using h
  · split
    · split
      · simpa using h
      · exact h
    · split
      · simpa using h
      · split
        next e => rw [e] at h1; simpa using h1
        next e => rw [e] at h1; simpa using h1

theorem State.fwDone_dram_wf {s : State} (h : s.dram.wf = true) (r : Request) (slot len addr : Nat) :
    (s.fwDone r slot len addr).dram.wf = true := by
  unfold State.fwDone
  have h1 := readBytes_dram_wf h 3 addr len
  split
  next e => rw [e] at h1; simpa using h1
  next e =>
    rw [e] at h1
    dsimp only
    split <;> simpa using h1

theorem State.fetchTrap_dram_wf {s : State} (h : s.dram.wf = true) (block : Nat) : (s.fetchTrap block).dram.wf = true := by
  have rewritten : ∀ region code, (s.rewriteCode region code).dram.wf = true := fun region code => by
    have := writeBytes_dram_wf h 0 2 (region * 65536) code
    simpa [State.rewriteCode, Dram.wf, Dram.blank] using this
  rw [State.fetchTrap]
  split
  · simpa using h
  · exact rewritten _ _

theorem State.ringUe_dram_wf {s : State} (h : s.dram.wf = true) (n : Nat) : (s.ringUe n).dram.wf = true := by
  unfold State.ringUe
  (repeat' split) <;> first | exact h | exact failDesc_dram_wf h ..

theorem State.readFailed_dram_wf {s : State} (h : s.dram.wf = true) (requester who1 who2 block : Nat) :
    (s.readFailed requester who1 who2 block).dram.wf = true := by
  unfold State.readFailed
  split
  · exact fetchTrap_dram_wf h _
  · simpa using h
  · exact ringUe_dram_wf h _
  all_goals simpa using h

/-! ## Reset: both memories at their reset contents -/

theorem State.fresh_dram (s : State) : s.fresh.dram = {} := rfl
theorem State.fresh_sram (s : State) : s.fresh.pol.sram = [] := rfl
theorem State.holdReset_dram (s : State) : s.holdReset.dram = {} := rfl
theorem State.holdReset_sram (s : State) : s.holdReset.pol.sram = [] := rfl
theorem State.enterBoot_dram (c : ResetCause) (b : Bool) (k : Nat) (s : State) : (s.enterBoot c b k).dram = {} := rfl
theorem State.enterBoot_sram (c : ResetCause) (b : Bool) (k : Nat) (s : State) : (s.enterBoot c b k).pol.sram = [] := rfl
theorem State.enterSleep_dram (s : State) : s.enterSleep.dram = {} := rfl
theorem State.enterSleep_sram (s : State) : s.enterSleep.pol.sram = [] := rfl

theorem State.leaveReset_dram (c : ResetCause) (w b : Bool) (k : Nat) (s : State) : (s.leaveReset c w b k).dram = {} := by
  cases w <;> rfl

theorem State.leaveReset_sram (c : ResetCause) (w b : Bool) (k : Nat) (s : State) : (s.leaveReset c w b k).pol.sram = [] := by
  cases w <;> rfl

theorem State.loadShed_dram_wf {s : State} (h : s.dram.wf = true) (kind : Nat) : (s.loadShed kind).dram.wf = true := by
  unfold State.loadShed
  dsimp only
  split
  · simpa using h
  · simp only [State.updEng_frame, State.updJr_frame]
    split
    · simpa using h
    · rw [State.holdReset_dram]
      rfl

theorem State.loadShed_sram_wf {s : State} (h : sramWf s.pol.sram = true) (kind : Nat) :
    sramWf (s.loadShed kind).pol.sram = true := by
  unfold State.loadShed
  dsimp only
  split
  · simpa using h
  · simp only [State.updEng_frame, State.updJr_frame]
    split
    · simpa using h
    · rw [State.holdReset_sram]
      rfl

/-! ## Polder's SRAM -/

theorem sramWf_set {l : List (Nat × Nat)} (h : sramWf l = true) (a w : Nat) : sramWf (sparseSet l a w (w == 0)) = true := by
  rw [sramWf, Bool.and_eq_true] at h ⊢
  exact ⟨sparseSet_rising h.1 .., sparseSet_all h.2 fun e => by simpa using e⟩

theorem sramWf_clear {l : List (Nat × Nat)} (h : sramWf l = true) (a : Nat) : sramWf (sparseSet l a 0 true) = true := sramWf_set h a 0

theorem Polder.writeRow_wf {p : Polder} (h : sramWf p.sram = true) (ring tx : Nat) (words : List Nat) :
    sramWf (p.writeRow ring tx words).sram = true := by
  unfold Polder.writeRow
  dsimp only
  have span : ∀ lo hi new, lo ≤ hi → sramWf (sparseSpan (· == 0) p.sram lo hi new) = true := fun lo hi new hb => by
    rw [sramWf, Bool.and_eq_true] at h ⊢
    exact ⟨sparseSpan_rising h.1 _ hb _, sparseSpan_listed (· == 0) h.2 _ _ _⟩
  (repeat' split) <;>
    first
    | exact sramWf_clear (sramWf_clear (span _ _ _ (by omega)) _) _
    | exact sramWf_clear (sramWf_set (span _ _ _ (by omega)) _ _) _
    | exact sramWf_set (sramWf_clear (span _ _ _ (by omega)) _) _ _
    | exact sramWf_set (sramWf_set (span _ _ _ (by omega)) _ _) _ _

theorem State.storeRow_sram_wf {s : State} (h : sramWf s.pol.sram = true) (stripe band tile : Nat) (doses : List Nat) (r : Nat) :
    sramWf (State.storeRow stripe band tile doses s r).pol.sram = true := by
  unfold State.storeRow
  dsimp only
  split
  · exact Polder.writeRow_wf (by simpa using h) ..
  · simpa using h

theorem State.storeTile_sram_wf {s : State} (h : sramWf s.pol.sram = true) (stripe band tile : Nat) (doses : List Nat) :
    sramWf (s.storeTile stripe band tile doses).pol.sram = true := by
  have row : ∀ (s : State) (r : Nat), sramWf s.pol.sram = true → sramWf (State.storeRow stripe band tile doses s r).pol.sram = true :=
    fun s r h => State.storeRow_sram_wf h ..
  rw [State.storeTile]
  exact foldl_preserves _ h row

theorem State.tileWritten_sram_wf {s : State} (h : sramWf s.pol.sram = true) (unit : Nat) (upset : Bool) :
    sramWf (s.tileWritten unit upset).pol.sram = true := by
  have rendered : ∀ (b : Band) (w : Work) (r : TileRender) (s : State), sramWf s.pol.sram = true →
      sramWf (s.tileDone b w r upset).pol.sram = true := fun b w r s h => by
    have stored := fun (s : State) (h : sramWf s.pol.sram = true) => State.storeTile_sram_wf h b.stripe b.band w.tile r.out.doses
    rw [State.tileDone]
    split
    · simpa using h
    · simp only [State.noteTile_frame]
      exact stored _ (by simpa using h)
  unfold State.tileWritten
  dsimp only
  (repeat' split) <;> first
    | simpa using h
    | exact rendered _ _ _ _ (by simpa using h)

end Sys2Proof.Machine
end

