-- ==== Sys2Proof/Laws/State.lean ====
section
/-! SUPPORT. What each update of the state writes, field by field: with the frame lemmas of the other files
under Laws/, no proof need unfold a record update. -/

namespace Sys2Proof.Machine
open Sys2Proof

/-! ## Time -/

@[simp] theorem State.atTime_now (t : Nat) (s : State) : (s.atTime t).now = max s.now t := rfl
@[simp] theorem State.atTime_tu (t : Nat) (s : State) :
    (s.atTime t).tu = s.tu.ticks (max s.now t / tickSteps - s.now / tickSteps) := rfl
@[simp] theorem State.fresh_now (s : State) : s.fresh.now = s.now := rfl
@[simp] theorem State.enterBoot_now (c : ResetCause) (b : Bool) (k : Nat) (s : State) : (s.enterBoot c b k).now = 0 := rfl

/-! ## The Gusset transmitter -/

/-- With nothing queued the transmitter does nothing. -/
theorem State.transmit_idle {s : State} (h : s.twin.txQ = []) : s.transmit = s := by
  have ht : ({ s.twin with txQ := [] } : Twin) = s.twin := by rw [← h]
  have e : s.transmit = { s with out := s.out ++ [], twin := { s.twin with txQ := [] } } := by
    rw [State.transmit, h]
    rfl
  rw [e, ht, List.append_nil]

/-- What waits to be sent and the lanes apart, nothing of the twin's state changes. -/
theorem State.transmit_twin (s : State) :
    s.transmit.twin = { s.twin with txQ := [], txMseq := s.transmit.twin.txMseq, tx := s.transmit.twin.tx } := rfl
theorem State.transmit_fc (s : State) : s.transmit.fc = { s.fc with inject := s.transmit.fc.inject } := rfl
@[simp] theorem State.atTime_out (t : Nat) (s : State) : (s.atTime t).out = s.transmit.out := rfl
@[simp] theorem State.atTime_twin (t : Nat) (s : State) : (s.atTime t).twin = s.transmit.twin := rfl
@[simp] theorem State.atTime_fc (t : Nat) (s : State) : (s.atTime t).fc = s.transmit.fc := rfl
@[simp] theorem State.transmit_txQ (s : State) : s.transmit.twin.txQ = [] := rfl
@[simp] theorem State.transmit_pair (s : State) : s.transmit.twin.pair = s.twin.pair := rfl
@[simp] theorem State.transmit_active (s : State) : s.transmit.twin.active = s.twin.active := rfl
@[simp] theorem State.transmit_cfg (s : State) : s.transmit.twin.cfg = s.twin.cfg := rfl
@[simp] theorem State.transmit_srcs (s : State) : s.transmit.fc.srcs = s.fc.srcs := rfl
@[simp] theorem State.transmit_overrides (s : State) : s.transmit.fc.overrides = s.fc.overrides := rfl
@[simp] theorem State.atTime_standby (t : Nat) (s : State) : (s.atTime t).standby = s.standby := rfl
@[simp] theorem State.atTime_paired (t : Nat) (s : State) : (s.atTime t).paired = s.paired := rfl

/-- An instant later, with nothing queued for Gusset: only the clocks have moved. -/
theorem State.atTime_idle {s : State} (h : s.twin.txQ = []) (t : Nat) :
    s.atTime t = { s with now := max s.now t, tu := s.tu.ticks (max s.now t / tickSteps - s.now / tickSteps) } := by
  rw [State.atTime, transmit_idle h]

/-! ## Events, faults, messages -/

/-- An event takes the next sequence after those of the waiting faults ahead of it, and its stamp. -/
@[simp] theorem State.event_arb (e : EventName) (s : State) :
    (s.event e).arb = { s.arb.number e.order s.now with
      seq := s.seqFor e.order + 1
      events := (s.arb.number e.order s.now).events ++ [{ name := e, stamp := { s.stamp with sequence := s.seqFor e.order } }] } := rfl
@[simp] theorem Arb.number_events (order now : Nat) (a : Arb) : (a.number order now).events = a.events := rfl
@[simp] theorem Arb.number_causeQ (order now : Nat) (a : Arb) : (a.number order now).causeQ = a.causeQ := rfl

/-- With no fault waiting, none takes a number. -/
theorem Arb.number_idle {a : Arb} (h : a.faultQ = []) (order now : Nat) : a.number order now = a := by
  cases a
  simp only at h
  simp [Arb.number, h]
@[simp] theorem State.raise_arb (f : FaultName) (addr : Nat) (s : State) :
    (s.raise f addr).arb =
      { s.arb with faultQ := s.arb.faultQ ++ [{ at' := s.now, name := f, addr := addr % 2 ^ 48 }] } := rfl
@[simp] theorem State.raiseUnless_true (f : FaultName) (addr : Nat) (s : State) : s.raiseUnless true f addr = s := rfl
@[simp] theorem State.raiseUnless_false (f : FaultName) (addr : Nat) (s : State) : s.raiseUnless false f addr = s.raise f addr := rfl
@[simp] theorem State.cause_arb (c : Cause) (s : State) : (s.cause c).arb = { s.arb with causeQ := s.arb.causeQ ++ [(s.now, c)] } := rfl
@[simp] theorem State.send_out (o : Out) (s : State) : (s.send o).out = s.out ++ [o] := rfl

/-! ## One record of the state -/

@[simp] theorem State.updEng_eng (f : Eng → Eng) (s : State) : (s.updEng f).eng = f s.eng := rfl
@[simp] theorem State.updSlack_slack (f : Slack → Slack) (s : State) : (s.updSlack f).slack = f s.slack := rfl
@[simp] theorem State.updFc_fc (f : Fc → Fc) (s : State) : (s.updFc f).fc = f s.fc := rfl
@[simp] theorem State.updDike_dike (f : Dike → Dike) (s : State) : (s.updDike f).dike = f s.dike := rfl
@[simp] theorem State.updTu_tu (f : TimeUnit → TimeUnit) (s : State) : (s.updTu f).tu = f s.tu := rfl
@[simp] theorem State.updTwin_twin (f : Twin → Twin) (s : State) : (s.updTwin f).twin = f s.twin := rfl
@[simp] theorem State.updRing_ring (f : RingNet → RingNet) (s : State) : (s.updRing f).ring = f s.ring := rfl
@[simp] theorem State.updMb_mb (n : Nat) (f : Mailbox → Mailbox) (s : State) : (s.updMb n f).mb = listUpd s.mb n f := rfl
@[simp] theorem State.updCp_cp (f : Cp → Cp) (s : State) : (s.updCp f).cp = f s.cp := rfl
@[simp] theorem State.updSl_sl (f : Sluice → Sluice) (s : State) : (s.updSl f).sl = f s.sl := rfl
@[simp] theorem State.updCal_cal (f : Cal → Cal) (s : State) : (s.updCal f).cal = f s.cal := rfl
@[simp] theorem State.updJr_jr (f : Journal → Journal) (s : State) : (s.updJr f).jr = f s.jr := rfl
@[simp] theorem State.updFeed_feed (f : Feed → Feed) (s : State) : (s.updFeed f).feed = f s.feed := rfl
@[simp] theorem State.updBr_br (f : Brace → Brace) (s : State) : (s.updBr f).br = f s.br := rfl
@[simp] theorem State.updHem_hem (f : Hem → Hem) (s : State) : (s.updHem f).hem = f s.hem := rfl
@[simp] theorem State.updCc_cc (f : Cache → Cache) (s : State) : (s.updCc f).cc = f s.cc := rfl
@[simp] theorem State.updCf_cf (f : Cuff → Cuff) (s : State) : (s.updCf f).cf = f s.cf := rfl

/-! ## A part of a record -/

@[simp] theorem State.updSub_dram (k : Nat) (f : SubCh → SubCh) (s : State) :
    (s.updSub k f).dram = { s.dram with sub := listUpd s.dram.sub k f } := rfl
@[simp] theorem State.updRing'_sl (n : Nat) (f : Ring → Ring) (s : State) :
    (s.updRing' n f).sl = { s.sl with rings := listUpd s.sl.rings n f } := rfl
@[simp] theorem State.updFcSrc_fc (n : Nat) (f : FcSrc → FcSrc) (s : State) :
    (s.updFcSrc n f).fc = { s.fc with srcs := listUpd s.fc.srcs (n - 1) f } := rfl
@[simp] theorem State.updPls_tu (n : Nat) (f : Pulse → Pulse) (s : State) :
    (s.updPls n f).tu = { s.tu with pls := listUpd s.tu.pls n f } := rfl
@[simp] theorem State.updAxis_br (a : Nat) (f : Axis → Axis) (s : State) :
    (s.updAxis a f).br = { s.br with axes := listUpd s.br.axes a f } := rfl
@[simp] theorem State.updDikeAxis_dike (a : Nat) (f : DikeAxis → DikeAxis) (s : State) :
    (s.updDikeAxis a f).dike = { s.dike with axes := listUpd s.dike.axes a f } := rfl
@[simp] theorem State.updSrc_feed (n : Nat) (f : Source → Source) (s : State) :
    (s.updSrc n f).feed = { s.feed with srcs := listUpd s.feed.srcs n f } := rfl
@[simp] theorem State.updProbe_feed (n : Nat) (f : Probe → Probe) (s : State) :
    (s.updProbe n f).feed = { s.feed with probes := listUpd s.feed.probes n f } := rfl
@[simp] theorem State.updCmp_feed (n : Nat) (f : Compare → Compare) (s : State) :
    (s.updCmp n f).feed = { s.feed with cmps := listUpd s.feed.cmps n f } := rfl
@[simp] theorem State.updSw_feed (n input : Nat) (f : Switch → Switch) (s : State) :
    (s.updSw n input f).feed = { s.feed with sw := listUpd s.feed.sw (3 * n + input) f } := rfl
@[simp] theorem State.updRet_cf (f : CuffRet → CuffRet) (s : State) : (s.updRet f).cf = { s.cf with ret := f s.cf.ret } := rfl
@[simp] theorem State.hemStats_hem (f : HemStats → HemStats) (s : State) : (s.hemStats f).hem = { s.hem with stats := f s.hem.stats } := rfl
@[simp] theorem State.cuffStats_cf (f : CuffStats → CuffStats) (s : State) : (s.cuffStats f).cf = { s.cf with stats := f s.cf.stats } := rfl
@[simp] theorem State.shStats_sh (f : ShStats → ShStats) (s : State) : (s.shStats f).sh = { s.sh with stats := f s.sh.stats } := rfl
@[simp] theorem State.loomStats_loom (f : LoomStats → LoomStats) (s : State) :
    (s.loomStats f).loom = { s.loom with stats := f s.loom.stats } := rfl
@[simp] theorem State.polStats_pol (f : PolStats → PolStats) (s : State) : (s.polStats f).pol = { s.pol with stats := f s.pol.stats } := rfl
@[simp] theorem State.ccStats_cc (f : CacheStats → CacheStats) (s : State) : (s.ccStats f).cc = { s.cc with stats := f s.cc.stats } := rfl
@[simp] theorem State.setLane_cf (k : Nat) (st : LaneState) (s : State) :
    (s.setLane k st).cf = { s.cf with lanes := listUpd s.cf.lanes k fun l => { l with state := st, since := s.now } } := rfl
@[simp] theorem State.sendGusset_twin (m : GMsg) (s : State) : (s.sendGusset m).twin = { s.twin with txQ := s.twin.txQ ++ [m] } := rfl
@[simp] theorem State.sendFrame_out (phys : Nat) (bytes : List Byte) (s : State) :
    (s.sendFrame phys bytes).out = s.out ++ [.frame phys ((s.lane phys).nextSlot s.now) bytes] := rfl
@[simp] theorem State.sendFrame_cf (phys : Nat) (bytes : List Byte) (s : State) :
    (s.sendFrame phys bytes).cf = { s.cf with lanes := listUpd s.cf.lanes phys fun l => l.put 4 s.now bytes } := rfl
@[simp] theorem State.sendAll_out (l : List Out) (s : State) : (s.sendAll l).out = s.out ++ l := rfl

/-! ## Engine state -/

@[simp] theorem State.enter_same (s : State) : s.enter s.eng.state = s := by simp [State.enter]
@[simp] theorem State.enter_state (e : EngState) (s : State) : (s.enter e).eng = { s.eng with state := e } := by
  unfold State.enter
  split
  next h => rw [← h]
  next h => simp
@[simp] theorem State.setTgood_eng (b : Bool) (s : State) : (s.setTgood b).eng = { s.eng with tgood := b } := by
  unfold State.setTgood
  split
  next h => rw [← h]
  next h => rfl

/-! ## Journal and mailboxes -/

theorem State.append_jr (type key : Nat) (body : List Byte) (mb : Option Nat) (s : State) (h : s.jr.powerFail = false) :
    (s.append type key body mb).jr =
      { s.jr with queue := s.jr.queue ++ [{ type := type, key := key, body := body, mb := mb }] } := by
  simp [State.append, h, State.updJr]

end Sys2Proof.Machine
end

