-- ==== Sys2Proof/Tests/Slice0.lean ====
section
/-! SUPPORT. Tests on fixed values: ill-formed commands that the checks refuse, for every statement with
hypotheses a state and operands that meet them clause by clause, and a few values from the manual's worked
examples. -/

namespace Sys2Proof.Tests
set_option Elab.async false
open Sys2Proof Sys2Proof.Machine

/-! ## Ill-formed commands -/

def hdr : MsgHdr := { sync := 0x5AD3, len := 0, src := 1, active := true, mseq := 0, hops := 0, crc := 0 }
def rhdr : RetHdr := { lane := 0, version := 1, mseq := 0, crc := 0 }

theorem test_ill_power : wellFormed (.powerUp 0 false false 4) = false ∧ wellFormed (.resetNRelease 0 false false 4) = false ∧
    wellFormed (.resetEntry 0 false false 4) = false ∧ wellFormed (.powerFailDetect 0 5 0) = false ∧
    wellFormed (.powerFailDetect 0 1 (2 ^ 48)) = false ∧ wellFormed (.dieTempSample 0 [0]) = false ∧
    wellFormed (.bootComplete 0 (some (16, 0))) = false ∧ wellFormed (.calAttemptEnd 0 2 0 [] [] 0) = false ∧
    wellFormed (.syntheticFlash 0 (2 ^ 32)) = false ∧ wellFormed (.slack 0 hdr (2 ^ 32)) = false := by decide +kernel

theorem test_ill_inputs : wellFormed (.escalationTimeout 0 0) = false ∧ wellFormed (.escalationTimeout 0 17) = false ∧
    wellFormed (.posRequest 0 8) = false ∧ wellFormed (.posWord 0 0 (List.replicate 84 false)) = false ∧
    wellFormed (.quadEdge 0 4 false false) = false ∧ wellFormed (.indexEvent 0 4) = false ∧
    wellFormed (.sincosSample 0 0 8192 0) = false ∧ wellFormed (.probeEdge 0 0 1 true) = false ∧
    wellFormed (.compareFire 0 4) = false ∧ wellFormed (.switchEdge 0 0 3 true 0) = false ∧
    wellFormed (.switchFirstQualification 0 4 0 true) = false ∧ wellFormed (.settleTimeout 0 8) = false ∧
    wellFormed (.brakeTimeout 0 8) = false := by decide +kernel

theorem test_ill_lanes : wellFormed (.laneEnginesDone 0 0 0 [(0, 2 ^ 30)] []) = false ∧
    wellFormed (.laneEnginesDone 0 0 0 [] [(0, 2 ^ 72)]) = false ∧ wellFormed (.frameAssemblyDone 0 0 0 [64]) = false ∧
    wellFormed (.frameSendStart 0 64) = false ∧ wellFormed (.trainTimeout 0 68) = false ∧ wellFormed (.alignTimeout 0 68) = false ∧
    wellFormed (.lostRetrain 0 68) = false ∧ wellFormed (.rxHello 0 rhdr 0 0 3 0) = false ∧
    wellFormed (.rxTelem 0 rhdr 0 (2 ^ 16) 0 0) = false ∧ wellFormed (.rxLane 0 rhdr (2 ^ 68) 0 0 0) = false ∧
    wellFormed (.rxEvent 0 rhdr 0 0 0 0 0) = false ∧ wellFormed (.rxStuckOn 0 rhdr (2 ^ 18)) = false ∧
    wellFormed (.rxStuckOn 0 { rhdr with lane := 2 } 0) = false ∧ wellFormed (.retCrc 0 2) = false := by decide +kernel

theorem test_ill_messages : wellFormed (.gussetHello 0 hdr false 0 0 0 8 0 0) = false ∧
    wellFormed (.pairingComplete 0 0 0 0 0 0 1000000000 0 0) = false ∧ wellFormed (.heartbeatSlot 0 true 256) = false ∧
    wellFormed (.heartbeat 0 hdr (2 ^ 64) 0 0 0 0 0) = false ∧ wellFormed (.state 0 hdr 0 7 0 [0]) = false ∧
    wellFormed (.state 0 hdr 0 1 0 []) = false ∧ wellFormed (.setpoint 0 hdr 0 0 0 [] []) = false ∧
    wellFormed (.withdraw 0 hdr 0 256) = false ∧ wellFormed (.band 0 hdr (2 ^ 16) 0 0 0 0) = false ∧
    wellFormed (.digest 0 hdr 0 256 false 0) = false ∧ wellFormed (.digestTimeout 0 0 256) = false ∧
    wellFormed (.check 0 hdr 4 0) = false ∧ wellFormed (.time 0 hdr true 256 0 0 0) = false ∧
    wellFormed (.gussetTakeover 0 hdr 0 3) = false ∧ wellFormed (.lead 0 { hdr with src := 8 } 0 0) = false ∧
    wellFormed (.request 0 hdr 4 0 0 0) = false ∧ wellFormed (.order 0 hdr 0 1 8 0 0 0) = false := by decide +kernel

theorem test_ill_host : wellFormed (.pulseArm 0 2 0) = false ∧ wellFormed (.pulseFire 0 2) = false ∧ wellFormed (.pulseEnd 0 2) = false ∧
    wellFormed (.busErr 0 7 0 0 0) = false ∧ wellFormed (.completionTimeout 0 0 256 0) = false ∧
    wellFormed (.barAccess 0 1 0 true) = false ∧ wellFormed (.bar2Access 0 (2 ^ 36) false 1 []) = false ∧
    wellFormed (.bar2Access 0 0 true 1 []) = false ∧ wellFormed (.ringEnable 0 32) = false ∧ wellFormed (.ringDisable 0 32) = false ∧
    wellFormed (.ringAbort 0 32) = false ∧ wellFormed (.ringDoorbell 0 32) = false ∧ wellFormed (.cqHeadWrite 0 0 (2 ^ 32)) = false ∧
    wellFormed (.descriptorFetched 0 0 0 [] []) = false ∧ wellFormed (.descriptorComplete 0 32 []) = false ∧
    wellFormed (.nextReread 0 0 (2 ^ 64)) = false ∧ wellFormed (.streamRecord 0 32) = false ∧
    wellFormed (.streamRecordTimeout 0 32) = false ∧ wellFormed (.mbDoorbell 0 4) = false ∧ wellFormed (.mbAck 0 0 (2 ^ 16)) = false ∧
    wellFormed (.resultPost 0 4) = false ∧ wellFormed (.registerWrite 0 (2 ^ 24) 0) = false ∧
    wellFormed (.msixVectorUnmask 0 (some 64)) = false ∧ wellFormed (.feedQclr 0 16) = false ∧
    wellFormed (.ptpMessage 0 0 0 256) = false := by decide +kernel

theorem test_ill_store : wellFormed (.blockDecoded 0 (2 ^ 16) 0 0) = false ∧ wellFormed (.tileWritten 0 256 false) = false ∧
    wellFormed (.unitParity 0 256) = false ∧ wellFormed (.refreshDue 0 16) = false ∧ wellFormed (.owedRefresh 0 16) = false ∧
    wellFormed (.memTempRead 0 16 []) = false ∧ wellFormed (.requestPromotion 0 16) = false ∧
    wellFormed (.dramRead 0 8 0 0 0 [] 0) = false ∧ wellFormed (.dramRead 0 0 0 0 0 (List.replicate 11 0) 0) = false ∧
    wellFormed (.dramWrite 0 8 0 0 [] []) = false ∧ wellFormed (.mergeFlush 0 (2 ^ 31) []) = false ∧
    wellFormed (.scrubRead 0 (2 ^ 31) []) = false ∧ wellFormed (.pieceComplete 0 0 32 0) = false := by decide +kernel

theorem test_well_formed : wellFormed (.posRequest 0 7) = true ∧ wellFormed (.resultPost 0 3) = true ∧ wellFormed (.dramRead 0 7 0 0 0 [] 0) = true ∧
    wellFormed (.sincosSample 0 3 8191 (-8192)) = true ∧ wellFormed (.order 0 hdr 0 3 7 0 0 0) = true := by decide +kernel

/-- The table gives no row any bits. -/
theorem test_no_words : decodeTableWord 16 0 = none ∧ decodeTableWord 0 0 = none := by decide +kernel

/-! ## Builders -/

/-- A block of n bytes, zero but where the list says. -/
def block (n : Nat) (l : List (Nat × Nat)) : List Byte :=
  (List.range n).map fun i => BitVec.ofNat 8 (((l.find? fun p => p.1 == i).map fun p => p.2).getD 0)

/-- A module in Ready whose firmware runs. -/
def ready : State := { State.reset with eng := { State.reset.eng with state := .ready, relMajor := 3 } }

/-- The request of a row of the command set, with its copies in hand. -/
def ask (c : CmdSpec) (p : List Byte) : Current :=
  { req := { mb := 0, tag := 1, seq := 1, opcode := c.opcode, oper := 0, plen := c.plen, indirect := false, paddr := 0, params := p }
    phase := .ready }

/-- That request at work. -/
def at' (c : CmdSpec) (p : List Byte) (s : State) : State := { s with cp := { s.cp with current := some (ask c p) } }

/-- The request passes every check at instant 0. -/
abbrev passes (c : CmdSpec) (p : List Byte) (s : State) : Prop := c.Passes (ask c p) ((at' c p s).atTime 0)

def header : Header :=
  { verMinor := 0, headLen := 512, jobTag := 5, rasterOnly := false, stripeFirst := 0, stripeCount := 2, bandRows := 1024
    bandsPerStripe := 2, dirOffset := 256, fileLen := 2 ^ 20 }

def entry (band : Nat) : DirEnt :=
  { stripe := 0, band := band, empty := false, chequin := 0, streamOffset := 512, streamLen := 64, cells := [7] }

def job : Job :=
  { hdr := header, headCrc := 0, dir := [entry 0, entry 1], windowAddr := 0, windowSize := 2 ^ 26, stagingSize := 2 ^ 30
    flashStart := 0, first := 0, next := 0, feedLimit := 4096, head := [], headAddr := 0 }

def withJob (s : State) : State := { s with job := some job }

/-! ## The queue, the mailboxes and the status commands -/

theorem witness_StepConsumesFront : State.reset.pending = [] := by decide +kernel

theorem witness_StepKeepsInvariants : State.reset.memWf = true ∧ State.reset.mbWf = true ∧ step State.reset = .next State.reset :=
  ⟨by decide +kernel, by decide +kernel, rfl⟩

theorem witness_TimeGoesForward : ∃ u, exec (.wakeNFall 5) State.reset = .next u ∧ u.now = 5 := ⟨_, rfl, rfl⟩

theorem witness_TimeGoesForward_ticks : let s := State.reset
    max s.now 63 / 64 - s.now / 64 = 0 ∧ max s.now 64 / 64 - s.now / 64 = 1 ∧
    0 ≤ (s.tu.total : Int) + 1 * s.tu.inc + s.tu.step * 2 ^ 32 ∧ (s.tu.total : Int) + 1 * s.tu.inc + s.tu.step * 2 ^ 32 < 2 ^ 48 * 1000000000 * 2 ^ 32 := by
  decide +kernel

theorem witness_EngineStateChangesOnlyOnItsEvents : mayChangeState (.tuSnap 0) = false ∧ ∃ u, exec (.tuSnap 0) State.reset = .next u :=
  ⟨by decide, _, rfl⟩

theorem witness_LockedDikeLimitsStay : reloadsLimits (.dikeLimits 0) = false ∧ State.reset.dike.lock ≠ some true ∧
    ∃ u, exec (.dikeLimits 0) State.reset = .next u := ⟨by decide, by decide +kernel, _, rfl⟩

def posted : Mailbox := { state := .posted, gen := 7, arg := 9 }
def completion : Completion := { req := (ask specReset []).req, status := 0, head := [], body := [], cycle := 4, time := 0 }
def executing : Mailbox := { state := .executing, held := some completion }
def mailboxes (m : Mailbox) (s : State) : State := { s with mb := [m, {}, {}, {}] }

theorem witness_DoorbellAndAck : (mailboxes {} ready).mb[0]? = some ({} : Mailbox) ∧ ({} : Mailbox).state = .free ∧ (mailboxes posted ready).mb[0]? = some posted ∧
    posted.state ≠ .free ∧ posted.arg.toNat.testBit 31 = false ∧ 8 < posted.arg.toNat % 2 ^ 17 ∧ posted.gen = 7 ∧ posted.gen ≠ 65535 := by
  decide +kernel

def pairOf (s : State) : State := { s with twin := { s.twin with pair := .paired, active := true } }

theorem witness_ResultPosts : let s := mailboxes executing ready
    let p := { pairOf s with twin := { (pairOf s).twin with applied := some 4 } }
    let q := { pairOf s with twin := { (pairOf s).twin with applied := some 3 } }
    s.mb[0]? = some executing ∧ executing.held = some completion ∧ executing.state = .executing ∧ completion.auditFailed = false ∧
    (s.atTime 0).mayPost completion = true ∧ (p.atTime 0).mayPost completion = true ∧ (q.atTime 0).mayPost completion = false ∧
    (s.atTime 0).mayPost { completion with audit := some false } = false := by
  decide +kernel

def accepted (indirect : Bool) (s : State) : State :=
  { s with
    cp := { s.cp with accepted := [{ (ask specReset []).req with indirect := indirect }], current := none }, sl := { s.sl with halted := false } }

theorem witness_CommandsAreTakenUp : let s := accepted false ready
    (∃ r rest, s.cp.accepted = r :: rest ∧ r.indirect = false) ∧ (∃ r rest, (accepted true ready).cp.accepted = r :: rest ∧ r.indirect = true) ∧
    s.cp.halted = false ∧ s.cp.current = none ∧ s.eng.inReset = false ∧ s.eng.state ≠ .sleep ∧ s.eng.state ≠ .boot ∧ s.eng.relMajor ≠ 0 ∧
    s.sl.halted = false :=
  ⟨⟨_, _, rfl, rfl⟩, ⟨_, _, rfl, rfl⟩, by decide +kernel, by decide +kernel, by decide +kernel, by decide +kernel, by decide +kernel,
    by decide +kernel, by decide +kernel⟩

def copying (ph : Phase) : State :=
  { ready with cp := { ready.cp with current := some { ask specAuditRead [] with phase := ph } }, sl := { ready.sl with halted := false } }

theorem witness_CommandsAreTakenUp_copies : (∃ cur, (copying .copyParams).cp.current = some cur ∧ cur.phase = .copyParams) ∧
    (∃ cur, (copying .copyData).cp.current = some cur ∧ cur.phase = .copyData) ∧ (copying .copyData).sl.halted = false ∧
    (copying .copyData).cp.halted = false := ⟨⟨_, rfl, rfl⟩, ⟨_, rfl, rfl⟩, by decide +kernel, by decide +kernel⟩

def entryOf (r : Request) : CacheEnt := { tag := r.tag, seq := r.seq, opcode := r.opcode, digest := BitVec.ofNat 64 (crc64 r.opcode r.params), status := 0, result := [], time := 0 }
def caching (e : CacheEnt) : State := mailboxes { cache := [e] } ready

theorem witness_CommandsAreTakenUp_replays : let r := (ask specReset []).req
    (∃ e, (caching (entryOf r)).cached r = some e ∧ e.opcode = r.opcode ∧ e.digest.toNat = crc64 r.opcode r.params) ∧
    (∃ e, (caching { entryOf r with opcode := 1 }).cached r = some e ∧ ¬(e.opcode = r.opcode ∧ e.digest.toNat = crc64 r.opcode r.params)) ∧
    ready.cached r = none ∧ specOf 0xFFFF = none ∧ (∃ c, specOf r.opcode = some c ∧ c.refusal r (ready.setCurrent { req := r, phase := .ready }) = none ∧ c.copies = 0) ∧
    (∃ c, specOf r.opcode = some c ∧ c.refusal { r with plen := 1 } (ready.setCurrent { req := { r with plen := 1 }, phase := .ready }) = some 3) :=
  ⟨⟨_, rfl, by decide +kernel, by decide +kernel⟩, ⟨_, rfl, by decide +kernel⟩, by decide +kernel, rfl, ⟨_, rfl, by decide +kernel, rfl⟩, ⟨_, rfl, by decide +kernel⟩⟩

theorem witness_RefusalOrder : let s := ready
    let r := (ask specAxisEnable (block 8 [(0, 1)])).req
    let sb := { s with twin := { s.twin with active := false } }
    sb.standby = true ∧ specAxisEnable.standby = false ∧ specAxisEnable.status = false ∧ s.standby = false ∧ r.plen = specAxisEnable.plen ∧ r.plen ≠ specHome.plen ∧
    groupServed State.reset.eng.state (specAxisEnable.opcode / 256) = false ∧ groupServed s.eng.state (specAxisEnable.opcode / 256) = true ∧
    specStop.stateOk r s = true ∧ specStop.locked s = false ∧ specStop.fieldsOk r s = true ∧ specStop.busy r s = false ∧
    specStop.fieldsOk { r with params := block 8 [(1, 1)] } s = false ∧ specDikeLimits.locked s = true ∧
    specCalStatus.status = true ∧ specCalStatus.locked s = false ∧ specCalStatus.busy r s = false ∧ s.eng.state ≠ .sleep ∧
    1 < fld (block 8 [(0, 2)]) 0 8 := by decide +kernel

theorem witness_RefusalOrder_busy : let s := { ready with cp := { ready.cp with capture := some { parseCapture [] with kind := 5 } } }
    specCapture.busy (ask specCapture []).req s = true := by decide +kernel

theorem witness_RefusedCommandsOnlyReport : let s := at' specReset [] State.reset
    let bad := { ask specReset [] with req := { (ask specReset []).req with plen := 1 } }
    let b : State := { ready with cp := { ready.cp with current := some bad } }
    (∃ c u, mailboxRow (.reset 0) b = some (c, u) ∧ c.AtWork bad u ∧ c.refusal bad.req u = some 3) ∧
    (∃ c u, mailboxRow (.move 0) s = some (c, u) ∧ c.opcode ≠ (ask specReset []).req.opcode) :=
  ⟨⟨_, _, rfl, by decide +kernel, by decide +kernel⟩, ⟨_, _, rfl, by decide +kernel⟩⟩

theorem witness_CompletionRecord : ready.jr.powerFail = false ∧ (at' specReset [] ready).cp.current = some (ask specReset []) ∧
    (ask specReset []).req.mb = 0 := by decide +kernel

theorem witness_StatusCounters : ∀ c ∈ [specCacheStats, specLoomStats, specShuttleStatus, specHemStatus, specCuffStatus],
    passes c (block 8 [(0, 1)]) State.reset ∧ fld (block 8 [(0, 1)]) 0 1 = 1 := by decide +kernel

theorem witness_StatusValues : (∀ c ∈ [specPolderStatus, specTimeStatus, specConfigDigest, specSlackStatus, specJobStatus, specBraceStatus],
    passes c (block 8 []) ready ∧ passes c (block 8 [(0, 1)]) (withJob ready)) ∧ ready.pol.stats.leadMin = none ∧
    ready.twin.active = true ∧ ready.twin.peerDigest = none ∧ ready.hem.stripe = none ∧ ready.job = none ∧ (withJob ready).job = some job := by
  decide +kernel

theorem witness_StoreStatus : passes specCalStatus (block 8 []) ready ∧ passes specJournalStatus (block 8 [(0, 1)]) ready := by decide +kernel

/-! ## Configuration commands -/

theorem witness_SlackGuard : (∀ g ∈ [8, 64], passes specSlackConfig (block 8 [(0, g)]) ready) ∧ (ask specSlackConfig (block 8 [(0, 8)])).req.plen = 8 ∧
    ready.eng.state = .ready ∧ ready.hem.stripe = none ∧
    (∀ g ∈ [0, 7, 65, 255], specSlackConfig.AtWork (ask specSlackConfig (block 8 [(0, g)])) ((at' specSlackConfig (block 8 [(0, g)]) ready).atTime 0)) := by
  decide +kernel

def loomBlock : List Byte := block 40 [(2, 1), (8, 1)]
def cuffBlock : List Byte := block 16 [(10, 24), (13, 25)]
def dirOf (n : Nat) : CellDir := { jobTag := 5, headerCrc := 0, entries := List.replicate n { id := 0, hostAddr := 0, storedLen := 0, rawLen := 0, check := 0 } }

theorem witness_EngineConfigs : passes specLoomConfig loomBlock ready ∧ passes specPolderConfig (block 8 [(0, 16), (1, 15), (2, 1)]) ready ∧
    passes specPolderConfig (block 8 [(0, 0xFF)]) ready ∧ passes specShuttleConfig (block 8 [(0, 1), (1, 1), (2, 1)]) ready ∧
    passes specHemConfig ({} : HemCfg).bytes ready ∧ passes specCuffConfig cuffBlock ready ∧
    (∀ g ∈ [8, 96], passes specCacheConfig (block 8 [(0, g), (1, 64)]) ready) ∧ ready.cc.sizeGib ≠ 96 ∧
    8 ≤ ready.cc.sizeGib ∧ ready.cc.sizeGib ≤ 96 ∧ 96 * 2 ^ 30 + dirRegion ready.cc.dirEntries ≤ 120 * 2 ^ 30 ∧
    ready.digestBytes ≠ ({ ready with pol := { ready.pol with coverMode := 1 } } : State).digestBytes ∧ (pairOf ready).twin.pair ≠ .alone := by
  decide +kernel

def dirred (n : Nat) : State := { ready with cc := { ready.cc with dir := some (dirOf n) } }

theorem dirred_entries (n : Nat) : (dirred n).cc.dirEntries = n := by simp [Cache.dirEntries, dirOf, dirred]

theorem witness_EngineConfigs_space : passes specCacheConfig (block 8 [(0, 96)]) (dirred (2 ^ 30)) ∧
    120 * 2 ^ 30 < 96 * 2 ^ 30 + dirRegion (dirred (2 ^ 30)).cc.dirEntries :=
  ⟨by decide +kernel, by rw [dirred_entries]; decide⟩

def dikeBlock : List Byte :=
  block 528 ((6, 1) :: (13, 1) :: (List.range 8).map fun a => (16 + 64 * a + 44, 1))
def unlocked (s : State) : State := { s with dike := { s.dike with lock := some true } }

theorem witness_FaultAndTimeConfigs : passes specFaultConfig (block 256 []) ready ∧
    passes specFaultConfig (block 256 [(1, 5), (128, 1), (129, 1), (130, 5)]) ready ∧ ready.eng.state ≠ .sleep ∧
    (∀ p ∈ [block 256 [(10, 1)], block 256 [(8, 1)]], specFaultConfig.AtWork (ask specFaultConfig p) ((at' specFaultConfig p ready).atTime 0)) ∧
    fld (block 256 [(10, 1)]) 10 2 ≠ 0 ∧ fld (block 256 [(8, 1)]) 9 1 < fld (block 256 [(8, 1)]) 8 1 ∧
    passes specFaultInject (block 24 [(0, 1), (2, 1), (8, 1)]) ready ∧ passes specFaultInject (block 24 [(0, 8), (2, 1), (4, 255), (8, 1)]) ready ∧
    passes specTwinTime (block 16 [(6, 1)]) ready ∧ passes specTwinTime (block 16 []) ready ∧
    passes specCalConfig (block 16 [(0, 64), (2, 64), (5, 1)]) ready ∧ ready.jr.powerFail = false := by
  decide +kernel

theorem witness_FaultAndTimeConfigs_dike : passes specDikeLimits dikeBlock (unlocked ready) ∧ (unlocked ready).jr.powerFail = false := by
  decide +kernel

def globalBlock : List (Nat × Nat) := [(0, 10), (1, 0), (2, 1), (3, 1), (5, 25)]
/-- Axis 7 enabled, with a least window, times, jerk and gains, and v as its highest speed. -/
def servoOn (v : Nat) : List Byte :=
  block 32 globalBlock ++ List.replicate (7 * 464) 0 ++ block 80 [(0, 1), (8, 1), (10, 1), (12, 1), (15, 1), (16, v), (32, 6), (48, 1), (56, 16)] ++
    (List.replicate 4 (block 96 [(88, 1), (92, 1)])).flatten

theorem witness_MotionConfigs : ready.feed.srcs.length = 16 ∧ ready.feed.probes.length = 2 ∧ ready.feed.sets.length = 4 ∧ ready.br.axes.length = 8 ∧
    passes specFeedConfig (block 528 []) ready ∧ passes specFeedConfig (block 528 [(32 * 8, 1), (32 * 15 , 1), (32 * 15 + 23, 32), (32 * 15 + 25, 127), (32 * 15 + 30, 1)]) ready ∧
    passes specProbeSwitch (block 48 [(0, 1), (8, 3), (12, 15)]) ready := by
  decide +kernel

def roomy : State := { ready with dike := { ready.dike with lims := List.replicate 8 { vLim := 2 ^ 60, aLim := 2 ^ 60, jLim := 2 ^ 60 } } }

theorem witness_MotionConfigs_servo : passes specServoConfig (servoOn 1) ready ∧ passes specServoConfig (servoOn 1) roomy ∧
    roomy.trajLimits (servoOn 1) = none ∧ ready.trajLimits (servoOn 1) = some 7 := by
  decide +kernel

/-- A table image with right check values. -/
def image (kind n : Nat) (es : List Byte) : List Byte :=
  let h := tableMagic ++ leBytes 2 kind ++ leBytes 2 1 ++ leBytes 4 n ++ leBytes 4 (entrySize kind) ++ leBytes 4 0 ++ leBytes 4 (crc32c es kind)
  h ++ leBytes 4 (crc32c h 0) ++ es

theorem leNat_leBytes (n v : Nat) : leNat (leBytes n v) = v % 256 ^ n := by
  induction n generalizing v with
  | zero => simp [leBytes, leNat, Nat.mod_one]
  | succ n ih => simp only [leBytes, leNat, ih, byteOf, BitVec.toNat_ofNat]; exact (Nat.mod_mul (a := 256)).symm.trans (by rw [Nat.pow_succ'])

theorem crcRefl_lt (c b : Nat) (h : c < 2 ^ 32) (hb : b < 2 ^ 32) : crcRefl 0x82F63B78 c b < 2 ^ 32 := by
  unfold crcRefl
  apply List.foldlRecOn (motive := fun x => x < 2 ^ 32)
  · exact Nat.xor_lt_two_pow h hb
  · intro x hx _ _
    split
    · exact Nat.xor_lt_two_pow (Nat.lt_of_le_of_lt (Nat.div_le_self ..) hx) (by decide)
    · exact Nat.lt_of_le_of_lt (Nat.div_le_self ..) hx

theorem crc32c_lt (d : List Byte) (seq : Nat) : crc32c d seq < 2 ^ 32 := by
  refine Nat.xor_lt_two_pow ?_ (by decide)
  apply List.foldlRecOn (motive := fun x => x < 2 ^ 32)
  · exact Nat.xor_lt_two_pow (by decide) (Nat.mod_lt _ (by decide))
  · intro x hx b _
    exact crcRefl_lt _ _ hx (by have := b.isLt; omega)

theorem image_ok (es : List Byte) (h : es.length = 4096) : tableImageOk 6 (image 6 1024 es) = true := by
  have e : leNat (leBytes 4 (crc32c es 6)) = crc32c es 6 := by
    rw [leNat_leBytes]; exact Nat.mod_eq_of_lt (crc32c_lt _ _)
  have g : ∀ l, leNat (leBytes 4 (crc32c l 0)) = crc32c l 0 := fun l => by
    rw [leNat_leBytes]; exact Nat.mod_eq_of_lt (crc32c_lt _ _)
  have t : es.take (1024 * 4) = es := List.take_of_length_le (by omega)
  simp only [tableImageOk, Bool.and_eq_true, beq_iff_eq]
  refine ⟨⟨⟨⟨⟨⟨⟨rfl, rfl⟩, rfl⟩, rfl⟩, rfl⟩, rfl⟩, (g _).symm⟩, ?_⟩
  exact (congrArg (crc32c · 6) t).trans e.symm

def stepTable (n : Nat) : List Nat := (List.range n).map (1024 * ·)
def stepBytes (n : Nat) : List Byte := (stepTable n).flatMap fun e => leBytes 4 e

theorem stepTable_get (n i : Nat) (h : i < n) : (stepTable n).getD i 0 = 1024 * i := by
  simp [stepTable, h]

theorem tableEntries_bytes (l : List Nat) (h : ∀ e ∈ l, e < 2 ^ 32) : tableEntries 4 l.length (l.flatMap fun e => leBytes 4 e) = l := by
  induction l with
  | nil => rfl
  | cons e l ih =>
    have : leNat (leBytes 4 e) = e := by rw [leNat_leBytes]; exact Nat.mod_eq_of_lt (h e (by simp))
    simp only [List.flatMap_cons, List.length_cons, tableEntries]
    show leNat (leBytes 4 e) :: tableEntries 4 l.length (l.flatMap fun e => leBytes 4 e) = _
    rw [this, ih fun x hx => h x (by simp [hx])]

theorem stepTable_edge (n : Nat) : tableBad 6 [] (stepTable n) = none := by
  have : edgeBad (stepTable n) = none := by
    simp only [edgeBad, firstBad, Option.map_eq_none_iff, List.find?_eq_none]
    rintro ⟨e, i⟩ h
    have h := List.mem_zipIdx h
    simp only [stepTable, List.length_map, List.length_range] at h
    obtain ⟨-, h, he⟩ := h
    have he : e = 1024 * i := by simpa using he
    subst he
    by_cases hi : i = 0
    · subst hi; simp
    · rw [stepTable_get n (i - 1) (by omega)]
      simp [hi]; omega
  simp [tableBad, this]

theorem stepBytes_length (n : Nat) : (stepBytes n).length = 4 * n := by
  simp only [stepBytes, stepTable]
  induction n with
  | zero => rfl
  | succ n ih => rw [List.range_succ, List.map_append, List.flatMap_append, List.length_append, ih]; rfl

theorem stepBytes_entries (n : Nat) (hn : n ≤ 1024) : tableEntries 4 n (stepBytes n) = stepTable n := by
  have e := tableEntries_bytes (stepTable n) fun e h => by
    obtain ⟨i, hi, rfl⟩ := List.mem_map.1 h
    have := List.mem_range.1 hi
    omega
  rwa [show (stepTable n).length = n by simp [stepTable]] at e

theorem image_entries (kind n : Nat) (es : List Byte) : (image kind n es).drop 32 = es := rfl

theorem witness_TableLoads_edge : tableImageOk 6 (image 6 1024 (stepBytes 1024)) = true ∧
    tableBad 6 [] (tableEntries 4 1024 ((image 6 1024 (stepBytes 1024)).drop 32)) = none := by
  rw [image_entries, stepBytes_entries _ (Nat.le_refl _)]
  exact ⟨image_ok _ (stepBytes_length _), stepTable_edge _⟩

def loading (kind : Nat) (d : List Byte) : State :=
  let s := at' specLoadTable (block 16 [(0, kind)]) ready
  { s with cp := { s.cp with current := some { ask specLoadTable (block 16 [(0, kind)]) with data := d } } }
theorem witness_TableLoads : (∀ k ∈ [3, 6], specLoadTable.Passes { ask specLoadTable (block 16 [(0, k)]) with data := image k 0 [] } ((loading k (image k 0 [])).atTime 0)) ∧
    tableImageOk 3 (block 32 []) = false ∧ tableImageOk 3 (image 3 0 []) = true ∧ tableBad 3 (ready.table kGain).entries [] = none ∧
    tableImageOk 3 (image 3 1 (block 16 [])) = true ∧
    tableBad 3 (ready.table kGain).entries (tableEntries 16 1 (block 16 [])) = some (.standinRule, 0) ∧ ready.sh.tables.length = 5 := by
  decide +kernel

/-! ## System, job, stripe, axis and store commands -/

def failed : State := { ready with eng := { ready.eng with state := .fault, tgoodNeedsCal := false, trefLost := false }, cal := { ready.cal with passed := true } }

theorem witness_SystemCommands : passes specReset [] ready ∧ passes specRoleSwap [] (pairOf ready) ∧ passes specCuffRetrain [] ready ∧
    ready.cf.lanes.length = 68 ∧ passes specClearFault [] failed ∧ failed.eng.tgoodNeedsCal = false ∧ failed.eng.trefLost = false ∧
    ({ failed with dike := { failed.dike with wdExpired := true } } : State).dike.wdExpired = true ∧
    specSleep.Passes (ask specSleep []) (((at' specSleep [] ready).atTime 0).updEng fun e => { e with wakeN := true }) := by
  decide +kernel

/-- A job head of one raster-only stripe with one band, which has no stream. -/
def head (first : Nat) : List Byte :=
  let dir := block 48 [(0, first), (4, 1)]
  let body := pleatMagic ++ leBytes 2 2 ++ leBytes 2 0 ++ leBytes 4 256 ++ leBytes 8 304 ++ leBytes 8 5 ++ leBytes 4 1 ++ leBytes 4 3 ++
    leBytes 2 0 ++ leBytes 2 1 ++ leBytes 2 1024 ++ [0, 0] ++ leBytes 4 1 ++ leBytes 4 (crc32c dir 0) ++ leBytes 8 256 ++ leBytes 8 304 ++
    List.replicate 180 0
  body ++ leBytes 4 (crc32c body 0) ++ dir

/-- The same for a job that needs a cell directory. -/
def celled : List Byte :=
  let h := (head 0).set 32 0
  h.take 252 ++ leBytes 4 (crc32c (h.take 252) 0) ++ h.drop 256

/-- The refusal in an answer, if it is one. -/
def refusalOf {β : Type} (x : Except (FaultName × Nat) β) : Option (FaultName × Nat) :=
  match x with
  | .error e => some e
  | .ok _ => none

def cellDir (entry : List Byte) : List Byte :=
  let b := dirMagic ++ leBytes 2 1 ++ [0, 0] ++ leBytes 4 32 ++ leBytes 4 1 ++ leBytes 4 0 ++ leBytes 8 5 ++ leBytes 4 (crc32c entry 0) ++ List.replicate 24 0
  b ++ leBytes 4 (crc32c b 0) ++ entry

def cellEntry : List Byte := block 32 [(0, 7), (16, 24), (20, 48)]
def jobBlock : List Byte := block 48 [(19, 4), (27, 64)]

theorem witness_JobStarts_dir : passes specSetCellDir (block 8 []) ready ∧ refusalOf (parseCellDir (block 64 [])) = some (.dirHdr, 0) ∧
    refusalOf (parseCellDir (cellDir (block 32 []))) = some (.dirEntry, 0) ∧ refusalOf (parseCellDir (cellDir cellEntry)) = none ∧
    ready.cc.sizeGib * 2 ^ 30 + dirRegion 1 ≤ 120 * 2 ^ 30 := by
  decide +kernel

theorem witness_JobStarts : passes specJobStart jobBlock ready ∧ refusalOf (parseHead (block 304 [])) = some (.hdrId, 0) ∧ refusalOf (parseHead (head 1)) = some (.dirErr, 256) ∧
    (∃ p ∈ (parseHead (head 0)).toOption, p.1.stripeFirst ≤ (jobOf jobBlock (head 0) p.1 p.2).first ∧
      (jobOf jobBlock (head 0) p.1 p.2).first < p.1.stripeFirst + p.1.stripeCount ∧ ready.dirTagBad p.1 = false ∧
      ready.cc.sizeGib * 2 ^ 30 + (jobOf jobBlock (head 0) p.1 p.2).stagingSize + dirRegion ready.cc.dirEntries ≤ 120 * 2 ^ 30) ∧
    (∃ p ∈ (parseHead celled).toOption, ready.dirTagBad p.1 = true) := by
  decide +kernel

def deciding (s : State) : State :=
  { s with
    cp := { s.cp with halted := false, deciding := some (job, 0), bg := [ask specJobStart jobBlock] }, job := none }

theorem witness_JobStarts_decision : let s := deciding ready
    let p := deciding (pairOf ready)
    let b : State := { s with twin := { s.twin with active := false } }
    s.cp.deciding = some (job, 0) ∧ (s.background 0x0302).isSome = true ∧ s.cp.halted = false ∧ s.twin.active = true ∧ s.twin.pair ≠ .paired ∧ s.eng.state = .ready ∧
    s.job = none ∧ p.twin.pair = .paired ∧ p.twin.active = true ∧ p.headDiffers job = some 1 ∧ b.twin.active = false ∧
    (b.background 0x0302).isSome = true ∧ (s.atTime 0).now < 0 + 100000 * 12800 := by
  decide +kernel

def stripe : Stripe :=
  { stripe := 0, sigmaX := 1, sigmaY := 1, p := 128, sync := false, syncMask := 0, count := 10, fPlan := 50, s0x := 0, s0y := 0, dRu := 4096 }
def writing (st : EngState) (h : HemState) : State :=
  let s := withJob ready
  { s with
    eng := { s.eng with state := st }
    hem := { s.hem with stripe := some stripe, begun := true, state := h }
    job := some { job with feedLimit := 4096 } }
def band (p : BandState) : Band := { stripe := 0, band := 0, polder := p }
def faulted : State := { writing .seam .held with bands := [band .faulted] }

theorem witness_JobCommands : passes specFeed (block 8 [(1, 16)]) (withJob ready) ∧ passes specFeed (block 8 [(2, 16)]) (withJob ready) ∧
    passes specJobEnd [] (withJob ready) ∧ passes specBandRetry (block 8 []) faulted := by
  decide +kernel

def axis : Axis :=
  { cfg := { enable := 1, vMax := 2 ^ 40, aMax := 2 ^ 34, jMax := 2 ^ 33, softMin := -1000000, softMax := 1000000 }, state := .hold, homed := true }
/-- A module whose tables, receiver, sources and stage are ready for a stripe. -/
def rested : State :=
  let s := withJob ready
  let loaded : Table := { loaded := true }
  { s with
    eng := { s.eng with trefLost := false, tCore := 0 }
    slack := { s.slack with fSlackKhz := 100, peer := none }
    dike := { s.dike with fDike := 100 }
    sh := { s.sh with tables := [loaded, loaded, {}, loaded, loaded] }
    hem := { s.hem with edge := loaded, telem := some (0, 0, 0) }
    cf := { s.cf with
      lanes := List.replicate 68 { state := .up }, map := (List.range 64).map some
      ret := { s.cf.ret with good := [some 0, some 0], lost := false, helloAt := some 0, caps := 0x3F } }
    feed := { s.feed with srcs := List.replicate 16 { cfg := { enable := 1 }, state := .valid, y := some 0 }, map := { scan := 0, cross := 1, yawA := 2, yawB := 3, yawK := 0, yawZero := 0 } }
    br := { s.br with axes := [{ axis with traj := { p := -4096 * 2 ^ 32 } }, { axis with cfg := { axis.cfg with source := 1 } }] ++ List.replicate 6 {} } }

def stripeBlock (s : Nat) : List Byte :=
  block 48 [(0, s), (2, 1), (3, 1), (4, 128), (8, 10), (12, 50), (33, 16)]

theorem witness_StripeCommands_start : passes specStripeStart (stripeBlock 0) rested ∧ parseStripe (stripeBlock 0) = stripe ∧
    passes specStripeStart (stripeBlock 0) (withJob ready) ∧ (withJob ready).stripeRefused stripe = some (.tableMissing, 2 ^ 40) := by
  decide +kernel

/-- Neither grade bars a rate of 100 kHz. -/
theorem ceil_of (s : State) (h : min s.dike.fDike s.fPair = 100) : s.fCeil = 100 := by
  have g : (100 : Nat) ≤ Config.fGrade := by unfold Config.fGrade; split <;> decide
  exact (congrArg (min Config.fGrade) h).trans (Nat.min_eq_right g)

theorem rested_hem : rested.checkHem stripe = none := by
  unfold State.checkHem
  rw [ceil_of rested (by decide +kernel)]
  decide +kernel

theorem witness_StripeCommands_accepted : rested.stripeRefused stripe = none := by
  unfold State.stripeRefused
  rw [rested_hem]
  decide +kernel

theorem witness_StripeCommands : (∀ e ∈ [EngState.writing, EngState.held], passes specStripePause (block 8 []) (writing e .tracking)) ∧
    passes specStripePause (block 8 []) (writing .seam .seamStop) ∧ passes specStripePause (block 8 []) (writing .seam .idle) ∧
    (writing .seam .seamStop).twin.active = true ∧ passes specStripeResume (block 8 []) (writing .seam .seamStop) ∧
    (writing .seam .seamStop).ring.groupHeld = false ∧
    (∀ e ∈ [EngState.ready, EngState.writing, EngState.held, EngState.seam], passes specStripeAbort (block 8 []) (writing e .tracking)) := by
  decide +kernel

def grouped (s : State) : State :=
  { s with ring := { s.ring with groupHeld := true, sync := some { stripe := 0, mask := 3, at' := 0 } } }

theorem witness_StripeCommands_group : passes specStripeResume (block 8 []) (grouped (writing .seam .seamStop)) := by decide +kernel

def mover (st : AxisState) : State :=
  { rested with br := { rested.br with axes := [{ axis with state := st }] ++ List.replicate 7 axis } }

theorem witness_AxisMasks : let s := mover .off
    (∀ st ∈ [AxisState.off, AxisState.coast, AxisState.hold], passes specAxisEnable (block 8 [(0, 1)]) (mover st)) ∧
    (s.br.axes[0]?).isSome = true ∧ (s.br.axes[7]?).isSome = true ∧ (s.src 0).y = some 0 ∧
    (∀ st ∈ [AxisState.off, AxisState.move, AxisState.home, AxisState.stripe], passes specAxisDisable (block 8 [(0, 1)]) (mover st) ∧
      passes specStop (block 8 [(0, 0x81)]) (mover st) ∧ passes specRcClear (block 8 [(0, 0x80)]) (mover st)) ∧
    s.hem.stripe = none ∧ passes specStop (block 8 [(0, 1)]) (writing .writing .tracking) := by
  decide +kernel

/-- Axis 0 with a configuration and a place. -/
def placed (c : AxisCfg) (p : Int) (h : Bool) : State :=
  { rested with br := { rested.br with axes := [{ axis with cfg := c, traj := { p := p * 2 ^ 32 }, homed := h }] } }
def still : AxisCfg := { axis.cfg with jMax := 0 }
def narrow : AxisCfg := { axis.cfg with softMin := 1 }
/-- A few fu per cycle in one cycle each. -/
def quick : AxisCfg := { axis.cfg with source := 5, jMax := 2 ^ 32, aMax := 2 ^ 32 }
def homeBlock : List Byte := block 48 [(1, 1), (12, 1), (20, 1), (32, 1)]
def homePlan (c : AxisCfg) : Option Plan := c.planTo {} { target := none, vf := 1 * 2 ^ 32 }

theorem witness_SingleMotions : (∀ c ∈ [axis.cfg, still, narrow], passes specMove (block 16 []) (placed c 0 true)) ∧
    still.movePlans {} 1 = none ∧ passes specMove (block 16 [(8, 1)]) (placed still 0 true) ∧
    axis.cfg.movePlans {} 0 = some ({ target := some 0 }, none) ∧ (placed axis.cfg 0 true).planRefused 0 { target := some 0 } none = none ∧
    narrow.movePlans {} 0 = some ({ target := some 0 }, none) ∧ (placed narrow 0 true).planRefused 0 { target := some 0 } none = some .softLimit := by
  decide +kernel

def homing : Plan := { segs := [(4294967292, 1), (-4294967292, 1)], target := none, vf := 2 ^ 32 }

theorem witness_SingleMotions_home : passes specHome homeBlock (placed quick 0 false) ∧ homePlan quick = some homing ∧
    (placed quick 0 false).planRefused 0 homing none = none ∧ ((placed quick 0 false).src 5).state ≠ .lostSensor ∧
    passes specHome homeBlock (placed still 0 false) ∧ homePlan still = none ∧
    homePlan { quick with source := 0 } = some homing ∧ passes specHome homeBlock (placed { quick with source := 0 } 0 false) ∧
    (placed { quick with source := 0 } 0 false).planRefused 0 homing none = some .limitBlock := by
  decide +kernel

def lost : Source := { cfg := { enable := 1 }, state := .lostSensor }
def compareBlock (v : Nat) : List Byte := block 24 [(2, 1), (4, 1), (8, v)]
def unsampled : State := { ready with feed := { ready.feed with srcs := [lost] ++ List.replicate 15 { state := .valid, y := some 0, suspect := true } } }

theorem witness_ProbeAndCompare : let s := { ready with feed := { ready.feed with probes := List.replicate 2 { mode := 1 } } }
    passes specProbeArm (block 8 []) s ∧ passes specProbeArm (block 8 [(0, 1)]) s ∧ passes specProbeRead (block 8 [(0, 1)]) s ∧
    (s.feed.probes[1]?.map fun (q : Probe) => decide (q.buf.length < 256)) = some true ∧
    passes specCompareLoad (compareBlock 0) rested ∧ passes specCompareLoad (compareBlock 255) rested ∧ (rested.feed.cmps[0]?).isSome = true ∧
    (rested.src 0).y = some 0 ∧
    (∀ v ∈ [(0, true), (255, false)], ({ dir := 1, value := v.1 } : Compare).behind 0 = v.2) ∧
    passes specCompareLoad (compareBlock 0) unsampled ∧ (unsampled.src 0).y = none ∧
    (∀ n ∈ [0, 8, 11, 12, 15], passes specRereference (block 8 [(0, n)]) unsampled) ∧ (unsampled.feed.srcs[0]?).isSome = true := by
  decide +kernel

def fwBlock : List Byte := block 16 [(0, 1), (4, 64), (11, 64)]
/-- A firmware image of a header alone. -/
def fwImage : List Byte :=
  let h := fwMagic ++ leBytes 4 1 ++ leBytes 4 64 ++ leBytes 4 (crc32c [] 1) ++ List.replicate 40 0
  h ++ leBytes 4 (crc32c h 0)
def loadOf (d : List Byte) : State :=
  { ready with
    jr := { ready.jr with fwLoad := some (1, 64, 2 ^ 30) }
    cp := { ready.cp with bg := [ask specFwLoad fwBlock] }
    dram := { ready.dram with merge := [{ block := 2 ^ 24, bytes := d.zipIdx.map fun x => (x.2, x.1), lastWrite := 0, cls := 0 }] } }

theorem witness_StoreCommands : passes specCalibrate [] ready ∧ passes specMemFreq (block 8 [(0, 2)]) ready ∧ ready.jr.hasDelay 2 = true ∧
    (let s := { ready with jr := { ready.jr with factory := [0] } }
     passes specMemFreq (block 8 [(0, 2)]) s ∧ s.jr.hasDelay 2 = false) ∧ ready.jr.powerFail = false ∧
    passes specFwSelect (block 8 []) ready ∧ ready.jr.slotValid 0 = true ∧ passes specFwSelect (block 8 [(0, 1)]) ready ∧ ready.jr.slotValid 1 = false := by
  decide +kernel

theorem witness_StoreCommands_load : passes specFwLoad fwBlock ready ∧
    (∀ d ∈ [(fwImage, true), (block 64 [], false)], ((loadOf d.1).jr.fwLoad = some (1, 64, 2 ^ 30)) ∧ ((loadOf d.1).background 0x0601).isSome = true ∧ (loadOf d.1).cp.halted = false ∧
      ((loadOf d.1).atTime 0 |>.readBytes 3 (2 ^ 30) 64).1 = some d.1 ∧ (fwSlot d.1).imageOk = d.2 ∧
      ((loadOf d.1).atTime 0 |>.readBytes 3 (2 ^ 30) 64).2.jr.powerFail = false) := by
  decide +kernel

def auditBlock : List Byte := block 32 [(8, 1), (24, 48)]
def audited : State :=
  { ready with jr := { ready.jr with basins := [{ head := basinHead 0 true, records := [{ offset := 64, raw := recordBytes 4 0 3 (List.replicate 48 0) true }] }, {}] } }
def capturing (kind ended entries : Nat) : State :=
  { ready with
    cp := { ready.cp with
      capture := some { kind := kind, effort := 6, trigger := 0, lane := 0, trigFault := 0, start := 0, count := 8, bufAddr := 0, bufSize := (captureBlock 6 0 true []).length, ended := ended, entries := entries }
      bg := [ask specCapture (block 40 [])] } }

theorem witness_AuditAndCapture : passes specAuditRead auditBlock ready ∧ ready.jr.audits = [] ∧ passes specAuditRead auditBlock audited ∧
    (audited.jr.audits.getLast?).isSome = true ∧ audited.jr.powerFail = false ∧
    passes specCapture (block 40 [(0, 1), (1, 0xFF), (16, 1)]) ready ∧ passes specCapture (block 40 [(0, 5)]) ready ∧
    ((capturing 2 0 0).background 0x0701).isSome = true ∧ (capturing 2 0 0).cp.halted = false ∧ passes specCaptureCancel [] (capturing 1 0 0) ∧
    (∀ k ∈ [(1, 0, 7), (2, 0, 8), (1, 4, 0)], (capturing k.1 k.2.1 k.2.2).cp.capture.isSome = true) := by
  decide +kernel

/-- A capture that holds nothing writes one block, which its buffer takes. -/
theorem witness_AuditAndCapture_fits : ∃ c, (capturing 1 4 0).cp.capture = some c ∧ c.kind = 1 ∧ c.ended = 4 ∧
    overflowAt c.effort c.bufSize (c.raw.length / 262144 + 1) 0 0 c.raw = none := by
  refine ⟨_, rfl, rfl, rfl, ?_⟩
  simp only [List.length_nil, Nat.zero_div, Nat.zero_add, overflowAt, List.take_nil, Nat.zero_le, decide_true, if_true, Nat.lt_irrefl, if_false]

/-- A capture of frames with one whole block and no room in its buffer. -/
def outgrowing : Capture :=
  { kind := 2, effort := 6, trigger := 0, lane := 0, trigFault := 0, start := 0, count := 8, bufAddr := 0, bufSize := 0, raw := List.replicate 262144 0 }

theorem captureBlock_length_pos (effort seq : Nat) (last : Bool) (data : List Byte) : 0 < (captureBlock effort seq last data).length := by
  simp only [captureBlock, List.length_append, leBytes, List.length_cons, List.length_nil]
  omega

theorem witness_AuditAndCapture_outgrown : (∃ c, (capturing 2 0 7).cp.capture = some c ∧ c.kind ≤ 2 ∧ c.ended = 0 ∧ c.entries < c.count ∧ c.outgrown = none) ∧
    outgrowing.kind ≤ 2 ∧ outgrowing.ended = 0 ∧ outgrowing.entries < outgrowing.count ∧ outgrowing.outgrown = some 0 := by
  refine ⟨⟨_, rfl, by decide, rfl, by decide, rfl⟩, by decide, rfl, by decide, ?_⟩
  have h : outgrowing.raw.length / 262144 = 1 := by
    have : outgrowing.raw.length = 262144 := List.length_replicate
    omega
  have room (last : Bool) (data : List Byte) : outgrowing.bufSize < 0 + (captureBlock outgrowing.effort 0 last data).length := by
    have := captureBlock_length_pos outgrowing.effort 0 last data
    have : outgrowing.bufSize = 0 := rfl
    omega
  simp only [Capture.outgrown, h, overflowAt, room, if_true]

/-! ## Power, references, Boot, calibration, slack -/

theorem witness_PowerAndResets : State.reset.eng.vstby = true ∧ (∃ e ∈ [EngState.sleep, .boot], e = .sleep) ∧
    (let s := { ready with eng := { ready.eng with state := .boot, shedding := true } }; s.eng.state ≠ .sleep ∧ s.eng.shedding = true ∧ s.eng.vstby = true) ∧
    ready.eng.state ≠ .sleep ∧ ready.eng.inReset = false ∧
    (let s := { ready with eng := { ready.eng with resetN := false, shedding := false, pwrGood := true, inReset := true } }
     s.eng.resetN = false ∧ s.eng.state ≠ .sleep ∧ s.eng.shedding = false ∧ s.eng.pwrGood = true) ∧
    ({ ready with eng := { ready.eng with resetDue := some .chipReset } } : State).eng.resetDue = some .chipReset ∧
    ({ ready with eng := { ready.eng with vstby := false } } : State).eng.vstby = false := by
  decide +kernel

theorem witness_PowerFailAndReferences : (∀ k ∈ [1, 2, 3, 4, 6], (powerFail k).isSome = true) ∧ ready.eng.state ≠ .sleep ∧ ready.eng.inReset = false ∧
    ready.cf.lanes.length = 68 ∧ (List.replicate 8 (125 * 64) : List Int).length = 8 ∧ ready.eng.thermWarned = false ∧
    ({ State.reset with eng := { State.reset.eng with state := .sleep } } : State).eng.vstby = true ∧ ready.eng.resetN = true ∧
    (let s := { ready with eng := { ready.eng with resetN := false, resetDue := some .chipReset } }
     s.eng.resetN = false ∧ s.eng.state ≠ .sleep ∧ s.eng.shedding = false ∧ s.eng.pwrGood = true ∧ s.eng.resetDue = some .chipReset ∧ s.eng.inReset = false) ∧
    ({ ready with eng := { ready.eng with vstby := false } } : State).eng.vstby = false ∧
    (∃ x ∈ (List.replicate 8 (125 * 64) : List Int), 115 * 64 < x) ∧ (∃ x ∈ (List.replicate 8 (125 * 64 + 1) : List Int), 125 * 64 < x) := by
  decide +kernel

def booting : State := { State.reset with eng := { State.reset.eng with state := .boot, inReset := false } }
def calibrating (n : Nat) : State :=
  { ready with
    eng := { ready.eng with state := .calibrate }
    cal := { ready.cal with mode := .calibrate, cold := false, tol := 512, outs := List.replicate 2 { attempts := [n, n] } } }
/-- Counts whose tap delays lie d / 1024 of a step apart. -/
def counts (d : Nat) : List Nat := (List.range 96).map fun j => 2 ^ 31 / (d * (105 + j))

theorem witness_BootAndCalibration : booting.eng.state = .boot ∧ booting.eng.inReset = false ∧ booting.eng.bootStuck = false ∧
    ((booting.atTime 0).bootRom).eng.relMajor ≠ 0 ∧ (((booting.atTime 0).bootRom).loadConfig).jr.hasDelay (((booting.atTime 0).bootRom).loadConfig).dram.rate = true ∧
    (∀ n ∈ [0, 3], ((calibrating n).atTime 0).measuring 1 1 = true ∧ ((calibrating n).atTime 0).measuring 0 0 = true ∧
      ((ready.atTime 0).measuring 1 1 = false) ∧ (calibrating n).cal.outs.length = 2 ∧
      ∀ o ∈ (calibrating n).cal.outs, o.banks.length = 2 ∧ o.attempts.length = 2 ∧ o.passed.length = 2) := by
  decide +kernel

def delaysOf (n : List Nat) : List Int := (List.range 96).map fun j => tapDelayOf (2 ^ 16) (n.getD 0 0) (n.getD j 0)
def delays1024 : List Int :=
  [0, 1022, 2046, 3068, 4097, 5115, 6141, 7167, 8193, 9212, 10236, 11265, 12286, 13311, 14332, 15357, 16385, 17409, 18427, 19455, 20477, 21500, 22523, 23547,
    24579, 25603, 26626, 27648, 28668, 29695, 30719, 31741, 32770, 33794, 34815, 35842, 36863, 37890, 38911, 39937, 40956, 41980, 43007, 44037, 45060, 46075, 47104, 48124,
    49157, 50181, 51195, 52223, 53251, 54269, 55299, 56318, 57349, 58368, 59400, 60418, 61435, 62465, 63494, 64508, 65534, 66558, 67580, 68614, 69631, 70660, 71686, 72709,
    73728, 74759, 75786, 76809, 77827, 78856, 79881, 80901, 81931, 82939, 83976, 84988, 86012, 87047, 88074, 89095, 90109, 91132, 92167, 93193, 94212, 95240, 96260, 97290]
def delays900 : List Int :=
  [0, 898, 1801, 2699, 3601, 4501, 5399, 6299, 7201, 8100, 9000, 9901, 10802, 11698, 12598, 13498, 14401, 15298, 16198, 17101, 18001, 18899, 19798, 20699,
    21602, 22501, 23400, 24300, 25201, 26102, 27002, 27903, 28802, 29701, 30598, 31501, 32402, 33301, 34205, 35098, 36004, 36898, 37805, 38699, 39598, 40500, 41405, 42306,
    43200, 44098, 44998, 45901, 46798, 47705, 48605, 49498, 50402, 51307, 52203, 53101, 53999, 54898, 55807, 56707, 57607, 58506, 59405, 60304, 61202, 62099, 63007, 63901,
    64806, 65697, 66599, 67498, 68407, 69302, 70207, 71109, 72007, 72903, 73808, 74710, 75608, 76502, 77406, 78305, 79200, 80103, 81002, 81911, 82799, 83712, 84603, 85504]

theorem counts_delays : delaysOf (counts 1024) = delays1024 ∧ delaysOf (counts 900) = delays900 ∧
    delaysOf (List.replicate 95 19972 ++ [19784]) = List.replicate 95 0 ++ [1022] := by
  decide +kernel

theorem calRun_delays (n : List Nat) : calRun (2 ^ 16) 512 n = selectTaps (delaysOf n) 512 63 1 0 0 [0] := rfl

theorem witness_BootAndCalibration_runs : (calRun (2 ^ 16) 512 (counts 1024)).toOption = some (List.range 64, 8) ∧
    (calRun (2 ^ 16) 512 (counts 900)).toOption = some ((List.range 64).map (fun k => (1024 * k + 450) / 900), 445) ∧
    (calRun (2 ^ 16) 512 (List.replicate 95 19972 ++ [19784])).toOption = none ∧ firstDiff (List.range 64) (List.range 64) = none ∧
    (firstDiff (List.range 64) ((List.range 64).map fun k => (1024 * k + 450) / 900)).isSome = true := by
  simp only [calRun_delays, counts_delays]
  decide +kernel

theorem witness_BootAndCalibration_ends : let s := calibrating 0
    let p := { s with cal := { s.cal with passed := true }, slack := { s.slack with fSlackKhz := 1600 } }
    let q := { ready with cal := { ready.cal with swapReady := true, swapAfter := 5 } }
    s.cal.passed = false ∧ s.eng.state = .calibrate ∧ p.cal.passed = true ∧ (p.atTime 0).ownSlack ≠ 0 ∧ (s.atTime 0).ownSlack = 0 ∧ p.eng.state = .calibrate ∧
    q.cal.swapReady = true ∧ q.cal.swapAfter ≤ (q.atTime 5).now ∧ (q.atTime 4).now < q.cal.swapAfter ∧ ready.cal.swapReady = false := by
  decide +kernel

theorem witness_SlackMonitor : ready.slack.measured < 4096 ∧
    (let s := { ready with slack := { ready.slack with measured := 4096, window := [(none, 7)] } }; 4096 ≤ s.slack.measured ∧ (s.slack.window.map (·.2)).foldl max 0 ≠ 0) ∧
    ready.eng.state ≠ .writing ∧ ready.eng.state ≠ .sleep ∧ (writing .writing .tracking).eng.state = .writing := by
  decide +kernel

/-! ## Fault collector and Dike -/

def raised (f : FaultName) (v : Bool) (r : Nat) : State :=
  { ready with
    arb := { ready.arb with faultQ := [{ at' := 0, name := f, addr := 9 }] }
    fc := { ready.fc with valid := v, cfg := List.replicate 16 { reaction := r, ceiling := r } } }

theorem witness_FirstFaultLatch : ∀ f ∈ [FaultName.dikeMotion, .refLost], ∀ v ∈ [false, true],
    (raised f v 0).arb.nextFault = some { at' := 0, name := f, addr := 9 } ∧ (raised f v 0).fc.srcs.length = 16 ∧ (raised f v 0).fc.valid = v ∧
    ((raised f v 0).fcSrc f.source).pending = false ∧ (raised f v 0).initialReaction f = 0 := by
  decide +kernel

/-- A pending source with a timer that runs out at 100. -/
def escalating (stage ceiling : Nat) : State :=
  { ready with
    fc := { ready.fc with
      cfg := List.replicate 16 { reaction := 0, ceiling := ceiling }
      srcs := List.replicate 16 { pending := true, stage := stage, deadline := some 100 } } }
def caused (l : List (Nat × Cause)) : State :=
  { writing .writing .tracking with arb := { ready.arb with causeQ := l } }

theorem witness_CollectorEvents : (∀ src ∈ [1, 16], ((escalating 1 5).fcSrc src).deadline = some 100 ∧ ((escalating 1 5).fcSrc src).pending = true ∧
      nextStage src ((escalating 1 5).fcSrc src).stage ((escalating 1 5).ceilingOf src) = some 2 ∧
      nextStage src ((escalating 5 5).fcSrc src).stage ((escalating 5 5).ceilingOf src) = none) ∧ (escalating 1 5).fc.srcs.length = 16 ∧
    nextStage 8 2 5 = some 3 ∧ nextStage 1 2 5 = some 4 ∧
    ((escalating 1 5).atTime 99).now < 100 ∧ 100 ≤ ((escalating 1 5).atTime 100).now ∧ (ready.fcSrc 1).deadline = none ∧
    (caused [(0, .lateBand 0 0), (5, .fault)]).arb.waits .fault = true ∧ (caused [(0, .fault)]).eng.state ≠ .sleep ∧ (caused [(0, .fault)]).eng.state ≠ .fault ∧
    (caused [(0, .fault)]).eng.inReset = false ∧ ready.arb.causeQ = [] ∧
    (caused [(0, .lateBand 0 0)]).arb.waits .fault = false ∧ minBy causeKey (caused [(0, .lateBand 0 0)]).arb.causeQ = some (0, .lateBand 0 0) ∧ (caused [(0, .lateBand 0 0)]).twin.active = true ∧ (caused [(0, .lateBand 0 0)]).hem.stripe = some stripe ∧
    (caused [(0, .lateBand 0 0)]).hem.state = .tracking := by
  decide +kernel

theorem witness_DikeEvents : let s := { ready with dike := { ready.dike with wdDeadline := some 100, wdExpired := false } }
    let b := { ready with dike := { ready.dike with axes := List.replicate 8 { ovr := true, brake := true } } }
    s.dike.wdDeadline = some 100 ∧ s.dike.wdExpired = false ∧ (s.atTime 99).now < 100 ∧ 100 ≤ (s.atTime 100).now ∧ s.eng.state ≠ .sleep ∧ s.eng.inReset = false ∧
    ready.dike.lock = none ∧ (unlocked ready).dike.lock = some true ∧ (b.dikeAxis 7).ovr = true ∧ (b.dikeAxis 7).brake = true ∧ 7 < b.dike.axes.length := by
  decide +kernel

/-! ## Stage feedback and Brace -/

def bitsOf16 (v : Nat) : List Bool := (List.range 16).map fun i => v.testBit (15 - i)
/-- A reply's 72 bits: position, counter, ERR, WARN and reserved bits 0, check value. -/
def word (counter : Nat) : List Bool :=
  let d := List.replicate 48 false ++ ((List.range 4).map fun i => counter.testBit (3 - i)) ++ List.replicate 4 false
  d ++ bitsOf16 (crc16 d)
def sourced (c : Source) : State := { ready with feed := { ready.feed with srcs := List.replicate 16 c } }
def valid : Source := { cfg := { enable := 1 }, state := .valid }
def ported (st : SrcState) (p : Port) : State := sourced { valid with state := st, port := p }

theorem witness_PositionSamples : (sourced valid).feed.srcs.length = 16 ∧ ((sourced valid).atTime 1280).now % 640 = 0 ∧ ((sourced valid).atTime 1).now % 640 ≠ 0 ∧
    (sourced valid).eng.state ≠ .sleep ∧ (sourced valid).eng.state ≠ .boot ∧ ((sourced lost).src 7).state = .lostSensor ∧
    ((sourced { valid with cfg := {} }).src 15).cfg.enable ≠ 1 ∧
    (∀ n ∈ [0, 7, 8, 11, 12, 15], ((sourced valid).src n).state = .valid ∧ ((sourced valid).src n).cfg.enable = 1) ∧
    ((ported .valid { haveWord := true }).src 7).port.next = none ∧ ((ported .valid { haveWord := true }).src 7).port.haveWord = true ∧
    ((ported .acquire {}).src 0).port.tReq = none ∧ ((ported .acquire {}).src 0).state ≠ .lostTransport := by
  decide +kernel

theorem witness_PositionSamples_words : (∀ n ∈ [0, 7], ((ported .acquire { tReq := some 0, lastCnt := some 15, goodRun := 1 }).src n).port.tReq = some 0) ∧
    (ported .acquire {}).fc.inject.getD 11 {} = {} ∧ (word 0).length = 72 ∧ crc16 ((word 0).take 56) = bitsNat ((word 0).drop 56) ∧
    (∀ k ∈ [52, 53, 54, 55], (word 0).getD k false = false) ∧ (15 + 1) % 16 = bitsNat (((word 0).drop 48).take 4) ∧
    crc16 ((List.replicate 72 false).take 56) ≠ bitsNat ((List.replicate 72 false).drop 56) := by
  decide +kernel

/-- 09 R271's check: the CRC of the nine ASCII digits "123456789" is 0x29B1. -/
theorem test_crc16 : crc16 ([0x31, 0x32, 0x33, 0x34, 0x35, 0x36, 0x37, 0x38, 0x39].flatMap fun (b : Nat) => (List.range 8).map fun i => b.testBit (7 - i)) = 0x29B1 := by
  decide +kernel

def turning (p : Nat) : State :=
  sourced { valid with cfg := { enable := 1, gS := 16384, gC := 16384, ampLo := 1, ampHi := 65535 }, sc := { phase := p } }

theorem witness_EncoderEvents : (turning 0).feed.srcs.length = 16 ∧ ((turning 0).src 8).state ≠ .off ∧
    ((turning 0).src 8).quad.a = false ∧ ((turning 0).src 8).quad.b = false ∧
    (false, false, false, true) ∈ [(false, false, false, true), (false, true, true, true), (true, true, true, false), (true, false, false, false)] ∧
    (∀ p ∈ [0, 3072], ((turning p).src 15).state = .valid) ∧
    (let c := ((turning 0).src 15).cfg
     let ss := scCorrect 0 c.offS c.gS
     let cc := scCorrect 1000 c.offC c.gC
     (c.ampLo * 1024 : Int) ≤ ss * ss + cc * cc ∧ ss * ss + cc * cc ≤ (c.ampHi * 1024 : Int) ∧ phaseFloor ss cc = (0, true) ∧
     ¬((c.ampLo * 1024 : Int) ≤ scCorrect 0 c.offS c.gS * scCorrect 0 c.offS c.gS + 0)) ∧
    1024 < (wrapS 12 ((0 : Int) - 2048)).natAbs ∧ ((sourced { valid with state := .acquire }).src 12).state = .acquire := by
  decide +kernel

def probed (p : Probe) : State := { ready with feed := { ready.feed with probes := List.replicate 2 p } }
def compared (c : Compare) : State := { ready with feed := { ready.feed with cmps := List.replicate 4 c } }
def switched (w : Switch) : State := { ready with feed := { ready.feed with sw := List.replicate 12 w } }

theorem witness_TouchInputs : (probed {}).feed.probes.length = 2 ∧ ready.feed.cmps.length = 4 ∧ ready.feed.sw.length = 12 ∧
    (∀ p ∈ [({ edge := 3, mode := 2 } : Probe), { edge := 3, mode := 1, armed := true }], p.edge.testBit 0 = true ∧ p.edge.testBit 1 = true ∧ (p.mode = 2 ∨ (p.mode = 1 ∧ p.armed = true)) ∧
      p.buf.length + p.waiting.length < 16 ∧ ((probed p).feed.probes.getD 1 {}) = p) ∧
    (let p : Probe := { edge := 1, mode := 2, waiting := List.replicate 16 (0, true, 0) }; 16 ≤ p.buf.length + p.waiting.length ∧ p.overflow = false) ∧
    (∀ m ∈ [0, 1], let s := compared { state := .armed, mode := m, step := 5, fireAt := some 64 }
      (s.feed.cmps.getD 3 {}).fireAt = some 64 ∧ 64 ≤ (s.atTime 64).now ∧ (s.feed.cmps.getD 3 {}).state = .armed ∧ s.twin.active = true) ∧
    ((compared { highUntil := some 64 }).feed.cmps.getD 0 {}).highUntil = some 64 ∧
    ((switched {}).swIn 3 2).qualified = none ∧ ((switched { qualified := some true }).swIn 3 2).qualified = some true ∧
    ((switched { qualified := some true }).atTime 0).hystOk 3 2 = true ∧ ((switched { qualified := some true, needLatch := true }).atTime 0).hystOk 3 2 = false := by
  decide +kernel

theorem witness_ServoCycles : (ready.atTime (12800 * ready.br.g.cycUs)).now % (12800 * ready.br.g.cycUs) = 0 ∧ (ready.atTime 1).now % (12800 * ready.br.g.cycUs) ≠ 0 ∧
    ready.eng.state ≠ .sleep ∧ ready.eng.state ≠ .boot ∧ ready.twin.active = true ∧ (ready.fc.inject.getD 13 {}).count = 0 ∧ 7 < ready.br.axes.length ∧
    (let s := { ready with br := { ready.br with axes := List.replicate 8 { settling := true } } }
     (s.axis 7).settling = true ∧ (s.axis 7).settleLate = false ∧ (s.axis 7).settleStart + (s.axis 7).cfg.settleTo * 12800000 < (s.atTime (2 ^ 40)).now) := by
  decide +kernel

theorem witness_PositionSamples_requests : (∀ n ∈ [0, 7], (∀ st ∈ [SrcState.valid, .acquire, .lostTransport], ((((ported st {}).atTime 0).settle n).src n).requestDue 0 = true) ∧
      (let s := (ported .valid { tReq := some 0, bit := 0 }).atTime 0; ((s.settle n).src n).requestDue 0 = true ∧ ((s.settle n).src n).port.tReq = some 0) ∧
      (((ported .valid { tReq := some 0, bit := 256 }).settle n).src n).requestDue 0 = false ∧ ((((sourced lost).atTime 0).settle n).src n).state ≠ .off) ∧
    startBit [] = none ∧ startBit [true] = none ∧ startBit (List.replicate 9 false ++ [true]) = none ∧ startBit [false, true] = some 1 := by
  decide +kernel

theorem witness_ServoCycles_output : let o := ready.br.g.outPhase
    let b := { ready with twin := { ready.twin with active := false, pair := .paired } }
    (ready.atTime o).now % (12800 * ready.br.g.cycUs) = o ∧ (ready.atTime (o + 1)).now % (12800 * ready.br.g.cycUs) ≠ o ∧ b.twin.active = false ∧
    (b.atTime o).twin.swapDue = false ∧ b.twin.pair ≠ .alone ∧ b.eng.state ≠ .sleep ∧ b.eng.state ≠ .boot ∧ ((b.atTime o).fc.inject.getD 13 {}).count = 0 ∧
    (b.br.copied.all fun f => f.cycle != b.br.cycle) = true ∧ b.br.copyMissRaised = false ∧
    (let c := { b with br := { b.br with copied := some b.br.cur } }; ∃ f, c.br.copied = some f ∧ f.cycle = c.br.cycle ∧ c.dike.peerHold = false) := by
  refine ⟨by decide +kernel, by decide +kernel, rfl, rfl, by decide, by decide, by decide, by decide +kernel, by decide +kernel, rfl, _, rfl, rfl, rfl⟩

/-! ## Hem -/

def record (m : Nat) : FlashRec := { flash := m, m := m, resync := false, dt := 0, theta := 0, ex := 0, ey := 0, cprevx := 0, cprevy := 0 }
def flash (m : Nat) (last : Bool) : Committed :=
  { record := record m, tn := 100, f := 0, edges := [], endAt := 200, epoch := 0, dx := 0, dy := 0, last := last }
def firing (l : List Committed) (h : HemState) : State :=
  let s := writing .writing h
  { s with hem := { s.hem with committed := l } }

theorem witness_FlashIssues : ready.hem.committed = [] ∧ (∀ h ∈ [HemState.idle, .tracking], ∀ last ∈ [false, true],
    (firing [flash 3 last] h).hem.committed = [flash 3 last] ∧ ((firing [flash 3 last] h).atTime 99).now < (flash 3 last).tn ∧
    (flash 3 last).tn ≤ ((firing [flash 3 last] h).atTime 100).now ∧ (firing [flash 3 last] h).hem.stripe = some stripe) ∧
    (let s := { firing [flash 3 false] .tracking with dike := { ready.dike with lastStrobe := some 99, fDike := 2500 } }; s.tooSoon 100 = true) ∧
    (firing [flash 3 true] .idle).hem.commitSince = false ∧ (firing [flash 3 true] .seamStop).hem.state = .seamStop ∧ ready.twin.active = true ∧
    (flash 3 false).edgeLate = false ∧ (firing [flash 3 false] .tracking).hem.issuedEnd ≤ 0 ∧ ready.hem.peerEdgeFlash = none ∧ ready.hem.dropFlash = none ∧
    150 * 256 < ((38401 : Int) + 256 * ready.twin.cfg.peerComp).natAbs := by
  decide +kernel

theorem witness_EdgeChecks : let s := firing [flash 3 false] .tracking
    s.hem.committed = [flash 3 false] ∧ (flash 3 false).edgeLate = false ∧ s.hem.issuedEnd ≤ (s.atTime 0).now ∧
    (let q := { s with hem := { s.hem with issuedEnd := 5 } }; (q.atTime 4).now < q.hem.issuedEnd) ∧ ready.eng.tgood = false ∧
    ({ ready with eng := { ready.eng with tgood := true } } : State).eng.tgood = true ∧
    (∀ d ∈ [(38400, false), (38401, true), (-38401, true)], (150 * 256 < (d.1 + 256 * ready.twin.cfg.peerComp).natAbs ∧ ready.hem.peerEdgeFlash ≠ some 1 ∧ ready.hem.dropFlash ≠ some 1) ↔ d.2 = true) ∧
    10240 < ((10241 : Int) + 256 * ready.twin.cfg.peerComp).natAbs ∧ ((10240 : Int) + 256 * ready.twin.cfg.peerComp).natAbs ≤ 10240 ∧ ready.hem.driftRaised = false ∧
    (let b := { s with eng := { s.eng with twinB := true } }; b.eng.twinB = true ∧ b.eng.state = .writing ∧
      ∀ x ∈ [-512, 511], ({ b with twin := { b.twin with trim := x } } : State).twin.trimDue.getD x = x) := by
  decide +kernel

/-- A stripe that waits for its start with its first two bands Released and the stage in place. -/
def waiting (st : Stripe) : State :=
  { rested with
    hem := { rested.hem with stripe := some st }, bands := [band .released, { band .released with band := 1 }]
    br := { rested.br with segment := .approach }, tu := { rested.tu with excluded := false } }
def synced (st : Stripe) (at' : Nat) : State :=
  { waiting st with ring := { rested.ring with sync := some { stripe := 0, mask := 1, at' := at' } } }
def groupStripe : Stripe := { stripe with sync := true, syncMask := 1 }
def heldFor (q : List (Nat × Cause)) : State :=
  { writing .held .held with arb := { ready.arb with causeQ := q } }
/-- A Seam whose causes have cleared. -/
def cleared : State :=
  { waiting stripe with
    eng := { rested.eng with state := .seam }
    hem := { rested.hem with stripe := some stripe, begun := true, state := .seamStop, causes := [], qb := -4096, stopped := true, settled := true }
    br := { rested.br with segment := .backUp } }

theorem witness_StripeStarts_resume : (cleared.atTime 0).mayResume stripe = true ∧ cleared.hem.stripe = some stripe ∧ cleared.twin.active = true ∧
    (cleared.atTime 0).doseWindow ≤ period (min stripe.fPlan (cleared.atTime 0).fCeil) := by
  unfold State.mayResume
  rw [ceil_of (cleared.atTime 0) (by decide +kernel)]
  decide +kernel

/-- A dose window too long for the rate of a Seam that may end. -/
def unfitted : State := { cleared with hem := { cleared.hem with edge := { loaded := true, entries := [67108864] } } }

theorem witness_StripeStarts_unfit : (unfitted.atTime 0).mayResume stripe = true ∧
    period (min stripe.fPlan (unfitted.atTime 0).fCeil) < (unfitted.atTime 0).doseWindow := by
  unfold State.mayResume
  rw [ceil_of (unfitted.atTime 0) (by decide +kernel)]
  decide +kernel

theorem witness_StripeStarts : (heldFor []).hem.stripe = some stripe ∧ (heldFor []).twin.active = true ∧ (heldFor []).hem.state = .held ∧
    (heldFor []).arb.waits .heldAbandon = false ∧ (heldFor [(0, .heldAbandon)]).arb.waits .heldAbandon = true ∧ (heldFor []).hem.heldSince + (heldFor []).hem.cfg.heldTime * 12800 < ((heldFor []).atTime (2 ^ 50)).now ∧
    ((heldFor []).atTime 0).now ≤ (heldFor []).hem.heldSince + (heldFor []).hem.cfg.heldTime * 12800 ∧
    ((waiting stripe).atTime 0).mayResume stripe = false ∧ ((waiting stripe).atTime 0).mayBegin = true ∧ stripe.sync = false ∧ (waiting stripe).twin.active = true ∧ (rested.atTime 0).mayBegin = false ∧
    (let s := synced groupStripe 0
     s.hem.stripe = some groupStripe ∧ s.ring.sync = some { stripe := 0, mask := 1, at' := 0 } ∧ s.hem.begun = false ∧ 0 ≤ t8Diff (s.atTime 0).tu.t8 0 ∧
     groupStripe.sync = true ∧ groupStripe.stripe = 0 ∧ s.tu.excluded = false ∧ s.eng.pairId ∉ s.ring.quarantined ∧ (s.atTime 0).mayBegin = true) ∧
    (let s := synced groupStripe 100; t8Diff (s.atTime 0).tu.t8 100 < 0) ∧
    (let s := { synced groupStripe 0 with tu := { rested.tu with excluded := true } }; s.tu.excluded = true ∧ 0 ≤ t8Diff (s.atTime 0).tu.t8 0) ∧
    (∀ at' ∈ [0, 100], let s := { waiting stripe with ring := { rested.ring with resumeAt := some { stripe := 0, mask := 1, at' := at' } } }
      s.ring.resumeAt = some { stripe := 0, mask := 1, at' := at' } ∧ (0 ≤ t8Diff (s.atTime 0).tu.t8 at' ↔ at' = 0)) := by
  decide +kernel

/-! ## Shuttle and Cuff -/

/-- A stripe at work with every lane Up. -/
def shuttling (slots : List Slot) (frames : List FlashFrames) : State :=
  { waiting stripe with
    eng := { rested.eng with state := .writing }
    sh := { rested.sh with slots := slots }
    cf := { rested.cf with frames := frames } }
def computing : Slot := { state := .computing, record := some (record 3), tn := 10000 }
def framed (ready : List Nat) (sent : List (Nat × Bool)) : FlashFrames :=
  { record := record 3, tn := 10000, epoch := 0, stripe := 0, band := 0, clamped := false, last := false, dx := 0, dy := 0, kind := .data, cause := 0, codes := [], ready := ready, sent := sent }

theorem witness_FramesOfFlashes : let s := shuttling [computing, {}] []
    (∀ i ∈ [0, 1], let s := shuttling (if i = 0 then [computing, {}] else [{}, computing]) []
      s.sh.slots.length = 2 ∧ s.slotState i = .computing ∧ (s.sh.slots.getD i {}).record = some (record 3) ∧ (record 3).flash = 3 ∧ s.slotState (1 - i) = .empty ∧
      s.hem.stripe ≠ none ∧ s.sh.waiting = none ∧ (s.sh.slots.getD (1 - i) {}).record = none ∧ frameDeadline (s.sh.slots.getD i {}).tn ≤ (s.atTime 2832).now ∧
      (s.atTime 2831).now < frameDeadline (s.sh.slots.getD i {}).tn ∧ s.mute = false) ∧
    s.cf.frames.length < 2 ∧ 2 ≤ (shuttling [computing, {}] [framed [] [], framed [] []]).cf.frames.length ∧
    s.physOf 63 = some 63 ∧ s.running = true ∧ ready.running = false ∧ ready.physOf 0 = none ∧
    s.cf.frames.find? (·.record.flash == 3) = none ∧
    (let q := shuttling [{}, {}] [framed [63] [(0, false)]]
     q.cf.frames.find? (·.record.flash == 3) = some (framed [63] [(0, false)]) ∧ (∀ l ∈ [1, 63], q.cf.frames.find? (fun f => !f.sent.any (·.1 == l)) = some (framed [63] [(0, false)])) ∧
     63 ∈ (framed [63] [(0, false)]).ready ∧ 1 ∉ (framed [63] [(0, false)]).ready ∧ q.mute = false ∧ q.running = true ∧ q.physOf 1 = some 1) ∧
    ready.eng.state ≠ .sleep ∧ ready.eng.state ≠ .boot := by
  decide +kernel

def laned (st : LaneState) : State := { ready with cf := { ready.cf with lanes := List.replicate 68 { state := st } } }

theorem witness_LaneTimers : (∀ st ∈ [LaneState.train, .align, .lost], (laned st).cf.lanes.length = 68 ∧ ((laned st).lane 67).state = st ∧ ((laned st).lane 67).since + 100000 * 12800 ≤ ((laned st).atTime (2 ^ 40)).now) ∧
    ready.cf.ret.lost = false ∧ (ready.atTime 0).now < (ready.cf.ret.good.filterMap id).foldl max 0 + 1000 * 12800 ∧
    (let s := { ready with cf := { ready.cf with ret := { ready.cf.ret with helloAt := some 0 } } }
     s.cf.ret.helloAt = some 0 ∧ (s.atTime 0).now < 0 + 10000 * 12800 ∧ 0 + 10000 * 12800 ≤ (s.atTime 128000000).now) := by
  decide +kernel

/-- The header whose CRC is that of a message of the return channel. -/
def sealed (type : Nat) (body : List Byte) : RetHdr := { rhdr with crc := crc32c (retBytes rhdr type body) type }

theorem witness_ReturnMessages_good (type : Nat) (body : List Byte) :
    (sealed type body).version = 1 ∧ (sealed type body).crc = crc32c (retBytes (sealed type body) type body) type := ⟨rfl, rfl⟩

theorem witness_ReturnMessages : rhdr.crc ≠ crc32c (retBytes rhdr 5 (beBytes 4 0)) 5 ∧ (ready.fc.inject.getD 10 {}).count = 0 ∧ ready.cf.lanes.length = 68 ∧ rhdr.version = 1 ∧
    rhdr.mseq ∉ ready.cf.ret.seen ∧ ({ rhdr with version := 2 } : RetHdr).version ≠ 1 ∧
    rhdr.mseq ∈ ({ ready with cf := { ready.cf with ret := { ready.cf.ret with seen := [0] } } } : State).cf.ret.seen := by
  decide +kernel

/-! ## Twins and Stitch -/

def twin (p : PairState) (a : Bool) (s : State) : State := { s with twin := { s.twin with pair := p, active := a, rxNext := none, rxHeld := [], image := [] } }

/-- The header whose SYNC, LEN and CRC are those of a message. -/
def sealMsg (type : Nat) (body : List Byte) : MsgHdr :=
  { hdr with sync := 0x6E95, len := wireLen body, crc := crc32c (wireMid type hdr.src hdr.active hdr.hops hdr.mseq body) hdr.mseq }

theorem witness_GussetMessages_good (m : GMsg) : m.good (sealMsg m.type m.body) = true ∧ (sealMsg m.type m.body).src = ready.peerMember :=
  ⟨by simp only [GMsg.good, msgIntact, sealMsg, beq_self_eq_true, Bool.and_self], (by decide +kernel : hdr.src = ready.peerMember)⟩

theorem witness_StitchEvents_good (m : SMsg) : m.good (sealMsg m.type m.body) = true := by
  simp only [SMsg.good, msgIntact, sealMsg, beq_self_eq_true, Bool.and_self]

theorem witness_GussetMessages : ready.eng.state ≠ .sleep ∧ ready.eng.state ≠ .boot ∧ ready.eng.inReset = false ∧ hdr.src = ready.peerMember ∧ (GMsg.slack 0).good hdr = false ∧
    (let s := { ready with twin := { ready.twin with rxNext := some 0 } }; 0 < wrapS 32 ((hdr.mseq + 1 : Int) - 0) ∧ s.twin.rxNext = some 0) ∧ ({ hdr with src := 5 } : MsgHdr).src ≠ ready.peerMember ∧
    (let s := { ready with twin := { ready.twin with rxNext := some 1 } }; s.twin.rxNext = some ((hdr.mseq + 1) % 2 ^ 32) ∧ hdr.mseq < 2 ^ 32) ∧
    (∀ p ∈ [PairState.joining, .paired], (twin p false ready).twin.active = false ∧ (twin p false ready).twin.rxNext = none ∧ (twin p false ready).twin.rxHeld = [] ∧
      (twin p false ready).twin.image = []) ∧
    (BitVec.ofNat 64 (crc64 9 [])).toNat = crc64 9 [] ∧ (0 : Word).toNat ≠ crc64 9 [] ∧
    (twin .paired false ready).hem.stripe = none ∧ (twin .paired false (writing .writing .tracking)).hem.stripe = some stripe ∧
    (twin .paired false (writing .writing .tracking)).eng.state ≠ .fault ∧ (twin .paired false failed).eng.state = .fault ∧
    ((waiting stripe).band 0 1).isSome = true ∧ ready.twin.pair = .alone ∧ ready.job = none ∧ 1 / 2 % 2 = 0 ∧ ready.twin.digests = [] ∧
    (let d : Dig := { flash := 3, epoch := 0, void := false, value := 7, at' := 0, own := true }
     let s := { pairOf ready with twin := { (pairOf ready).twin with digests := [d] } }
     s.twin.pair ≠ .alone ∧ s.twin.digests = [d] ∧ d.void = false ∧ (8 : Word) ≠ d.value) ∧
    (∀ a ∈ [false, true], (twin .pairing a ready).twin.pair = .pairing ∧ (twin .pairing a ready).twin.active = a) := by
  decide +kernel

theorem witness_PairEvents : ready.eng.state ≠ .sleep ∧ ready.eng.state ≠ .boot ∧ ready.eng.inReset = false ∧
    (∀ a ∈ [false, true], (twin .pairing a ready).twin.pair = .pairing ∧ (twin .pairing a ready).twin.active = a) ∧ ready.twin.pair ≠ .pairing ∧
    ready.cp.halted = false ∧ ready.twin.pair = .alone ∧
    (∀ p ∈ [PairState.joining, .paired], ∀ a ∈ [false, true], ∀ m ∈ [0, 1, 2], ∀ seen ∈ [false, true],
      let s := { twin p a ready with twin := { (twin p a ready).twin with slotSeen := seen, missed := m } }
      s.twin.pair ≠ .alone ∧ s.twin.pair ≠ .pairing ∧ s.twin.slotSeen = seen ∧ s.twin.missed = m) ∧
    hdr.src = ready.peerMember ∧ ({ ready with twin := { ready.twin with lanes := 15 } } : State).twin.lanes.testBit 3 = true ∧
    (let d : Dig := { flash := 3, epoch := 0, void := false, value := 7, at' := 0, own := true }; d.own = true) ∧ ready.twin.rxHeld = [] ∧
    (let s := { ready with twin := { ready.twin with rxNext := some 1, rxHeld := [(3, 0, .slack 1600)] } }; s.twin.rxNext = some 1 ∧ s.twin.rxHeld = [(3, 0, .slack 1600)]) := by
  decide +kernel

/-- A member of a ring with a leader. -/
def member (l : Nat) : State :=
  { ready with
    twin := { ready.twin with cfg := { ready.twin.cfg with ringEnable := 1 } }
    ring := { ready.ring with leader := some l, orderSeen := 4, orderHeld := [], rxLast := [] } }

theorem witness_StitchEvents : (∀ l ∈ [0, 2], let s := member l
      s.eng.state ≠ .sleep ∧ s.eng.state ≠ .boot ∧ s.eng.inReset = false ∧ s.twin.cfg.ringEnable = 1 ∧ (s.ring.leader = some s.member ↔ l = 0)) ∧
    (hdr.src, hdr.mseq) ∉ (member 0).ring.rxLast ∧ hdr.src ≠ (member 0).member ∧ (member 0).ring.started = none ∧
    (hdr.src, hdr.mseq) ∈ ({ member 0 with ring := { (member 0).ring with rxLast := [(1, 0)] } } : State).ring.rxLast ∧ (member 2).ring.orderSeen ≠ 0 ∧
    3 ≤ (member 2).ring.orderSeen ∧ (member 2).ring.orderSeen + 1 < 6 ∧ 5 = (member 2).ring.orderSeen + 1 ∧ (member 2).ring.orderHeld = [] ∧
    (1 : Nat).testBit (member 2).eng.pairId = true ∧ (member 2).eng.pairId ∉ (member 2).ring.quarantined ∧ (member 2).twin.active = true := by
  decide +kernel

/-! ## The time unit -/

def pulsed (p : Pulse) : State := { ready with tu := { ready.tu with pls := List.replicate 2 p } }

theorem witness_TimeUnitCommands : ready.tu.pls.length = 2 ∧ ready.timeFollower = false ∧ (twin .paired false ready).timeFollower = true ∧
    (0 : BitVec 32).getLsbD 0 = false ∧ (1 : BitVec 32).getLsbD 0 = true ∧
    (let p := ((pulsed { sec := 1 }).atTime 0).tu.pls.getD 1 {}; ((pulsed { sec := 1 }).atTime 0).tu.total ≤ (p.sec * 1000000000 + p.ns) * 2 ^ 32) ∧
    (let s := { pulsed {} with tu := { (pulsed {}).tu with sec := 2 } }; ((s.atTime 0).tu.pls.getD 1 {}).sec * 1000000000 * 2 ^ 32 < (s.atTime 0).tu.total) ∧
    (∀ per ∈ [0, 250], let s := pulsed { arm := true, per := per }
      ((s.atTime 0).tu.pls.getD 1 {}).arm = true ∧ s.twin.active = true ∧ ((s.atTime 0).tu.pls.getD 1 {}).target * 2 ^ 32 ≤ (s.atTime 0).tu.total ∧ (s.atTime 0).tu.frac < 2 ^ 32) ∧
    (((pulsed { highUntil := some 7 }).atTime 0).tu.pls.getD 0 {}).highUntil = some 7 ∧ ready.twin.cfg.ptpEnable ≠ 0 ∧
    (let s := { ready with twin := { ready.twin with cfg := { ready.twin.cfg with ptpEnable := 0 } } }; s.twin.cfg.ptpEnable = 0) := by
  decide +kernel

/-! ## The host link and Sluice -/

theorem witness_HaltsAndLink : ready.sl.rings.length = 32 ∧ (∃ u, exec (.fnReset 0) ready = .next u) ∧ 0 < 2 ^ 64 ∧ 0xFF < 2 ^ 8 ∧ 0xF < 2 ^ 4 :=
  ⟨by decide +kernel, ⟨_, rfl⟩, by decide, by decide, by decide⟩

theorem witness_BarAccesses : ready.mb.length = 4 ∧ ready.sl.rings.length = 32 ∧ ready.sl.msix.length = 64 ∧ inTransfer (2 ^ 30) 4 = true ∧ inTransfer 0 4 = false ∧
    ready.sl.bar2Win * 2 ^ 36 + 2 ^ 30 % 2 ^ 36 = 2 ^ 30 ∧ (ready.atTime 0).readReg 0xFF0000 = none ∧ ready.sl.fnMask = false ∧
    (let s := { ready with sl := { ready.sl with pba := 2 ^ 63 } }; s.sl.pba = 2 ^ 63) ∧ ready.sl.pba = 0 := by
  decide +kernel

def ringed (r : Ring) (h : Bool) : State := { ready with sl := { ready.sl with halted := h, rings := List.replicate 32 r } }

theorem witness_RingControl : (∀ r ∈ [({} : Ring), { state := .running, started := true }, { state := .running }, { state := .parked }, { state := .halted }],
      (ringed r false).sl.rings.length = 32 ∧ (ringed r false).ring' 31 = r ∧ (ringed r true).ring' 0 = r ∧ (ringed r false).sl.halted = false) ∧
    2 ^ 6 < (0 + 2 ^ 32 - 2 ^ 31) % 2 ^ 32 ∧ (0 + 2 ^ 32 - (2 ^ 32 - 64)) % 2 ^ 32 ≤ 2 ^ 6 ∧
    (∀ d ∈ [false, true], ∀ st ∈ [RingState.running, .parked], ((ringed { state := st, rereads := 1, dbPending := d } false).ring' 31).rereads ≠ 0 ∧
      ((ringed { state := st, rereads := 1, dbPending := d } false).ring' 31).dbPending = d) ∧ ((ringed {} false).ring' 31).rereads = 0 := by
  decide +kernel

/-- A descriptor of 64 bytes; `last` and its successor. -/
def descBytes (dst flags next : Nat) : List Byte := leBytes 8 0 ++ leBytes 8 dst ++ leBytes 4 64 ++ leBytes 4 flags ++ leBytes 8 next
def desc (last : Bool) (next : Nat) : Desc := { addr := 32, raw := descBytes (2 ^ 30) (if last then 16 else 0) next, table := [] }
def fetching (mode : Nat) : State := ringed { state := .running, mode := mode, fetch := some 32 } false

theorem witness_Descriptors : (fetching 0).sl.rings.length = 32 ∧ (fetching 0).sl.halted = false ∧
    (∀ n ∈ [0, 15, 16, 31], ((fetching 0).ring' n).state = .running ∧ ((fetching 0).ring' n).fetch = some 32 ∧ ((fetching 0).ring' n).stream n = false ∧
      ((fetching 0).ring' n).slotFree = true ∧ (desc false 64).wrong n false = none) ∧
    (({ addr := 32, raw := descBytes 0 0 0, table := [] } : Desc).wrong 15 false).isSome = true ∧ (({ addr := 32, raw := descBytes 0 1 1, table := [] } : Desc).wrong 31 false).isSome = true ∧
    (∀ n ∈ [16, 31], ((fetching 1).ring' n).stream n = true ∧ ((fetching 1).ring' n).free.length < 8 ∧ ((fetching 1).ring' n).streamQ = [] ∧ (desc true 0).wrong n true = none) ∧
    (∀ d ∈ [desc true 0, desc false 64, desc false 0], let r : Ring := { state := .running, desc := some d, started := true }
      ((ringed r false).ring' 15).desc = some d ∧ ((ringed r false).ring' 15).started = true ∧ ((ringed r false).ring' 15).abort = false) ∧
    (desc true 0).last = true ∧ (desc false 64).last = false ∧ (desc false 64).next ≠ 0 ∧ (desc false 0).next = 0 := by
  decide +kernel

def streamed (r : Ring) (l : List (Nat × List Byte)) : State := { ringed r false with sl := { (ringed r false).sl with streamOut := l } }

theorem witness_Descriptors_streams : let r : Ring := { state := .running, mode := 1 }
    (streamed r [(16, [1])]).sl.streamOut = [(16, [1])] ∧ (streamed r []).sl.streamOut = [] ∧ (streamed r [(16, [1])]).sl.drops = 0 ∧
    (∀ f ∈ [([] : List Desc), [desc true 0]], let s := streamed { r with free := f } [(16, [1])]
      (s.ring' 16).stream 16 = true ∧ (s.ring' 16).state = .running ∧ (s.ring' 16).streamQ = [] ∧ (s.ring' 16).free = f ∧ (s.ring' 16).slotFree = true) ∧
    ((streamed {} [(16, [1])]).ring' 16).stream 16 = false ∧
    (let s := streamed { r with streamQ := [(0, [1])] } []; (s.ring' 31).streamQ = [(0, [1])] ∧ (s.ring' 31).free = [] ∧
      (s.atTime 0).now < 0 + 4 * 12800 ∧ 0 + 4 * 12800 ≤ (s.atTime 51200).now) := by
  decide +kernel

/-! ## Bands, cells, memory and journal -/

/-- A job whose next stream is that of entry 0, with room for r bytes and the feed limit at f. -/
def staging (r f : Nat) (h : Bool) : State :=
  { ready with
    job := some { job with dir := [{ entry 0 with streamLen := 64 }, entry 1], stagingSize := r, feedLimit := f }
    sl := { ready.sl with halted := h } }
def banded (l : List Band) : State := { staging 64 (2 ^ 20) false with bands := l }

theorem witness_BandEvents : ready.job = none ∧
    (∀ h ∈ [false, true], ∃ j d, (staging 63 (2 ^ 20) h).job = some j ∧ j.dir[j.stageAt]? = some d ∧ j.skips d.stripe = false ∧ d.empty = false ∧ j.stagingSize < d.streamLen) ∧
    (∃ j d, (staging 64 576 false).job = some j ∧ j.dir[j.stageAt]? = some d ∧ j.skips d.stripe = false ∧ d.empty = false ∧ j.stagedUsed + d.streamLen ≤ j.stagingSize ∧
      d.streamOffset + d.streamLen ≤ j.feedLimit ∧ ∀ e ∈ j.dir.drop (j.stageAt + 1), (e.stripe, e.band) ≠ (d.stripe, d.band)) ∧
    (∃ j d, (staging 64 575 false).job = some j ∧ j.dir[j.stageAt]? = some d ∧ d.streamLen ≤ j.stagingSize ∧ j.feedLimit < d.streamOffset + d.streamLen) := by
  refine ⟨by decide +kernel, fun h _ => ⟨_, _, rfl, rfl, by decide +kernel, by decide +kernel, by decide +kernel⟩,
    ⟨_, _, rfl, rfl, by decide +kernel, by decide +kernel, by decide +kernel, by decide +kernel, by decide +kernel⟩,
    ⟨_, _, rfl, rfl, by decide +kernel, by decide +kernel⟩⟩

/-- A stored stream of two blocks, the second of which holds the four bytes given. -/
def stream2 (d : List Byte) : List Byte :=
  let blk (k last : Nat) (d : List Byte) := [0x50, 0x42, 0, BitVec.ofNat 8 last] ++ leBytes 4 k ++ leBytes 4 (5 + d.length) ++ leBytes 4 d.length ++ [1] ++
    leBytes 2 d.length ++ leBytes 2 (0xFFFF - d.length) ++ d ++ [0, 0, 0] ++ leBytes 4 (crc32c d k)
  blk 0 0 [1, 2, 3, 4] ++ blk 1 1 d
def decodedAt (b : List Byte) (k : Nat) : Option (List Byte × Bool) := (decodeBlockAt b 0 k (rawBefore b k) 0).toOption
def decoding (b : List Byte) : Band := { band .rendering with stream := .decoding, staged := b }

/-- Stored DEFLATE blocks decode to the bytes that they hold (02 R54, R74). -/
theorem test_blocks : decodedAt (stream2 [5, 6, 7, 8]) 0 = some ([1, 2, 3, 4], false) ∧ decodedAt (stream2 [5, 6, 7, 8]) 1 = some ([5, 6, 7, 8], true) ∧
    decodedAt ((stream2 [5, 6, 7, 8]).set 21 9) 0 = none := by
  decide +kernel

theorem witness_BandEvents_blocks : (banded [decoding (stream2 [5, 6, 7, 8])]).bands.find? (·.stream == .staging) = none ∧
    (∀ b ∈ (banded [{ band .rendering with stream := .staging }]).bands, ((banded [b]).dirEnt b.stripe b.band).map (·.streamLen) = some 64) ∧
    (banded [{ band .rendering with stream := .staging }]).bands.find? (·.stream == .staging) = some { band .rendering with stream := .staging } ∧
    (banded []).band 0 0 = none ∧ (banded [band .rendering]).band 0 0 = some (band .rendering) ∧ (band .rendering).stream ≠ .decoding ∧
    (let b := decoding (stream2 [5, 6, 7, 8])
     (banded [b]).band 0 0 = some b ∧ b.stream = .decoding ∧ b.nextBlock ≤ 1 ∧ 1 < b.nextBlock + 16 ∧ b.decoded = [] ∧ blockOffset b.staged 1 < b.staged.length ∧
     b.damaged = false ∧ b.staged ≠ [] ∧ b.staged.length ≤ blockOffset b.staged 2 ∧ (((banded [b]).atTime 0).inject 1 0).1 = 0) ∧
    (let b := decoding (block 16 []); (banded [b]).band 0 0 = some b ∧ blockOffset b.staged 0 < b.staged.length ∧ decodedAt b.staged 0 = none) ∧
    (let b := decoding []; (banded [b]).band 0 0 = some b ∧ b.staged = [] ∧ b.nextBlock = 0 ∧ b.decoded = []) := by
  decide +kernel

def binning (l : List (Nat × Record)) (dropped : Bool) : Band := { band .rendering with stream := .done, render := .binning, records := l, pinsDropped := dropped }
def placing : List (Nat × Record) := [(0, .place 7 0 none 0 0 1 1 0 0 0 0)]
def tiling (l : List (Nat × Record)) : Band := { band .rendering with stream := .done, render := .tiling, records := l, working := [{ unit := 255, tile := 0, since := 0 }] }
/-- Cell 7 in a state. -/
def celled7 (c : CellState) (s : State) : State :=
  { s with cc := { s.cc with cells := [{ ent := { id := 7, hostAddr := 0, storedLen := 24, rawLen := 48, check := 0 }, state := c }] } }

theorem witness_BandEvents_binning : (∀ b ∈ (banded []).bands, b.render ≠ .binning) ∧ (banded []).nextToBin = none ∧
    (∀ d ∈ [false, true], (banded [binning [] d]).bands.find? (·.render == .binning) = some (binning [] d) ∧ (binning [] d).stream = .done ∧ (binning [] d).pinsDropped = d ∧
      ∀ x ∈ (banded [binning [] d]).bands, x = binning [] d) ∧
    (banded [binning placing false]).bands.find? (·.render == .binning) = some (binning placing false) := by
  decide +kernel

theorem witness_BandEvents_outcomes :
    (∃ r, binBand ready.look 0 0 1024 0 [] {} = (r, none) ∧ ([] : List (Nat × Record)).length ≤ r.taken) ∧
    (∃ r f a, binBand ready.look 0 0 1024 0 placing {} = (r, some (.fault f a))) ∧
    (∃ x, renderTile ready.look 0 0 1024 0 0 [] [] = .ok x) ∧ (∃ f a g, renderTile ready.look 0 0 1024 0 0 [(0, [0])] placing = .error (.fault f a, g)) ∧
    (∃ c g, renderTile (celled7 .fetching ready).look 0 0 1024 0 0 [(0, [0])] placing = .error (.wait c, g)) :=
  ⟨⟨_, rfl, by decide⟩, ⟨_, _, _, rfl⟩, ⟨_, rfl⟩, ⟨_, _, _, rfl⟩, ⟨_, _, rfl⟩⟩

theorem witness_BandEvents_tiles : (∀ l ∈ [[], placing], (banded [tiling l]).bands.find? (fun b => b.working.any (·.unit == 255)) = some (tiling l) ∧
      (tiling l).working.find? (·.unit == 255) = some { unit := 255, tile := 0, since := 0 } ∧ (∀ j ∈ (banded [tiling l]).fc.inject, j.count = 0)) ∧
    (∀ b ∈ (banded [tiling []]).bands, ∀ w ∈ b.working, w.unit ≠ 0) := by
  decide +kernel

/-! Cells. -/

def fetchable (pinned : Bool) (gib : Nat) : State :=
  let s := celled7 .absent (staging 64 0 false)
  { s with cc := { s.cc with queue := [(7, pinned)], sizeGib := gib } }
/-- Cell 7 with an entry, a state and the second read noted. -/
def cell7 (e : CellEnt) (c : CellState) (second : Bool) (d : List Byte) : State :=
  { staging 64 0 false with cc := { ready.cc with cells := [{ ent := e, state := c, second := second, stored := d }] } }
def ent7 (raw : Nat) (d : List Byte) : CellEnt := { id := 7, hostAddr := 0, storedLen := d.length, rawLen := raw, check := crc32c d 7 }
/-- A cell body: CELL_DEF of cell 7 and its end. -/
def body7 : List Byte :=
  let d : List Byte := [0x10, 0, 0, 0] ++ leBytes 4 32 ++ leBytes 4 7 ++ List.replicate 20 0 ++ [0x02, 0, 0, 0] ++ leBytes 4 16 ++ leBytes 4 1 ++ leBytes 4 0
  [0x50, 0x42, 1, 1] ++ leBytes 4 0 ++ leBytes 4 53 ++ leBytes 4 48 ++ [1] ++ leBytes 2 48 ++ leBytes 2 (0xFFFF - 48) ++ d ++ [0, 0, 0] ++ leBytes 4 (crc32c d 0)
def bodyAnswer (d : List Byte) : Option (Nat × Option FaultName) :=
  match (decodeBody d 7 65537 0 0 { records := [], rest := [], at' := 0 } (ready.atTime 0)).1 with
  | .ok r => some (r.2, none)
  | .error f => some (0, some f)

theorem witness_CellEvents : ready.cc.queue = [] ∧ (∀ p ∈ [false, true], let s := fetchable p 32
      s.cc.queue = [(7, p)] ∧ (s.cell 7).isSome = true ∧ s.sl.halted = false ∧ (s.cc.cells.filter (·.state == .fetching)).length < 256 ∧
      ((s.cc.cells.filter (·.busy)).map (·.ent.storedLen)).sum + 24 ≤ 2 ^ 28 ∧ ((s.atTime 0).allocCell p 48).isSome = true) ∧
    (((fetchable false 0).atTime 0).allocCell false 48).isSome = false ∧
    (let s := { fetchable false 32 with sl := { ready.sl with halted := true } }; s.sl.halted = true ∧ ∀ q ∈ s.cc.queue, (s.cell q.1).isSome) := by
  decide +kernel

theorem witness_CellEvents_done : (∀ second ∈ [false, true], let s := cell7 (ent7 48 [1, 2]) .fetching second []
      (s.cell 7).map (fun c => (c.state, c.second, c.ent.storedLen)) = some (.fetching, second, 2) ∧ s.sl.halted = false ∧
      (crc32c [1, 2] 7).xor (((s.atTime 0).inject 2 0).1 % 2 ^ 32) = (ent7 48 [1, 2]).check ∧ ((s.atTime 0).inject 2 0).1 = 0 ∧ crc32c [1, 3] 7 ≠ (ent7 48 [1, 2]).check) := by
  decide +kernel

theorem witness_CellEvents_pins : (ready.cell 7).isSome = false ∧ ((cell7 (ent7 48 body7) .decoding false body7).cell 7).map (·.state) = some .decoding ∧
    (∀ b ∈ ready.bands, b.pinsDropped = false) ∧
    (banded [{ band .rendering with pinsDropped := true, render := .waitPins }]).bands.find? (·.pinsDropped) = some { band .rendering with pinsDropped := true, render := .waitPins } ∧
    (∀ p ∈ [true], (((banded [{ band .rendering with pinsDropped := true }]).atTime 0).takePage p []).isSome = true) := by
  decide +kernel

/-- The length that a body decodes to, and a body that does not decode. -/
theorem witness_CellEvents_bodies : bodyAnswer body7 = some (48, none) ∧ bodyAnswer (block 20 []) = some (0, some .blkHdr) := by
  decide +kernel

/-! Memory and journal. -/

def written : State := { ready with dram := ready.dram.fill 0 }
/-- What turns a zero block 0 into one encoded under another address symbol. -/
def foreign (a : Word) : List Word := xorSyms (encodeBlock a (List.replicate 64 0)) (written.dram.symbols 0)

theorem witness_MemoryAndJournal_reads : written.dram.written 0 = true ∧ ready.dram.written 0 = false ∧ sparseGet 0 written.dram.mapCheck 0 = 0 ∧ written.memWf = true ∧
    (∀ j ∈ written.fc.inject, j.count = 0) ∧
    (∀ e ∈ [([], BlockRead.clean), ([1], .corrected 0), (List.replicate 9 0 ++ [1], .corrected 9), ([1, 2, 3], .uncorrectable), (foreign (addrSymbol 1), .misdirect),
      (foreign (addrSymbol 0 ^^^ poisonBit), .poison)], decodeBlock 0 (xorSyms (written.dram.symbols 0) e.1) = e.2) := by
  decide +kernel

def queued (l : List Req) (owed : Nat) : State :=
  { ready with dram := { ready.dram with sub := List.replicate 16 { queue := l, owed := owed } } }

theorem witness_MemoryAndJournal_queues : ready.dram.sub.length = 16 ∧ (∀ r ∈ (ready.dram.sub.getD 15 {}).queue, r.cls ≠ 0) ∧
    (∀ o ∈ [3, 4], (∃ r ∈ ((queued [{ block := 0, cls := 0, arrived := 0 }] o).dram.sub.getD 15 {}).queue, r.cls = 0) ∧ ((queued [{ block := 0, cls := 0, arrived := 0 }] o).dram.sub.getD 15 {}).owed = o) ∧
    (let a : Req := { block := 0, cls := 1, arrived := 0, promoted := true }
     let r : Req := { block := 0, cls := 1, arrived := 0 }
     ((queued [a, r] 0).dram.sub.getD 15 {}).queue = [a] ++ r :: [] ∧ a.promoted = true ∧ r.promoted = false ∧ r.arrived + 2 * 12800 ≤ ((queued [a, r] 0).atTime 25600).now) ∧
    (let s := { queued [] 0 with dram := { (queued [] 0).dram with sub := List.replicate 16 { active := some { block := 0, cls := 1, arrived := 0 } } } }
     (s.dram.sub.getD 15 {}).active = some { block := 0, cls := 1, arrived := 0 } ∧ (s.dram.sub.getD 15 {}).queue = []) ∧
    0 < ((queued [] 0).dram.sub.getD 15 {}).banks.length ∧ bankOf 0 = 0 ∧ rowOf 0 = 0 := by
  decide +kernel

def merging (l : List (Nat × Byte)) : State := { written with dram := { written.dram with merge := [{ block := 5, bytes := l, lastWrite := 0, cls := 0 }] } }
def waits (f : Nat) : JWait := { type := 5, key := 0, body := leBytes 8 0, fails := f }

theorem witness_MemoryAndJournal : written.memWf = true ∧ (List.replicate 64 (0 : Byte)).length = 64 ∧ ready.dram.entry 5 = none ∧
    (∀ l ∈ [[], (List.range 64).map fun i => (i, (1 : Byte))], ((merging l).dram.entry 5).isSome = true ∧ (merging l).memWf = true ∧ ((merging l).atTime 12799).now < 0 + 12800 ∧
      0 + 12800 ≤ ((merging l).atTime 12800).now) ∧
    ready.jr.queue = [] ∧ (∀ f ∈ [0, 1, 2], ({ ready with jr := { ready.jr with queue := [waits f] } } : State).jr.queue = [waits f] ∧ (waits f).fails = f) ∧
    ready.jr.active < ready.jr.basins.length ∧ ready.jr.needCompact = false ∧ ready.jr.activeBasin.append + recLength (waits 0).body.length + 16 * 2 ^ 20 ≤ basinSize ∧
    ready.jr.powerFail = false ∧ ready.jr.eraseLeft = 0 ∧ (∀ n ∈ [1, 2], ({ ready with jr := { ready.jr with eraseLeft := n } } : State).jr.eraseLeft ≠ 0) := by
  decide +kernel

theorem witness_StoreCommands_memory : 15 < ready.dram.sub.length ∧
    (let c := (queued [] 2).dram.sub.getD 15 {}; c.queue = [] ∧ c.owed ≠ 0) ∧
    (let r : Req := { block := 0, cls := 1, arrived := 0 }
     ((queued [r] 0).dram.sub.getD 15 {}).queue = [r] ∧ r.promoted = false ∧ r.arrived + 2 * 12800 ≤ ((queued [r] 0).atTime 25600).now) ∧
    ready.dram.written 0 = false ∧ written.dram.written 0 = true ∧ sparseGet 0 written.dram.mapCheck 0 = 0 ∧
    decodeBlock 0 (xorSyms (written.dram.symbols 0) []) = .clean ∧ ((merging []).dram.entry 5).isSome = true ∧ 0 + 12800 ≤ ((merging []).atTime 12800).now ∧
    ({ ready with jr := { ready.jr with queue := [waits 0], eraseLeft := 2 } } : State).jr.queue ≠ [] ∧ ready.jr.powerFail = false := by
  decide +kernel

theorem witness_FlashIssues_starts : (heldFor []).hem.stripe = some stripe ∧ (heldFor []).twin.active = true ∧ (heldFor []).hem.state = .held ∧ (heldFor []).arb.waits .heldAbandon = false ∧
    (let s := { waiting stripe with hem := { (waiting stripe).hem with committed := [flash 3 false] } }
     s.hem.committed = [flash 3 false] ∧ s.hem.stripe = some stripe ∧ (s.atTime 0).mayBegin = true ∧ stripe.sync = false) ∧
    (let s := { synced groupStripe 0 with hem := { (synced groupStripe 0).hem with committed := [flash 3 false] } }
     (s.atTime 0).mayBegin = true ∧ s.hem.begun = false ∧ groupStripe.sync = true ∧ s.eng.pairId ∉ s.ring.quarantined) := by
  decide +kernel

/-! ## The manual's worked examples and check values -/

def ascii : List Byte := [0x31, 0x32, 0x33, 0x34, 0x35, 0x36, 0x37, 0x38, 0x39]

/-- 02 R56, 05 R144: the check values over the nine bytes of "123456789". -/
theorem test_check_values : crc32c ascii 0 = 0xE3069283 ∧ crc64 0 ascii = 0x6C40DF5F0B497347 := by decide +kernel

/-- 00: P48 words, round_half_up against a shift; 11 R367: a difference of T8 values across the wrap. -/
theorem test_numbers : toBits 48 163840000 = 0x000009C40000 ∧ toBits 48 (-163840000) = 0xFFFFF63C0000 ∧ roundHalfUp (-640) 256 = -2 ∧ asr (-640) 8 = -3 ∧
    t8Diff 0x0000000100 0xFFFFFFFF00 = 512 := by
  decide +kernel

/-- 12 R388: SWAP 2 over the example's twelve bytes. -/
theorem test_swap : swapBytes 2 12 [0x11, 0x22, 0x33, 0x44, 0x55, 0x66, 0x77, 0x88, 0x99, 0xAA, 0xBB, 0xCC] =
    [0x44, 0x33, 0x22, 0x11, 0x88, 0x77, 0x66, 0x55, 0xCC, 0xBB, 0xAA, 0x99] := by decide +kernel

/-- 05 R533: the code of 24 bits corrects each single error and rejects two. -/
theorem test_ecc : (List.range 24).all (fun i => eccDecode 24 6 (checkBits 24 6 (2 ^ i)) == .corrected (some i)) = true ∧
    eccDecode 24 6 (checkBits 24 6 3) = .uncorrectable ∧ eccDecode 24 6 8 = .corrected none ∧
    (List.range 64).all (fun i => eccDecode 64 8 (checkBits 64 8 (2 ^ i)) == .corrected (some i)) = true := by
  decide +kernel

def body203 : List Byte :=
  [0x10, 0, 0, 0, 0x20, 0, 0, 0, 3, 2, 0, 0, 0, 0, 0, 0, 0, 0, 0, 0, 0, 0, 0, 0, 0, 4, 0, 0, 0, 8, 0, 0] ++
  [0x40, 0, 0, 0, 0x0C, 0, 0, 0, 1, 0, 0, 6] ++
  [0x21, 0, 0, 0, 0x20, 0, 0, 0, 1, 0, 0, 0, 0, 0, 0, 0, 0, 0, 0, 0, 0, 0, 0, 0, 0, 4, 0, 0, 0, 4, 0, 0] ++
  [0x20, 0, 0, 0, 0x28, 0, 0, 0, 1, 0, 0, 0, 0, 0, 0, 0, 0, 4, 0, 0, 0, 8, 0, 0, 0, 0, 0, 0, 0, 4, 0, 0, 0, 1, 0, 0, 0, 3, 0, 0] ++
  [2, 0, 0, 0, 0x10, 0, 0, 0, 4, 0, 0, 0, 0, 0, 0, 0]
def records203 : List (Nat × Record) :=
  [(0, .cellDef 0x203 0 0 0 1024 2048), (32, .doseLayer 1 1536), (44, .traps [(0, 1024, 0, 1024, 0, 1024)]), (76, .traps [(1024, 2048, 0, 1024, 256, 768)]),
    (116, .end_ 4)]

/-- 02, the worked encoding of a cell: its records, and the array placement of the band stream. -/
theorem test_worked_cell : scanRecords { cell := true, id1 := 0x203 } true 6 { records := [], rest := body203, at' := 0 } =
      { records := records203, rest := [], at' := 132 } ∧
    (parseRecord { cell := false, id1 := 0 } ([0x30, 1, 0, 0, 0x2C, 0, 0, 0, 3, 2, 0, 0, 1, 0, 0, 0, 0, 0x20, 0, 0, 0, 0x10, 0, 0] ++
      [3, 0, 2, 0, 0, 8, 0, 0, 0, 0, 0, 0, 0, 0, 0, 0, 0, 0x0C, 0, 0]) 0x30 44 1).toOption = some (.place 0x203 1 none 8192 4096 3 2 2048 0 0 3072) := by
  decide +kernel

/-- The coverage that a trapezoid gives pixel (c, r) of tile 0. -/
def coverage (f : Frame) (p : TilePos) (tr : Int × Int × Int × Int × Int × Int) (c r : Nat) : Option Nat :=
  (trapShape f p 0 0 tr).map fun g => ((rowSpans g p r).map fun sp => spanCov p.kx0 sp c).sum

/-- 04, the worked pixels: 40,960 of the rotated trapezoid, 32,640 of P and 32,896 of Q. -/
theorem test_worked_pixels : coverage { ox := 8192, oy := 4096, o := composeOrient 0 1 } (tilePos 0 0 4096 0) (1024, 2048, 0, 1024, 256, 768) 26 16 = some 40960 ∧
    coverage { ox := 12582912, oy := 7340032, o := 0 } (tilePos 3 7 4096 0) (10240, 10496, 25600, 25600, 25600, 25856) 100 40 = some 32640 ∧
    coverage { ox := 12582912, oy := 7340032, o := 0 } (tilePos 3 7 4096 0) (10240, 10496, 25600, 25856, 25856, 25856) 100 40 = some 32896 := by
  decide +kernel

/-- A Polder word of two doses with its check bits. -/
def polWord (lo hi : Nat) : Nat := lo + 4096 * hi + 2 ^ 24 * checkBits 24 6 (lo + 4096 * hi)
/-- The flash of 06's worked beam: the four pixels that the beam samples, and one upset word or none. -/
def flash8000 (upsets : List (Nat × Nat)) : FlashIn where
  m := 8000
  p := 1024
  th := 4295
  rx := 7
  ry := -7
  sram := [(wordAddr 257 8239 28783, polWord 0 1200), (wordAddr 257 8240 28783, polWord 1260 0), (wordAddr 257 8239 28784, polWord 0 1180), (wordAddr 257 8240 28784, polWord 1300 0)]
  upsets := upsets
  rows := 40960
  stored := fun _ => true
  dose := List.replicate 323 1 ++ [505] ++ List.replicate 321 2 ++ [77]
  suspect := []

/-- 06, the worked beam-flash: the deflector model, the landing, the sample and the codes without and with a stand-in share. -/
theorem test_worked_beam : deflStep 0 21606 false (5 * 65536) 12 = (478922, 7) ∧ deflStep 0 21606 false (-60 * 65536) (-130) = (-5444580, -83) ∧
    (landing (flash8000 []) 2109477 (-823317) 0 {}).1 = (2109483, 7368676) ∧ (sampleAt (flash8000 []) 257 2109483 7368676 {}).1 = 81783760 ∧
    (beamCode (flash8000 []) 257 530 (2109477, -823317) none {}).1 = 505 ∧
    (beamCode (flash8000 []) 257 530 (2109477, -823317) (some ((2109425, -831476), 8, 535)) {}).1 = 77 := by
  decide +kernel

/-- 05 R533, 06: one upset bit of a word that a beam reads is corrected, two are not. -/
theorem test_polder_upset : (beamCode (flash8000 [(wordAddr 257 8239 28783, 4096)]) 257 530 (2109477, -823317) none {}) = (505, { corrected := [1027610] }) ∧
    (beamCode (flash8000 [(wordAddr 257 8239 28783, 3)]) 257 530 (2109477, -823317) none {}).2.bad = [1027610] := by
  decide +kernel

def hem8000 : Hem := { phi := (8192000 - 3072) * 65536, omega := 858993459, q := { started := true, p := 8188838 * 65536, v := 858993459 } }
def doseCfg : HemCfg := { w0 := 256, t0 := 2880, v0 := 3300, aT := 26844, aV := 214748 }

/-- 07, the worked flash and dose factor: lead, raw position, factor, edges 0, 505 and 1,023, and the window of R220. -/
theorem test_worked_flash : roundHalfUp ((8192000 * 65536 - hem8000.phi) * 65536) hem8000.omega = 15360 ∧ roundHalfUp (hem8000.q.at' 15360) 65536 = 8191910 ∧
    doseCfg.factor 3264 3285 = 4302054172 ∧
    (let s := { State.reset with hem := { State.reset.hem with cfg := doseCfg, edge := { State.reset.hem.edge with entries := [0, 505 * 1024, 1023 * 1024] } } }
     s.edgeOffsets 4302054172 = [256, 2279, 4355] ∧ s.doseWindow = 4668) := by
  decide +kernel

/-- 08, the worked frame: its header, and the bytes that hold code 505. -/
theorem test_worked_frame :
    { State.reset with twin := { State.reset.twin with active := true } }.cuffHead 1 3 0x0132A5C0 3 7 0 (beBytes 3 (toBits 12 11 * 4096 + toBits 12 (-118))) =
      [0xF5, 0xD2, 0x11, 0x03, 0x01, 0x32, 0xA5, 0xC0, 0x00, 0x03, 0x00, 0x07, 0x00, 0x00, 0xBF, 0x8A] ∧
    (packCodes (List.replicate 256 0 ++ [3, 505, 960])).drop 320 = [0x00, 0xC0 + 0x1F, 0x90 + 0xF, 0x00] ++ List.replicate 316 0 := by
  decide +kernel

def port3 : Source :=
  { cfg := { enable := 1, scale := 107374182, latchDelay := 40 }, state := .valid, port := { pw := 25599248, tw := 512, haveWord := true, next := some (25600000, 24320, 43777, 2) } }

/-- 09, the worked port: two conversions, the velocity, and the samples at two ticks. -/
theorem test_worked_port : port3.scaled 25599248 = 163835187 ∧ port3.scaled 25600000 = 163839999 ∧ (port3.useWord 44288).port.v = 13246 ∧
    (let s := { State.reset with feed := { State.reset.feed with srcs := listUpd State.reset.feed.srcs 3 fun _ => port3 } }
     (((s.sampleSource 44288 3).sampleSource 44928 3).src 3).hist = [(44928, some 163844164), (44288, some 163844035)]) := by
  decide +kernel

/-- 10: a biquad that passes its input, and the worked D_min at 2,500, 2,363 and 2,364 kHz. -/
theorem test_worked_runup : (biquads [(4194304, 0, 0, 0, 0, 1)] [(0, 0, 0, 0)] 12345).1 = 12345 ∧
    ([2500, 2363, 2364].map fun f => { State.reset with br := { State.reset.br with
        axes := listUpd State.reset.br.axes State.reset.br.g.scanAxis fun a => { a with cfg := { a.cfg with aMax := 214748364800, jMax := 1073741824 } }
        g := { State.reset.br.g with cycUs := 10 } } }.runupMin
      { stripe := 3, sigmaX := 1, sigmaY := 1, p := 1024, sync := false, syncMask := 0, count := 100, fPlan := f, s0x := 0, s0y := 0, dRu := 0 }) =
      [9232384, 8387892, 8393913] := by
  decide +kernel

/-- 16, the worked tap delays. -/
theorem test_worked_taps : [409600, 349525, 305350, 270370, 242990, 220645].map (tapDelayOf (2 ^ 16) 409600) = [0, 901, 1790, 2700, 3595, 4490] := by
  decide +kernel

/-- DEFLATE with dynamic codes (02 R57; RFC 1951): the stream of another encoder. -/
theorem test_inflate : (inflate [0x55, 0x8D, 0x01, 0x0E, 0x00, 0x30, 0x04, 0x03, 0xDF, 0x7A, 0xF7, 0xFF, 0x47, 0x2C, 0x32, 0xB3, 0x12, 0xA2, 0x5A, 0x05, 0x50, 0xA4, 0x12, 0x1A, 0x58, 0xDC, 0x1B, 0x47, 0x7B, 0x8D, 0x56, 0x4D, 0xD2, 0xC4, 0xB3, 0x18, 0x9E, 0x15, 0xF9, 0xEC, 0xD6, 0xB6, 0xFC, 0xD3, 0x07] 160).toOption = some ([0x61, 0x61, 0x61, 0x62, 0x62, 0x61, 0x62, 0x61, 0x61, 0x62, 0x61, 0x61, 0x61, 0x61, 0x61, 0x62, 0x61, 0x61, 0x62, 0x61, 0x61, 0x62, 0x61, 0x62, 0x62, 0x61, 0x61, 0x61, 0x61, 0x61, 0x62, 0x61, 0x61, 0x62, 0x62, 0x61, 0x61, 0x62, 0x61, 0x61] ++ [0x61, 0x61, 0x61, 0x61, 0x62, 0x61, 0x61, 0x61, 0x61, 0x61, 0x61, 0x61, 0x61, 0x62, 0x62, 0x61, 0x61, 0x61, 0x61, 0x62, 0x61, 0x61, 0x61, 0x61, 0x61, 0x62, 0x61, 0x61, 0x61, 0x61, 0x61, 0x61, 0x62, 0x61, 0x61, 0x61, 0x61, 0x62, 0x61, 0x61] ++ [0x61, 0x61, 0x61, 0x61, 0x62, 0x62, 0x61, 0x61, 0x61, 0x61, 0x61, 0x61, 0x61, 0x61, 0x61, 0x61, 0x62, 0x61, 0x61, 0x61, 0x61, 0x61, 0x61, 0x61, 0x61, 0x61, 0x61, 0x61, 0x61, 0x61, 0x61, 0x61, 0x61, 0x61, 0x61, 0x61, 0x61, 0x61, 0x62, 0x61] ++ [0x61, 0x61, 0x61, 0x61, 0x62, 0x61, 0x61, 0x62, 0x61, 0x61, 0x61, 0x62, 0x61, 0x61, 0x61, 0x62, 0x62, 0x61, 0x61, 0x61, 0x61, 0x61, 0x61, 0x61, 0x61, 0x61, 0x61, 0x62, 0x61, 0x61, 0x62, 0x61, 0x61, 0x61, 0x61, 0x61, 0x62, 0x61, 0x61, 0x61]) := by
  decide +kernel

theorem witness_BlockCode : ∃ d : List Byte, d.length = 64 ∧ decodeBlock 5 (encodeBlock (addrSymbol 5) d) = .clean ∧
    symbolBytes (encodeBlock (addrSymbol 5) d) = d ∧
    decodeBlock 5 (xorSyms (encodeBlock (addrSymbol 5) d) [0, 0, 0, 0x30]) = .corrected 3 ∧
    decodeBlock 6 (encodeBlock (addrSymbol 5) d) = .misdirect ∧
    decodeBlock 5 (encodeBlock (addrSymbol 5 ^^^ poisonBit) d) = .poison :=
  ⟨(List.range 64).map byteOf, by decide +kernel⟩

end Sys2Proof.Tests
end

section
/-! PROOFS. 01 R33 and R35: the engine state changes only with the events of Table ARCH-5, a reset or a copy of the
peer's state. The frame lemmas of Laws/ show it for every operation that leaves the engine block alone; this part
adds the operations that write another field of that block, and what a row of the command set keeps. -/

namespace Sys2Proof.Machine
open Sys2Proof

/-! ## Operations that write the engine block and keep its state -/

@[simp] theorem State.tgoodUp_engState (s : State) : s.tgoodUp.eng.state = s.eng.state := by
  unfold State.tgoodUp
  split <;> simp

@[simp] theorem State.tgoodDrop_engState (flash : Nat) (s : State) : (s.tgoodDrop flash).eng.state = s.eng.state := by
  unfold State.tgoodDrop
  dsimp only
  split <;> simp

@[simp] theorem State.bootRom_engState (s : State) : s.bootRom.eng.state = s.eng.state := by
  unfold State.bootRom
  dsimp only
  (repeat' split) <;> simp

@[simp] theorem State.openJob_engState (j : Job) (s : State) : (s.openJob j).eng.state = s.eng.state := by
  simp [State.openJob]

@[simp] theorem State.decideJob_engState (r : Request) (j : Job) (s : State) :
    (s.decideJob r j).eng.state = s.eng.state := by
  unfold State.decideJob
  dsimp only
  (repeat' split) <;> simp

@[simp] theorem State.stripeAccepted_engState (st : Stripe) (s : State) :
    (s.stripeAccepted st).eng.state = s.eng.state := by
  simp [State.stripeAccepted, State.newStripeFlags]

@[simp] theorem State.acceptStripe_engState (st : Stripe) (s : State) :
    (s.acceptStripe st).eng.state = s.eng.state := by
  unfold State.acceptStripe
  dsimp only
  split <;> simp

/-! ## Operations that answer a state among other things -/

theorem State.moveData_eng {n : Nat} {d : Desc} {data : List Byte} {s u : State} (h : s.moveData n d data = some u) :
    u.eng = s.eng := by
  unfold State.moveData at h
  split at h
  · cases h
    simp
  · split at h
    next e =>
      cases h
      have heng := congrArg (fun x => x.2.eng) e
      simpa using heng.symm
    next => cases h

theorem allocCell_eng {b : Bool} {n : Nat} {r : List Nat × Nat × State} {s : State} (h : s.allocCell b n = some r) :
    r.2.2.eng = s.eng := by
  obtain ⟨-, heng, -⟩ := allocCell_frame h
  exact heng

theorem pinnedAlloc_eng {id n fuel : Nat} {r : Option (List Nat × Nat × State)} {o : Option Band} {s u : State}
    (h : State.pinnedAlloc id n fuel s = (r, u, o)) : u.eng = s.eng ∧ ∀ x, r = some x → x.2.2.eng = s.eng := by
  obtain ⟨-, hu, -, -, -, -, -, -, -, -, -, -, -, -, -, -, -, -, -, -, -, -, -, -, -, hr⟩ := pinnedAlloc_frame h
  exact ⟨hu, fun x hx => by rw [hr x hx, hu]⟩

theorem decodeBody_eng {stored : List Byte} {id n k total : Nat} {sc : RecScan} {s u : State}
    {r : Except FaultName (RecScan × Nat)} (h : decodeBody stored id n k total sc s = (r, u)) : u.eng = s.eng := by
  have hu : u = (decodeBody stored id n k total sc s).2 := by rw [h]
  simp [hu]

theorem tryPlan_eng {a : Nat} {st : AxisState} {pl : Plan} {after : Option Plan} {s u : State}
    (h : s.tryPlan a st pl after = .ok u) : u.eng = s.eng := by
  simp [tryPlan_frame h]

/-! ## Rows of the command set -/

/-- The step of a row of the command set keeps the engine state when the row's effect does: a request that is not at
work changes nothing, and a refusal is only a completion. -/
theorem CmdSpec.run_engState {c : CmdSpec} {t : Nat} {s u : State} {f : Request → List Byte → State → State}
    (h : (Host.Outcome.next (c.run (s.atTime t) f) : Res) = .next u)
    (hf : ∀ r b, (f r b (s.atTime t)).eng.state = s.eng.state) : u.eng.state = s.eng.state := by
  obtain rfl := Host.Outcome.next.inj h
  obtain hidle | ⟨r, st, -, hrefused⟩ | ⟨r, b, -, heffect⟩ := c.run_cases (s.atTime t) f
  · simp [hidle]
  · simp [hrefused]
  · rw [heffect, hf]

theorem CmdSpec.status'_engState {c : CmdSpec} {t : Nat} {s u : State} {body : State → List Byte}
    {clear : State → State}
    (h : (Host.Outcome.next (c.status' body clear (s.atTime t)) : Res) = .next u)
    (hclear : (clear (s.atTime t)).eng.state = s.eng.state) : u.eng.state = s.eng.state :=
  CmdSpec.run_engState h fun _ _ => by
    split <;> simp [hclear]

/-! ## Commands whose effect answers a state among other things -/

theorem execMove_engState {t : Nat} {s u : State} (h : execMove t s = .next u) : u.eng.state = s.eng.state := by
  refine CmdSpec.run_engState h fun r _ => ?_
  dsimp only
  (repeat' split)
  next => simp
  next => simp
  next e => simp [tryPlan_eng e]

theorem execHome_engState {t : Nat} {s u : State} (h : execHome t s = .next u) : u.eng.state = s.eng.state := by
  refine CmdSpec.run_engState h fun r _ => ?_
  dsimp only
  (repeat' split)
  next => simp
  next => simp
  next e => simp [tryPlan_eng e]

theorem execDescriptorComplete_engState {t n : Nat} {data : List Byte} {s u : State}
    (h : execDescriptorComplete t n data s = .next u) : u.eng.state = s.eng.state := by
  obtain rfl := Host.Outcome.next.inj h
  (repeat' split)
  next => simp
  next => simp
  next => simp
  next e => simp [State.moveData_eng e]
  next => simp

theorem execCellFetchStart_engState {t : Nat} {s u : State} (h : execCellFetchStart t s = .next u) :
    u.eng.state = s.eng.state := by
  simp only [execCellFetchStart, Host.Outcome.next.injEq] at h
  subst h
  (repeat' split)
  next => simp
  next => simp
  next => simp
  next e => simp [allocCell_eng e]
  next => simp
  next e => simp [(pinnedAlloc_eng e).2 _ rfl]
  next e => simp [(pinnedAlloc_eng e).1]
  next e => simp [(pinnedAlloc_eng e).1]

theorem execCellDecodeDone_engState {t cell : Nat} {s u : State} (h : execCellDecodeDone t cell s = .next u) :
    u.eng.state = s.eng.state := by
  simp only [execCellDecodeDone, Host.Outcome.next.injEq] at h
  subst h
  (repeat' split)
  next => simp
  next => simp
  next e => simp [decodeBody_eng e]
  next e _ => simp [decodeBody_eng e]
  next e _ => simp [decodeBody_eng e]

/-! ## Every command -/

/-- The cases, in order: the commands that may change the engine state; status commands; rows of the command set that
apply one operation; those with branches of their own; the commands of the part above; those that take a value and a
state from one operation; and every other command, whose arm is made of operations that keep the engine state. -/
theorem exec_engState {c : Instr} {s u : State} (hc : mayChangeState c = false) (h : exec c s = .next u) :
    u.eng.state = s.eng.state := by
  cases c with
  | powerUp | resetNAssert | resetNRelease | resetEntry | powerFailDetect | dieTempSample | bootComplete
    | calAttemptEnd | readyEntry | slack | faultAccept | escalationTimeout | watchdog | sampleTick | outputPhase
    | flashIssue | seamCauseAccept | stripeBegin | syncStartInstant | gussetHello | heartbeatSlot | state | stateEnd
    | setpoint | commit | withdraw | band | digest | check | time | gussetTakeover | gusGap | request | order | sleep
    | clearFault | stripePause | stripeAbort | calibrate | vstbyLoss => cases hc
  | timeStatus | configDigest | jobStatus | cacheStats | loomStats | polderStatus | shuttleStatus | hemStatus
    | cuffStatus | slackStatus | braceStatus | calStatus | journalStatus =>
    exact CmdSpec.status'_engState h (by simp)
  | reset | roleSwap | faultConfig | cuffRetrain | hemConfig | slackConfig | cacheConfig | feed | jobEnd
    | stripeResume | bandRetry | axisEnable | axisDisable | stop | probeArm | rcClear | calConfig | capture =>
    exact CmdSpec.run_engState h (by simp)
  | twinTimeConfig | faultInject | loadTable | loomConfig | polderConfig | shuttleConfig | cuffConfig | dikeLimits
    | jobStart | stripeStart | feedConfig | probeSwitchConfig | servoConfig | probeRead | compareLoad | rereference
    | memFreq | fwLoad | fwSelect | auditRead | captureCancel =>
    refine CmdSpec.run_engState h fun r b => ?_
    dsimp only
    (repeat' split) <;> simp
  | setCellDir =>
    refine CmdSpec.run_engState h fun r b => ?_
    (repeat' split) <;> simp
  | move => exact execMove_engState h
  | home => exact execHome_engState h
  | descriptorComplete => exact execDescriptorComplete_engState h
  | cellFetchStart => exact execCellFetchStart_engState h
  | cellDecodeDone => exact execCellDecodeDone_engState h
  | switchEdge | rxHello | rxTelem | rxLane | rxEvent | rxStuckOn | lead | leadTimeout | bar2Access | blockDecoded
    | dramRead =>
    simp only [exec, execSwitchEdge, execRxHello, execRxTelem, execRxLane, execRxEvent, execRxStuckOn, execLead,
      execLeadTimeout, execBar2Access, execBlockDecoded, execDramRead, Host.Outcome.next.injEq] at h
    subst h
    (repeat' split) <;> simp
  | _ =>
    obtain rfl := Host.Outcome.next.inj h
    (repeat' split) <;> simp

/-- Settles O7, by cases on the command. -/
theorem engineStateChangesOnlyOnItsEvents : Obligations.EngineStateChangesOnlyOnItsEvents := by
  intro c s u hc h
  exact exec_engState hc h

end Sys2Proof.Machine
end

section
/-! PROOFS. 01 R28 to R31: the guard that SLACK_CONFIG sets, with what decides on a row that the standby serves too,
and the slack monitor's window, published value and copy of the peer's. -/

namespace Sys2Proof.Machine
open Sys2Proof

/-! ## The checks of a configuration row (13 R531) -/

theorem State.readyNoStripe_iff {s : State} : s.readyNoStripe = true ↔ s.eng.state = .ready ∧ s.hem.stripe = none := by
  simp [State.readyNoStripe, State.isReady, State.stripeOpen]

/-- A request that is not for a status block and that no check refuses has passed its row's field conditions. -/
theorem CmdSpec.fieldsOk_of_refusal_none {c : CmdSpec} {r : Request} {s : State} (hc : c.status = false)
    (h : c.refusal r s = none) : c.fieldsOk r s = true := by
  unfold CmdSpec.refusal at h
  split_ifs at h <;> simp_all

theorem specSlackConfig_fieldsOk {r : Request} {s : State} :
    specSlackConfig.fieldsOk r s = true ↔ (8 ≤ fld r.params 0 1 ∧ fld r.params 0 1 ≤ 64) ∧ fld r.params 1 7 = 0 := by
  simp [specSlackConfig, between, zeroAt]

/-- Checks 4 to 9 of 13 R531 of a row that the standby serves too, once the others have passed: its field conditions
decide. -/
theorem CmdSpec.refusal_eq_fieldsOk {c : CmdSpec} {r : Request} {s : State} (hstatus : c.status = false)
    (hstandby : c.standby = true) (hlen : r.plen = c.plen) (hgroup : groupServed s.eng.state (c.opcode / 256) = true)
    (hstate : c.stateOk r s = true) (hlock : c.locked s = false) (hbusy : c.busy r s = false) :
    c.refusal r s = if c.fieldsOk r s = true then none else some stBadParam := by
  cases hf : c.fieldsOk r s <;> simp [CmdSpec.refusal, hstatus, hstandby, hlen, hgroup, hstate, hlock, hbusy, hf]

theorem specSlackConfig_refusal_ready {r : Request} {s : State} (hlen : r.plen = 8) (he : s.eng.state = .ready)
    (hs : s.hem.stripe = none) :
    specSlackConfig.refusal r s = if specSlackConfig.fieldsOk r s = true then none else some stBadParam :=
  CmdSpec.refusal_eq_fieldsOk rfl rfl hlen (by rw [he]; rfl) (State.readyNoStripe_iff.2 ⟨he, hs⟩) rfl rfl

/-- Settles O18: the checks refuse every SLACK_CONFIG but those of a guard from 8 to 64, and a refusal only completes. -/
theorem slackGuard : Obligations.SlackGuard := by
  unfold Obligations.SlackGuard
  intro t cur s ⟨hhalt, hcur, hop, hph⟩
  have hrefusal (hlen : cur.req.plen = 8) (he : s.eng.state = .ready) (hs : s.hem.stripe = none) :=
    specSlackConfig_refusal_ready (s := s.atTime t) hlen he hs
  refine ⟨fun hlen he hs hz h8 h64 => ?_, fun hlen he hs hg => ⟨?_, by simp⟩, fun u hu => ?_⟩
  · have hok : specSlackConfig.refusal cur.req (s.atTime t) = none := by
      rw [hrefusal hlen he hs, if_pos (specSlackConfig_fieldsOk.2 ⟨⟨h8, h64⟩, hz⟩)]
    exact congrArg Host.Outcome.next (CmdSpec.run_effect _ _ _ hhalt hcur hop hph hok)
  · have hbad : specSlackConfig.refusal cur.req (s.atTime t) = some stBadParam := by
      rw [hrefusal hlen he hs, if_neg (by rw [specSlackConfig_fieldsOk]; omega)]
    exact congrArg Host.Outcome.next (CmdSpec.run_refused _ _ _ hhalt hcur hop hph hbad)
  · obtain rfl := Host.Outcome.next.inj hu
    cases hr : specSlackConfig.refusal cur.req (s.atTime t) with
    | none =>
      obtain ⟨hg, -⟩ := specSlackConfig_fieldsOk.1 (CmdSpec.fieldsOk_of_refusal_none rfl hr)
      right
      rw [CmdSpec.run_effect _ _ _ hhalt hcur hop hph hr]
      simpa using hg
    | some st =>
      left
      rw [CmdSpec.run_refused _ _ _ hhalt hcur hop hph hr]
      simp

/-! ## The slack monitor (R28 to R31) -/

theorem Slack.publish_wMax (k : Slack) : k.publish.wMax = (k.window.map (·.2)).foldl max 0 := rfl

theorem Slack.publish_unmeasured {k : Slack} (h : k.measured < 4096) : k.publish.fSlackKhz = 0 := by
  simp [Slack.publish, h]

theorem Slack.publish_measured {k : Slack} (h : 4096 ≤ k.measured) (hw : k.publish.wMax ≠ 0) :
    k.publish.fSlackKhz = 256000000 / (k.publish.wMax * (256 + k.g)) := by
  rw [Slack.publish_wMax] at hw
  simp only [Slack.publish, if_neg (Nat.not_lt.2 h), if_neg hw]

theorem State.updSlack_same {f : Slack → Slack} {s : State} (h : f s.slack = s.slack) : s.updSlack f = s := by
  rw [State.updSlack, h]

theorem State.noteFlash_mem (f : Option Nat) (w : Nat) (s : State) : (f, w) ∈ (s.noteFlash f w).slack.window := by
  have h : (s.slack.window ++ [(f, w)]).length - 4096 ≤ s.slack.window.length := by
    simp
  simp only [State.noteFlash, List.drop_append_of_le_length h]
  exact List.mem_append_right _ (List.mem_singleton_self _)

theorem State.noteFlash_window_length (f : Option Nat) (w : Nat) (s : State) :
    (s.noteFlash f w).slack.window.length ≤ 4096 := by
  simp only [State.noteFlash, List.length_drop]
  omega

/-- Settles O35: what SLACK_PUBLISH computes of the window, and what a measured flash puts into it. -/
theorem slackMonitor : Obligations.SlackMonitor := by
  unfold Obligations.SlackMonitor
  intro t s
  refine ⟨⟨_, rfl, rfl, ?_, fun hm => ?_, fun hm hw => ?_⟩, fun w hwr hsl => ?_, fun w h => ?_, ?_⟩
  · simp [Slack.publish_wMax]
  · exact Slack.publish_unmeasured (by simpa using hm)
  · simpa using Slack.publish_measured (by simpa using hm) hw
  · have hexec : exec (.syntheticFlash t w) s = .next ((s.atTime t).noteFlash none w) := by
      simp [exec, execSyntheticFlash, hwr, hsl]
    exact ⟨_, hexec, rfl, State.noteFlash_mem _ _ _, State.noteFlash_window_length _ _ _, by simp [State.noteFlash]⟩
  · simp [exec, execSyntheticFlash, h]
  · by_cases hage : 3 ≤ s.slack.peerAge
    · simp [exec, execSlackPeerTimeout, State.updSlack, hage]
    · rw [if_neg hage]
      exact congrArg Host.Outcome.next (State.updSlack_same (if_neg hage))

end Sys2Proof.Machine
end

section
/-! PROOFS. 01 R26 with 07 R200, R205 to R210 and 11 R370, R371: how stripes begin, how Held is abandoned and how a Seam
and a group resume. Each operation has one lemma for each thing that it can do; a module that is passive (a standby, or
one without the stripe or the order that the command asks for) does nothing. -/

namespace Sys2Proof.Machine
open Sys2Proof

/-! ## HELD_TIMEOUT (07 R200) -/

theorem State.heldTimeout_passive {s : State} (h : s.hem.stripe = none ∨ s.twin.active = false) : s.heldTimeout = s := by
  unfold State.heldTimeout
  split
  · rfl
  next st hst =>
    have hactive : s.twin.active = false := h.resolve_left (by simp [hst])
    simp [hactive]

theorem State.heldTimeout_early {s : State}
    (h : s.hem.state ≠ .held ∨ s.now ≤ s.hem.heldSince + s.hem.cfg.heldTime * 12800) : s.heldTimeout = s := by
  unfold State.heldTimeout
  split
  · rfl
  next st _ =>
    refine if_neg fun hover => ?_
    simp only [Bool.and_eq_true, beq_iff_eq, decide_eq_true_eq] at hover
    obtain ⟨⟨hheld, -⟩, hlate⟩ := hover
    exact h.elim (fun hstate => hstate hheld) fun hearly => absurd hlate (Nat.not_lt.2 hearly)

theorem State.heldTimeout_late {s : State} {st : Stripe} (hst : s.hem.stripe = some st) (hactive : s.twin.active = true)
    (hheld : s.hem.state = .held) (hlate : s.hem.heldSince + s.hem.cfg.heldTime * 12800 < s.now) :
    ∃ depth, s.heldTimeout = s.abandonHeld depth := by
  unfold State.heldTimeout
  rw [hst]
  exact ⟨_, if_pos (by simp [hheld, hactive, hlate, usSteps])⟩

theorem State.abandonHeld_again {s : State} (depth : Int) (h : s.arb.waits .heldAbandon = true) :
    s.abandonHeld depth = s := if_pos h

theorem State.abandonHeld_first {s : State} (depth : Int) (h : s.arb.waits .heldAbandon = false) :
    s.abandonHeld depth = (s.raise .heldAbandon (toBits 48 depth)).cause .heldAbandon := if_neg (by simp [h])

/-! ## SEAM_RESUME_START (07 R205 to R207, R220) -/

theorem State.seamResume_passive {s : State} (h : s.hem.stripe = none ∨ s.twin.active = false) : s.seamResume = s := by
  unfold State.seamResume
  split
  · rfl
  next st hst =>
    have hactive : s.twin.active = false := h.resolve_left (by simp [hst])
    simp [State.standby, hactive]

theorem State.seamResume_waits {s : State} {st : Stripe} (hst : s.hem.stripe = some st) (hmay : s.mayResume st = false) :
    s.seamResume = s := by
  simp [State.seamResume, hst, hmay]

theorem State.seamResume_unfit {s : State} {st : Stripe} (hst : s.hem.stripe = some st) (hactive : s.twin.active = true)
    (hmay : s.mayResume st = true) (hunfit : period (min st.fPlan s.fCeil) < s.doseWindow) :
    s.seamResume =
      (s.raiseUnless s.hem.fitRaised .edgeFit s.doseWindow).updHem fun h => { h with fitRaised := true } := by
  simp [State.seamResume, State.standby, hst, hactive, hmay, hunfit]

theorem State.seamResume_runs {s : State} {st : Stripe} (hst : s.hem.stripe = some st) (hactive : s.twin.active = true)
    (hmay : s.mayResume st = true) (hfit : s.doseWindow ≤ period (min st.fPlan s.fCeil)) :
    s.seamResume = (s.updHem fun h => { h with
      state := .seamRun, seamStep := 5, fRun := min st.fPlan s.fCeil, resync := true, closed := false }).runMotion
        (min st.fPlan s.fCeil) := by
  simp [State.seamResume, State.standby, hst, hactive, hmay, Nat.not_lt.2 hfit]

/-- Brace's motion changes only Brace and, when its plan is refused, the queue of faults. -/
theorem State.runMotion_eq (f : Nat) (s : State) :
    s.runMotion f = { s with br := (s.runMotion f).br, arb := (s.runMotion f).arb } := by
  ext1 <;> simp

theorem State.raiseUnless_eq (done : Bool) (f : FaultName) (addr : Nat) (s : State) :
    s.raiseUnless done f addr = { s with arb := (s.raiseUnless done f addr).arb } := by
  cases done <;> rfl

theorem State.waits_raise (f : FaultName) (addr : Nat) (s : State) : (s.raise f addr).waits s.now f addr :=
  ⟨_, List.mem_append_right _ (List.mem_singleton_self _), rfl, rfl, rfl⟩

/-! ## The beginning of a stripe (01 R26, 07 R210) -/

theorem State.beginStripe_engState (s : State) : s.beginStripe.eng.state = .writing := by
  simp [State.beginStripe]

theorem State.beginStripe_hem (s : State) : s.beginStripe.hem =
    { s.hem with state := .runIn, begun := true, resync := true, armed := true, closed := false } := by
  simp [State.beginStripe]

theorem execStripeBegin_passive {t : Nat} {s : State} (h : s.hem.stripe = none ∨ s.twin.active = false) :
    execStripeBegin t s = .next (s.atTime t) := by
  refine congrArg Host.Outcome.next (if_neg ?_)
  obtain h | h := h <;> simp [State.standby, h]

theorem execStripeBegin_active {t : Nat} {s : State} {st : Stripe} (hst : s.hem.stripe = some st)
    (hactive : s.twin.active = true) : execStripeBegin t s =
      .next (if (s.atTime t).mayBegin = true ∧ st.sync = false then (s.atTime t).beginStripe else s.atTime t) := by
  simp [execStripeBegin, State.standby, hst, hactive]

/-! ## SYNC_START_INSTANT (11 R370) -/

theorem State.syncStart_passive {s : State}
    (h : s.ring.sync = none ∨ s.twin.active = false ∨ s.hem.begun = true) : s.syncStart = s := by
  unfold State.syncStart
  split
  · rfl
  next o ho =>
    refine if_pos ?_
    obtain h | h | h := h
    · simp [ho] at h
    · simp [State.standby, h]
    · simp [h]

theorem State.syncStart_early {s : State} {o : Ordered} (ho : s.ring.sync = some o)
    (hearly : t8Diff s.tu.t8 o.at' < 0) : s.syncStart = s := by
  simp [State.syncStart, ho, hearly]

/-- The stripe that the start names has been accepted here. -/
theorem State.syncAccepted_iff {s : State} {o : Ordered} :
    (s.hem.stripe.any fun st => st.sync && st.stripe == o.stripe) = true ↔
      ∃ st, s.hem.stripe = some st ∧ st.sync = true ∧ st.stripe = o.stripe := by
  simp [Option.any_eq_true]

section
variable {s : State} {o : Ordered} (ho : s.ring.sync = some o) (hactive : s.twin.active = true)
  (hbegun : s.hem.begun = false) (hdue : 0 ≤ t8Diff s.tu.t8 o.at')
include ho hactive hbegun hdue

theorem State.syncStart_admitted (hacc : ∃ st, s.hem.stripe = some st ∧ st.sync = true ∧ st.stripe = o.stripe)
    (hin : ¬(s.tu.excluded = true ∨ s.eng.pairId ∈ s.ring.quarantined)) :
    s.syncStart = if s.mayBegin = true then s.beginStripe else s := by
  rw [not_or] at hin
  simp [State.syncStart, State.standby, ho, hactive, hbegun, Int.not_lt.2 hdue, State.syncAccepted_iff.2 hacc, hin]

theorem State.syncStart_excluded (hacc : ∃ st, s.hem.stripe = some st ∧ st.sync = true ∧ st.stripe = o.stripe)
    (hout : s.tu.excluded = true ∨ s.eng.pairId ∈ s.ring.quarantined) :
    s.syncStart = s.updRing fun r => { r with sync := none, dropped := some o.stripe } := by
  obtain hout | hout := hout <;>
    simp [State.syncStart, State.standby, ho, hactive, hbegun, Int.not_lt.2 hdue, State.syncAccepted_iff.2 hacc, hout]

theorem State.syncStart_unknown (hacc : ¬∃ st, s.hem.stripe = some st ∧ st.sync = true ∧ st.stripe = o.stripe) :
    s.syncStart = (s.raise .stiStart (s.member * 2 ^ 40 + o.stripe)).updRing fun r =>
      { r with sync := none, dropped := some o.stripe } := by
  rw [← State.syncAccepted_iff, Bool.not_eq_true] at hacc
  simp [State.syncStart, State.standby, ho, hactive, hbegun, Int.not_lt.2 hdue, hacc]

end

/-! ## GROUP_RESUME_INSTANT (11 R371) -/

theorem execGroupResumeInstant_passive {t : Nat} {s : State} (h : s.ring.resumeAt = none ∨ s.twin.active = false) :
    execGroupResumeInstant t s = .next (s.atTime t) := by
  cases ho : s.ring.resumeAt with
  | none => simp [execGroupResumeInstant, ho]
  | some o =>
    have hactive : s.twin.active = false := h.resolve_left (by simp [ho])
    simp [execGroupResumeInstant, State.standby, ho, hactive]

theorem execGroupResumeInstant_early {t : Nat} {s : State} {o : Ordered} (ho : s.ring.resumeAt = some o)
    (hearly : t8Diff (s.atTime t).tu.t8 o.at' < 0) : execGroupResumeInstant t s = .next (s.atTime t) := by
  have ho' : (s.atTime t).ring.resumeAt = some o := by simpa using ho
  simp only [execGroupResumeInstant, ho', hearly, decide_true, Bool.true_or, if_true]

theorem execGroupResumeInstant_due {t : Nat} {s : State} {o : Ordered} (ho : s.ring.resumeAt = some o)
    (hactive : s.twin.active = true) (hdue : 0 ≤ t8Diff (s.atTime t).tu.t8 o.at') : execGroupResumeInstant t s =
      .next (((s.atTime t).updRing fun r => { r with resumeAt := none, groupHeld := false }).clearPause true) := by
  have ho' : (s.atTime t).ring.resumeAt = some o := by simpa using ho
  have hact : (s.atTime t).standby = false := by simp [State.standby, hactive]
  simp only [execGroupResumeInstant, ho', hact, Int.not_lt.2 hdue, decide_false, Bool.or_false, Bool.false_eq_true,
    if_false]

@[simp] theorem TimeUnit.ticks_excluded (u : TimeUnit) (k : Nat) : (u.ticks k).excluded = u.excluded := by
  unfold TimeUnit.ticks
  split <;> rfl

theorem State.beginStripe_atTime (t : Nat) (s : State) :
    let u := (s.atTime t).beginStripe
    u.eng.state = .writing ∧
      u.hem = { s.hem with state := .runIn, begun := true, resync := true, armed := true, closed := false } ∧
      u.mb = s.mb ∧ u.feed = s.feed ∧ u.bands = s.bands ∧ u.sh = s.sh ∧ u.cal = s.cal ∧ u.jr = s.jr ∧ u.job = s.job := by
  simp [State.beginStripe_engState, State.beginStripe_hem]

/-! ## The statement -/

/-- Settles O45, command by command, each from what its operation does in the case at hand. -/
theorem stripeStarts : Obligations.StripeStarts := by
  unfold Obligations.StripeStarts
  intro t s
  refine ⟨fun h => ⟨?_, ?_, execStripeBegin_passive h⟩, fun st hst hactive => ⟨?_, ?_, ?_, ?_, ?_, ?_, ?_⟩, fun h => ?_,
    fun o ho hactive hbegun => ⟨?_, ?_, ?_, ?_⟩, execGroupResumeInstant_passive, fun o ho hactive =>
      ⟨execGroupResumeInstant_early ho, execGroupResumeInstant_due ho hactive⟩⟩
  · exact congrArg Host.Outcome.next (State.heldTimeout_passive h)
  · exact congrArg Host.Outcome.next (State.seamResume_passive h)
  -- HELD_TIMEOUT
  · intro hheld hlate
    obtain ⟨depth, hd⟩ := State.heldTimeout_late (s := s.atTime t) hst hactive hheld hlate
    refine ⟨fun h => ⟨_, _, congrArg Host.Outcome.next (hd.trans (State.abandonHeld_first depth h)), rfl⟩, fun h => ?_⟩
    exact congrArg Host.Outcome.next (hd.trans (State.abandonHeld_again depth h))
  · exact fun h => congrArg Host.Outcome.next (State.heldTimeout_early h)
  -- SEAM_RESUME_START
  · intro hmay hfit
    refine ⟨_, congrArg Host.Outcome.next (State.seamResume_runs hst hactive hmay hfit), ?_, by simp⟩
    rw [State.runMotion_eq]
    rfl
  · intro hmay hunfit
    refine ⟨_, congrArg Host.Outcome.next (State.seamResume_unfit hst hactive hmay hunfit), ?_, fun hfirst => ?_⟩
    · rw [State.raiseUnless_eq]
      rfl
    · have hf : (s.atTime t).hem.fitRaised = false := by simpa using hfirst
      rw [hf]
      exact State.waits_raise _ _ (s.atTime t)
  · exact fun hmay => congrArg Host.Outcome.next (State.seamResume_waits hst hmay)
  -- STRIPE_BEGIN
  · intro hsync hmay
    have h := (execStripeBegin_active (t := t) hst hactive).trans (congrArg Host.Outcome.next (if_pos ⟨hmay, hsync⟩))
    exact ⟨_, h, State.beginStripe_atTime t s⟩
  · intro h
    refine (execStripeBegin_active hst hactive).trans (congrArg Host.Outcome.next (if_neg ?_))
    rintro ⟨hmay, hsync⟩
    simp [hmay, hsync] at h
  -- SYNC_START_INSTANT
  · exact congrArg Host.Outcome.next (State.syncStart_passive h)
  · exact fun hearly => congrArg Host.Outcome.next (State.syncStart_early ho hearly)
  · intro hdue hacc hin
    have h := State.syncStart_admitted (s := s.atTime t) ho hactive hbegun hdue hacc (by simpa using hin)
    refine ⟨fun hmay => ⟨_, congrArg Host.Outcome.next (h.trans (if_pos hmay)), State.beginStripe_atTime t s⟩, ?_⟩
    exact fun hmay => congrArg Host.Outcome.next (h.trans (if_neg (by simp [hmay])))
  · intro hdue hacc hout
    have h := State.syncStart_excluded (s := s.atTime t) ho hactive hbegun hdue hacc (by simpa using hout)
    exact congrArg Host.Outcome.next h
  · intro hdue hacc
    exact congrArg Host.Outcome.next (State.syncStart_unknown (s := s.atTime t) ho hactive hbegun hdue hacc)

end Sys2Proof.Machine
end

section
/-! PROOFS. 13 R418 with 02 R50, R52, 03 R85 to R88, R106 and 11 R350, R351: the cell directory is accepted or refused, a job
start waits in the background, and its decision opens the job or refuses it. -/

namespace Sys2Proof.Machine
open Sys2Proof

/-! ## Rows of the command set -/

/-- The step of a request that is at work and that no check refuses is its row's effect. -/
theorem CmdSpec.run_passes {c : CmdSpec} {cur : Current} {s : State} (h : c.Passes cur s)
    (f : Request → List Byte → State → State) : c.run s f = f cur.req cur.data s := by
  obtain ⟨⟨hhalt, hcur, hop, hphase⟩, hok⟩ := h
  exact c.run_effect s f hhalt hcur hop hphase hok

theorem CmdSpec.current_of_passes {c : CmdSpec} {cur : Current} {s : State} (h : c.Passes cur s) : s.cp.current = some cur := by
  obtain ⟨⟨-, hcur, -⟩, -⟩ := h
  exact hcur

theorem regionsFit_iff {gib staging entries : Nat} :
    regionsFit gib staging entries = true ↔ gib * 2 ^ 30 + staging + dirRegion entries ≤ 120 * 2 ^ 30 :=
  decide_eq_true_iff

/-! ## The cell directory (03 R88, R106) -/

theorem keptCell_ent (old : List Cell) (e : CellEnt) : (keptCell old e).ent = e := by
  unfold keptCell
  split
  · split <;> rfl
  · rfl

/-- Freed pages apart, freeing pages leaves the cache as it was. -/
theorem State.freePages_cc (pages : List Nat) (s : State) :
    { (s.freePages pages).cc with used := [] } = { s.cc with used := [] } :=
  foldl_keep (fun s => { s.cc with used := [] }) _ _ _ fun s p => by
    split <;> rfl

/-- The accepted directory stands in the cache, with its cells and no fetch queued. -/
theorem State.acceptDir_cc (d : CellDir) (s : State) :
    (s.acceptDir d).cc.dir = some d ∧ (s.acceptDir d).cc.dirFresh = true ∧ (s.acceptDir d).cc.queue = [] ∧
      (s.acceptDir d).cc.cells = d.entries.map (keptCell s.cc.cells) := by
  have h (u : State) := State.freePages_cc u.cc.used u
  exact ⟨congrArg Cache.dir (h _), congrArg Cache.dirFresh (h _), congrArg Cache.queue (h _), congrArg Cache.cells (h _)⟩

theorem State.acceptDir_entries (d : CellDir) (s : State) : (s.acceptDir d).cc.cells.map (·.ent) = d.entries := by
  obtain ⟨-, -, -, hcells⟩ := s.acceptDir_cc d
  simp [hcells, Function.comp_def, keptCell_ent]

section
variable {t : Nat} {cur : Current} {s : State} (h : specSetCellDir.Passes cur (s.atTime t))
include h

theorem execSetCellDir_bad {f : FaultName} {addr : Nat} (hbad : parseCellDir cur.data = .error (f, addr)) :
    execSetCellDir t s = .next (specSetCellDir.checkFail cur.req f addr (s.atTime t)) := by
  rw [execSetCellDir, CmdSpec.run_passes h]
  simp only [hbad]

theorem execSetCellDir_good {d : CellDir} (hd : parseCellDir cur.data = .ok d)
    (hfit : s.cc.sizeGib * 2 ^ 30 + dirRegion d.entries.length ≤ 120 * 2 ^ 30) :
    execSetCellDir t s = .next (specSetCellDir.done cur.req []
      (((s.atTime t).acceptDir d).toPeer (.check 2 (BitVec.ofNat 64 d.headerCrc.toNat)))) := by
  have hok : regionsFit (s.atTime t).cc.sizeGib 0 d.entries.length = true := regionsFit_iff.2 (by simpa using hfit)
  rw [execSetCellDir, CmdSpec.run_passes h]
  simp only [hd, if_pos hok]

end

/-! ## JOB_START (13 R418) -/

section
variable {t : Nat} {cur : Current} {s : State} (h : specJobStart.Passes cur (s.atTime t))
include h

theorem execJobStart_badHead {f : FaultName} {addr : Nat} (hbad : parseHead cur.data = .error (f, addr)) :
    execJobStart t s = .next (specJobStart.checkFail cur.req f addr (s.atTime t)) := by
  rw [execJobStart, CmdSpec.run_passes h]
  simp only [hbad]

variable {hd : Header} {dir : List DirEnt} (hhead : parseHead cur.data = .ok (hd, dir))
  (hlow : hd.stripeFirst ≤ (jobOf cur.req.params cur.data hd dir).first)
  (hhigh : (jobOf cur.req.params cur.data hd dir).first < hd.stripeFirst + hd.stripeCount)
include hhead hlow hhigh

theorem execJobStart_badTag (htag : (s.atTime t).dirTagBad hd = true) :
    execJobStart t s = .next (specJobStart.checkFail cur.req .dirTag 0 (s.atTime t)) := by
  rw [execJobStart, CmdSpec.run_passes h]
  simp [hhead, Nat.not_lt.2 hlow, Nat.not_le.2 hhigh, htag]

theorem execJobStart_good (htag : (s.atTime t).dirTagBad hd = false)
    (hfit : s.cc.sizeGib * 2 ^ 30 + (jobOf cur.req.params cur.data hd dir).stagingSize + dirRegion s.cc.dirEntries ≤ 120 * 2 ^ 30) :
    execJobStart t s = .next ((s.atTime t).startDeciding cur.req (jobOf cur.req.params cur.data hd dir)) := by
  have hok := regionsFit_iff.2 hfit
  rw [execJobStart, CmdSpec.run_passes h]
  simp [hhead, Nat.not_lt.2 hlow, Nat.not_le.2 hhigh, htag, hok]

end

theorem State.toPeer_alone {s : State} (h : s.twin.pair = .alone) (m : GMsg) : s.toPeer m = s :=
  if_pos h

/-- The start waits for its decision from this instant, and its request goes on in the background. -/
theorem State.startDeciding_cp {cur : Current} {s : State} (hcur : s.cp.current = some cur) (j : Job) :
    (s.startDeciding cur.req j).cp =
      { s.cp with deciding := some (j, s.now), bg := s.cp.bg ++ [cur], current := none } := by
  unfold State.startDeciding
  dsimp only
  (repeat' split) <;> simp [State.toBackground, hcur]

theorem State.startDeciding_twin_alone {s : State} (h : s.twin.pair = .alone) (r : Request) (j : Job) :
    (s.startDeciding r j).twin = s.twin := by
  unfold State.startDeciding
  dsimp only
  (repeat' split) <;> simp [State.toPeer_alone h, State.toBackground]

/-! ## The job that opens (02 R75) -/

/-- A job but for the progress of its staging. -/
def Job.unstaged (j : Job) : Job := { j with stageAt := 0, stagedUsed := 0 }

/-- The state's job but for the progress of its staging. -/
def State.unstagedJob (s : State) : Option Job := s.job.map Job.unstaged

theorem State.unstagedJob_congr {s u : State} (h : u.job = s.job) : u.unstagedJob = s.unstagedJob :=
  congrArg (Option.map Job.unstaged) h

theorem State.unstage_unstagedJob (stripe band : Nat) (s : State) : (s.unstage stripe band).unstagedJob = s.unstagedJob := by
  unfold State.unstage
  dsimp only
  split_ifs
  · exact Option.map_map ..
  · rfl

theorem State.dropBand_unstagedJob (stripe band : Nat) (s : State) : (s.dropBand stripe band).unstagedJob = s.unstagedJob :=
  (State.unstagedJob_congr (by simp [State.dropBand])).trans (s.unstage_unstagedJob stripe band)

theorem State.restartRing_unstagedJob (stripe : Nat) (s : State) : (s.restartRing stripe).unstagedJob = s.unstagedJob :=
  (State.unstagedJob_congr (by simp only [State.restartRing, State.takeIn_frame])).trans
    (foldl_keep State.unstagedJob _ (s.bands.filter fun b => b.polder != .outside) s fun s b => s.dropBand_unstagedJob b.stripe b.band)

theorem State.bandsOn_unstagedJob (s : State) : s.bandsOn.unstagedJob = s.unstagedJob :=
  State.unstagedJob_congr (by simp)

theorem State.passEmpties_unstagedJob (fuel : Nat) (s : State) : (s.passEmpties fuel).unstagedJob = s.unstagedJob := by
  induction fuel generalizing s with
  | zero => rfl
  | succ fuel ih =>
    unfold State.passEmpties
    split
    next => rfl
    next j hj =>
      split
      next => rfl
      next d _ =>
        split
        · rw [ih]
          split <;> simp [State.unstagedJob, State.updBand, hj, Job.unstaged]
        · rfl

/-- A job opens as it was parsed, but for the staging that begins. -/
theorem State.openJob_unstagedJob (j : Job) (s : State) : (s.openJob j).unstagedJob = some j.unstaged := by
  rw [State.openJob, State.bandsOn_unstagedJob, State.passAll, State.passEmpties_unstagedJob, State.restartRing_unstagedJob]
  rfl

theorem State.openJob_job (j : Job) (s : State) :
    ∃ j', (s.openJob j).job = some j' ∧ j'.hdr = j.hdr ∧ j'.dir = j.dir ∧ j'.next = j.next ∧ j'.feedLimit = j.feedLimit := by
  obtain ⟨j', hjob, hj⟩ := Option.map_eq_some_iff.1 (s.openJob_unstagedJob j)
  have same {β : Type} (f : Job → β) : f j'.unstaged = f j.unstaged := congrArg f hj
  exact ⟨j', hjob, same Job.hdr, same Job.dir, same Job.next, same Job.feedLimit⟩

theorem State.openJob_flashNext (j : Job) (s : State) : (s.openJob j).eng.flashNext = j.flashStart := by
  simp [State.openJob]

theorem State.openJob_epoch (j : Job) (s : State) : (s.openJob j).cf.epoch = 0 := by
  simp [State.openJob]

/-! ## The decision (13 R418, 11 R351) -/

theorem State.readyNoJob_iff {s : State} : s.readyNoJob = true ↔ s.eng.state = .ready ∧ s.job = none := by
  simp [State.readyNoJob, State.isReady, State.jobOpen]

section
variable {t since : Nat} {s : State} {j : Job} {r : Request}

theorem State.decideJob_opens (hactive : s.twin.active = true) (hpair : s.twin.pair ≠ .paired) (hready : s.readyNoJob = true) :
    s.decideJob r j = specJobStart.done r [] (s.endDeciding.openJob j) := by
  simp [State.decideJob, State.standby, State.paired, hactive, hpair, hready]

theorem State.decideJob_differs (hactive : s.twin.active = true) (hpair : s.twin.pair = .paired) (hready : s.readyNoJob = true)
    {item : Nat} (hitem : s.headDiffers j = some item) :
    s.decideJob r j = specJobStart.checkFail r .twinConfig (s.twinConfigAddr item) s.endDeciding := by
  simp [State.decideJob, State.standby, State.paired, hactive, hpair, hready, hitem]

variable (hdeciding : s.cp.deciding = some (j, since)) (hbg : s.background 0x0302 = some r)
include hdeciding hbg

theorem execJobDecision_eq (hhalt : s.cp.halted = false) : execJobDecision t s = .next ((s.atTime t).decideJob r j) := by
  have hbg' : (s.atTime t).background 0x0302 = some r := hbg
  simp [execJobDecision, hdeciding, hbg', hhalt]

theorem execJobStartTimeout_late (hhalt : s.cp.halted = false) (hstandby : s.twin.active = false)
    (hlate : since + 100000 * 12800 ≤ t) :
    execJobStartTimeout t s =
      .next (specJobStart.checkFail r .twinConfig ((s.atTime t).twinConfigAddr 1) (s.atTime t).endDeciding) := by
  have hbg' : (s.atTime t).background 0x0302 = some r := hbg
  have hwaited : ¬max s.now t < since + 100000 * usSteps := by
    simp only [usSteps]
    omega
  simp [execJobStartTimeout, hdeciding, hbg', hhalt, State.standby, hstandby, hwaited]

theorem execJobStartTimeout_early (hearly : max s.now t < since + 100000 * 12800) :
    execJobStartTimeout t s = .next (s.atTime t) := by
  have hbg' : (s.atTime t).background 0x0302 = some r := hbg
  simp [execJobStartTimeout, hdeciding, hbg', usSteps, hearly]

end

/-! ## The statement -/

/-- Settles O24, command by command, each from what its effect is in the case at hand. -/
theorem jobStarts : Obligations.JobStarts := by
  unfold Obligations.JobStarts
  intro t cur s
  refine ⟨fun h => ⟨fun f addr => execSetCellDir_bad h, fun d hd hfit => ?_⟩, fun h => ⟨fun f addr => execJobStart_badHead h, ?_⟩,
    fun j since r hdeciding hbg hhalt => ⟨?_, ?_, ?_, execJobStartTimeout_early hdeciding hbg⟩⟩
  -- SET_CELL_DIR
  · obtain ⟨hdir, hfresh, hqueue, -⟩ := (s.atTime t).acceptDir_cc d
    refine ⟨_, execSetCellDir_good h hd hfit, by apply State.ext <;> simp, ?_⟩
    simp [hdir, hfresh, hqueue, State.acceptDir_entries]
  -- JOB_START
  · intro hd dir hhead j hlow hhigh
    refine ⟨execJobStart_badTag h hhead hlow hhigh, fun htag hfit => ?_⟩
    refine ⟨_, execJobStart_good h hhead hlow hhigh htag hfit, by apply State.ext <;> simp, ?_⟩
    rw [State.startDeciding_cp (CmdSpec.current_of_passes h)]
    exact ⟨rfl, rfl, by simp, fun halone => State.startDeciding_twin_alone (s := s.atTime t) (by simpa using halone) _ _⟩
  -- JOB_DECISION
  · intro hactive hpair hready hjob
    have hdecide := State.decideJob_opens (s := s.atTime t) (r := r) (j := j) hactive hpair (State.readyNoJob_iff.2 ⟨hready, hjob⟩)
    refine ⟨_, (execJobDecision_eq hdeciding hbg hhalt).trans (congrArg Host.Outcome.next hdecide),
      State.openJob_job _ _, State.openJob_flashNext _ _, State.openJob_epoch _ _, ?_⟩
    simp [State.endDeciding]
  · intro hactive hpair hready hjob item hitem
    have hdecide := State.decideJob_differs (s := s.atTime t) (r := r) hactive hpair (State.readyNoJob_iff.2 ⟨hready, hjob⟩) hitem
    exact ⟨_, (execJobDecision_eq hdeciding hbg hhalt).trans (congrArg Host.Outcome.next hdecide)⟩
  -- JOB_START_TIMEOUT
  · exact fun hstandby hlate => ⟨_, execJobStartTimeout_late hdeciding hbg hhalt hstandby hlate⟩

end Sys2Proof.Machine
end

section
/-! PROOFS. 02 R46 with 13 R418 and R420: FEED, JOB_END and BAND_RETRY; what the operations on bands leave of a band. -/

namespace Sys2Proof.Machine
open Sys2Proof

/-! ## A band after an update of bands -/

theorem State.band_congr {s u : State} (h : u.bands = s.bands) (stripe band : Nat) : u.band stripe band = s.band stripe band := by
  rw [State.band, h, State.band]

/-- An update that keeps what a band is called reaches each band called so. -/
theorem State.band_updBand {f : Band → Band} (hf : ∀ b, (f b).stripe = b.stripe ∧ (f b).band = b.band)
    (stripe band st bd : Nat) (s : State) :
    (s.updBand stripe band f).band st bd =
      (s.band st bd).map fun b => if b.stripe == stripe && b.band == band then f b else b := by
  have hkey : ((fun b : Band => b.stripe == st && b.band == bd) ∘ fun b => if b.stripe == stripe && b.band == band then f b else b) =
      fun b => b.stripe == st && b.band == bd := by
    funext b
    obtain ⟨hs, hb⟩ := hf b
    dsimp only [Function.comp_apply]
    split <;> simp [hs, hb]
  rw [State.band, State.updBand, List.find?_map, hkey]
  rfl

theorem State.band_updBand_same {f : Band → Band} (hf : ∀ b, (f b).stripe = b.stripe ∧ (f b).band = b.band)
    {stripe band : Nat} {b : Band} {s : State} (h : s.band stripe band = some b) :
    (s.updBand stripe band f).band stripe band = some (f b) := by
  have hb : (b.stripe == stripe && b.band == band) = true :=
    List.find?_some (p := fun b : Band => b.stripe == stripe && b.band == band) h
  rw [State.band_updBand hf, h, Option.map_some, if_pos hb]

/-- What an update keeps of each band stays. -/
theorem State.band_updBand_keep {γ : Type} {π : Band → γ} {f : Band → Band}
    (hf : ∀ b, (f b).stripe = b.stripe ∧ (f b).band = b.band) (hπ : ∀ b, π (f b) = π b) (stripe band st bd : Nat) (s : State) :
    ((s.updBand stripe band f).band st bd).map π = (s.band st bd).map π := by
  rw [State.band_updBand hf, Option.map_map]
  congr 1
  funext b
  dsimp only [Function.comp_apply]
  split
  · exact hπ b
  · rfl

/-! ## The binner and the units go on -/

/-- What Polder and the cell cache hold of a band's render. -/
def Band.attemptView (b : Band) : BandState × Nat × Bool × Bool := (b.polder, b.attempt, b.retry, b.pinned)

theorem State.pumpBinner_attemptView (st bd : Nat) (s : State) :
    (s.pumpBinner.band st bd).map Band.attemptView = (s.band st bd).map Band.attemptView := by
  unfold State.pumpBinner
  split
  · rfl
  · refine State.band_updBand_keep (fun b => ?_) (fun b => ?_) ..
    · split <;> exact ⟨rfl, rfl⟩
    · split <;> rfl

theorem State.takeTile_attemptView (st bd unit : Nat) (s : State) :
    ((s.takeTile unit).band st bd).map Band.attemptView = (s.band st bd).map Band.attemptView := by
  unfold State.takeTile
  split
  · rfl
  · refine State.band_updBand_keep (fun b => ?_) (fun b => ?_) ..
    · split <;> exact ⟨rfl, rfl⟩
    · split <;> rfl

theorem State.bandsOn_attemptView (st bd : Nat) (s : State) :
    (s.bandsOn.band st bd).map Band.attemptView = (s.band st bd).map Band.attemptView :=
  (foldl_keep (fun s => (s.band st bd).map Band.attemptView) _ _ _ fun s unit => s.takeTile_attemptView st bd unit).trans
    (s.pumpBinner_attemptView st bd)

/-! ## Tiles that leave their units (04 R129) -/

/-- Nothing but bands and the counters of the cell cache and of Loom differs. -/
def State.TilesLeave (s u : State) : Prop :=
  ∃ bs cs ls, u = { s with bands := bs, cc := { s.cc with stats := cs }, loom := { s.loom with stats := ls } }

theorem State.TilesLeave.refl (s : State) : s.TilesLeave s := ⟨_, _, _, rfl⟩

theorem State.TilesLeave.trans {s u v : State} (h : s.TilesLeave u) (h' : u.TilesLeave v) : s.TilesLeave v := by
  obtain ⟨_, _, _, rfl⟩ := h
  obtain ⟨_, _, _, rfl⟩ := h'
  exact ⟨_, _, _, rfl⟩

theorem State.TilesLeave.foldl {β : Type} {f : State → β → State} (hf : ∀ (s : State) x, s.TilesLeave (f s x)) (l : List β) (s : State) :
    s.TilesLeave (l.foldl f s) := by
  induction l generalizing s with
  | nil => exact .refl s
  | cons x l ih => exact (hf s x).trans (ih _)

theorem State.leaveTile_tilesLeave (stripe band : Nat) (s : State) (w : Work) : s.TilesLeave (s.leaveTile stripe band w) :=
  ⟨_, _, _, rfl⟩

theorem State.idleUnits_tilesLeave (stripe band : Nat) (s : State) : s.TilesLeave (s.idleUnits stripe band) := by
  unfold State.idleUnits
  split
  · exact .foldl (State.leaveTile_tilesLeave stripe band) ..
  · exact .refl s

theorem State.idleUnits_idle {s : State} (h : ∀ b ∈ s.bands, b.working = []) (stripe band : Nat) : s.idleUnits stripe band = s := by
  unfold State.idleUnits
  split
  next b hb => rw [h b (List.mem_of_find?_eq_some hb), List.foldl_nil]
  next => rfl

/-! ## JOB_END (13 R418) -/

/-- Counters apart, what the end of a job leaves. -/
theorem State.closeJob_eq (s : State) :
    s.closeJob = { s with
      job := none, bands := [], pol := { s.pol with freeBelow := 0, enteredTo := 0 }
      cc := { s.cc with dirFresh := false, queue := [], stats := s.closeJob.cc.stats }
      loom := { s.loom with stats := s.closeJob.loom.stats }
      sh := { s.sh with slots := [{}, {}], waiting := none, before := [] }
      cp := { s.cp with capture := s.cp.capture.map fun c => if c.kind ≤ 2 ∧ c.ended = 0 then { c with ended := 4 } else c } } := by
  obtain ⟨bs, cs, ls, h⟩ : s.TilesLeave (s.bands.foldl (fun s b => s.idleUnits b.stripe b.band) s) :=
    .foldl (fun s (b : Band) => s.idleUnits_tilesLeave b.stripe b.band) ..
  simp [State.closeJob, h, State.updCc, State.shClear, State.endCapture, State.updCp, List.replicate]

theorem State.closeJob_idle {s : State} (h : s.bands.flatMap (·.working) = []) :
    s.closeJob.cc.stats = s.cc.stats ∧ s.closeJob.loom = s.loom := by
  have hfold : s.bands.foldl (fun s b => s.idleUnits b.stripe b.band) s = s :=
    List.foldl_fixed' (fun b : Band => State.idleUnits_idle (List.flatMap_eq_nil_iff.1 h) b.stripe b.band) _
  simp [State.closeJob, hfold]

/-! ## BAND_RETRY (05 R149) -/

theorem CmdSpec.stateOk_of_refusal_none {c : CmdSpec} {r : Request} {s : State} (hc : c.status = false)
    (h : c.refusal r s = none) : c.stateOk r s = true := by
  unfold CmdSpec.refusal at h
  split_ifs at h <;> simp_all

/-- A retry that no check refuses names a band. -/
theorem State.band_of_retryOk {r : Request} {s : State} (hstate : s.retryOk r = true)
    (hfields : specBandRetry.fieldsOk r s = true) : ∃ b, s.band (fld r.params 0 2) (fld r.params 2 2) = some b := by
  cases hst : s.hem.stripe with
  | none => simp [State.retryOk, hst] at hstate
  | some st =>
    simp only [specBandRetry, hst, Option.any_some, Bool.and_eq_true, beq_iff_eq] at hfields
    obtain ⟨hname, -⟩ := hfields
    simp only [State.retryOk, hst, hname, bne_self_eq_false, Bool.false_or, Bool.and_eq_true, Option.any_eq_true] at hstate
    obtain ⟨-, b, hb, -⟩ := hstate
    exact ⟨b, hb⟩

theorem State.ensureBand_of_band {stripe band : Nat} {b : Band} {s : State} (h : s.band stripe band = some b) :
    s.ensureBand stripe band = s := by
  simp [State.ensureBand, h]

theorem State.pinBand_band {stripe band : Nat} {b : Band} {s : State} (h : s.band stripe band = some b) :
    (s.pinBand stripe band).band stripe band = some { b with claimed := true, pinned := true, pinsDropped := false } := by
  have hupd := State.band_updBand_same (f := fun b => { b with claimed := true, pinned := true, pinsDropped := false }) (fun _ => ⟨rfl, rfl⟩) h
  rw [← hupd]
  unfold State.pinBand
  rw [State.ensureBand_of_band h]
  dsimp only
  split
  · exact State.band_congr (by simp) stripe band
  · rfl

theorem State.bandRetry_attemptView {stripe band : Nat} {b : Band} {s : State} (h : s.band stripe band = some b) :
    ((s.bandRetry stripe band).band stripe band).map Band.attemptView = some (.rendering, 1, true, true) := by
  have hbad : (s.retryBad b).band stripe band = some b := (State.band_congr (by simp) stripe band).trans h
  unfold State.bandRetry
  rw [h]
  dsimp only
  rw [State.bandsOn_attemptView, State.band_updBand_same ?_ (State.pinBand_band hbad)]
  · rfl
  · exact fun _ => ⟨rfl, rfl⟩

/-! ## The statement -/

/-- Settles O25, command by command: the state that each row's effect leaves, and for a retry the band that it names. -/
theorem jobCommands : Obligations.JobCommands := by
  unfold Obligations.JobCommands
  intro t cur s
  refine ⟨fun h => ⟨_, congrArg Host.Outcome.next (CmdSpec.run_passes h _), ?_⟩,
    fun h => ⟨_, congrArg Host.Outcome.next (CmdSpec.run_passes h _), ?_, (s.atTime t).closeJob_eq⟩,
    fun h => ⟨_, congrArg Host.Outcome.next (CmdSpec.run_passes h _), ?_, ?_⟩⟩
  -- FEED
  · apply State.ext <;> simp
  -- JOB_END
  · exact fun hidle => State.closeJob_idle (s := s.atTime t) hidle
  -- BAND_RETRY
  · apply State.ext <;> simp
  · obtain ⟨-, hok⟩ := h
    obtain ⟨b₀, hb₀⟩ := State.band_of_retryOk (CmdSpec.stateOk_of_refusal_none rfl hok) (CmdSpec.fieldsOk_of_refusal_none rfl hok)
    obtain ⟨b, hb, hview⟩ := Option.map_eq_some_iff.1 (State.bandRetry_attemptView hb₀)
    simp only [Band.attemptView, Prod.mk.injEq] at hview
    exact ⟨b, hb, hview⟩

end Sys2Proof.Machine
end

section
/-! PROOFS. 02 R74 to R79 and 04 R126 to R130: a band from its staging to its tiles. -/

namespace Sys2Proof.Machine
open Sys2Proof

/-- A band whose stream is staged, and that waits for the binner, while unit 255 is still at work on its tile 0, which
the binner had given the placement of cell 7 at record 0. -/
def bandAtWorkStaged : Band :=
  { stripe := 0, band := 0, stream := .staged, polder := .waiting
    records := [(0, .place 7 0 none 0 0 1 1 0 0 0 0)], binned := { refs := [(0, [0])] }
    working := [{ unit := 255, tile := 0, since := 0 }] }

/-- That band alone, with cell 7 in the directory and not yet fetched. -/
def stateAtWorkStaged : State :=
  { State.reset with
    bands := [bandAtWorkStaged]
    cc := { State.reset.cc with cells := [{ ent := { id := 7, hostAddr := 0, storedLen := 24, rawLen := 48, check := 0 } }] } }

/-- The tile stops on cell 7. -/
theorem stateAtWorkStaged_render : ∃ g,
    renderTile stateAtWorkStaged.look 0 0 stateAtWorkStaged.bandRows 0
      (((stateAtWorkStaged.dirEnt 0 0).map (·.streamOffset)).getD 0) [(0, [0])] bandAtWorkStaged.records = .error (.wait 7, g) :=
  ⟨_, rfl⟩

/-- In the same step the binner takes the band up and starts its stream over, which abandons the tile: no unit is at
work any more. -/
theorem stateAtWorkStaged_abandons :
    ∀ b ∈ ((stateAtWorkStaged.atTime 0).tileWritten 255 false).bandsOn.bands, b.working = [] := by
  decide +kernel

/-- Refutes O57: the clause that the unit of a tile that misses a cell waits is asked of every state, also of one where
the stream of the band at work stands staged. There the binner takes the band up at the end of TILE_WRITTEN, which
abandons the tile. -/
theorem not_bandEvents : ¬ Obligations.BandEvents := by
  unfold Obligations.BandEvents
  intro h
  obtain ⟨-, -, -, -, -, -, -, -, htile, -⟩ := h 0 stateAtWorkStaged
  obtain ⟨u, hu, -, -, -, -, hwait, -⟩ := htile 255 false bandAtWorkStaged { unit := 255, tile := 0, since := 0 }
    (by decide +kernel) (by decide +kernel) (by decide +kernel)
  obtain rfl := Host.Outcome.next.inj hu
  obtain ⟨g, hg⟩ := stateAtWorkStaged_render
  obtain ⟨-, b, hb, w, hw, -⟩ := hwait 7 g hg
  rw [stateAtWorkStaged_abandons b hb] at hw
  exact List.not_mem_nil hw

end Sys2Proof.Machine
end

section
/-! PROOFS. 03 R93 to R105: a cell from its fetch to Resident or Bad, and the pins of a band that dropped them. -/

namespace Sys2Proof.Machine
open Sys2Proof

/-! ## A cell after an update of the cells -/

/-- What is seen of a cell by its identity is what the list of the cells shows. -/
theorem State.cell_map {γ : Type} {π : Cell → γ} {key : γ → Nat} (hkey : ∀ c, key (π c) = c.ent.id) (id : Nat) (s : State) :
    (s.cell id).map π = (s.cc.cells.map π).find? fun x => key x == id := by
  rw [State.cell, List.find?_map]
  congr 2
  funext c
  rw [Function.comp_apply, hkey]

/-- Two states that show the same of every cell show the same of the one sought. -/
theorem State.cell_map_congr {γ : Type} {π : Cell → γ} {key : γ → Nat} (hkey : ∀ c, key (π c) = c.ent.id) {s u : State}
    (h : u.cc.cells.map π = s.cc.cells.map π) (id : Nat) : (u.cell id).map π = (s.cell id).map π := by
  rw [State.cell_map hkey, State.cell_map hkey, h]

theorem State.cell_congr {s u : State} (h : u.cc.cells = s.cc.cells) (id : Nat) : u.cell id = s.cell id := by
  rw [State.cell, h, State.cell]

@[simp] theorem State.atTime_cell (t id : Nat) (s : State) : (s.atTime t).cell id = s.cell id := rfl

theorem State.cell_updCell_same {f : Cell → Cell} (hf : ∀ c, (f c).ent = c.ent) {id : Nat} {c : Cell} {s : State}
    (h : s.cell id = some c) : (s.updCell id f).cell id = some (f c) := by
  have hkey : ((fun x : Cell => x.ent.id == id) ∘ fun x => if x.ent.id == id then f x else x) = fun x => x.ent.id == id := by
    funext x
    dsimp only [Function.comp_apply]
    split
    · rw [hf]
    · rfl
  have hid : (c.ent.id == id) = true := List.find?_some (p := fun x : Cell => x.ent.id == id) h
  have hfind : s.cc.cells.find? (fun x => x.ent.id == id) = some c := h
  rw [State.cell, State.updCell, State.updCc_cc, List.find?_map, hkey, hfind, Option.map_some, if_pos hid]

/-! ## Space for a cell (R93, R94, R104) -/

/-- What making space for a cell leaves of the cache: the directory's entries, and the counts of fetches begun. -/
def Cache.fetchView (cc : Cache) : List CellEnt × Nat × Nat :=
  (cc.cells.map (·.ent), cc.stats.prefetches, cc.stats.demandFetches)

@[simp] theorem State.evict_fetchView (page : Nat) (s : State) : (s.evict page).cc.fetchView = s.cc.fetchView := by
  have hent : (Cell.ent ∘ fun c => if c.held && c.pages.contains page then
      { c with state := .absent, pages := [], body := none, stored := [] } else c) = Cell.ent := by
    funext c
    dsimp only [Function.comp_apply]
    split <;> rfl
  simp only [Cache.fetchView, State.evict, State.ccStats_cc, State.updCc_cc, List.map_map, hent]

@[simp] theorem State.freePages_fetchView (pages : List Nat) (s : State) : (s.freePages pages).cc.fetchView = s.cc.fetchView :=
  foldl_keep (fun s => s.cc.fetchView) _ _ _ fun s p => by
    split <;> rfl

theorem takePage_fetchView {b : Bool} {kept : List Nat} {p : Nat} {s u : State} (h : s.takePage b kept = some (p, u)) :
    u.cc.fetchView = s.cc.fetchView := by
  unfold State.takePage at h
  dsimp only at h
  split at h
  next =>
    cases h
    rfl
  next =>
    obtain ⟨q, -, hq⟩ := Option.map_eq_some_iff.1 h
    cases hq
    exact s.evict_fetchView _

theorem takePages_fetchView {b : Bool} {n : Nat} {kept l : List Nat} {s u : State} (h : State.takePages b n kept s = some (l, u)) :
    u.cc.fetchView = s.cc.fetchView := by
  induction n generalizing s kept with
  | zero =>
    cases h
    rfl
  | succ n ih =>
    unfold State.takePages at h
    split at h
    next => cases h
    next e => exact (ih h).trans (takePage_fetchView e)

theorem newFill_fetchView {b : Bool} {n g : Nat} {l : List Nat} {s u : State} (h : s.newFill b n = some (l, g, u)) :
    u.cc.fetchView = s.cc.fetchView := by
  obtain ⟨⟨p, v⟩, hv, hu⟩ := Option.map_eq_some_iff.1 h
  cases hu
  rw [State.freePages_fetchView]
  exact (takePage_fetchView hv : v.cc.fetchView = s.cc.fetchView)

theorem allocCell_fetchView {b : Bool} {n g : Nat} {l : List Nat} {s u : State} (h : s.allocCell b n = some (l, g, u)) :
    u.cc.fetchView = s.cc.fetchView := by
  unfold State.allocCell at h
  split at h
  next =>
    obtain ⟨⟨p, v⟩, hv, hu⟩ := Option.map_eq_some_iff.1 h
    cases hu
    exact takePages_fetchView hv
  next =>
    dsimp only at h
    split at h
    next =>
      split at h
      next =>
        cases h
        rfl
      next => exact newFill_fetchView h
    next => exact newFill_fetchView h

/-! ## CELL_FETCH_START (R97, R99, R103 to R105) -/

/-- The fetch that comes first: the first pinned one of the queue, else the first one. -/
def Cache.firstFetch (cc : Cache) : Option (Nat × Bool) := (cc.queue.find? (·.2)).or cc.queue.head?

theorem Cache.firstFetch_pinned {cc : Cache} {id : Nat} (h : cc.queue.find? (·.2) = some (id, true)) :
    cc.firstFetch = some (id, true) := by
  simp [Cache.firstFetch, h]

theorem Cache.firstFetch_unpinned {cc : Cache} {id : Nat} (hall : ∀ q ∈ cc.queue, q.2 = false) (h : cc.queue.head? = some (id, false)) :
    cc.firstFetch = some (id, false) := by
  have hnone : cc.queue.find? (·.2) = none := by simpa using hall
  simp [Cache.firstFetch, hnone, h]

theorem Cache.firstFetch_mem {cc : Cache} {q : Nat × Bool} (h : cc.firstFetch = some q) : q ∈ cc.queue := by
  unfold Cache.firstFetch at h
  cases hpinned : cc.queue.find? (·.2) with
  | none =>
    rw [hpinned] at h
    exact List.mem_of_head? h
  | some p =>
    rw [hpinned] at h
    cases h
    exact List.mem_of_find?_eq_some hpinned

/-- A cell whose fetch begins, in its new pages. -/
def Cell.startFetch (pinned : Bool) (pages : List Nat) (granules : Nat) (c : Cell) : Cell :=
  { c with state := .fetching, second := false, pages := pages, granules := granules, prefetched := !pinned, lookedUp := false }

/-- The fetch of a cell begins, with the pages and granules taken for it. -/
def State.startFetch (id : Nat) (pinned : Bool) (pages : List Nat) (granules : Nat) (s : State) : State :=
  (((s.assignUnits.updCc fun cc => { cc with queue := cc.queue.filter (·.1 != id) }).updCell id (Cell.startFetch pinned pages granules)).ccStats fun k =>
    { k with demandFetches := k.demandFetches + pinned.toNat, prefetches := k.prefetches + (!pinned).toNat }).notePins

/-- 256 fetches at a time, of at most 2^28 stored bytes together (R97), while the host's transfers are not halted. -/
def State.mayFetch (c : Cell) (s : State) : Prop :=
  s.sl.halted = false ∧ (s.cc.cells.filter (·.state == .fetching)).length < 256 ∧
    ((s.cc.cells.filter (·.busy)).map (·.ent.storedLen)).sum + c.ent.storedLen ≤ 2 ^ 28

section
variable {t : Nat} {s : State}

theorem execCellFetchStart_empty (h : s.cc.queue = []) : execCellFetchStart t s = .next (s.atTime t) := by
  simp [execCellFetchStart, h]

theorem execCellFetchStart_halted (hhalt : s.sl.halted = true) (hcells : ∀ q ∈ s.cc.queue, (s.cell q.1).isSome) :
    execCellFetchStart t s = .next (s.atTime t) := by
  cases hfirst : s.cc.firstFetch with
  | none =>
    unfold Cache.firstFetch at hfirst
    simp [execCellFetchStart, hfirst]
  | some q =>
    obtain ⟨c, hc⟩ := Option.isSome_iff_exists.1 (hcells q (Cache.firstFetch_mem hfirst))
    unfold Cache.firstFetch at hfirst
    simp [execCellFetchStart, hfirst, hc, hhalt]

/-- With no space, a fetch that is not pinned stays queued. -/
theorem execCellFetchStart_noSpace {id : Nat} {c : Cell} (hfirst : s.cc.firstFetch = some (id, false)) (hc : s.cell id = some c)
    (hspace : (s.atTime t).allocCell false c.ent.rawLen = none) : execCellFetchStart t s = .next (s.atTime t) := by
  unfold Cache.firstFetch at hfirst
  simp [execCellFetchStart, hfirst, hc, hspace]

/-- With space at once, no pins are dropped. -/
theorem pinnedAlloc_of_allocCell {id n fuel : Nat} {r : List Nat × Nat × State} {s : State} (h : s.allocCell true n = some r) :
    s.pinnedAlloc id n (fuel + 1) = (some r, r.2.2, none) := by
  simp only [State.pinnedAlloc, h]

/-- With space, a fetch starts, pinned or not. -/
theorem execCellFetchStart_starts {id g : Nat} {pinned : Bool} {c : Cell} {l : List Nat} {v : State}
    (hfirst : s.cc.firstFetch = some (id, pinned)) (hc : s.cell id = some c)
    (hmay : s.mayFetch c) (hspace : (s.atTime t).allocCell pinned c.ent.rawLen = some (l, g, v)) :
    execCellFetchStart t s = .next (v.startFetch id pinned l g) := by
  obtain ⟨hhalt, hcount, htransit⟩ := hmay
  simp only [Nat.reducePow] at htransit
  unfold Cache.firstFetch at hfirst
  unfold State.startFetch Cell.startFetch
  cases pinned with
  | false => simp [execCellFetchStart, hfirst, hc, hspace, hhalt, hcount.not_ge, htransit.not_gt]
  | true => simp [execCellFetchStart, pinnedAlloc_of_allocCell hspace, hfirst, hc, hhalt, hcount.not_ge, htransit.not_gt]
end

/-- What the beginning of a fetch leaves: it changes the cache and the bands only; the fetch is queued no more, its cell is
Fetching in its new pages, and the fetch counts as a demand fetch when it is pinned, else as a prefetch. -/
theorem State.startFetch_spec {id n g : Nat} {pinned : Bool} {c : Cell} {l : List Nat} {s v : State} (hc : s.cell id = some c)
    (hspace : s.allocCell pinned n = some (l, g, v)) :
    let u := v.startFetch id pinned l g
    u = { s with cc := u.cc, bands := u.bands } ∧ (∀ q ∈ u.cc.queue, q.1 ≠ id) ∧
      (u.cell id).map (fun c => (c.state, c.second, c.pages, c.prefetched)) = some (.fetching, false, l, !pinned) ∧
      u.cc.stats.prefetches = s.cc.stats.prefetches + (!pinned).toNat ∧
      u.cc.stats.demandFetches = s.cc.stats.demandFetches + pinned.toNat := by
  have hview := allocCell_fetchView hspace
  simp only [Cache.fetchView, Prod.mk.injEq] at hview
  obtain ⟨hents, hpre, hdem⟩ := hview
  dsimp only
  refine ⟨?_, ?_, ?_, ?_, ?_⟩
  · ext1 <;> simp [State.startFetch, allocCell_frame hspace]
  · simp [State.startFetch, State.notePins, State.updCell]
  · have hent : (v.cell id).map Cell.ent = some c.ent := by
      rw [State.cell_map_congr (fun _ => rfl) hents, hc, Option.map_some]
    obtain ⟨d, hd, -⟩ := Option.map_eq_some_iff.1 hent
    have hd' : (v.assignUnits.updCc fun cc => { cc with queue := cc.queue.filter (·.1 != id) }).cell id = some d :=
      (State.cell_congr (by simp) id).trans hd
    have hu : (v.startFetch id pinned l g).cell id = some (d.startFetch pinned l g) :=
      (State.cell_congr (by simp [State.startFetch, State.notePins]) id).trans (State.cell_updCell_same (f := Cell.startFetch pinned l g) (fun _ => rfl) hd')
    rw [hu]
    rfl
  · simp [State.startFetch, State.notePins, State.updCell, hpre]
  · simp [State.startFetch, State.notePins, State.updCell, hdem]

/-- What CELL_FETCH_START leaves as it starts a fetch. -/
theorem execCellFetchStart_fetches {t id : Nat} {pinned : Bool} {c : Cell} {r : List Nat × Nat × State} {s : State}
    (hfirst : s.cc.firstFetch = some (id, pinned)) (hc : s.cell id = some c)
    (hmay : s.mayFetch c) (hspace : (s.atTime t).allocCell pinned c.ent.rawLen = some r) :
    ∃ u, execCellFetchStart t s = .next u ∧ u = { s.atTime t with cc := u.cc, bands := u.bands } ∧ (∀ q ∈ u.cc.queue, q.1 ≠ id) ∧
      (u.cell id).map (fun c => (c.state, c.second, c.pages, c.prefetched)) = some (.fetching, false, r.1, !pinned) ∧
      u.cc.stats.prefetches = s.cc.stats.prefetches + (!pinned).toNat ∧
      u.cc.stats.demandFetches = s.cc.stats.demandFetches + pinned.toNat :=
  ⟨_, execCellFetchStart_starts hfirst hc hmay hspace, State.startFetch_spec (s := s.atTime t) hc hspace⟩

/-! ## What a band's failing leaves of the cell cache -/

/-- What is stored of a cell. -/
def Cell.content (c : Cell) : CellEnt × CellState × List Byte × Option CellBody := (c.ent, c.state, c.stored, c.body)

/-- What only the events of a cell's fetch and its decoding change: what is stored of each cell, and the counts of bytes and of
Bad cells. -/
def Cache.store (cc : Cache) : List (CellEnt × CellState × List Byte × Option CellBody) × Nat × Nat × Nat :=
  (cc.cells.map Cell.content, cc.stats.storedBytes, cc.stats.decodedBytes, cc.stats.badCells)

@[simp] theorem Cache.enqueue_store (id : Nat) (pinned : Bool) (cc : Cache) : (cc.enqueue id pinned).store = cc.store := by
  unfold Cache.enqueue
  split <;> rfl

@[simp] theorem State.demoteQueue_store (s : State) : s.demoteQueue.cc.store = s.cc.store := rfl

@[simp] theorem State.notePins_store (s : State) : s.notePins.cc.store = s.cc.store := rfl

@[simp] theorem State.queueFetch_store (id : Nat) (pinned : Bool) (s : State) : (s.queueFetch id pinned).cc.store = s.cc.store := by
  unfold State.queueFetch
  split
  · rfl
  · split <;> simp

@[simp] theorem State.leaveTile_store (stripe band : Nat) (w : Work) (s : State) : (s.leaveTile stripe band w).cc.store = s.cc.store := rfl

@[simp] theorem State.idleUnits_store (stripe band : Nat) (s : State) : (s.idleUnits stripe band).cc.store = s.cc.store := by
  unfold State.idleUnits
  split
  · exact foldl_keep (fun s => s.cc.store) _ _ _ fun s w => s.leaveTile_store stripe band w
  · rfl

@[simp] theorem State.retryBad_store (b : Band) (s : State) : (s.retryBad b).cc.store = s.cc.store :=
  foldl_keep (fun s => s.cc.store) _ _ _ fun s id => by
    split
    · split <;> simp
    · rfl

@[simp] theorem State.bandFault_store (stripe band : Nat) (failed : Bool) (s : State) :
    (s.bandFault stripe band failed).cc.store = s.cc.store := by
  unfold State.bandFault
  dsimp only
  split <;> simp

@[simp] theorem State.renderFailed_store (stripe band : Nat) (failed : Bool) (s : State) :
    (s.renderFailed stripe band failed).cc.store = s.cc.store := by
  unfold State.renderFailed
  dsimp only
  (repeat' split) <;> simp

@[simp] theorem State.failStream_store (stripe band : Nat) (s : State) : (s.failStream stripe band).cc.store = s.cc.store := by
  simp [State.failStream]

@[simp] theorem State.freePages_store (pages : List Nat) (s : State) : (s.freePages pages).cc.store = s.cc.store :=
  foldl_keep (fun s => s.cc.store) _ _ _ fun s p => by
    split <;> rfl

/-! ## What the binner leaves of the cell cache -/

theorem State.updCell_store {f : Cell → Cell} (hf : ∀ c, (f c).content = c.content) (id : Nat) (s : State) :
    (s.updCell id f).cc.store = s.cc.store := by
  have hcontent : (Cell.content ∘ fun c => if c.ent.id == id then f c else c) = Cell.content := by
    funext c
    dsimp only [Function.comp_apply]
    split
    · exact hf c
    · rfl
  simp only [Cache.store, State.updCell, State.updCc_cc, List.map_map, hcontent]

@[simp] theorem State.lookups_store (ids : List Nat) (s : State) : (s.lookups ids).cc.store = s.cc.store :=
  foldl_keep (fun s => s.cc.store) _ _ _ fun s id =>
    State.updCell_store (f := fun c => { c with stamp := (s.cc.counter + 1) % 2 ^ 64, lookedUp := true }) (fun _ => rfl) id
      (s.updCc fun c => { c with counter := (s.cc.counter + 1) % 2 ^ 64 })

@[simp] theorem State.reach_store (stripe band : Nat) (ids : List Nat) (s : State) : (s.reach stripe band ids).cc.store = s.cc.store := by
  simp [State.reach]

@[simp] theorem State.renderStop_store (stripe band : Nat) (e : RenderStop) (s : State) :
    (s.renderStop stripe band e).cc.store = s.cc.store := by
  unfold State.renderStop
  split <;> simp

@[simp] theorem State.binNow_store (s : State) : s.binNow.cc.store = s.cc.store := by
  unfold State.binNow
  dsimp only
  (repeat' split) <;> simp

@[simp] theorem State.endWaits_store (id : Nat) (s : State) : (s.endWaits id).cc.store = s.cc.store := rfl

/-! ## A fault that waits goes on to wait -/

section
variable {at' addr : Nat} {f : FaultName} {s u : State}

theorem State.waits_congr (h : u.arb = s.arb) : u.waits at' f addr ↔ s.waits at' f addr := by
  rw [State.waits, h, State.waits]

theorem State.waits.raise (h : s.waits at' f addr) (g : FaultName) (a : Nat) : (s.raise g a).waits at' f addr := by
  obtain ⟨r, hr, hwait⟩ := h
  exact ⟨r, List.mem_append_left _ hr, hwait⟩

/-- An event of the arbiter gives waiting faults their sequence numbers, and changes nothing else of them. -/
theorem State.waits.event (h : s.waits at' f addr) (e : EventName) : (s.event e).waits at' f addr := by
  obtain ⟨r, hr, hwait⟩ := h
  obtain ⟨i, hi, rfl⟩ := List.mem_iff_getElem.1 hr
  refine ⟨_, List.mem_map_of_mem (List.mem_zipIdx_iff_getElem?.2 (List.getElem?_eq_getElem hi) : (s.arb.faultQ[i], i) ∈ _), ?_⟩
  dsimp only
  split <;> exact hwait

/-- A band report is one event of the arbiter, for a band that is listed. -/
theorem State.report_arb (stripe band outcome : Nat) (failed : Bool) (s : State) :
    (s.report stripe band outcome failed).arb = s.arb ∨ ∃ e, (s.report stripe band outcome failed).arb = (s.event e).arb := by
  unfold State.report
  split
  · exact .inl rfl
  · exact .inr ⟨.band stripe band outcome, by simp [State.seqFor, State.stamp]⟩

theorem State.waits.report (h : s.waits at' f addr) (stripe band outcome : Nat) (failed : Bool) :
    (s.report stripe band outcome failed).waits at' f addr := by
  obtain hsame | ⟨e, hevent⟩ := s.report_arb stripe band outcome failed
  · exact (State.waits_congr hsame).2 h
  · exact (State.waits_congr hevent).2 (h.event e)

theorem State.waits.bandFault (h : s.waits at' f addr) (stripe band : Nat) (failed : Bool) :
    (s.bandFault stripe band failed).waits at' f addr := by
  have hidle : (s.idleUnits stripe band).waits at' f addr := (State.waits_congr (by simp)).2 h
  have hraise := hidle.raise .bandFault (addrBand stripe band)
  unfold State.bandFault
  dsimp only
  split <;> exact State.waits.report ((State.waits_congr (by simp)).2 hraise) ..

theorem State.waits.renderFailed (h : s.waits at' f addr) (stripe band : Nat) (failed : Bool) :
    (s.renderFailed stripe band failed).waits at' f addr := by
  unfold State.renderFailed
  split
  next => exact h
  next b hb =>
    split
    next =>
      have hreport : (((s.raise .bandMismatch (addrBand stripe band)).polStats fun t => { t with reweaves := t.reweaves + 1 }).report
          stripe band 2 failed).waits at' f addr :=
        State.waits.report ((State.waits_congr (by simp)).2 (h.raise .bandMismatch (addrBand stripe band))) ..
      dsimp only
      split
      next => exact State.waits.bandFault ((State.waits_congr (by simp)).2 hreport) ..
      next => exact (State.waits_congr (by simp)).2 hreport
    next =>
      split
      next => exact h.bandFault ..
      next => exact h

theorem State.waits.failStream (h : s.waits at' f addr) (stripe band : Nat) : (s.failStream stripe band).waits at' f addr :=
  State.waits.renderFailed ((State.waits_congr (by simp)).2 h) ..

end

/-! ## A cell becomes Bad (R94, R95, R100) -/

theorem State.foldl_failStream_store (l : List Band) (s : State) :
    (l.foldl (fun s b => s.failStream b.stripe b.band) s).cc.store = s.cc.store :=
  foldl_keep (fun s => s.cc.store) _ l s fun s b => s.failStream_store b.stripe b.band

theorem State.waits.foldl_failStream {at' addr : Nat} {f : FaultName} {s : State} (h : s.waits at' f addr) (l : List Band) :
    (l.foldl (fun s b => s.failStream b.stripe b.band) s).waits at' f addr := by
  induction l generalizing s with
  | nil => exact h
  | cons b l ih => exact ih (h.failStream b.stripe b.band)

theorem Cache.store_eq_iff {cc cc' : Cache} : cc'.store = cc.store ↔
    cc'.cells.map Cell.content = cc.cells.map Cell.content ∧ cc'.stats.storedBytes = cc.stats.storedBytes ∧
      cc'.stats.decodedBytes = cc.stats.decodedBytes ∧ cc'.stats.badCells = cc.stats.badCells := by
  simp [Cache.store]

/-- A cell that becomes Bad counts once as Bad, whatever streams fail with it. -/
theorem State.cellBad_stats (id : Nat) (f : FaultName) (s : State) :
    (s.cellBad id f).bandsOn.cc.stats.storedBytes = s.cc.stats.storedBytes ∧
      (s.cellBad id f).bandsOn.cc.stats.badCells = s.cc.stats.badCells + 1 := by
  have hcc : (s.cellBad id f).bandsOn.cc = (s.cellBad id f).cc := by simp
  obtain ⟨-, hstored, -, hbad⟩ := Cache.store_eq_iff.1 ((State.foldl_failStream_store _ _).trans (State.freePages_store _ _) :
    (s.cellBad id f).cc.store = _)
  rw [hcc]
  exact ⟨hstored, hbad⟩

/-- The fault of a cell that becomes Bad waits. -/
theorem State.cellBad_waits (id : Nat) (f : FaultName) (s : State) : (s.cellBad id f).bandsOn.waits s.now f id :=
  have hraised : (s.cellBad id f).waits s.now f id :=
    State.waits.foldl_failStream ((State.waits_congr (by simp)).2 (s.waits_raise f id)) _
  (State.waits_congr (by simp)).2 hraised

/-! ## CELL_FETCH_DONE (R97) -/

/-- Whether the stored bytes that arrived have the check and the length of the cell's entry. -/
def State.goodBytes (id : Nat) (data : List Byte) (c : Cell) (s : State) : Bool :=
  (crc32c data id).xor ((s.inject 2 0).1 % 2 ^ 32) = c.ent.check && data.length = c.ent.storedLen

theorem State.goodBytes_iff {id : Nat} {data : List Byte} {c : Cell} {s : State} : s.goodBytes id data c = true ↔
    (crc32c data id).xor ((s.inject 2 0).1 % 2 ^ 32) = c.ent.check ∧ data.length = c.ent.storedLen := by
  rw [State.goodBytes, Bool.and_eq_true, decide_eq_true_eq, decide_eq_true_eq]

/-- The stored bytes of a cell are read and checked. -/
def State.readStored (c : Cell) (s : State) : State :=
  ((s.ccStats fun k => { k with storedBytes := k.storedBytes + c.ent.storedLen }).inject 2 0).2

section
variable {t id : Nat} {data : List Byte} {s : State}

theorem execCellFetchDone_idle (h : (∀ c, s.cell id = some c → c.state ≠ .fetching) ∨ s.sl.halted = true) :
    execCellFetchDone t id data s = .next (s.atTime t) := by
  cases hc : s.cell id with
  | none => simp [execCellFetchDone, hc]
  | some c => simp [execCellFetchDone, hc, h.imp_left fun hstate => hstate c hc]

/-- What CELL_FETCH_DONE makes of the bytes of a cell that is Fetching. -/
theorem execCellFetchDone_fetching {c : Cell} (hc : s.cell id = some c) (hstate : c.state = .fetching) (hhalt : s.sl.halted = false) :
    execCellFetchDone t id data s = .next (
      let v := (s.atTime t).readStored c
      if (s.atTime t).goodBytes id data c then v.updCell id fun c => { c with state := .decoding, stored := data }
      else if !c.second then
        ((v.updCell id fun c => { c with second := true }).ccStats fun k => { k with retries := k.retries + 1 }).raise .cellRetry id
      else (v.cellBad id .cellCheck).bandsOn) := by
  have hgo : (c.state != .fetching || (s.atTime t).sl.halted) = false := by simp [hstate, hhalt]
  simp only [execCellFetchDone, State.atTime_cell, hc, hgo, Bool.false_eq_true, if_false]
  rfl

end

/-- What CELL_FETCH_DONE leaves, as the bytes are good, bad for the first time, or bad again. -/
theorem execCellFetchDone_spec {t id : Nat} {data : List Byte} {good : Prop} {c : Cell} {s : State}
    (hgood : (s.atTime t).goodBytes id data c = true ↔ good) (hc : s.cell id = some c) (hstate : c.state = .fetching)
    (hhalt : s.sl.halted = false) :
    let s' := s.atTime t
    ∃ u, execCellFetchDone t id data s = .next u ∧ u.eng = s.eng ∧ u.mb = s.mb ∧ u.dram = s.dram ∧ u.br = s.br ∧ u.job.isSome = s.job.isSome ∧
      u.cc.stats.storedBytes = s.cc.stats.storedBytes + c.ent.storedLen ∧
      (good → u = { s' with cc := u.cc, fc := u.fc } ∧ u.cell id = some { c with state := .decoding, stored := data } ∧ u.cc.stats.retries = s.cc.stats.retries) ∧
      (¬good → c.second = false → u.cell id = some { c with second := true } ∧ u.cc.stats.retries = s.cc.stats.retries + 1 ∧
        u.loom = s.loom ∧ u.arb.faultQ = s.arb.faultQ ++ [{ at' := s'.now, name := .cellRetry, addr := id % 2 ^ 48 }]) ∧
      (¬good → c.second = true → u.waits s'.now .cellCheck id ∧ u.cc.stats.badCells = s.cc.stats.badCells + 1) := by
  have hc' : ((s.atTime t).readStored c).cell id = some c := hc
  dsimp only
  refine ⟨_, execCellFetchDone_fetching hc hstate hhalt, ?_⟩
  dsimp only
  by_cases hg : (s.atTime t).goodBytes id data c = true
  · have hgo := hgood.1 hg
    have hcell := State.cell_updCell_same (f := fun c => { c with state := .decoding, stored := data }) (fun _ => rfl) hc'
    rw [if_pos hg]
    refine ⟨rfl, rfl, rfl, rfl, rfl, rfl, fun _ => ⟨rfl, hcell, rfl⟩, absurd hgo, absurd hgo⟩
  · have hbad := mt hgood.2 hg
    rw [if_neg hg]
    cases hsecond : c.second with
    | false =>
      have hcell := State.cell_updCell_same (f := fun c => { c with second := true }) (fun _ => rfl) hc'
      exact ⟨rfl, rfl, rfl, rfl, rfl, rfl, fun h => absurd h hbad, fun _ _ => ⟨hcell, rfl, rfl, rfl⟩, nofun⟩
    | true =>
      obtain ⟨hstored, hcount⟩ := State.cellBad_stats id .cellCheck ((s.atTime t).readStored c)
      have hwait := State.cellBad_waits id .cellCheck ((s.atTime t).readStored c)
      exact ⟨by simp [State.readStored], by simp [State.readStored], by simp [State.readStored], by simp [State.readStored],
        by simp [State.readStored], hstored, fun h => absurd h hbad, nofun, fun _ _ => ⟨hwait, hcount⟩⟩

/-! ## CELL_DECODE_DONE (R98) -/

/-- The stored bytes of a cell are decoded from their first block on. -/
abbrev State.decodeCell (id : Nat) (c : Cell) (s : State) : Except FaultName (RecScan × Nat) × State :=
  decodeBody c.stored id 65537 0 0 { records := [], rest := [], at' := 0 } s

/-- A body is decoded, and its n bytes count. -/
def State.readBody (id n : Nat) (c : Cell) (s : State) : State :=
  (s.decodeCell id c).2.ccStats fun k => { k with decodedBytes := k.decodedBytes + n }

/-- Decoding a body changes only a counter of the cache and the injected upsets. -/
@[simp] theorem State.readBody_frame (id n : Nat) (c : Cell) (s : State) :
    let u := s.readBody id n c
    u.now = s.now ∧ u.eng = s.eng ∧ u.slack = s.slack ∧ u.arb = s.arb ∧ u.out = s.out ∧ u.dike = s.dike ∧ u.tu = s.tu ∧ u.twin = s.twin ∧
    u.ring = s.ring ∧ u.mb = s.mb ∧ u.cp = s.cp ∧ u.sl = s.sl ∧ u.dram = s.dram ∧ u.cal = s.cal ∧ u.jr = s.jr ∧ u.feed = s.feed ∧
    u.br = s.br ∧ u.hem = s.hem ∧ u.job = s.job ∧ u.bands = s.bands ∧ u.loom = s.loom ∧ u.pol = s.pol ∧ u.sh = s.sh ∧ u.cf = s.cf ∧
    u.pending = s.pending ∧ u.free = s.free ∧
    u.cc = { s.cc with stats := { s.cc.stats with decodedBytes := s.cc.stats.decodedBytes + n } } := by
  simp [State.readBody]

/-- A cell with its decoded body. -/
def Cell.resident (body : Option CellBody) (c : Cell) : Cell := { c with state := .resident, stored := [], body := body }

/-- A decoded body enters the cell, and what waits for it goes on. -/
def State.makeResident (id : Nat) (body : Option CellBody) (s : State) : State :=
  ((s.updCell id (Cell.resident body)).endWaits id).binNow.bandsOn

section
variable {t id : Nat} {s : State}

theorem execCellDecodeDone_idle (h : ∀ c, s.cell id = some c → c.state ≠ .decoding) :
    execCellDecodeDone t id s = .next (s.atTime t) := by
  cases hc : s.cell id with
  | none => simp [execCellDecodeDone, hc]
  | some c => simp [execCellDecodeDone, hc, h c hc]

variable {c : Cell} (hc : s.cell id = some c) (hstate : c.state = .decoding)
include hc hstate

theorem execCellDecodeDone_fault {f : FaultName} (hr : ((s.atTime t).decodeCell id c).1 = .error f) :
    execCellDecodeDone t id s = .next ((((s.atTime t).decodeCell id c).2.cellBad id f).bandsOn) := by
  rcases hd : (s.atTime t).decodeCell id c with ⟨r, v⟩
  rw [hd] at hr
  subst hr
  simp [execCellDecodeDone, hc, hstate, hd]

theorem execCellDecodeDone_decoded {sc : RecScan} {n : Nat} (hr : ((s.atTime t).decodeCell id c).1 = .ok (sc, n)) :
    execCellDecodeDone t id s = .next (
      let v := (s.atTime t).readBody id n c
      if n = c.ent.rawLen then v.makeResident id (cellBodyOf sc.records) else (v.cellBad id .cellRaw).bandsOn) := by
  have hdec : (c.state != .decoding) = false := by simp [hstate]
  rcases hd : (s.atTime t).decodeCell id c with ⟨r, v⟩
  rw [hd] at hr
  subst hr
  simp only [execCellDecodeDone, State.atTime_cell, hc, hdec, hd, State.readBody, Bool.false_eq_true, if_false, ne_eq, ite_not]
  rfl

end

/-- The binner does nothing while no band is in Binning. -/
theorem State.binNow_idle {s : State} (h : ∀ b ∈ s.bands, b.render ≠ .binning) : s.binNow = s := by
  have hnone : s.bands.find? (·.render == .binning) = none := by simpa using h
  simp [State.binNow, hnone]

theorem State.endWaits_notBinning {id : Nat} {s : State} (h : ∀ b ∈ s.bands, b.render ≠ .binning) :
    ∀ b ∈ (s.endWaits id).bands, b.render ≠ .binning := by
  simpa [State.endWaits] using h

@[simp] theorem State.makeResident_frame (id : Nat) (body : Option CellBody) (s : State) :
    let u := s.makeResident id body
    u.eng = s.eng ∧ u.mb = s.mb ∧ u.dram = s.dram ∧ u.br = s.br ∧ u.fc = s.fc := by
  simp [State.makeResident]

/-- The cell keeps its body whatever the binner then reaches; with no band in Binning only the cache and the bands change. -/
theorem State.makeResident_spec {id : Nat} {c : Cell} {s : State} (hc : s.cell id = some c) (body : Option CellBody) :
    let u := s.makeResident id body
    (u.cell id).map (fun c => (c.state, c.stored, c.body)) = some (.resident, [], body) ∧
      u.cc.stats.decodedBytes = s.cc.stats.decodedBytes ∧
      ((∀ b ∈ s.bands, b.render ≠ .binning) → u = { s with cc := u.cc, bands := u.bands }) := by
  let w := s.updCell id (Cell.resident body)
  have hstore : (s.makeResident id body).cc.store = w.cc.store := by simp [State.makeResident, w]
  obtain ⟨hcontents, -, hdecoded, -⟩ := Cache.store_eq_iff.1 hstore
  have hw : w.cell id = some (c.resident body) := State.cell_updCell_same (f := Cell.resident body) (fun _ => rfl) hc
  have hcell := State.cell_map_congr (key := fun x => x.1.id) (fun _ => rfl) hcontents id
  dsimp only
  refine ⟨?_, hdecoded, fun hbands => ?_⟩
  · calc
      _ = (((s.makeResident id body).cell id).map Cell.content).map Prod.snd := (Option.map_map ..).symm
      _ = _ := by rw [hcell, hw]; rfl
  · have hidle := State.binNow_idle (State.endWaits_notBinning (id := id) (s := w) hbands)
    rw [State.makeResident, hidle]
    ext1 <;> simp [w]

/-- What CELL_DECODE_DONE leaves, as the body decodes to its stored length, to another one, or not at all. -/
theorem execCellDecodeDone_spec {t id : Nat} {c : Cell} {s : State} (hc : s.cell id = some c) (hstate : c.state = .decoding) :
    let s' := s.atTime t
    let r := (s'.decodeCell id c).1
    ∃ u, execCellDecodeDone t id s = .next u ∧ u.eng = s.eng ∧ u.mb = s.mb ∧ u.dram = s.dram ∧ u.br = s.br ∧
      (∀ sc, r = .ok (sc, c.ent.rawLen) → (u.cell id).map (fun c => (c.state, c.stored, c.body)) = some (.resident, [], cellBodyOf sc.records) ∧
        u.cc.stats.decodedBytes = s.cc.stats.decodedBytes + c.ent.rawLen ∧
        ((∀ b ∈ s.bands, b.render ≠ .binning) → u = { s' with cc := u.cc, fc := u.fc, bands := u.bands })) ∧
      (∀ sc n, r = .ok (sc, n) → n ≠ c.ent.rawLen → u.waits s'.now .cellRaw id ∧ u.cc.stats.badCells = s.cc.stats.badCells + 1) ∧
      (∀ f, r = .error f → u.waits s'.now f id ∧ u.cc.stats.badCells = s.cc.stats.badCells + 1) := by
  dsimp only
  cases hr : ((s.atTime t).decodeCell id c).1 with
  | error f =>
    have hwait := State.cellBad_waits id f ((s.atTime t).decodeCell id c).2
    obtain ⟨-, hcount⟩ := State.cellBad_stats id f ((s.atTime t).decodeCell id c).2
    refine ⟨_, execCellDecodeDone_fault hc hstate hr, by simp, by simp, by simp, by simp, nofun, nofun, ?_⟩
    rintro _ ⟨⟩
    exact ⟨by simpa using hwait, by simpa using hcount⟩
  | ok p =>
    obtain ⟨sc, n⟩ := p
    refine ⟨_, execCellDecodeDone_decoded hc hstate hr, ?_⟩
    have hcv : ((s.atTime t).readBody id n c).cell id = some c := (State.cell_congr (by simp) id).trans hc
    dsimp only
    by_cases hn : n = c.ent.rawLen
    · subst hn
      obtain ⟨hcell, hdecoded, hframe⟩ := State.makeResident_spec hcv (cellBodyOf sc.records)
      rw [if_pos rfl]
      refine ⟨by simp, by simp, by simp, by simp, ?_, ?_, nofun⟩
      · rintro _ ⟨⟩
        refine ⟨hcell, by simpa using hdecoded, fun hbands => ?_⟩
        refine (hframe (by simpa using hbands)).trans ?_
        ext1 <;> simp
      · rintro _ _ ⟨⟩ hn
        exact absurd rfl hn
    · obtain ⟨-, hcount⟩ := ((s.atTime t).readBody id n c).cellBad_stats id .cellRaw
      have hwait := ((s.atTime t).readBody id n c).cellBad_waits id .cellRaw
      rw [if_neg hn]
      refine ⟨by simp, by simp, by simp, by simp, ?_, ?_, nofun⟩
      · rintro _ ⟨⟩
        exact absurd rfl hn
      · rintro _ _ ⟨⟩ -
        exact ⟨by simpa using hwait, by simpa using hcount⟩

/-! ## PIN_RESTORE (R105) -/
/-- What the binner and the units keep of each band when they go on. -/
theorem State.bandsOn_keep {γ : Type} {π : Band → γ} (hredecode : ∀ b empty, π { b.redecode empty with render := .binning } = π b)
    (hrender : ∀ b : Band, π { b with render := .binning } = π b)
    (hwork : ∀ (b : Band) queued working, π { b with queued := queued, working := working } = π b) (stripe band : Nat) (s : State) :
    (s.bandsOn.band stripe band).map π = (s.band stripe band).map π := by
  have hpump : (s.pumpBinner.band stripe band).map π = (s.band stripe band).map π := by
    unfold State.pumpBinner
    split
    · rfl
    · refine State.band_updBand_keep (fun b => ?_) (fun b => ?_) ..
      · split <;> exact ⟨rfl, rfl⟩
      · split
        · exact hredecode b _
        · exact hrender b
  have htake (s : State) (unit : Nat) : ((s.takeTile unit).band stripe band).map π = (s.band stripe band).map π := by
    unfold State.takeTile
    split
    · rfl
    · refine State.band_updBand_keep (fun b => ?_) (fun b => ?_) ..
      · split <;> exact ⟨rfl, rfl⟩
      · split
        · rfl
        · exact hwork b _ _
  exact (foldl_keep (fun s => (s.band stripe band).map π) _ _ _ htake).trans hpump

/-- Whether a band has its pins, or dropped them. -/
def Band.pins (b : Band) : Bool × Bool := (b.pinned, b.pinsDropped)

theorem State.bandsOn_pins (stripe band : Nat) (s : State) :
    (s.bandsOn.band stripe band).map Band.pins = (s.band stripe band).map Band.pins :=
  State.bandsOn_keep (fun _ _ => rfl) (fun _ => rfl) (fun _ _ _ => rfl) stripe band s

theorem State.queueTiles_pins (stripe band st bd : Nat) (s : State) :
    ((s.queueTiles stripe band).band st bd).map Band.pins = (s.band st bd).map Band.pins := by
  refine State.band_updBand_keep (fun b => ?_) (fun b => ?_) ..
  · exact ⟨rfl, rfl⟩
  · rfl

theorem State.band_of_mem {b : Band} {s : State} (h : b ∈ s.bands) : ∃ b₀, s.band b.stripe b.band = some b₀ :=
  Option.isSome_iff_exists.1 (List.find?_isSome.2 ⟨b, h, by simp⟩)

theorem State.pinBand_pins {b : Band} {s : State} (h : b ∈ s.bands) :
    ((s.pinBand b.stripe b.band).band b.stripe b.band).map Band.pins = some (true, false) := by
  obtain ⟨b₀, hb₀⟩ := State.band_of_mem h
  rw [State.pinBand_band hb₀]
  rfl

/-- The pins of a band are restored, and a render that waits for them starts over. -/
def State.restorePins (b : Band) (s : State) : State :=
  if b.render = .waitPins then
    (((s.pinBand b.stripe b.band).queueTiles b.stripe b.band).loomStats fun l => { l with restarts := l.restarts + 1 }).bandsOn
  else s.pinBand b.stripe b.band

/-- The first band of that name may be another one than b: an update reaches every band so called. -/
theorem State.restorePins_spec {b : Band} {s : State} (h : b ∈ s.bands) :
    let u := s.restorePins b
    u = { s with bands := u.bands, cc := u.cc, loom := u.loom } ∧
      (u.band b.stripe b.band).map Band.pins = some (true, false) ∧
      u.loom.stats.restarts = s.loom.stats.restarts + (if b.render = .waitPins then 1 else 0) := by
  dsimp only
  unfold State.restorePins
  split
  · refine ⟨by ext1 <;> simp, ?_, by simp⟩
    rw [State.bandsOn_pins]
    exact (State.queueTiles_pins ..).trans (State.pinBand_pins h)
  · exact ⟨by ext1 <;> simp, State.pinBand_pins h, by simp⟩

theorem execPinRestore_idle {t : Nat} {s : State} (h : ∀ b ∈ s.bands, b.pinsDropped = false) :
    execPinRestore t s = .next (s.atTime t) := by
  have hnone : s.bands.find? (·.pinsDropped) = none := by simpa using h
  simp [execPinRestore, hnone]

theorem execPinRestore_restores {t : Nat} {b : Band} {s : State} (hb : s.bands.find? (·.pinsDropped) = some b)
    (hspace : (∀ id ∈ s.bandCells b, ∀ c, s.cell id = some c → c.held = true) ∨ ((s.atTime t).takePage true []).isSome = true) :
    execPinRestore t s = .next ((s.atTime t).restorePins b) := by
  have hb' : (s.atTime t).bands.find? (·.pinsDropped) = some b := hb
  have hgo : (!(((s.atTime t).bandCells b).all fun id => (((s.atTime t).cell id).map Cell.held).getD true) &&
      ((s.atTime t).takePage true []).isNone) = false := by
    obtain hheld | hpage := hspace
    · have hall : (((s.atTime t).bandCells b).all fun id => (((s.atTime t).cell id).map Cell.held).getD true) = true := by
        refine List.all_eq_true.2 fun id hid => ?_
        cases hc : (s.atTime t).cell id with
        | none => rfl
        | some c => exact hheld id hid c hc
      rw [hall]
      rfl
    · obtain ⟨r, hr⟩ := Option.isSome_iff_exists.1 hpage
      rw [hr, Option.isNone_some, Bool.and_false]
  simp only [execPinRestore, hb', hgo, State.restorePins, beq_iff_eq, Bool.false_eq_true, if_false]

/-! ## The statement -/

/-- Settles O58, event by event: each clause is a case of the event's equation. Space for a cell keeps the directory's entries,
so the cell whose fetch starts is still there; a stream that fails, and the binner, keep what is stored of each cell, the counts
of bytes and of Bad cells, and every fault that waits. -/
theorem cellEvents : Obligations.CellEvents := by
  unfold Obligations.CellEvents
  intro t s
  refine ⟨execCellFetchStart_empty, execCellFetchStart_halted, ?_, ?_, fun id data => execCellFetchDone_idle, ?_,
    fun id => execCellDecodeDone_idle, ?_, execPinRestore_idle, ?_⟩
  -- CELL_FETCH_START of the first fetch, when none is pinned
  · rintro id c r ⟨hall, hhead⟩ hc hhalt hcount htransit
    have hfirst := Cache.firstFetch_unpinned hall hhead
    exact ⟨execCellFetchStart_noSpace hfirst hc, execCellFetchStart_fetches hfirst hc ⟨hhalt, hcount, htransit⟩⟩
  -- CELL_FETCH_START of a pinned fetch
  · exact fun id c r hpinned hc hhalt hcount htransit =>
      execCellFetchStart_fetches (Cache.firstFetch_pinned hpinned) hc ⟨hhalt, hcount, htransit⟩
  -- CELL_FETCH_DONE
  · exact fun id data c hc hstate hhalt => execCellFetchDone_spec State.goodBytes_iff hc hstate hhalt
  -- CELL_DECODE_DONE
  · exact fun id c hc hstate => execCellDecodeDone_spec hc hstate
  -- PIN_RESTORE
  · exact fun b hb hspace => ⟨_, execPinRestore_restores hb hspace, State.restorePins_spec (s := s.atTime t) (List.mem_of_find?_eq_some hb)⟩

end Sys2Proof.Machine
end

section
/-! PROOFS. The blocks of LOOM, POLDER, SHUTTLE, HEM, CUFF and CACHE_CONFIG (04 R130, 05 R157, 06 R185, 07 R226, 08 R262,
03 R91, R92), and the CHECK of a configuration digest that changed (11 R350). -/

namespace Sys2Proof.Machine
open Sys2Proof

/-- A step whose request no check refuses answers its row's effect. -/
theorem CmdSpec.next_run_passes {c : CmdSpec} {cur : Current} {s : State} (h : c.Passes cur s)
    (f : Request → List Byte → State → State) : (.next (c.run s f) : Res) = .next (f cur.req cur.data s) :=
  congrArg Host.Outcome.next (CmdSpec.run_passes h f)

/-! ## The configuration digest (11 R350) -/

theorem State.digestChanged_same {a b : State} (h : a.digestBytes = b.digestBytes) : State.digestChanged a b = b := if_pos h

theorem State.toPeer_notAlone {s : State} (h : s.twin.pair ≠ .alone) (m : GMsg) : s.toPeer m = s.sendGusset m := if_neg h

theorem State.digestChanged_differs {a b : State} (h : a.digestBytes ≠ b.digestBytes) (hpair : b.twin.pair ≠ .alone) :
    State.digestChanged a b = b.sendGusset (.check 3 (BitVec.ofNat 64 (crc64 3 b.digestBytes))) :=
  (if_neg h).trans (State.toPeer_notAlone hpair _)

/-! ## LOOM_CONFIG (04 R130, R134) -/

/-- The state that the block of a LOOM_CONFIG leaves: its fields, the units in service, and what Loom then takes up. -/
def State.loomConfigured (b : List Byte) (selfTest : BitVec 256) (s : State) : State :=
  State.bandsOn (State.testUnits (State.unitsEnabled (BitVec.ofNat 256 (fld b 8 32)) selfTest
    { s with loom := { s.loom with raw := b, overMode := fld b 0 1, unitFloor := fld b 2 2 } }))

theorem State.unitsEnabled_loom (enable selfTest : BitVec 256) (s : State) : (s.unitsEnabled enable selfTest).loom =
    { s.loom with unitEnable := enable, inService := enable &&& (s.loom.inService ||| selfTest) } := by
  simp [State.unitsEnabled]

theorem State.testUnits_loom (s : State) :
    s.testUnits.loom = { s.loom with unitsLowRaised := decide (unitCount s.loom.inService < s.loom.unitFloor) } := by
  simp [State.testUnits]

/-- UNIT_SELFTEST and UNITS_LOW join the waiting faults: the rest of the arbiter is as it was. -/
theorem State.unitsEnabled_arb (enable selfTest : BitVec 256) (s : State) :
    { (s.unitsEnabled enable selfTest).arb with faultQ := [] } = { s.arb with faultQ := [] } :=
  foldl_keep (fun s => { s.arb with faultQ := [] }) _ _ _ fun s u => by rw [State.raise_arb]

theorem State.testUnits_arb (s : State) : { s.testUnits.arb with faultQ := [] } = { s.arb with faultQ := [] } := by
  unfold State.testUnits State.raiseUnless
  dsimp only
  split <;> rfl

theorem Arb.eq_but_faultQ {a b : Arb} (h : { a with faultQ := [] } = { b with faultQ := [] }) :
    a = { b with faultQ := a.faultQ } :=
  congrArg (fun x : Arb => { x with faultQ := a.faultQ }) h

section
variable (b : List Byte) (selfTest : BitVec 256) (s : State)

/-- Loom's fields after the block: a unit in service is one that the mask enables and that was in service or passes its
self-test. -/
theorem State.loomConfigured_loom : ∃ low, (s.loomConfigured b selfTest).loom =
    { s.loom with
      raw := b, overMode := fld b 0 1, unitFloor := fld b 2 2, unitEnable := BitVec.ofNat 256 (fld b 8 32)
      inService := BitVec.ofNat 256 (fld b 8 32) &&& (s.loom.inService ||| selfTest), unitsLowRaised := low } :=
  ⟨_, by simp only [State.loomConfigured, State.bandsOn_frame, State.testUnits_loom, State.unitsEnabled_loom]; rfl⟩

theorem State.loomConfigured_arb :
    (s.loomConfigured b selfTest).arb = { s.arb with faultQ := (s.loomConfigured b selfTest).arb.faultQ } := by
  refine Arb.eq_but_faultQ ?_
  simp only [State.loomConfigured, State.bandsOn_frame, State.testUnits_arb, State.unitsEnabled_arb]

theorem State.loomConfigured_frame : s.loomConfigured b selfTest =
    { s with
      loom := (s.loomConfigured b selfTest).loom
      arb := { s.arb with faultQ := (s.loomConfigured b selfTest).arb.faultQ }
      bands := (s.loomConfigured b selfTest).bands } := by
  rw [← State.loomConfigured_arb]
  apply State.ext <;> simp [State.loomConfigured]

end

theorem execLoomConfig_passes {t : Nat} {cur : Current} {s : State} (h : specLoomConfig.Passes cur (s.atTime t))
    (selfTest : BitVec 256) : execLoomConfig t selfTest s = .next (specLoomConfig.done cur.req []
      (State.digestChanged (s.atTime t) ((s.atTime t).loomConfigured cur.req.params selfTest))) :=
  CmdSpec.next_run_passes h _

/-! ## CACHE_CONFIG (03 R91, R92) -/

theorem Cache.resize_same (c : Cache) : c.resize c.sizeGib = c := if_pos rfl

/-- A cache of another size keeps its directory, and holds no page and no cell. -/
theorem Cache.resize_other {c : Cache} {gib : Nat} (h : gib ≠ c.sizeGib) : (c.resize gib).sizeGib = gib ∧
    (c.resize gib).used = [] ∧ (c.resize gib).dir = c.dir ∧ ∀ x ∈ (c.resize gib).cells, x.held = false := by
  rw [Cache.resize, if_neg h.symm]
  refine ⟨rfl, rfl, rfl, fun x hx => ?_⟩
  obtain ⟨y, -, rfl⟩ := List.mem_map.1 hx
  rfl

section
variable {t : Nat} {cur : Current} {s : State} (h : specCacheConfig.Passes cur (s.atTime t))
include h

theorem execCacheConfig_fits (hfit : fld cur.req.params 0 1 * 2 ^ 30 + dirRegion s.cc.dirEntries ≤ 120 * 2 ^ 30) :
    execCacheConfig t s = .next (specCacheConfig.done cur.req [] ((s.atTime t).updCc fun c =>
      { c.resize (fld cur.req.params 0 1) with horizon := fld cur.req.params 1 1 })) := by
  have hok : regionsFit (fld cur.req.params 0 1) 0 (s.atTime t).cc.dirEntries = true := regionsFit_iff.2 (by simpa using hfit)
  rw [execCacheConfig, CmdSpec.run_passes h]
  simp only [if_pos hok]

theorem execCacheConfig_noSpace (hover : 120 * 2 ^ 30 < fld cur.req.params 0 1 * 2 ^ 30 + dirRegion s.cc.dirEntries) :
    execCacheConfig t s = .next (specCacheConfig.checkFail cur.req .dirSpace 0 (s.atTime t)) := by
  have hbad : ¬regionsFit (fld cur.req.params 0 1) 0 (s.atTime t).cc.dirEntries = true :=
    fun hok => absurd (regionsFit_iff.1 hok) (Nat.not_le.2 (by simpa using hover))
  rw [execCacheConfig, CmdSpec.run_passes h]
  simp only [if_neg hbad]

end

/-! ## The statement -/

/-- Settles O19, block by block: the state that each row's effect leaves. -/
theorem engineConfigs : Obligations.EngineConfigs := by
  unfold Obligations.EngineConfigs
  intro t cur s
  refine ⟨fun _ _ => State.digestChanged_same, fun _ _ => State.digestChanged_differs, fun selfTest h => ?_,
    fun h => CmdSpec.next_run_passes h _, fun h => CmdSpec.next_run_passes h _, fun h => CmdSpec.next_run_passes h _,
    fun h => CmdSpec.next_run_passes h _, fun h => ⟨fun hfit hsame => ?_, fun hfit hother => ?_, execCacheConfig_noSpace h⟩⟩
  -- LOOM_CONFIG
  · obtain ⟨low, hloom⟩ := (s.atTime t).loomConfigured_loom cur.req.params selfTest
    refine ⟨_, execLoomConfig_passes h selfTest, ?_⟩
    simp only [hloom, true_and]
    exact ⟨rfl, rfl, hloom ▸ State.loomConfigured_frame ..⟩
  -- CACHE_CONFIG of the size that the cache has
  · have hcc : (s.atTime t).cc.resize (fld cur.req.params 0 1) = (s.atTime t).cc := hsame ▸ Cache.resize_same s.cc
    exact (execCacheConfig_fits h hfit).trans (by rw [State.updCc, hcc])
  -- CACHE_CONFIG of another size
  · obtain ⟨hsize, hused, hdir, hcells⟩ := Cache.resize_other (c := s.cc) hother
    exact ⟨_, execCacheConfig_fits h hfit, rfl, hsize, rfl, hused, hdir, hcells⟩

end Sys2Proof.Machine
end

section
/-! PROOFS. 06 R171 to R181 and 07 R216: LOAD_TABLE refuses an image for its header or its entries, or loads it whole. -/

namespace Sys2Proof.Machine
open Sys2Proof

/-! ## One table among the five (06 R178) -/

theorem State.table_updTable {kind : Nat} {s : State} (hkind : kind - 1 < s.sh.tables.length) (f : Table → Table) (k : Nat) :
    (s.updTable kind f).table k = if kind - 1 = k - 1 then f (s.table k) else s.table k :=
  listUpd_getD _ _ _ _ _ hkind

theorem State.table_updTable_same {kind : Nat} {s : State} (hkind : kind - 1 < s.sh.tables.length) (f : Table → Table) :
    (s.updTable kind f).table kind = f (s.table kind) := by
  rw [State.table_updTable hkind, if_pos rfl]

theorem State.table_updTable_other {kind k : Nat} {s : State} (hkind : kind - 1 < s.sh.tables.length) (f : Table → Table)
    (hk : 1 ≤ k) (hpos : 1 ≤ kind) (hne : k ≠ kind) : (s.updTable kind f).table k = s.table k := by
  rw [State.table_updTable hkind, if_neg (by omega)]

theorem State.table_congr {s u : State} (h : u.sh.tables = s.sh.tables) (k : Nat) : u.table k = s.table k := by
  rw [State.table, h, State.table]

/-! ## A checked image takes the place of the table before (06 R178, R179) -/

/-- The stand-in table may be discarded, no other table. -/
theorem State.dropStandins_sh {s : State} (hlen : s.sh.tables.length = 5) :
    s.dropStandins.sh.voidKinds = s.sh.voidKinds ∧
      ∀ k, 1 ≤ k → k ≠ kStandin → s.dropStandins.table k = s.table k := by
  unfold State.dropStandins
  dsimp only
  split
  · exact ⟨rfl, fun _ _ _ => rfl⟩
  · have hstandin : kStandin - 1 < s.sh.tables.length := by rw [hlen]; decide
    exact ⟨rfl, fun k hk hne => State.table_updTable_other hstandin _ hk (by decide) hne⟩

/-- A table of the SRAM of Shuttle stands in its place, before a loaded stand-in table is tested against it. -/
def State.putTable (kind crc : Nat) (entries : List Nat) (s : State) : State :=
  let words := s.loadWords kind (ceilDiv (entries.length * entrySize kind) 8)
  let v := words.2.updTable kind fun _ => { loaded := true, crc := BitVec.ofNat 32 crc, entries := entries, bad := words.1 }
  { v with sh := { v.sh with
      voidKinds := v.sh.voidKinds.filter (· != kind), eccWords := v.sh.eccWords.filter (·.1 != kind)
      lagUpset := if kind = kLag then [] else v.sh.lagUpset } }

theorem State.storeTable_edge (crc : Nat) (entries : List Nat) (s : State) : s.storeTable kEdge crc entries =
    { s with hem := { s.hem with edge := { loaded := true, crc := BitVec.ofNat 32 crc, entries := entries } } } := rfl

theorem State.storeTable_sram {kind : Nat} (h : kind ≠ kEdge) (crc : Nat) (entries : List Nat) (s : State) :
    s.storeTable kind crc entries =
      if kind = kGain then (s.putTable kind crc entries).dropStandins else s.putTable kind crc entries := if_neg h

section
variable {kind : Nat} {s : State} (hlow : 1 ≤ kind) (hhigh : kind ≤ 5) (hlen : s.sh.tables.length = 5)
  (crc : Nat) (entries : List Nat)

theorem State.putTable_frame : let u := s.putTable kind crc entries
    u.hem = s.hem ∧ kind ∉ u.sh.voidKinds ∧ u.sh.tables.length = s.sh.tables.length := by
  simp [State.putTable, State.updTable]

include hlow hhigh hlen

theorem State.putTable_table : let u := s.putTable kind crc entries
    (u.table kind).loaded = true ∧ (u.table kind).entries = entries ∧ (u.table kind).crc = BitVec.ofNat 32 crc ∧
      ∀ k, 1 ≤ k → k ≠ kind → u.table k = s.table k := by
  have hsh (words : Nat) : (s.loadWords kind words).2.sh = s.sh := by simp
  have hkind (words : Nat) : kind - 1 < (s.loadWords kind words).2.sh.tables.length := by
    rw [hsh, hlen]
    omega
  have hput (f : Table → Table) (words : Nat) := State.table_updTable_same (hkind words) f
  refine ⟨congrArg Table.loaded (hput ..), congrArg Table.entries (hput ..), congrArg Table.crc (hput ..), fun k hk hne => ?_⟩
  exact (State.table_updTable_other (hkind _) _ hk hlow hne).trans (State.table_congr (congrArg Shuttle.tables (hsh _)) k)

/-- What a loaded table of the SRAM of Shuttle sets: the table, whole, and that it voids no flash. -/
theorem State.storeTable_spec : let u := s.storeTable kind crc entries
    u.hem = s.hem ∧ (u.table kind).loaded = true ∧ (u.table kind).entries = entries ∧
      (u.table kind).crc = BitVec.ofNat 32 crc ∧ kind ∉ u.sh.voidKinds ∧
      ∀ k, 1 ≤ k → k ≠ kind → k ≠ kStandin → u.table k = s.table k := by
  obtain ⟨hhem, hvoid, hlen'⟩ := State.putTable_frame (kind := kind) (s := s) crc entries
  obtain ⟨hloaded, hentries, hcrc, hother⟩ := State.putTable_table hlow hhigh hlen crc entries
  rw [State.storeTable_sram (by simp only [kEdge]; omega)]
  split
  next hgain =>
    obtain ⟨hkeep, htables⟩ := State.dropStandins_sh (hlen'.trans hlen)
    have hown := htables kind hlow (by rw [hgain]; decide)
    dsimp only
    rw [hown, hkeep]
    exact ⟨by simp [hhem], hloaded, hentries, hcrc, hvoid, fun k hk hne hst => (htables k hk hst).trans (hother k hk hne)⟩
  next => exact ⟨hhem, hloaded, hentries, hcrc, hvoid, fun k hk hne _ => hother k hk hne⟩

end

/-! ## LOAD_TABLE (06 R178; 13 Table MBOX-5) -/

section
variable {t : Nat} {cur : Current} {s : State} (h : specLoadTable.Passes cur (s.atTime t))
include h

theorem specLoadTable_kind : 1 ≤ fld cur.req.params 0 2 ∧ fld cur.req.params 0 2 ≤ 6 := by
  obtain ⟨-, hok⟩ := h
  have hfields : _ = true := CmdSpec.fieldsOk_of_refusal_none rfl hok
  simp only [specLoadTable, between, Bool.and_eq_true, decide_eq_true_eq] at hfields
  obtain ⟨hkind, -⟩ := hfields
  exact hkind

theorem execLoadTable_badImage (himage : tableImageOk (fld cur.req.params 0 2) cur.data = false) :
    execLoadTable t s = .next (specLoadTable.checkFail cur.req .tableHdr (fld cur.req.params 0 2 * 2 ^ 40) (s.atTime t)) := by
  rw [execLoadTable, CmdSpec.run_passes h]
  simp only [himage, Bool.not_false, if_true]

variable (himage : tableImageOk (fld cur.req.params 0 2) cur.data = true) {entries : List Nat}
  (he : entries = tableEntries (entrySize (fld cur.req.params 0 2)) (fld cur.data 12 4) (cur.data.drop 32))
include himage he

theorem execLoadTable_badEntries {f : FaultName} {addr : Nat}
    (hbad : tableBad (fld cur.req.params 0 2) (s.table kGain).entries entries = some (f, addr)) :
    execLoadTable t s = .next (specLoadTable.checkFail cur.req f addr (s.atTime t)) := by
  rw [execLoadTable, CmdSpec.run_passes h]
  subst he
  have hbad' : tableBad (fld cur.req.params 0 2) ((s.atTime t).table kGain).entries _ = some (f, addr) := hbad
  simp only [himage, hbad', Bool.not_true, Bool.false_eq_true, if_false]

theorem execLoadTable_good (hgood : tableBad (fld cur.req.params 0 2) (s.table kGain).entries entries = none) :
    execLoadTable t s = .next (specLoadTable.done cur.req (leBytes 4 (fld cur.data 24 4) ++ leBytes 4 0)
      (State.digestChanged (s.atTime t) ((s.atTime t).storeTable (fld cur.req.params 0 2) (fld cur.data 24 4) entries))) := by
  rw [execLoadTable, CmdSpec.run_passes h]
  subst he
  have hgood' : tableBad (fld cur.req.params 0 2) ((s.atTime t).table kGain).entries _ = none := hgood
  simp only [himage, hgood', Bool.not_true, Bool.false_eq_true, if_false]

end

/-! ## The statement -/

/-- Settles O22: the step of each of the three outcomes, and what a stored table leaves of the tables. -/
theorem tableLoads : Obligations.TableLoads := by
  unfold Obligations.TableLoads
  intro t cur s h hlen
  obtain ⟨hlow, hhigh⟩ := specLoadTable_kind h
  refine ⟨execLoadTable_badImage h, fun f addr himage => execLoadTable_badEntries h himage rfl, fun himage hgood =>
    ⟨_, execLoadTable_good h himage rfl hgood, fun hedge => ?_, fun hsram => ?_⟩⟩
  · rw [hedge]
    exact State.storeTable_edge ..
  · obtain ⟨hhem, hloaded, hentries, hcrc, hvoid, hother⟩ :=
      State.storeTable_spec hlow (by omega) (s := s.atTime t) hlen (fld cur.data 24 4) _
    exact ⟨hhem, hloaded, hentries, hcrc, hvoid, fun k hk _ hne hst => hother k hk hne hst⟩

end Sys2Proof.Machine
end

section
/-! PROOFS. 06 R182, R183 and 08 R233 to R243: the bytes of frames, and what the slots of Shuttle, the buffers of Cuff and
its lanes keep through the operations on a flash and its frames. -/

namespace Sys2Proof.Machine
open Sys2Proof

/-! ## Sizes of frames (08 R233 to R237) -/

@[simp] theorem leBytes_length (n v : Nat) : (leBytes n v).length = n := by
  induction n generalizing v with
  | zero => rfl
  | succ n ih => rw [leBytes, List.length_cons, ih]

@[simp] theorem beBytes_length (n v : Nat) : (beBytes n v).length = n := by
  rw [beBytes, List.length_reverse, leBytes_length]

@[simp] theorem packBits_length (n : Nat) (l : List Bool) : (packBits n l).length = n := by
  induction n generalizing l with
  | zero => rfl
  | succ n ih => rw [packBits, List.length_cons, ih]

@[simp] theorem State.cuffHead_length (kind epoch seq stripe band flags : Nat) (tail : List Byte) (s : State) :
    (s.cuffHead kind epoch seq stripe band flags tail).length = 13 + tail.length := by
  simp only [State.cuffHead, List.length_append, List.length_cons, List.length_nil, beBytes_length]

/-- A fold each of whose steps lengthens the bytes that it carries by n. -/
theorem foldl_bytes_length {step : List Byte × State → Nat → List Byte × State} {n : Nat}
    (h : ∀ a k, (step a k).1.length = a.1.length + n) (ks : List Nat) (a : List Byte × State) :
    (ks.foldl step a).1.length = a.1.length + ks.length * n := by
  induction ks generalizing a with
  | nil => simp
  | cons k ks ih =>
    rw [List.foldl_cons, ih, h, List.length_cons, Nat.succ_mul]
    omega

/-- A header of 16 bytes, and eight rows of 640 bytes of codes and 4 of check value. -/
theorem State.frameBytes_length (f : FlashFrames) (l : Nat) (void : Bool) (cause : Nat) (s : State) :
    (s.frameBytes f l void cause).1.length = 5168 := by
  unfold State.frameBytes
  dsimp only
  rw [foldl_bytes_length (n := 644)]
  · simp [FlashFrames.head]
  · simp [packCodes]

/-! ## Where frames go (08 R247) -/

theorem listUpd_map {β γ : Type} {g : β → γ} {f : β → β} (hf : ∀ x, g (f x) = g x) (l : List β) (i : Nat) :
    (listUpd l i f).map g = l.map g := by
  induction l generalizing i with
  | nil => rfl
  | cons x l ih => cases i <;> simp [listUpd, hf, ih]

/-- What decides on which physical lane a frame goes: the lane map, the silent lanes and the states of the lanes. -/
def Cuff.route (c : Cuff) : List (Option Nat) × List Nat × List LaneState := (c.map, c.silent, c.lanes.map Lane.state)

theorem Cuff.route_frames (c : Cuff) (l : List FlashFrames) : ({ c with frames := l } : Cuff).route = c.route := rfl

theorem Cuff.route_eq_iff {c d : Cuff} : c.route = d.route ↔
    c.map = d.map ∧ c.silent = d.silent ∧ c.lanes.map Lane.state = d.lanes.map Lane.state := by
  simp [Cuff.route]

section
variable {s u : State} (h : u.cf.route = s.cf.route)
include h

theorem State.laneState_congr (k : Nat) : (u.lane k).state = (s.lane k).state := by
  obtain ⟨-, -, hlanes⟩ := Cuff.route_eq_iff.1 h
  have hk := congrArg (fun l => (l[k]?).getD .off) hlanes
  simp only [List.getElem?_map] at hk
  simp only [State.lane, List.getD_eq_getElem?_getD]
  cases hu : u.cf.lanes[k]? <;> cases hs : s.cf.lanes[k]? <;> simp_all

theorem State.physOf_congr (l : Nat) : u.physOf l = s.physOf l := by
  obtain ⟨hmap, hsilent, -⟩ := Cuff.route_eq_iff.1 h
  simp only [State.physOf, hmap, hsilent, State.laneState_congr h]

theorem State.statusLanes_congr : u.statusLanes = s.statusLanes := by
  simp only [State.statusLanes, State.laneState_congr h]

end

theorem State.mute_congr {s u : State} (h : u.twin = s.twin) : u.mute = s.mute := by
  simp only [State.mute, State.standby, State.paired, h]

theorem State.atTime_mute (t : Nat) (s : State) : (s.atTime t).mute = s.mute := rfl

theorem State.running_congr {s u : State} (h : u.eng = s.eng) : u.running = s.running := by
  simp only [State.running, h]

@[simp] theorem putLane_states (lanes : List Lane) (k gap t : Nat) (bytes : List Byte) :
    (listUpd lanes k fun ln => ln.put gap t bytes).map Lane.state = lanes.map Lane.state :=
  listUpd_map (f := fun ln : Lane => ln.put gap t bytes) (fun _ => rfl) lanes k

/-! ## A frame begins on a lane (08 R239, R244) -/

section
variable (f : FlashFrames) (l phys : Nat) (void : Bool) (cause : Nat) (s : State)

theorem State.beginFrame_route : (s.beginFrame f l phys void cause).cf.route = s.cf.route := by
  unfold State.beginFrame
  dsimp only
  split
  · rfl
  · simp [Cuff.route_eq_iff]

theorem State.beginFrame_sends {s : State} (hmute : s.mute = false) (hrun : s.running = true) :
    let u := s.beginFrame f l phys void cause
    u.out = s.out ++ [.frame phys ((s.lane phys).nextSlot s.now) (s.frameBytes f l void cause).1] ∧
      u.cf.stats = { s.cf.stats with
        dataFrames := s.cf.stats.dataFrames + (!void).toNat, voidFrames := s.cf.stats.voidFrames + void.toNat } := by
  have hgo : ¬(s.mute || !s.running) = true := by simp [hmute, hrun]
  simp only [State.beginFrame, if_neg hgo]
  simp [State.lane]

theorem State.beginFrame_out_grows : s.out <+: (s.beginFrame f l phys void cause).out := by
  unfold State.beginFrame
  dsimp only
  split
  · exact ⟨[], List.append_nil _⟩
  · simp

end

/-! ## Frames on several lanes -/

theorem foldl_out_grows {β : Type} {step : State → β → State} (h : ∀ s x, s.out <+: (step s x).out) (l : List β) (s : State) :
    s.out <+: (l.foldl step s).out := by
  induction l generalizing s with
  | nil => exact ⟨[], List.append_nil _⟩
  | cons x l ih => exact (h s x).trans (ih _)

section
variable {fr : FlashFrames} {void : Bool} {cause l : Nat} {s : State}

theorem State.beginLane_some {k : Nat} (h : s.physOf l = some k) :
    s.beginLane fr void cause l = s.beginFrame fr l k void cause := by
  rw [State.beginLane, h]

theorem State.beginLane_none (h : s.physOf l = none) : s.beginLane fr void cause l = s := by
  rw [State.beginLane, h]

theorem State.beginLane_route : (State.beginLane fr void cause s l).cf.route = s.cf.route := by
  cases h : s.physOf l with
  | none => rw [State.beginLane_none h]
  | some k => rw [State.beginLane_some h, State.beginFrame_route]

theorem State.beginLane_out_grows : s.out <+: (State.beginLane fr void cause s l).out := by
  cases h : s.physOf l with
  | none => rw [State.beginLane_none h]
  | some k =>
    rw [State.beginLane_some h]
    exact State.beginFrame_out_grows ..

/-- A VOID frame goes on a lane that has a physical one, and counts. -/
theorem State.beginLane_void (hmute : s.mute = false) (hrun : s.running = true) :
    let u := State.beginLane fr true cause s l
    u.cf.stats.voidFrames = s.cf.stats.voidFrames + (s.physOf l).isSome.toNat ∧
      ∀ k, s.physOf l = some k → ∃ slot bytes, .frame k slot bytes ∈ u.out ∧ bytes.length = 5168 := by
  cases h : s.physOf l with
  | none => simp [State.beginLane_none h]
  | some k =>
    obtain ⟨hout, hstats⟩ := State.beginFrame_sends fr l k true cause hmute hrun
    dsimp only
    rw [State.beginLane_some h, hout, hstats]
    refine ⟨rfl, fun k' hk => ?_⟩
    obtain rfl := Option.some.inj hk
    exact ⟨_, _, List.mem_append_right _ (List.mem_singleton_self _), State.frameBytes_length fr l true cause s⟩

/-- The same on each of several lanes. -/
theorem State.beginLanes_void (hmute : s.mute = false) (hrun : s.running = true) (ls : List Nat) :
    let u := ls.foldl (fun s l => State.beginLane fr true cause s l) s
    u.cf.stats.voidFrames = s.cf.stats.voidFrames + (ls.filter fun l => (s.physOf l).isSome).length ∧
      ∀ l ∈ ls, ∀ k, s.physOf l = some k → ∃ slot bytes, .frame k slot bytes ∈ u.out ∧ bytes.length = 5168 := by
  induction ls generalizing s with
  | nil => simp
  | cons x ls ih =>
    obtain ⟨hcount, hsent⟩ := State.beginLane_void (fr := fr) (cause := cause) (l := x) hmute hrun
    have hphys := State.physOf_congr (State.beginLane_route (fr := fr) (void := true) (cause := cause) (l := x) (s := s))
    obtain ⟨hrest, hothers⟩ := ih (s := State.beginLane fr true cause s x)
      ((State.mute_congr (by simp)).trans hmute) ((State.running_congr (by simp)).trans hrun)
    simp only [hphys] at hrest hothers
    refine ⟨?_, fun l hl k hk => ?_⟩
    · rw [List.foldl_cons, hrest, hcount, List.filter_cons]
      cases (s.physOf x).isSome with
      | false => simp
      | true => simp; omega
    · obtain rfl | hl := List.mem_cons.1 hl
      · obtain ⟨slot, bytes, hmem, hlen⟩ := hsent k hk
        exact ⟨slot, bytes, (foldl_out_grows (fun _ _ => State.beginLane_out_grows) ls _).subset hmem, hlen⟩
      · exact hothers l hl k hk

end

/-! ## Cuff takes a slot (08 R238) -/

theorem State.takeSlot_cf (i : Nat) (s : State) : ∃ l, (s.takeSlot i).cf = { s.cf with frames := s.cf.frames ++ l } ∧
    ∀ f, (s.sh.slots.getD i {}).record = some f → ∃ fr ∈ l, fr.record = f := by
  unfold State.takeSlot
  dsimp only
  split
  next h => exact ⟨[], by simp, fun f hf => nomatch h.symm.trans hf⟩
  next g h =>
    have hrecord (f : FlashRec) (hf : (s.sh.slots.getD i {}).record = some f) : g = f := Option.some.inj (h.symm.trans hf)
    split <;> exact ⟨[_], by simp; rfl, fun f hf => ⟨_, List.mem_singleton_self _, hrecord f hf⟩⟩

theorem State.takeSlots_cf (n : Nat) (s : State) : ∃ l, (State.takeSlots n s).cf = { s.cf with frames := s.cf.frames ++ l } := by
  induction n generalizing s with
  | zero => exact ⟨[], by simp [State.takeSlots]⟩
  | succ n ih =>
    unfold State.takeSlots
    split
    · exact ⟨[], by simp⟩
    · split
      next i _ =>
        obtain ⟨l, hl, -⟩ := s.takeSlot_cf i
        obtain ⟨l', hl'⟩ := ih (s.takeSlot i)
        exact ⟨l ++ l', by rw [hl', hl, List.append_assoc]⟩
      next => exact ⟨[], by simp⟩

theorem State.takeSlots_full {s : State} (h : 2 ≤ s.cf.frames.length) (n : Nat) : State.takeSlots n s = s := by
  cases n with
  | zero => rfl
  | succ n => exact if_pos h

theorem State.takeSlots_takes {i n : Nat} {s : State} (h : s.cf.frames.length < 2) (hi : s.completeSlot = some i) :
    State.takeSlots (n + 1) s = State.takeSlots n (s.takeSlot i) := by
  rw [State.takeSlots, if_neg (Nat.not_le.2 h), hi]

theorem State.pruneFrames_cf (s : State) : ∃ l, s.pruneFrames.cf = { s.cf with frames := l } := by
  obtain ⟨l, hl⟩ := State.takeSlots_cf 2 (s.updCf fun c => { c with frames := c.frames.filter (fun (f : FlashFrames) =>
    (List.range 64).any fun l => (s.physOf l).isSome && !f.sent.any (·.1 == l)) })
  exact ⟨_, hl⟩

@[simp] theorem State.takeSlot_wdExpired (i : Nat) (s : State) : (s.takeSlot i).dike.wdExpired = s.dike.wdExpired := by
  unfold State.takeSlot
  dsimp only
  (repeat' split) <;> simp [State.doseClamp]

@[simp] theorem State.takeSlots_wdExpired (n : Nat) (s : State) : (State.takeSlots n s).dike.wdExpired = s.dike.wdExpired := by
  induction n generalizing s with
  | zero => rfl
  | succ n ih =>
    unfold State.takeSlots
    (repeat' split) <;> simp [ih]

@[simp] theorem State.pruneFrames_wdExpired (s : State) : s.pruneFrames.dike.wdExpired = s.dike.wdExpired := by
  simp [State.pruneFrames]

/-! ## The slots of Shuttle (06 R182, R183) -/

@[simp] theorem State.readWords_slots (kind : Nat) (words : List (Nat × Option Nat)) (s : State) :
    (s.readWords kind words).sh.slots = s.sh.slots :=
  foldl_keep (fun s => s.sh.slots) _ _ _ fun s w => by
    dsimp only
    (repeat' split) <;> simp

@[simp] theorem State.deflect_slots (f : FlashRec) (s : State) : (s.deflect f).2.sh.slots = s.sh.slots := by
  unfold State.deflect
  dsimp only
  split <;> simp

@[simp] theorem State.updSlot_sh (i : Nat) (f : Slot → Slot) (s : State) :
    (s.updSlot i f).sh = { s.sh with slots := listUpd s.sh.slots i f } := rfl

theorem State.slot_updSlot {i : Nat} {s : State} (hi : i < s.sh.slots.length) (f : Slot → Slot) (j : Nat) :
    (s.updSlot i f).sh.slots.getD j {} = if i = j then f (s.sh.slots.getD j {}) else s.sh.slots.getD j {} :=
  listUpd_getD _ _ _ _ _ hi

theorem State.openSlot_empty {i : Nat} {s : State} (h : s.openSlot = some i) : s.slotState i = .empty := by
  have hopen := List.find?_some h
  simp only [Bool.and_eq_true, beq_iff_eq] at hopen
  exact hopen.1

theorem State.openSlot_lt {i : Nat} {s : State} (h : s.openSlot = some i) : i < 2 := by
  have hmem := List.mem_of_find?_eq_some h
  simp only [List.mem_cons, List.not_mem_nil, or_false] at hmem
  omega

/-- A waiting record enters Computing in a slot that was Empty: every other slot stays as it is. -/
theorem State.pumpSlots_slot {s : State} (hlen : s.sh.slots.length = 2) (j : Nat) :
    s.pumpSlots.sh.slots.getD j {} = s.sh.slots.getD j {} ∨ s.slotState j = .empty ∧ s.pumpSlots.slotState j = .computing := by
  unfold State.pumpSlots
  split
  next f tn i _ hopen =>
    have hslots : (State.deflect f { s with sh := { s.sh with waiting := none } }).2.sh.slots = s.sh.slots := by simp
    have hi : i < (State.deflect f { s with sh := { s.sh with waiting := none } }).2.sh.slots.length := by
      rw [hslots, hlen]
      exact State.openSlot_lt hopen
    simp only [State.startSlot, State.slotState, State.slot_updSlot hi, hslots]
    split
    next hij => exact .inr ⟨hij ▸ State.openSlot_empty hopen, rfl⟩
    next => exact .inl rfl
  next => exact .inl rfl

/-- The one slot of the two that is Complete. -/
theorem State.completeSlot_eq {i : Nat} {s : State} (hi : i < 2) (hown : s.slotState i = .complete)
    (hother : s.slotState (1 - i) ≠ .complete) : s.completeSlot = some i := by
  obtain rfl | rfl : i = 0 ∨ i = 1 := by omega
  · simp [State.completeSlot, hown, hother, minBy]
  · simp [State.completeSlot, hown, hother, minBy]

/-! ## Faults that wait, and the count of late flashes (R182) -/

/-- Every fault that waits goes on to wait, and no flash is counted late. -/
def State.KeepsLate (s u : State) : Prop := s.arb.faultQ <+: u.arb.faultQ ∧ u.sh.stats.late = s.sh.stats.late

theorem State.KeepsLate.of_eq {s u : State} (harb : u.arb = s.arb) (hsh : u.sh.stats.late = s.sh.stats.late) : s.KeepsLate u :=
  ⟨⟨[], by rw [harb, List.append_nil]⟩, hsh⟩

theorem State.KeepsLate.refl (s : State) : s.KeepsLate s := .of_eq rfl rfl

theorem State.KeepsLate.trans {s v u : State} : s.KeepsLate v → v.KeepsLate u → s.KeepsLate u
  | ⟨hfaults, hlate⟩, ⟨hfaults', hlate'⟩ => ⟨hfaults.trans hfaults', hlate'.trans hlate⟩

theorem State.KeepsLate.foldl {β : Type} {f : State → β → State} (hf : ∀ (s : State) x, s.KeepsLate (f s x)) (l : List β) (s : State) :
    s.KeepsLate (l.foldl f s) := by
  induction l generalizing s with
  | nil => exact .refl s
  | cons x l ih => exact (hf s x).trans (ih _)

theorem State.KeepsLate.waits {s u : State} {at' addr : Nat} {f : FaultName} (h : s.KeepsLate u) (hwait : s.waits at' f addr) :
    u.waits at' f addr := by
  obtain ⟨hfaults, -⟩ := h
  obtain ⟨r, hr, hwait⟩ := hwait
  exact ⟨r, hfaults.subset hr, hwait⟩

section
variable (s : State)

theorem State.raise_keepsLate (f : FaultName) (addr : Nat) : s.KeepsLate (s.raise f addr) :=
  ⟨⟨_, rfl⟩, by simp⟩

theorem State.raiseUnless_keepsLate (done : Bool) (f : FaultName) (addr : Nat) : s.KeepsLate (s.raiseUnless done f addr) := by
  cases done with
  | false => exact s.raise_keepsLate f addr
  | true => exact .refl s

theorem State.readWords_keepsLate (kind : Nat) (words : List (Nat × Option Nat)) : s.KeepsLate (s.readWords kind words) :=
  .foldl (fun s w => by
    split
    · exact .of_eq rfl rfl
    · split
      · exact .refl s
      · exact (s.raise_keepsLate .tableEcc _).trans (.of_eq rfl rfl)) words s

theorem State.deflect_keepsLate (f : FlashRec) : s.KeepsLate (s.deflect f).2 := by
  unfold State.deflect
  dsimp only
  split
  · exact (s.readWords_keepsLate kLag _).trans (.of_eq rfl rfl)
  · exact .of_eq rfl rfl

theorem State.pumpSlots_keepsLate : s.KeepsLate s.pumpSlots := by
  unfold State.pumpSlots
  split
  · exact (State.deflect_keepsLate { s with sh := { s.sh with waiting := none } } _).trans (.of_eq rfl rfl)
  · exact .refl s

theorem State.doseClamp_keepsLate (codes : List (List Nat)) : s.KeepsLate (s.doseClamp codes).2 :=
  (s.raiseUnless_keepsLate _ .doseClamp s.flash40).trans (.of_eq rfl rfl)

theorem State.takeSlot_keepsLate (i : Nat) : s.KeepsLate (s.takeSlot i) := by
  unfold State.takeSlot
  dsimp only
  split
  · exact .of_eq (by simp) (by simp)
  · refine State.KeepsLate.trans ?_ (State.pumpSlots_keepsLate _)
    split
    · exact .of_eq (by simp) (by simp)
    · exact (s.doseClamp_keepsLate (s.sh.slots.getD i {}).codes).trans (.of_eq (by simp) (by simp))

theorem State.takeSlots_keepsLate (n : Nat) : s.KeepsLate (State.takeSlots n s) := by
  induction n generalizing s with
  | zero => exact .refl s
  | succ n ih =>
    unfold State.takeSlots
    split
    · exact .refl s
    · split
      next i _ => exact (s.takeSlot_keepsLate i).trans (ih _)
      next => exact .refl s

theorem State.updCf_keepsLate (f : Cuff → Cuff) : s.KeepsLate (s.updCf f) := .of_eq rfl rfl

theorem State.beginLane_keepsLate (fr : FlashFrames) (void : Bool) (cause l : Nat) : s.KeepsLate (s.beginLane fr void cause l) :=
  .of_eq (by simp) (by simp)

theorem State.digestArrives_keepsLate (d : Dig) : s.KeepsLate (s.digestArrives d) := by
  unfold State.digestArrives
  split
  · exact .of_eq rfl rfl
  · dsimp only
    refine State.KeepsLate.trans ?_ (State.raiseUnless_keepsLate _ ..)
    exact .of_eq rfl rfl

theorem State.sendDigest_keepsLate (f : FlashFrames) (void : Bool) : s.KeepsLate (s.sendDigest f void) := by
  unfold State.sendDigest
  dsimp only
  split
  · exact .refl s
  · refine State.KeepsLate.trans (.of_eq ?_ ?_) (State.digestArrives_keepsLate _ _) <;> simp

theorem State.lateFrames_keepsLate (f : FlashRec) (tn : Nat) : s.KeepsLate (s.lateFrames f tn) := by
  unfold State.lateFrames
  refine State.KeepsLate.trans ?_ (State.takeSlots_keepsLate _ 2)
  refine State.KeepsLate.trans ?_ (State.updCf_keepsLate ..)
  refine State.KeepsLate.trans ?_ (State.sendDigest_keepsLate ..)
  exact (s.updCf_keepsLate _).trans (.foldl (fun s l => s.beginLane_keepsLate _ true 1 l) ..)

end

end Sys2Proof.Machine
end

section
/-! PROOFS. 06 R182, R537 and 08 R238 to R243: the codes of a flash, its deadline, and the frames of its lanes. -/

namespace Sys2Proof.Machine
open Sys2Proof

/-! ## The slots of Shuttle by their number -/

theorem find?_slot {p : Nat → Bool} {i : Nat} (hi : i < 2) (hown : p i = true) (hother : p (1 - i) = false) :
    [0, 1].find? p = some i := by
  obtain rfl | rfl : i = 0 ∨ i = 1 := by omega
  · simp [hown]
  · simp_all

theorem find?_slot_none {p : Nat → Bool} (h : ∀ i < 2, p i = false) : [0, 1].find? p = none := by
  simp [h 0 (by decide), h 1 (by decide)]

/-! ## What waits for Gusset (11 R342) -/

/-- A twin's state with nothing that waits to be sent. -/
def Twin.sent (tw : Twin) : Twin := { tw with txQ := [] }

theorem Twin.eq_of_sent {a b : Twin} (h : a.sent = b.sent) : a = { b with txQ := a.txQ } :=
  congrArg (fun c : Twin => { c with txQ := a.txQ }) h

@[simp] theorem State.toPeer_sent (m : GMsg) (s : State) : (s.toPeer m).twin.sent = s.twin.sent := by
  unfold State.toPeer
  split <;> rfl

@[simp] theorem State.report_sent (stripe band outcome : Nat) (failed : Bool) (s : State) :
    (s.report stripe band outcome failed).twin.sent = s.twin.sent := by
  unfold State.report
  split
  · rfl
  · simp

@[simp] theorem State.bandData_sent (stripe band : Nat) (s : State) : (s.bandData stripe band).twin.sent = s.twin.sent := by
  unfold State.bandData
  split
  · rfl
  · dsimp only
    (repeat' split) <;> simp

@[simp] theorem State.polderReads_sent (stripe lead : Nat) (e : Seen) (s : State) :
    (s.polderReads stripe lead e).twin.sent = s.twin.sent := by
  unfold State.polderReads
  refine (foldl_keep (fun s => s.twin.sent) _ _ _ fun s a => ?_).trans ?_
  · simp
  · split <;> simp

/-! ## The codes of a flash (06 R182) -/

theorem rowsOf_length (n k : Nat) (l : List Nat) : (rowsOf n k l).length = k := by
  induction k generalizing l with
  | zero => rfl
  | succ k ih => rw [rowsOf, List.length_cons, ih]

theorem State.laneWork_codes_length (f : FlashRec) (st : Stripe) (sl : Slot) (pix tab : List (Nat × Nat)) (s : State) :
    (s.laneWork f st sl pix tab).codes.length = 512 :=
  rowsOf_length ..

theorem State.noteFlash_congr {s u : State} (h : u.slack = s.slack) {f : Option Nat} {w : Nat} :
    (u.noteFlash f w).slack = (s.noteFlash f w).slack := by
  simp only [State.noteFlash, h]

section
variable (i w : Nat) (f : FlashRec) (st : Stripe) (k : LaneWork) (s : State)

/-- The codes make the slot Complete; no other slot changes. -/
theorem State.slotComplete_slots : ∃ un void, (s.slotComplete i w f st k).sh.slots = listUpd s.sh.slots i fun sl =>
    { sl with state := .complete, codes := k.codes, clamped := k.seen.clamped, unavailable := un, tableVoid := void } := by
  exact ⟨_, _, by simp [State.slotComplete]; rfl⟩

theorem State.slotComplete_slack : (s.slotComplete i w f st k).slack = (s.noteFlash (some f.flash) w).slack := by
  unfold State.slotComplete
  exact State.noteFlash_congr (by simp)

theorem State.slotComplete_sent : (s.slotComplete i w f st k).twin.sent = s.twin.sent := by
  simp [State.slotComplete]

end

theorem State.pumpSlots_complete {j : Nat} {s : State} (hlen : s.sh.slots.length = 2) (h : s.slotState j = .complete) :
    s.pumpSlots.sh.slots.getD j {} = s.sh.slots.getD j {} := by
  obtain hsame | ⟨hempty, -⟩ := State.pumpSlots_slot hlen j
  · exact hsame
  · exact nomatch h.symm.trans hempty

theorem State.pumpSlots_notComplete {j : Nat} {s : State} (hlen : s.sh.slots.length = 2) (h : s.slotState j ≠ .complete) :
    s.pumpSlots.slotState j ≠ .complete := by
  obtain hsame | ⟨-, hcomputing⟩ := State.pumpSlots_slot hlen j
  · rwa [State.slotState, hsame]
  · rw [hcomputing]
    decide

/-- The upsets of the lag table wait for the next update of the deflector model. -/
def State.noteLag (tab : List (Nat × Nat)) (s : State) : State :=
  { s with sh := { s.sh with lagUpset := tab.filter fun u => u.1 / 2 ^ 20 == kLag } }

section
variable {i flash w : Nat} {pix tab : List (Nat × Nat)} {f : FlashRec} {st : Stripe} {s : State} (hlen : s.sh.slots.length = 2)
  (hi : i < 2) (hstate : s.slotState i = .computing) (hother : s.slotState (1 - i) = .empty)
  (hrec : (s.sh.slots.getD i {}).record = some f) (hflash : f.flash = flash) (hst : s.hem.stripe = some st)

include hi hstate hother hrec hflash hst in
theorem State.lanesDone_computing : s.lanesDone flash w pix tab =
    (s.noteLag tab).slotComplete i w f st ((s.noteLag tab).laneWork f st (s.sh.slots.getD i {}) pix tab) := by
  have hfind : [0, 1].find? (fun i => (s.noteLag tab).slotState i == SlotState.computing &&
      (((s.noteLag tab).sh.slots.getD i {}).record.map (·.flash)) == some flash) = some i := by
    refine find?_slot hi ?_ ?_
    · rw [show (s.noteLag tab).slotState i = .computing from hstate, show ((s.noteLag tab).sh.slots.getD i {}).record = some f from hrec,
        Option.map_some, hflash]
      simp
    · rw [show (s.noteLag tab).slotState (1 - i) = .empty from hother]
      rfl
  unfold State.lanesDone
  dsimp only
  unfold State.noteLag at hfind ⊢
  rw [hfind]
  simp only [hrec, hst]

include hlen hi hstate hother hrec hflash hst

/-- As the lane engines of a flash deliver, its slot is Complete with its 512 rows of codes, and the other one still Empty. -/
theorem State.lanesDone_spec : let v := s.lanesDone flash w pix tab
    v.sh.slots.length = 2 ∧ (v.sh.slots.getD i {}).state = .complete ∧ (v.sh.slots.getD i {}).record = some f ∧
      (v.sh.slots.getD i {}).codes.length = 512 ∧ v.slotState (1 - i) = .empty ∧
      v.slack = (s.noteFlash (some flash) w).slack ∧ v.twin.sent = s.twin.sent := by
  obtain ⟨un, void, hslots⟩ := State.slotComplete_slots i w f st
    ((s.noteLag tab).laneWork f st (s.sh.slots.getD i {}) pix tab) (s.noteLag tab)
  have hslot (j : Nat) := congrArg (fun l : List Slot => l.getD j {}) hslots
  simp only [listUpd_getD _ _ _ _ _ (show i < (s.noteLag tab).sh.slots.length from hlen ▸ hi)] at hslot
  rw [State.lanesDone_computing hi hstate hother hrec hflash hst]
  dsimp only
  rw [State.slotState, hslot i, if_pos rfl, hslot (1 - i), if_neg (by omega), hslots, listUpd_length]
  exact ⟨hlen, rfl, hrec, State.laneWork_codes_length .., hother, hflash ▸ State.slotComplete_slack .., State.slotComplete_sent ..⟩

/-- Then a waiting record may take the Empty slot, which does not touch the Complete one. -/
theorem State.lanesDone_pumpSlots : let v := (s.lanesDone flash w pix tab).pumpSlots
    v.slotState i = .complete ∧ (v.sh.slots.getD i {}).record = some f ∧ (v.sh.slots.getD i {}).codes.length = 512 ∧
      v.completeSlot = some i := by
  obtain ⟨hlen', hcomplete, hrecord, hcodes, hempty, -⟩ :=
    State.lanesDone_spec (w := w) (pix := pix) (tab := tab) hlen hi hstate hother hrec hflash hst
  have hslot := State.pumpSlots_complete hlen' hcomplete
  have hown : (s.lanesDone flash w pix tab).pumpSlots.slotState i = .complete := (congrArg Slot.state hslot).trans hcomplete
  refine ⟨hown, (congrArg Slot.record hslot).trans hrecord, (congrArg (fun sl : Slot => sl.codes.length) hslot).trans hcodes, ?_⟩
  exact State.completeSlot_eq hi hown (State.pumpSlots_notComplete hlen' (by rw [hempty]; decide))

end

/-- What LANE_ENGINES_DONE leaves: Cuff takes the slot while it has room, else the slot stays Complete. -/
theorem execLaneEnginesDone_computing {t i flash w : Nat} {pix tab : List (Nat × Nat)} {f : FlashRec} {st : Stripe} {s : State}
    (hlen : s.sh.slots.length = 2) (hi : i < 2) (hstate : s.slotState i = .computing)
    (hrec : (s.sh.slots.getD i {}).record = some f) (hflash : f.flash = flash) (hother : s.slotState (1 - i) = .empty)
    (hst : s.hem.stripe = some st) : ∃ u, execLaneEnginesDone t flash w pix tab s = .next u ∧
      (s.cf.frames.length < 2 → ∃ fr ∈ u.cf.frames, fr.record = f) ∧
      (2 ≤ s.cf.frames.length → u.slotState i = .complete ∧ (u.sh.slots.getD i {}).codes.length = 512 ∧ u.cf = s.cf) ∧
      u.slack = (s.noteFlash (some flash) w).slack ∧ u.twin.sent = (s.atTime t).twin.sent ∧
      u.eng = s.eng ∧ u.fc = (s.atTime t).fc ∧ u.mb = s.mb ∧ u.dram = s.dram ∧ u.feed = s.feed ∧ u.br = s.br ∧ u.hem = s.hem ∧
      u.job = s.job ∧ u.pol.sram = s.pol.sram := by
  obtain ⟨hcomplete, hrecord, hcodes, hslot⟩ :=
    State.lanesDone_pumpSlots (s := s.atTime t) (w := w) (pix := pix) (tab := tab) hlen hi hstate hother hrec hflash hst
  obtain ⟨-, -, -, -, -, hslack, hsent⟩ :=
    State.lanesDone_spec (s := s.atTime t) (w := w) (pix := pix) (tab := tab) hlen hi hstate hother hrec hflash hst
  have hcf : ((s.atTime t).lanesDone flash w pix tab).pumpSlots.cf = s.cf := by simp
  refine ⟨_, rfl, fun hroom => ?_, fun hfull => ?_, ?_, ?_, by simp⟩
  · rw [State.takeSlots_takes (hcf ▸ hroom) hslot]
    obtain ⟨l, hl, hnew⟩ := State.takeSlot_cf i ((s.atTime t).lanesDone flash w pix tab).pumpSlots
    obtain ⟨l', hl'⟩ := State.takeSlots_cf 1 (((s.atTime t).lanesDone flash w pix tab).pumpSlots.takeSlot i)
    obtain ⟨fr, hfr, hof⟩ := hnew f hrecord
    rw [hl', hl]
    exact ⟨fr, by simp [hfr], hof⟩
  · rw [State.takeSlots_full (hcf ▸ hfull)]
    exact ⟨hcomplete, hcodes, hcf⟩
  · simpa using hslack.trans (State.noteFlash_congr (by simp))
  · simpa using hsent

/-! ## The deadline of a flash (06 R182; 08 R241) -/

/-- The VOID frames of a late flash begin. -/
def State.beginVoids (f : FlashRec) (tn : Nat) (s : State) : State :=
  let fr := s.framesFor f tn .void 1 false []
  (List.range 64).foldl (fun s l => State.beginLane fr true 1 s l) (s.updCf fun c => { c with frames := c.frames ++ [fr] })

theorem State.lateFrames_cf (f : FlashRec) (tn : Nat) (s : State) :
    ∃ l, (s.lateFrames f tn).cf = { (s.beginVoids f tn).cf with frames := l } := by
  obtain ⟨l, hl⟩ := State.takeSlots_cf 2 (((s.beginVoids f tn).sendDigest (s.framesFor f tn .void 1 false []) true).updCf
    fun c => { c with frames := c.frames.filter fun (x : FlashFrames) => x.record.flash != f.flash })
  exact ⟨_, hl.trans (by simp; rfl)⟩

theorem State.lateFrames_out (f : FlashRec) (tn : Nat) (s : State) : (s.lateFrames f tn).out = (s.beginVoids f tn).out := by
  simp [State.lateFrames, State.beginVoids]

/-- A late flash goes as a VOID frame on every lane that has a physical one. -/
theorem State.lateFrames_void {f : FlashRec} {tn : Nat} {s : State} (hmute : s.mute = false) (hrun : s.running = true) :
    let u := s.lateFrames f tn
    u.cf.stats.voidFrames = s.cf.stats.voidFrames + ((List.range 64).filter fun l => (s.physOf l).isSome).length ∧
      ∀ l < 64, ∀ k, s.physOf l = some k → ∃ slot bytes, .frame k slot bytes ∈ u.out ∧ bytes.length = 5168 := by
  obtain ⟨hcount, hsent⟩ := State.beginLanes_void (fr := s.framesFor f tn .void 1 false []) (cause := 1)
    (s := s.updCf fun c => { c with frames := c.frames ++ [s.framesFor f tn .void 1 false []] }) hmute hrun (List.range 64)
  have hphys (g : Cuff → List FlashFrames) (l : Nat) : (s.updCf fun c => { c with frames := g c }).physOf l = s.physOf l := rfl
  simp only [hphys] at hcount hsent
  obtain ⟨frames, hcf⟩ := State.lateFrames_cf f tn s
  dsimp only
  rw [hcf, State.lateFrames_out]
  unfold State.beginVoids
  exact ⟨by simpa using hcount, fun l hl => hsent l (List.mem_range.2 hl)⟩

/-- A late flash leaves its slot, reported and counted. -/
def State.leaveLate (i flash : Nat) (s : State) : State := (s.updSlot i fun _ => {}).slotLate flash

section
variable {i flash : Nat} {f : FlashRec} {s : State}

theorem State.leaveLate_waits : (s.leaveLate i flash).waits s.now .slotLate flash :=
  State.waits_raise .slotLate flash (s.updSlot i fun _ => {})

theorem State.leaveLate_frame : let u := s.leaveLate i flash
    u.eng = s.eng ∧ u.twin = s.twin ∧ u.cf = s.cf ∧ u.mb = s.mb ∧ u.dram = s.dram ∧ u.feed = s.feed ∧ u.br = s.br ∧
      u.hem = s.hem ∧ u.job = s.job ∧ u.sh.stats.late = s.sh.stats.late + 1 := by
  simp [State.leaveLate, State.slotLate]

theorem State.frameDue_noRecord (h : s.sh.waiting = none) (flash : Nat) : s.frameDue flash = s.slotDue flash := by
  rw [State.frameDue, h]

/-- A flash whose slot is still Computing at its deadline leaves the slot, and is late. -/
theorem State.slotDue_late (hi : i < 2) (hstate : s.slotState i = .computing) (hrec : (s.sh.slots.getD i {}).record = some f)
    (hflash : f.flash = flash) (hother : (s.sh.slots.getD (1 - i) {}).record = none)
    (hdue : frameDeadline (s.sh.slots.getD i {}).tn ≤ s.now) : s.slotDue flash =
      ((s.leaveLate i flash).lateFrames f (s.sh.slots.getD i {}).tn).pumpSlots := by
  have hcomputing : ((s.sh.slots.getD i {}).state == .complete) = false := by
    rw [show (s.sh.slots.getD i {}).state = .computing from hstate]
    rfl
  unfold State.slotDue
  dsimp only
  rw [find?_slot hi (by simp [-List.getD_eq_getElem?_getD, hrec, hflash, hdue]) (by simp [-List.getD_eq_getElem?_getD, hother])]
  simp only [hcomputing, hrec, Bool.false_eq_true, if_false, State.leaveLate]

theorem State.slotDue_idle (hslots : ∀ i < 2, ∀ f, (s.sh.slots.getD i {}).record = some f → f.flash = flash →
      s.now < frameDeadline (s.sh.slots.getD i {}).tn)
    (hframes : ∀ x ∈ s.cf.frames, x.record.flash = flash → s.now < frameDeadline x.tn) : s.slotDue flash = s := by
  have hnone : s.cf.frames.find? (fun f => f.record.flash == flash && decide (frameDeadline f.tn ≤ s.now)) = none := by
    simpa using hframes
  unfold State.slotDue
  dsimp only
  rw [find?_slot_none, hnone]
  intro i hi
  split
  next f hf => simpa [-List.getD_eq_getElem?_getD] using hslots i hi f hf
  next => rfl

end

/-- What FRAME_DEADLINE leaves of a flash whose slot is still Computing: SLOT_LATE waits and is counted once, and its VOID
frames have begun, whatever Cuff then takes. -/
theorem execFrameDeadline_late {t i flash : Nat} {f : FlashRec} {s : State} (hi : i < 2)
    (hwaiting : s.sh.waiting = none) (hstate : s.slotState i = .computing) (hrec : (s.sh.slots.getD i {}).record = some f)
    (hflash : f.flash = flash) (hother : (s.sh.slots.getD (1 - i) {}).record = none)
    (hdue : frameDeadline (s.sh.slots.getD i {}).tn ≤ (s.atTime t).now) (hmute : s.mute = false) (hrun : s.running = true) :
    ∃ u, execFrameDeadline t flash s = .next u ∧
      u.waits (s.atTime t).now .slotLate flash ∧ u.sh.stats.late = s.sh.stats.late + 1 ∧
      u.cf.stats.voidFrames = s.cf.stats.voidFrames + ((List.range 64).filter fun l => (s.physOf l).isSome).length ∧
      (∀ l < 64, ∀ k, s.physOf l = some k → ∃ slot bytes, .frame k slot bytes ∈ u.out ∧ bytes.length = 5168) ∧
      u.eng = s.eng ∧ u.mb = s.mb ∧ u.dram = s.dram ∧ u.feed = s.feed ∧ u.br = s.br ∧ u.hem = s.hem ∧ u.job = s.job := by
  obtain ⟨heng, htwin, hcf, hmb, hdram, hfeed, hbr, hhem, hjob, hcounted⟩ := (s.atTime t).leaveLate_frame (i := i) (flash := flash)
  have hkeeps := (State.lateFrames_keepsLate ((s.atTime t).leaveLate i flash) f (s.sh.slots.getD i {}).tn).trans
    (State.pumpSlots_keepsLate _)
  have hphys (l : Nat) : ((s.atTime t).leaveLate i flash).physOf l = s.physOf l := State.physOf_congr (congrArg Cuff.route hcf) l
  obtain ⟨hcount, hsent⟩ := State.lateFrames_void (f := f) (tn := (s.sh.slots.getD i {}).tn)
    ((State.mute_congr htwin).trans hmute) ((State.running_congr heng).trans hrun)
  simp only [hphys, hcf] at hcount hsent
  have hexec : execFrameDeadline t flash s =
      .next (((s.atTime t).leaveLate i flash).lateFrames f (s.sh.slots.getD i {}).tn).pumpSlots :=
    congrArg Host.Outcome.next ((State.frameDue_noRecord (s := s.atTime t) hwaiting flash).trans
      (State.slotDue_late (s := s.atTime t) hi hstate hrec hflash hother hdue))
  refine ⟨_, hexec, hkeeps.waits State.leaveLate_waits, ?_, ?_, ?_, ?_⟩
  · obtain ⟨-, hlate⟩ := hkeeps
    exact hlate.trans hcounted
  · simpa using hcount
  · simpa using hsent
  · simp [heng, hmb, hdram, hfeed, hbr, hhem, hjob]

/-! ## The frames of a flash are packed (08 R238) -/

theorem maxWork_mem {f w : Nat} {l l' : List (Option Nat × Nat)} (h : maxWork f w l = some l') :
    ∃ w', w ≤ w' ∧ (some f, w') ∈ l' := by
  induction l generalizing l' with
  | nil => exact nomatch h
  | cons x l ih =>
    unfold maxWork at h
    split at h
    next l₁ hrest =>
      obtain rfl := Option.some.inj h
      obtain ⟨w', hw, hmem⟩ := ih hrest
      exact ⟨w', hw, List.mem_cons_of_mem _ hmem⟩
    next =>
      split at h
      next hx =>
        obtain rfl := Option.some.inj h
        exact ⟨max x.2 w, Nat.le_max_right .., hx ▸ List.mem_cons_self ..⟩
      next => exact nomatch h

/-- A work time enters the window, under its flash, unless a larger one already stands there. -/
theorem State.noteWork_mem (f w : Nat) (s : State) : ∃ w', w ≤ w' ∧ (some f, w') ∈ (s.noteWork f w).slack.window := by
  unfold State.noteWork
  split
  next l hl => exact maxWork_mem hl
  next => exact ⟨w, Nat.le_refl w, State.noteFlash_mem ..⟩

/-- The frames of a flash are packed for some lanes, and the work time of their assemblers is measured. -/
def State.packFrames (flash w : Nat) (ready : List Nat) (full : Bool) (s : State) : State :=
  ((s.updCf fun c => { c with frames := c.frames.map fun (x : FlashFrames) =>
    if x.record.flash == flash then { x with ready := ready, digested := x.digested || full } else x }).cuffStats fun t =>
    { t with asmWMaxNs := max t.asmWMaxNs w }).noteWork flash w

section
variable {t flash w : Nat} {lanes : List Nat} {s : State}

theorem execFrameAssemblyDone_unknown (h : s.cf.frames.find? (·.record.flash == flash) = none) :
    execFrameAssemblyDone t flash w lanes s = .next (s.atTime t) := by
  have h' : (s.atTime t).cf.frames.find? (·.record.flash == flash) = none := h
  simp only [execFrameAssemblyDone, h']

theorem execFrameAssemblyDone_eq {f : FlashFrames} (h : s.cf.frames.find? (·.record.flash == flash) = some f) :
    let ready := f.ready ++ lanes.filter fun l => decide (l < 64) && !f.ready.contains l
    let full := (List.range 64).all ready.contains
    let v := (s.atTime t).packFrames flash w ready full
    execFrameAssemblyDone t flash w lanes s = .next (if full && !f.digested then v.sendDigest f f.void else v) := by
  have h' : (s.atTime t).cf.frames.find? (·.record.flash == flash) = some f := h
  simp only [execFrameAssemblyDone, h']
  rfl

theorem execFrameAssemblyDone_held {f : FlashFrames} (h : s.cf.frames.find? (·.record.flash == flash) = some f) :
    let ready := f.ready ++ lanes.filter fun l => decide (l < 64) && !f.ready.contains l
    ∃ u, execFrameAssemblyDone t flash w lanes s = .next u ∧ u.cf.stats.asmWMaxNs = max s.cf.stats.asmWMaxNs w ∧
      u.cf.frames = s.cf.frames.map (fun (x : FlashFrames) =>
        if x.record.flash == flash then { x with ready := ready, digested := x.digested || (List.range 64).all ready.contains } else x) ∧
      (∃ w', w ≤ w' ∧ (some flash, w') ∈ u.slack.window) ∧
      u.eng = s.eng ∧ u.mb = s.mb ∧ u.dram = s.dram ∧ u.hem = s.hem ∧ u.br = s.br ∧ u.bands = s.bands ∧ u.sh = s.sh := by
  refine ⟨_, execFrameAssemblyDone_eq h, ?_⟩
  unfold State.packFrames
  split <;> exact ⟨by simp, by simp, by simpa using State.noteWork_mem .., by simp⟩

end

/-! ## The next frame of a lane (08 R239) -/

section
variable {lane k : Nat} {f : FlashFrames} {s : State}

theorem State.beginNext_ready (hphys : s.physOf lane = some k)
    (hf : s.cf.frames.find? (fun f => !f.sent.any (·.1 == lane)) = some f) (hready : lane ∈ f.ready) :
    s.beginNext lane = s.beginFrame f lane k f.void f.cause := by
  rw [State.beginNext, hphys, hf]
  exact if_pos (List.contains_iff_mem.2 hready)

theorem State.beginNext_notReady (hf : s.cf.frames.find? (fun f => !f.sent.any (·.1 == lane)) = some f) (hready : lane ∉ f.ready) :
    s.beginNext lane = s := by
  rw [State.beginNext, hf]
  split
  next g _ hg =>
    obtain rfl := Option.some.inj hg
    exact if_neg fun h => hready (List.contains_iff_mem.1 h)
  next => rfl

theorem State.beginNext_route (lane : Nat) (s : State) : (s.beginNext lane).cf.route = s.cf.route := by
  unfold State.beginNext
  split
  · split
    · exact State.beginFrame_route ..
    · rfl
  · rfl

theorem State.beginNext_out_grows (lane : Nat) (s : State) : s.out <+: (s.beginNext lane).out := by
  unfold State.beginNext
  split
  · split
    · exact State.beginFrame_out_grows ..
    · exact ⟨[], List.append_nil _⟩
  · exact ⟨[], List.append_nil _⟩

end

theorem Lane.nextSlot_free {ln : Lane} {t : Nat} (h : ln.free ≤ slotAt ln.origin t) : ln.nextSlot t = slotAt ln.origin t :=
  Nat.max_eq_left h

section
variable {t lane k : Nat} {f : FlashFrames} {s : State}

theorem execFrameSendStart_idle (h : s.running = false ∨ s.physOf lane = none ∨
      ∃ k, s.physOf lane = some k ∧ slotAt (s.lane k).origin (s.atTime t).now < (s.lane k).free) :
    execFrameSendStart t lane s = .next (s.atTime t) := by
  refine congrArg Host.Outcome.next ?_
  split
  next k hk =>
    have hk : s.physOf lane = some k := hk
    refine if_neg fun hgo => ?_
    obtain ⟨hrun, hfree⟩ := Bool.and_eq_true_iff.1 hgo
    obtain hrun' | hnone | ⟨k', hk', hbusy⟩ := h
    · exact nomatch hrun'.symm.trans hrun
    · exact nomatch hnone.symm.trans hk
    · obtain rfl := Option.some.inj (hk'.symm.trans hk)
      exact absurd (of_decide_eq_true hfree) (Nat.not_le.2 hbusy)
  next => rfl

variable (hrun : s.running = true) (hphys : s.physOf lane = some k) (hfree : (s.lane k).free ≤ slotAt (s.lane k).origin (s.atTime t).now)
include hrun hphys hfree

theorem execFrameSendStart_free : execFrameSendStart t lane s = .next (((s.atTime t).beginNext lane).pruneFrames) := by
  have hgo : ((s.atTime t).running && decide (((s.atTime t).lane k).free ≤ slotAt ((s.atTime t).lane k).origin (s.atTime t).now)) = true :=
    Bool.and_eq_true_iff.2 ⟨hrun, decide_eq_true hfree⟩
  have hphys' : (s.atTime t).physOf lane = some k := hphys
  simp only [execFrameSendStart, hphys', hgo, if_true]

variable (hf : s.cf.frames.find? (fun f => !f.sent.any (·.1 == lane)) = some f)
include hf

theorem execFrameSendStart_notReady (hready : lane ∉ f.ready) : execFrameSendStart t lane s = .next (s.atTime t).pruneFrames :=
  (execFrameSendStart_free hrun hphys hfree).trans (by rw [State.beginNext_notReady (s := s.atTime t) hf hready])

theorem execFrameSendStart_ready (hready : lane ∈ f.ready) (hmute : s.mute = false) :
    ∃ u bytes, execFrameSendStart t lane s = .next u ∧
      u.out = (s.atTime t).out ++ [.frame k (slotAt (s.lane k).origin (s.atTime t).now) bytes] ∧ bytes.length = 5168 ∧
      u.cf.stats.dataFrames + u.cf.stats.voidFrames = s.cf.stats.dataFrames + s.cf.stats.voidFrames + 1 ∧
      u.eng = s.eng ∧ u.mb = s.mb ∧ u.dram = s.dram ∧ u.hem = s.hem ∧ u.br = s.br ∧ u.bands = s.bands := by
  obtain ⟨hout, hstats⟩ := State.beginFrame_sends f lane k f.void f.cause (s := s.atTime t) hmute hrun
  obtain ⟨frames, hcf⟩ := State.pruneFrames_cf ((s.atTime t).beginFrame f lane k f.void f.cause)
  refine ⟨_, _, (execFrameSendStart_free hrun hphys hfree).trans
    (by rw [State.beginNext_ready (s := s.atTime t) hphys hf hready]), ?_, State.frameBytes_length f lane f.void f.cause (s.atTime t), ?_, ?_⟩
  · have hslot : ((s.atTime t).lane k).nextSlot (s.atTime t).now = slotAt (s.lane k).origin (s.atTime t).now := Lane.nextSlot_free hfree
    rw [← hslot, ← hout]
    simp
  · rw [hcf]
    dsimp only
    rw [hstats]
    cases f.void <;> simp <;> omega
  · simp

end

/-! ## STATUS frames (08 R243) -/

theorem State.sendControl_out (phys kind epoch seq stripe band flags : Nat) (tail : List Byte) (s : State) : ∃ slot b,
    (s.sendControl phys kind epoch seq stripe band flags tail).out = s.out ++ [.frame phys slot b] ∧ b.length = 17 + tail.length := by
  exact ⟨_, _, by simp [State.sendControl]; exact ⟨rfl, rfl⟩, by simp; omega⟩

/-- A fold each of whose steps sends one frame of n bytes on its lane. -/
theorem foldl_frames {step : State → Nat → State} {n : Nat}
    (h : ∀ s k, ∃ slot b, (step s k).out = s.out ++ [.frame k slot b] ∧ b.length = n) (ks : List Nat) (s : State) :
    ∃ l, (ks.foldl step s).out = s.out ++ l ∧ l.length = ks.length ∧ ∀ o ∈ l, ∃ k ∈ ks, ∃ slot b, o = .frame k slot b ∧ b.length = n := by
  induction ks generalizing s with
  | nil => exact ⟨[], by simp⟩
  | cons k ks ih =>
    obtain ⟨slot, b, hout, hb⟩ := h s k
    obtain ⟨l, hl, hlen, hall⟩ := ih (step s k)
    refine ⟨.frame k slot b :: l, by rw [List.foldl_cons, hl, hout, List.append_assoc]; rfl, by simp [hlen], fun o ho => ?_⟩
    obtain rfl | ho := List.mem_cons.1 ho
    · exact ⟨k, List.mem_cons_self .., slot, b, rfl, hb⟩
    · obtain ⟨k', hk', hframe⟩ := hall o ho
      exact ⟨k', List.mem_cons_of_mem _ hk', hframe⟩

theorem State.sendStatus_out (s : State) : ∃ l, s.sendStatus.out = s.out ++ l ∧ l.length = s.statusLanes.length ∧
    ∀ o ∈ l, ∃ k ∈ s.statusLanes, ∃ slot b, o = .frame k slot b ∧ b.length = 20 := by
  obtain ⟨l, hl, hframes⟩ := foldl_frames (n := 20) (step := fun u k => u.sendControl k 3 u.cf.epoch u.lastSeq u.curStripe u.cf.lastBand
    (s.cuffEnable.toNat + 2 * s.statusCode) [byteOf (u.logicalOf k), 0, 0]) (fun _ _ => State.sendControl_out ..) s.statusLanes s
  exact ⟨l, hl, hframes⟩

theorem State.cuffEnable_congr {s u : State} (heng : u.eng = s.eng) (htwin : u.twin = s.twin)
    (hexpired : u.dike.wdExpired = s.dike.wdExpired) : u.cuffEnable = s.cuffEnable := by
  simp only [State.cuffEnable, State.running_congr heng, State.mute_congr htwin, hexpired]

theorem State.statusCode_congr {s u : State} (heng : u.eng = s.eng) (htwin : u.twin = s.twin) : u.statusCode = s.statusCode := by
  have hstandby : u.standby = s.standby := by rw [State.standby, htwin, State.standby]
  rw [State.statusCode, hstandby, htwin, heng, State.statusCode]

theorem State.sendStatus_lastStatus (s : State) : s.sendStatus.cf.lastStatus = some (s.cuffEnable, s.statusCode) := by
  unfold State.sendStatus
  dsimp only
  rw [State.updCf_cf]
  exact congrArg some (Prod.ext (State.cuffEnable_congr (by simp) (by simp) (by simp)) (State.statusCode_congr (by simp) (by simp)))

/-- The complete frames that wait begin before the STATUS frames. -/
def State.beginWaiting (s : State) : State :=
  if s.running then (((List.range 64).foldl State.beginNext ((List.range 64).foldl State.beginNext s))).pruneFrames else s

theorem State.beginWaiting_idle {s : State} (h : s.running = false) : s.beginWaiting = s := by
  rw [State.beginWaiting, h]
  rfl

theorem State.beginNexts_route (ls : List Nat) (s : State) : (ls.foldl State.beginNext s).cf.route = s.cf.route :=
  foldl_keep (fun s => s.cf.route) _ _ _ fun s l => State.beginNext_route l s

theorem State.beginWaiting_route (s : State) : s.beginWaiting.cf.route = s.cf.route := by
  unfold State.beginWaiting
  split
  · obtain ⟨frames, hcf⟩ := State.pruneFrames_cf ((List.range 64).foldl State.beginNext ((List.range 64).foldl State.beginNext s))
    rw [hcf, Cuff.route_frames, State.beginNexts_route, State.beginNexts_route]
  · rfl

theorem State.beginWaiting_out_grows (s : State) : s.out <+: s.beginWaiting.out := by
  have hnexts (s : State) := foldl_out_grows (fun s l => State.beginNext_out_grows l s) (List.range 64) s
  unfold State.beginWaiting
  split
  · simpa using (hnexts s).trans (hnexts _)
  · exact ⟨[], List.append_nil _⟩

theorem State.beginWaiting_frame (s : State) : let u := s.beginWaiting
    u.eng = s.eng ∧ u.twin = s.twin ∧ u.dike.wdExpired = s.dike.wdExpired ∧ u.now = s.now ∧ u.mb = s.mb ∧ u.dram = s.dram ∧
      u.hem = s.hem ∧ u.br = s.br ∧ u.bands = s.bands ∧ u.job = s.job := by
  unfold State.beginWaiting
  split
  · simp
  · simp

section
variable {t : Nat} {s : State}

theorem State.cuffOn_iff : s.cuffOn = true ↔ s.eng.state ≠ .sleep ∧ s.eng.state ≠ .boot := by
  simp [State.cuffOn]

/-- status_interval has passed since the last periodic STATUS frames, if there were any. -/
theorem State.statusDue_iff : (s.cf.statusAt.all fun a => decide (a + s.cf.statusInterval * usSteps ≤ s.now)) = true ↔
    ∀ a, s.cf.statusAt = some a → a + s.cf.statusInterval * 12800 ≤ s.now := by
  cases s.cf.statusAt with
  | none => simp
  | some a => exact decide_eq_true_iff.trans (by simp [usSteps])

theorem execStatusFrame_due (hon : s.eng.state ≠ .sleep ∧ s.eng.state ≠ .boot)
    (hdue : ∀ a, s.cf.statusAt = some a → a + s.cf.statusInterval * 12800 ≤ (s.atTime t).now) : execStatusFrame t s =
      .next ((s.atTime t).beginWaiting.sendStatus.updCf fun c => { c with statusAt := some (s.atTime t).beginWaiting.now }) :=
  congrArg Host.Outcome.next (if_pos (Bool.and_eq_true_iff.2
    ⟨State.cuffOn_iff (s := s.atTime t).2 hon, State.statusDue_iff (s := s.atTime t).2 hdue⟩))

theorem execStatusFrame_notDue (h : ¬(s.eng.state ≠ .sleep ∧ s.eng.state ≠ .boot ∧
    ∀ a, s.cf.statusAt = some a → a + s.cf.statusInterval * 12800 ≤ (s.atTime t).now)) : execStatusFrame t s = .next (s.atTime t) :=
  congrArg Host.Outcome.next (if_neg fun hgo => by
    obtain ⟨hon, hdue⟩ := Bool.and_eq_true_iff.1 hgo
    obtain ⟨hsleep, hboot⟩ := State.cuffOn_iff.1 hon
    exact h ⟨hsleep, hboot, State.statusDue_iff (s := s.atTime t).1 hdue⟩)

/-- What STATUS_FRAME leaves: the frames that waited, then a STATUS frame on every lane that carries them. -/
theorem execStatusFrame_sends (hon : s.eng.state ≠ .sleep ∧ s.eng.state ≠ .boot)
    (hdue : ∀ a, s.cf.statusAt = some a → a + s.cf.statusInterval * 12800 ≤ (s.atTime t).now) :
    ∃ u l0 l, execStatusFrame t s = .next u ∧ u.out = (s.atTime t).out ++ l0 ++ l ∧ (s.running = false → l0 = []) ∧
      l.length = s.statusLanes.length ∧ (∀ o ∈ l, ∃ k ∈ s.statusLanes, ∃ slot b, o = .frame k slot b ∧ b.length = 20) ∧
      u.cf.lastStatus = some (s.cuffEnable, s.statusCode) ∧ u.cf.statusAt = some (s.atTime t).now ∧
      u.eng = s.eng ∧ u.mb = s.mb ∧ u.dram = s.dram ∧ u.hem = s.hem ∧ u.br = s.br ∧ u.bands = s.bands ∧ u.job = s.job := by
  obtain ⟨heng, htwin, hexpired, hnow, hmb, hdram, hhem, hbr, hbands, hjob⟩ := (s.atTime t).beginWaiting_frame
  have hlanes := State.statusLanes_congr ((s.atTime t).beginWaiting_route)
  obtain ⟨l0, hl0⟩ := (s.atTime t).beginWaiting_out_grows
  obtain ⟨l, hl, hlen, hframes⟩ := (s.atTime t).beginWaiting.sendStatus_out
  rw [hlanes] at hlen hframes
  refine ⟨_, l0, l, execStatusFrame_due hon hdue, ?_, fun hrun => ?_, hlen, hframes, ?_, ?_, ?_⟩
  · rw [hl0]
    simpa using hl
  · rw [State.beginWaiting_idle (s := s.atTime t) hrun] at hl0
    simpa using hl0
  · have hlast := (s.atTime t).beginWaiting.sendStatus_lastStatus
    rw [State.cuffEnable_congr heng htwin hexpired, State.statusCode_congr heng htwin] at hlast
    exact hlast
  · simp [hnow]
  · simp [heng, hmb, hdram, hhem, hbr, hbands, hjob]

end

/-! ## The statement -/

/-- Settles O46, command by command. -/
theorem framesOfFlashes : Obligations.FramesOfFlashes := by
  unfold Obligations.FramesOfFlashes
  intro t s hlen
  refine ⟨?_, ?_, ?_, ?_, ?_, ?_, ?_, ?_⟩
  -- LANE_ENGINES_DONE
  · intro i hi flash w pix tab f hstate hrec hflash hother hstripe
    obtain ⟨st, hst⟩ := Option.ne_none_iff_exists'.1 hstripe
    obtain ⟨u, hexec, hroom, hfull, hslack, hsent, heng, hfc, hmb, hdram, hfeed, hbr, hhem, hjob, hsram⟩ :=
      execLaneEnginesDone_computing (t := t) (w := w) (pix := pix) (tab := tab) hlen hi hstate hrec hflash hother hst
    exact ⟨u, hexec, hroom, hfull, congrArg Slack.measured hslack, hslack ▸ State.noteFlash_mem .., heng, hfc,
      Twin.eq_of_sent hsent, hmb, hdram, hfeed, hbr, hhem, hjob, hsram⟩
  -- FRAME_DEADLINE
  · exact fun i hi flash f hwaiting hstate hrec hflash hother hdue hmute hrun =>
      execFrameDeadline_late hi hwaiting hstate hrec hflash hother hdue hmute hrun
  · exact fun flash hwaiting hslots hframes => congrArg Host.Outcome.next
      ((State.frameDue_noRecord (s := s.atTime t) hwaiting flash).trans (State.slotDue_idle hslots hframes))
  -- FRAME_ASSEMBLY_DONE
  · exact fun flash w lanes => ⟨execFrameAssemblyDone_unknown, fun f => execFrameAssemblyDone_held⟩
  -- FRAME_SEND_START
  · exact fun lane _ k f hrun hphys hfree hf =>
      ⟨execFrameSendStart_ready hrun hphys hfree hf, execFrameSendStart_notReady hrun hphys hfree hf⟩
  · exact fun lane => execFrameSendStart_idle
  -- STATUS_FRAME
  · exact execStatusFrame_notDue
  · exact fun ⟨hsleep, hboot, hdue⟩ => execStatusFrame_sends ⟨hsleep, hboot⟩ hdue

end Sys2Proof.Machine
end

section
/-! PROOFS. 07 R222 to R225 with 11 R346: the checks of a flash's edges, the drop of HEM_TGOOD, and the phase trim. -/

namespace Sys2Proof.Machine
open Sys2Proof

/-! ## EDGE_LATE (07 R222) -/

theorem State.edgeLateOf_late {s : State} {c : Committed} {rest : List Committed} (hc : s.hem.committed = c :: rest)
    (hfirst : c.edgeLate = false) (hdue : s.hem.issuedEnd ≤ s.now) : s.edgeLateOf =
      ((s.updHem fun h => { h with committed := { c with edgeLate := true } :: rest }).hemStats fun t =>
        { t with edgeLate := sat64 (t.edgeLate + 1) }).raise .edgeLate c.record.flash := by
  simp [State.edgeLateOf, hc, hfirst, Nat.not_lt.2 hdue]

theorem State.edgeLateOf_passes {s : State}
    (h : s.now < s.hem.issuedEnd ∨ s.hem.committed = [] ∨ (s.hem.committed.head?.any fun c => c.edgeLate) = true) :
    s.edgeLateOf = s := by
  cases hc : s.hem.committed with
  | nil => simp [State.edgeLateOf, hc]
  | cons c rest =>
    have hpass : (c.edgeLate || decide (s.now < s.hem.issuedEnd)) = true := by
      simpa [hc, or_comm] using h
    simp only [State.edgeLateOf, hc, if_pos hpass]

/-! ## TGOOD_DROP (07 R223, R225) -/

theorem State.tgoodDrop_low {s : State} (flash : Nat) (hlow : s.eng.tgood = false) :
    s.tgoodDrop flash = s.updHem fun h => { h with dropFlash := some flash } := by
  simp [State.tgoodDrop, hlow]

theorem State.tgoodDrop_high {s : State} (flash : Nat) (hhigh : s.eng.tgood = true) : s.tgoodDrop flash = { s with
    eng := { s.eng with tgood := false, tgoodNeedsCal := true }
    arb := { (s.event (.tgood false)).arb with
      faultQ := (s.event (.tgood false)).arb.faultQ ++ [{ at' := s.now, name := .tgoodDrop, addr := flash % 2 ^ 48 }] }
    hem := { s.hem with
      dropFlash := some flash, stats := { s.hem.stats with tgoodDrops := sat64 (s.hem.stats.tgoodDrops + 1) } } } := by
  simp only [State.tgoodDrop, State.setTgood, State.updHem_frame, hhigh, Bool.not_true, Bool.false_eq_true, if_false,
    Bool.true_eq_false]
  rfl

/-! ## PEER_EDGE (07 R224) -/

/-- The difference of an edge to the peer's is a fault of its own: more than 150 ps, not yet raised for the flash, and the
module's own check of the flash has not failed. -/
def State.peerFar (flash : Nat) (d : Int) (s : State) : Prop :=
  150 * 256 < d.natAbs ∧ s.hem.peerEdgeFlash ≠ some flash ∧ s.hem.dropFlash ≠ some flash

theorem State.peerEdge_near {s : State} {flash : Nat} {d : Int} (h : ¬s.peerFar flash d) : s.peerEdge flash d = s := by
  refine if_pos ?_
  rw [State.peerFar, not_and_or, not_and_or, Nat.not_lt, not_not, not_not] at h
  simpa [absLe, or_assoc] using h

theorem State.peerEdge_far {s : State} {flash : Nat} {d : Int} (h : s.peerFar flash d) : s.peerEdge flash d =
    ((s.updHem fun h => { h with peerEdgeFlash := some flash }).hemStats fun t =>
      { t with peerEdges := sat64 (t.peerEdges + 1) }).raise .peerEdge flash := by
  obtain ⟨hfar, hpeer, hdrop⟩ := h
  refine if_neg ?_
  simp [absLe, hpeer, hdrop, Nat.not_le.2 hfar]

/-! ## PHASE_TRIM (11 R346) -/

/-- PHASE_DRIFT, once per stripe, for a mean difference beyond 40 ps. -/
def State.noteDrift (d : Int) (s : State) : State :=
  (s.raiseUnless (absLe d 10240 || s.hem.driftRaised) .phaseDrift (toBits 48 d)).updHem fun h =>
    { h with driftRaised := h.driftRaised || !absLe d 10240 }

/-- The trim that a mean difference asks of twin B for the next flash. -/
def Twin.moveTrim (d : Int) (w : Twin) : Twin :=
  { w with trimDue := some (clampInt (w.trimDue.getD w.trim + clampInt (roundHalfUp d 2500) (-4) 4) (-512) 511) }

theorem execPhaseTrim_eq (t : Nat) (meanD : Int) (s : State) :
    let d := meanD + 256 * (s.atTime t).twin.cfg.peerComp
    execPhaseTrim t meanD s = .next (if ((s.atTime t).noteDrift d).eng.twinB && ((s.atTime t).noteDrift d).inWriting then
      ((s.atTime t).noteDrift d).updTwin (Twin.moveTrim d) else (s.atTime t).noteDrift d) := by
  simp only [execPhaseTrim, State.noteDrift, Bool.not_not]
  rfl

theorem State.noteDrift_within {d : Int} {s : State} (h : d.natAbs ≤ 10240) :
    (s.noteDrift d).arb = s.arb ∧ (s.noteDrift d).hem = s.hem := by
  simp [State.noteDrift, absLe, h]

theorem State.noteDrift_eq (d : Int) (s : State) : s.noteDrift d =
    { s with arb := (s.noteDrift d).arb, hem := { s.hem with driftRaised := (s.noteDrift d).hem.driftRaised } } := by
  unfold State.noteDrift
  rw [State.raiseUnless_eq]
  rfl

theorem State.noteDrift_beyond {d : Int} {s : State} (h : 10240 < d.natAbs) : (s.noteDrift d).hem.driftRaised = true ∧
    (s.hem.driftRaised = false → ∃ a, (s.noteDrift d).arb.faultQ =
      s.arb.faultQ ++ [{ at' := s.now, name := .phaseDrift, addr := a }]) := by
  refine ⟨by simp [State.noteDrift, absLe, Nat.not_le.2 h], fun hfirst => ⟨toBits 48 d % 2 ^ 48, ?_⟩⟩
  simp [State.noteDrift, absLe, Nat.not_le.2 h, hfirst]

theorem clampInt_mem {x lo hi : Int} (h : lo ≤ hi) : lo ≤ clampInt x lo hi ∧ clampInt x lo hi ≤ hi := by
  unfold clampInt
  split
  · omega
  · split <;> omega

/-- A clamp to a range brings a value no further from one inside the range. -/
theorem clampInt_near {x y k lo hi : Int} (hlo : lo ≤ y) (hhi : y ≤ hi) (hk : y - k ≤ x ∧ x ≤ y + k) :
    y - k ≤ clampInt x lo hi ∧ clampInt x lo hi ≤ y + k := by
  unfold clampInt
  split
  · omega
  · split <;> omega

/-- Twin B's trim stays within s10, and moves by at most 4. -/
theorem Twin.moveTrim_near (d : Int) (w : Twin) : ∃ x, (w.moveTrim d).trimDue = some x ∧ -512 ≤ x ∧ x ≤ 511 ∧
    ∀ y, y = w.trimDue.getD w.trim → -512 ≤ y → y ≤ 511 → y - 4 ≤ x ∧ x ≤ y + 4 := by
  have hstep := clampInt_mem (x := roundHalfUp d 2500) (show (-4 : Int) ≤ 4 by decide)
  obtain ⟨hlo, hhi⟩ := clampInt_mem (x := w.trimDue.getD w.trim + clampInt (roundHalfUp d 2500) (-4) 4)
    (show (-512 : Int) ≤ 511 by decide)
  refine ⟨_, rfl, hlo, hhi, ?_⟩
  rintro y rfl hylo hyhi
  exact clampInt_near hylo hyhi (by omega)

theorem execPhaseTrim_standing {t : Nat} {meanD : Int} {s : State} (h : ¬(s.eng.twinB = true ∧ s.eng.state = .writing)) :
    execPhaseTrim t meanD s = .next ((s.atTime t).noteDrift (meanD + 256 * s.twin.cfg.peerComp)) := by
  rw [execPhaseTrim_eq]
  refine congrArg Host.Outcome.next (if_neg ?_)
  rw [State.inWriting, State.noteDrift_eq]
  simpa using h

theorem execPhaseTrim_trims {t : Nat} {meanD : Int} {s : State} (htwin : s.eng.twinB = true) (hwriting : s.eng.state = .writing) :
    execPhaseTrim t meanD s = .next (((s.atTime t).noteDrift (meanD + 256 * s.twin.cfg.peerComp)).updTwin
      (Twin.moveTrim (meanD + 256 * s.twin.cfg.peerComp))) := by
  rw [execPhaseTrim_eq]
  refine congrArg Host.Outcome.next (if_pos ?_)
  rw [State.inWriting, State.noteDrift_eq]
  simp [htwin, hwriting]

theorem execPhaseTrim_cases (t : Nat) (meanD : Int) (s : State) :
    let d := meanD + 256 * s.twin.cfg.peerComp
    let v := (s.atTime t).noteDrift d
    ∃ u, execPhaseTrim t meanD s = .next u ∧
      (¬(s.eng.twinB = true ∧ s.eng.state = .writing) ∧ u = v ∨
        (s.eng.twinB = true ∧ s.eng.state = .writing) ∧ u = v.updTwin (Twin.moveTrim d)) := by
  by_cases h : s.eng.twinB = true ∧ s.eng.state = .writing
  · exact ⟨_, execPhaseTrim_trims h.1 h.2, .inr ⟨h, rfl⟩⟩
  · exact ⟨_, execPhaseTrim_standing h, .inl ⟨h, rfl⟩⟩

/-! ## The statement -/

/-- Settles O44, check by check: an edge set and an edge of the peer each raise their fault in one case and are passed over
in the other, and the trim is that of the drift noted. -/
theorem edgeChecks : Obligations.EdgeChecks := by
  unfold Obligations.EdgeChecks
  intro t s
  refine ⟨fun c rest hc hfirst hdue => ?_, fun h => ?_, fun flash hlow => ?_, fun flash hhigh => ?_,
    fun flash d => ⟨fun hnear => ?_, fun hfar => ?_⟩, fun meanD => ?_⟩
  -- EDGE_LATE
  · exact congrArg Host.Outcome.next (State.edgeLateOf_late (s := s.atTime t) hc hfirst hdue)
  · exact congrArg Host.Outcome.next (State.edgeLateOf_passes (s := s.atTime t) h)
  -- TGOOD_DROP
  · exact congrArg Host.Outcome.next (State.tgoodDrop_low (s := s.atTime t) flash hlow)
  · exact congrArg Host.Outcome.next (State.tgoodDrop_high (s := s.atTime t) flash hhigh)
  -- PEER_EDGE
  · exact congrArg Host.Outcome.next (State.peerEdge_near (s := s.atTime t) hnear)
  · exact congrArg Host.Outcome.next (State.peerEdge_far (s := s.atTime t) hfar)
  -- PHASE_TRIM
  · have hbeyond := State.noteDrift_beyond (d := meanD + 256 * s.twin.cfg.peerComp) (s := s.atTime t)
    have hwithin := State.noteDrift_within (d := meanD + 256 * s.twin.cfg.peerComp) (s := s.atTime t)
    obtain ⟨u, hexec, ⟨hstanding, rfl⟩ | ⟨htrims, rfl⟩⟩ := execPhaseTrim_cases t meanD s
    · refine ⟨_, hexec, ?_, hbeyond, hwithin, fun _ => ?_, fun htwin hwriting => absurd ⟨htwin, hwriting⟩ hstanding⟩ <;>
        rw [State.noteDrift_eq]
    · refine ⟨_, hexec, ?_, hbeyond, hwithin, fun h => absurd htrims h, fun _ _ => ?_⟩
      · rw [State.noteDrift_eq]
        rfl
      · rw [State.noteDrift_eq]
        exact Twin.moveTrim_near ..

end Sys2Proof.Machine
end

section
/-! PROOFS. 07 R196, R198, R210, R221 with 15 R468: FLASH_ISSUE from its strobe to the end of its stripe. What follows the strobe
keeps the output sent, the faults that wait and what was noted of the flash (`State.IssueKept`); the commands beside it
follow from the parts above and before. -/

namespace Sys2Proof.Machine
open Sys2Proof

/-! ## A fault that waits goes on to wait -/

section
variable {at' addr : Nat} {f : FaultName} {s : State}

theorem State.waits.cause (h : s.waits at' f addr) (c : Cause) : (s.cause c).waits at' f addr := h

theorem State.waits.lateBand (h : s.waits at' f addr) (stripe band : Nat) : (s.lateBand stripe band).waits at' f addr := by
  unfold State.lateBand
  dsimp only
  split
  · exact h
  · exact (h.raise ..).cause _

theorem State.waits.bandsOn (h : s.waits at' f addr) : s.bandsOn.waits at' f addr := (State.waits_congr (by simp)).2 h

theorem State.waits.passAll (h : s.waits at' f addr) : s.passAll.waits at' f addr := (State.waits_congr (by simp)).2 h

theorem State.waits.foldl {β : Type} {g : State → β → State} (hg : ∀ s x, s.waits at' f addr → (g s x).waits at' f addr)
    (l : List β) (h : s.waits at' f addr) : (l.foldl g s).waits at' f addr := by
  induction l generalizing s with
  | nil => exact h
  | cons x l ih => exact ih (hg s x h)

theorem State.waits.takeInGo (h : s.waits at' f addr) (fuel : Nat) : (State.takeInGo fuel s).waits at' f addr := by
  induction fuel generalizing s with
  | zero => exact h
  | succ fuel ih =>
    unfold State.takeInGo
    split
    · exact h
    next j _ =>
      dsimp only
      split
      · exact h
      · refine ih ?_
        split
        next x _ =>
          split
          · exact ((State.waits_congr (by simp)).2 h).renderFailed ..
          · exact (State.waits_congr (by simp)).2 h
        next => exact (State.waits_congr (by simp)).2 h

theorem State.waits.takeIn (h : s.waits at' f addr) : s.takeIn.waits at' f addr :=
  (State.waits_congr (by simp [State.takeIn])).2 (h.takeInGo 32)

theorem State.waits.freeRows (h : s.waits at' f addr) (m p : Nat) : (s.freeRows m p).waits at' f addr :=
  State.waits.takeIn ((State.waits_congr (by simp)).2 h)

theorem State.waits.restartRing (h : s.waits at' f addr) (stripe : Nat) : (s.restartRing stripe).waits at' f addr :=
  State.waits.takeIn ((State.waits_congr (by simp)).2 h)

theorem State.waits.append (h : s.waits at' f addr) (type key : Nat) (body : List Byte) (mb : Option Nat) :
    (s.append type key body mb).waits at' f addr := by
  unfold State.append
  split
  · exact h
  · exact State.waits.event ((State.waits_congr (by simp)).2 h) _

theorem State.waits.storeTrim (h : s.waits at' f addr) : s.storeTrim.waits at' f addr := by
  unfold State.storeTrim
  dsimp only
  split
  · exact h
  · exact h.append ..

theorem State.waits.enter (h : s.waits at' f addr) (e : EngState) : (s.enter e).waits at' f addr := by
  unfold State.enter
  split
  · exact h
  · exact (State.waits_congr (by simp)).2 (State.waits.event (s := { s with eng := { s.eng with state := e } }) h (.engine e))

theorem State.waits.setTgood (h : s.waits at' f addr) (b : Bool) : (s.setTgood b).waits at' f addr := by
  unfold State.setTgood
  split
  · exact h
  · exact State.waits.event (s := { s with eng := { s.eng with tgood := b } }) h _

theorem State.waits.tgoodUp (h : s.waits at' f addr) : s.tgoodUp.waits at' f addr := by
  unfold State.tgoodUp
  split
  · exact h.setTgood true
  · exact h

theorem State.waits.enterReady (h : s.waits at' f addr) : s.enterReady.waits at' f addr :=
  (State.waits_congr (by simp [State.enterReady])).2 (h.enter .ready).tgoodUp

end

/-! ## The parts of FLASH_ISSUE (07 R196, R198, R221; 15 R468) -/

/-- The strobe of a due flash, with what Dike, Brace, Hem and the twin note of it. -/
def State.strobed (c : Committed) (rest : List Committed) (s : State) : State :=
  let clamp := s.tooSoon c.tn
  let s := (if clamp then s.raise .rateClamp (c.record.flash % 2 ^ 40) else s).send
    (.strobe c.record.flash c.tn c.edges (!clamp && !c.edgeLate))
  let s := (s.updDike fun d => { d with lastStrobe := some c.tn }).updBr fun b => { b with
    ePrevX := c.record.ex, ePrevY := c.record.ey, cLastX := c.dx, cLastY := c.dy }
  let s := (s.updHem fun h => { h with
    committed := rest, mHw := h.stripe.map fun _ => c.record.m, issuedAt := c.tn, issuedEnd := c.endAt
    peerEdgeFlash := none, dropFlash := none }).hemStats fun t => { t with issued := sat64 (t.issued + 1) }
  { s with
    eng := { s.eng with lastFlash := c.record.flash }
    twin := { s.twin with trim := s.twin.trimDue.getD s.twin.trim, trimDue := none }
    sh := { s.sh with before := s.sh.before.filter fun b => decide (c.record.flash < b.1) } }

/-- What its mark does in the open stripe: rows are freed, the band is noted, and in a Seam stop q_b follows. -/
def State.noteMark (c : Committed) (st : Stripe) (s : State) : State :=
  let s := (s.freeRows c.record.m st.p).noteBand c.record.m st
  if s.hem.state == .seamStop then s.updHem fun h => { h with qb := h.backUpPoint st } else s

/-- The flash is the last of its stripe, and ends it (R210). -/
def Committed.ends (c : Committed) (h : Hem) : Bool :=
  c.last && (h.state == .tracking || (h.commitSince && h.state.commits))

/-- The stripe goes on: bands that the next mark reaches too early are late (01 R25). -/
def State.testNext (c : Committed) (st : Stripe) (s : State) : State :=
  (if s.standby || s.hem.state == .idle then s
    else (s.reachedBy (c.record.m + 1) st.p).foldl
      (fun s b => if s.bandReady st.stripe b then s else s.lateBand st.stripe b) s).bandsOn

/-- What a strobe notes in Hem: what is committed, the mark, and when the flash was issued. -/
theorem State.strobed_hem (c : Committed) (rest : List Committed) (s : State) : (s.strobed c rest).hem = { s.hem with
    committed := rest, mHw := s.hem.stripe.map fun _ => c.record.m, issuedAt := c.tn, issuedEnd := c.endAt
    peerEdgeFlash := none, dropFlash := none, stats := { s.hem.stats with issued := sat64 (s.hem.stats.issued + 1) } } := by
  simp [State.strobed]

theorem State.strobed_stripe (c : Committed) (rest : List Committed) (s : State) :
    (s.strobed c rest).hem.stripe = s.hem.stripe := by
  rw [State.strobed_hem]

theorem State.noteMark_hem (c : Committed) (st : Stripe) (s : State) : (s.noteMark c st).hem =
    { s.hem with qb := if s.hem.state = .seamStop then s.hem.backUpPoint st else s.hem.qb } := by
  unfold State.noteMark
  dsimp only
  split <;> simp_all

theorem State.noteMark_stripe (c : Committed) (rest : List Committed) (st : Stripe) (s : State) :
    ((s.strobed c rest).noteMark c st).hem.stripe = s.hem.stripe := by
  rw [State.noteMark_hem, State.strobed_hem]

theorem State.noteMark_ends (c : Committed) (rest : List Committed) (st : Stripe) (s : State) :
    c.ends ((s.strobed c rest).noteMark c st).hem = c.ends s.hem := by
  rw [State.noteMark_hem, State.strobed_hem, Committed.ends, Committed.ends]

theorem State.flashIssue_none {s : State} (hc : s.hem.committed = []) : s.flashIssue = s := by
  simp only [State.flashIssue, hc]

section
variable {s : State} {c : Committed} {rest : List Committed} (hc : s.hem.committed = c :: rest)
include hc

theorem State.flashIssue_early (hearly : s.now < c.tn) : s.flashIssue = s := by
  simp only [State.flashIssue, hc, if_pos hearly]

variable (hdue : c.tn ≤ s.now)
include hdue

theorem State.flashIssue_due : s.flashIssue = (s.strobed c rest).hem.stripe.elim (s.strobed c rest) fun st =>
    let v := (s.strobed c rest).noteMark c st
    if c.ends v.hem then v.stripeComplete else v.testNext c st := by
  unfold State.flashIssue
  simp only [hc, if_neg (Nat.not_lt.2 hdue)]
  split
  next hst =>
    rw [show (s.strobed c rest).hem.stripe = none from hst]
    rfl
  next st hst =>
    rw [show (s.strobed c rest).hem.stripe = some st from hst]
    rfl

theorem State.flashIssue_noStripe (hst : s.hem.stripe = none) : s.flashIssue = s.strobed c rest := by
  rw [State.flashIssue_due hc hdue, State.strobed_stripe, hst, Option.elim_none]

theorem State.flashIssue_goesOn {st : Stripe} (hst : s.hem.stripe = some st) (hon : c.ends s.hem = false) :
    s.flashIssue = ((s.strobed c rest).noteMark c st).testNext c st := by
  rw [State.flashIssue_due hc hdue, State.strobed_stripe, hst, Option.elim_some]
  exact if_neg (by rw [State.noteMark_ends, hon]; decide)

theorem State.flashIssue_ends {st : Stripe} (hst : s.hem.stripe = some st) (hends : c.ends s.hem = true) :
    s.flashIssue = ((s.strobed c rest).noteMark c st).stripeComplete := by
  rw [State.flashIssue_due hc hdue, State.strobed_stripe, hst, Option.elim_some]
  exact if_pos (by rw [State.noteMark_ends, hends])

end

/-! ## What waits for Gusset (11 R342) -/

@[simp] theorem State.bandFault_sent (stripe band : Nat) (failed : Bool) (s : State) :
    (s.bandFault stripe band failed).twin.sent = s.twin.sent := by
  unfold State.bandFault
  dsimp only
  split <;> simp

@[simp] theorem State.renderFailed_sent (stripe band : Nat) (failed : Bool) (s : State) :
    (s.renderFailed stripe band failed).twin.sent = s.twin.sent := by
  unfold State.renderFailed
  dsimp only
  (repeat' split) <;> simp

@[simp] theorem State.takeInGo_sent (fuel : Nat) (s : State) : (State.takeInGo fuel s).twin.sent = s.twin.sent := by
  induction fuel generalizing s with
  | zero => rfl
  | succ fuel ih =>
    unfold State.takeInGo
    dsimp only
    (repeat' split) <;> simp [ih]

/-- The rows that a mark frees can only send reports of bands to the peer. -/
theorem State.noteMark_sent (c : Committed) (st : Stripe) (s : State) : (s.noteMark c st).twin.sent = s.twin.sent := by
  unfold State.noteMark
  dsimp only
  split <;> simp [State.freeRows, State.takeIn]

/-! ## What the end of FLASH_ISSUE leaves of the flash -/

/-- Between the strobe and the end of FLASH_ISSUE the output grows, no fault is dropped, and what was noted of the flash
stays. -/
structure State.IssueKept (s u : State) : Prop where
  out : s.out <+: u.out
  lastFlash : u.eng.lastFlash = s.eng.lastFlash
  dike : u.dike = s.dike
  committed : u.hem.committed = s.hem.committed
  issuedAt : u.hem.issuedAt = s.hem.issuedAt
  issuedEnd : u.hem.issuedEnd = s.hem.issuedEnd
  stats : u.hem.stats = s.hem.stats
  waits : ∀ {at' : Nat} {f : FaultName} {addr : Nat}, s.waits at' f addr → u.waits at' f addr

theorem State.IssueKept.refl (s : State) : s.IssueKept s := ⟨⟨[], List.append_nil _⟩, rfl, rfl, rfl, rfl, rfl, rfl, id⟩

theorem State.IssueKept.trans {s u v : State} (hu : s.IssueKept u) (hv : u.IssueKept v) : s.IssueKept v :=
  ⟨hu.out.trans hv.out, hv.lastFlash.trans hu.lastFlash, hv.dike.trans hu.dike, hv.committed.trans hu.committed,
    hv.issuedAt.trans hu.issuedAt, hv.issuedEnd.trans hu.issuedEnd, hv.stats.trans hu.stats, hv.waits ∘ hu.waits⟩

theorem State.noteMark_frame (c : Committed) (st : Stripe) (s : State) :
    let u := s.noteMark c st
    u.out = s.out ∧ u.eng = s.eng ∧ u.dike = s.dike ∧ u.cf.lastStripe = st.stripe := by
  unfold State.noteMark
  dsimp only
  split <;> simp [State.noteBand]

theorem State.noteMark_waits {at' addr : Nat} {f : FaultName} {s : State} (h : s.waits at' f addr) (c : Committed)
    (st : Stripe) : (s.noteMark c st).waits at' f addr := by
  unfold State.noteMark
  dsimp only
  split <;> exact (State.waits_congr (by simp)).2 (h.freeRows c.record.m st.p)

theorem State.noteMark_keepsIssue (c : Committed) (st : Stripe) (s : State) : s.IssueKept (s.noteMark c st) := by
  obtain ⟨hout, heng, hdike, -⟩ := s.noteMark_frame c st
  have hhem := s.noteMark_hem c st
  exact ⟨⟨[], by simp [hout]⟩, by rw [heng], hdike, by rw [hhem], by rw [hhem], by rw [hhem], by rw [hhem],
    fun h => State.noteMark_waits h c st⟩

theorem State.testNext_frame (c : Committed) (st : Stripe) (s : State) :
    let u := s.testNext c st
    u.out = s.out ∧ u.eng = s.eng ∧ u.dike = s.dike ∧ u.hem = s.hem ∧ u.cf = s.cf := by
  unfold State.testNext
  split <;> simp

theorem State.testNext_waits {at' addr : Nat} {f : FaultName} {s : State} (h : s.waits at' f addr) (c : Committed)
    (st : Stripe) : (s.testNext c st).waits at' f addr := by
  unfold State.testNext
  split
  · exact h.bandsOn
  · refine State.waits.bandsOn (State.waits.foldl (fun s b h => ?_) _ h)
    split
    · exact h
    · exact h.lateBand ..

theorem State.testNext_keepsIssue (c : Committed) (st : Stripe) (s : State) : s.IssueKept (s.testNext c st) := by
  obtain ⟨hout, heng, hdike, hhem, -⟩ := s.testNext_frame c st
  exact ⟨⟨[], by simp [hout]⟩, by rw [heng], hdike, by rw [hhem], by rw [hhem], by rw [hhem], by rw [hhem],
    fun h => State.testNext_waits h c st⟩

/-! ## The end of a stripe (R210) -/

theorem State.endStripe_hem {s : State} {st : Stripe} (hst : s.hem.stripe = some st) : (s.endStripe false).hem = { s.hem with
    stripe := none, begun := false, state := .idle, seamStep := 0, causes := [], fRun := 0, mHw := none, closed := false
    stopped := false, settled := false, resync := true, runs := 0, commitSince := false } := by
  simp [State.endStripe, hst]

theorem State.waits.endStripe {at' addr : Nat} {f : FaultName} {s : State} (h : s.waits at' f addr) :
    (s.endStripe false).waits at' f addr := by
  unfold State.endStripe
  split
  · exact h
  · refine State.waits.storeTrim (State.waits.bandsOn (State.waits.passAll (State.waits.restartRing ?_ _)))
    exact h

theorem State.endStripe_keepsIssue {s : State} {st : Stripe} (hst : s.hem.stripe = some st) :
    s.IssueKept (s.endStripe false) := by
  have hhem := State.endStripe_hem hst
  exact ⟨⟨[], by simp⟩, by simp, by simp, by rw [hhem], by rw [hhem], by rw [hhem], by rw [hhem], fun h => h.endStripe⟩

theorem State.vector_out_grows (v : Nat) (s : State) : s.out <+: (s.vector v).out := by
  unfold State.vector
  dsimp only
  split
  · exact ⟨[], List.append_nil _⟩
  · exact ⟨_, rfl⟩

theorem State.enter_out_grows (e : EngState) (s : State) : s.out <+: (s.enter e).out := by
  unfold State.enter
  split
  · exact ⟨[], List.append_nil _⟩
  · simpa using State.vector_out_grows 5 (({ s with eng := { s.eng with state := e } } : State).event (.engine e))

theorem State.cuffStatus_out_grows (s : State) : s.out <+: s.cuffStatus.out := by
  unfold State.cuffStatus
  split
  · obtain ⟨l, hl, -⟩ := s.sendStatus_out
    exact ⟨l, hl.symm⟩
  · exact ⟨[], List.append_nil _⟩

@[simp] theorem State.tgoodUp_lastFlash (s : State) : s.tgoodUp.eng.lastFlash = s.eng.lastFlash := by
  unfold State.tgoodUp
  split <;> simp

theorem State.enterReady_keepsIssue (s : State) : s.IssueKept s.enterReady := by
  have hout : s.out <+: (s.enter .ready).tgoodUp.out := by simpa using s.enter_out_grows .ready
  exact ⟨hout.trans (State.cuffStatus_out_grows _), by simp [State.enterReady], by simp, by simp, by simp, by simp, by simp,
    fun h => h.enterReady⟩

theorem State.stripeComplete_keepsIssue {s : State} {st : Stripe} (hst : s.hem.stripe = some st) :
    s.IssueKept s.stripeComplete := by
  unfold State.stripeComplete
  split
  · exact State.endStripe_keepsIssue hst
  · have hrun : s.IssueKept s.runOut :=
      ⟨⟨[], by simp⟩, by simp, by simp, by simp, by simp, by simp, by simp, (State.waits_congr (by simp)).2⟩
    exact (hrun.trans (State.endStripe_keepsIssue (by simpa using hst))).trans (State.enterReady_keepsIssue _)

theorem State.enterReady_engState (s : State) : s.enterReady.eng.state = .ready := by
  simp [State.enterReady]

/-- The stripe is closed, Hem is Idle, and the engine of an active twin in Ready. -/
theorem State.stripeComplete_spec {s : State} {st : Stripe} (hst : s.hem.stripe = some st) : let u := s.stripeComplete
    u.hem.stripe = none ∧ u.hem.state = .idle ∧ u.eng.state = if s.twin.active = true then .ready else s.eng.state := by
  have hrun : s.runOut.hem.stripe = some st := by simpa using hst
  intro u
  cases hactive : s.twin.active with
  | false =>
    have hu : u = s.endStripe false := if_pos (by simp [State.standby, hactive])
    simp [hu, State.endStripe_hem hst]
  | true =>
    have hu : u = (s.runOut.endStripe false).enterReady := if_neg (by simp [State.standby, hactive])
    simp [hu, State.endStripe_hem hrun, State.enterReady_engState]

/-! ## FLASH_ISSUE as a whole -/

theorem State.strobed_frame (c : Committed) (rest : List Committed) (s : State) :
    let u := s.strobed c rest
    u.out = s.out ++ [.strobe c.record.flash c.tn c.edges (!s.tooSoon c.tn && !c.edgeLate)] ∧
      u.eng = { s.eng with lastFlash := c.record.flash } ∧ u.dike = { s.dike with lastStrobe := some c.tn } ∧
      u.twin.active = s.twin.active := by
  simp [State.strobed]

/-- An interval that Dike finds too short raises RATE_CLAMP. -/
theorem State.strobed_clamp {c : Committed} {s : State} (rest : List Committed) (hsoon : s.tooSoon c.tn = true) :
    (s.strobed c rest).waits s.now .rateClamp (c.record.flash % 2 ^ 40) :=
  (State.waits_congr (by simp [State.strobed, hsoon])).2 (s.waits_raise .rateClamp _)

section
variable {s : State} {c : Committed} {rest : List Committed} (hc : s.hem.committed = c :: rest) (hdue : c.tn ≤ s.now)
include hc hdue

theorem State.flashIssue_keepsIssue : (s.strobed c rest).IssueKept s.flashIssue := by
  cases hst : s.hem.stripe with
  | none =>
    rw [State.flashIssue_noStripe hc hdue hst]
    exact State.IssueKept.refl _
  | some st =>
    have hmark := (s.strobed c rest).noteMark_keepsIssue c st
    have hopen := (s.noteMark_stripe c rest st).trans hst
    cases hends : c.ends s.hem with
    | false =>
      rw [State.flashIssue_goesOn hc hdue hst hends]
      exact hmark.trans (State.testNext_keepsIssue ..)
    | true =>
      rw [State.flashIssue_ends hc hdue hst hends]
      exact hmark.trans (State.stripeComplete_keepsIssue hopen)

/-- What FLASH_ISSUE notes of the flash, whatever it does to the stripe. -/
theorem State.flashIssue_issued : let u := s.flashIssue
    (∃ l, u.out = s.out ++ .strobe c.record.flash c.tn c.edges (!s.tooSoon c.tn && !c.edgeLate) :: l) ∧
      u.eng.lastFlash = c.record.flash ∧ u.hem.issuedAt = c.tn ∧ u.hem.issuedEnd = c.endAt ∧ u.dike.lastStrobe = some c.tn ∧
      u.hem.stats.issued = min (s.hem.stats.issued + 1) (2 ^ 64 - 1) ∧
      (s.tooSoon c.tn = true → u.waits s.now .rateClamp (c.record.flash % 2 ^ 40)) ∧ u.hem.committed = rest := by
  have hkept := State.flashIssue_keepsIssue hc hdue
  obtain ⟨hout, heng, hdike, -⟩ := s.strobed_frame c rest
  have hhem := s.strobed_hem c rest
  obtain ⟨l, hl⟩ := hkept.out
  refine ⟨⟨l, ?_⟩, ?_, ?_, ?_, ?_, ?_, fun hsoon => hkept.waits (State.strobed_clamp rest hsoon), ?_⟩
  · rw [← hl, hout, List.append_assoc, List.singleton_append]
  · rw [hkept.lastFlash, heng]
  · rw [hkept.issuedAt, hhem]
  · rw [hkept.issuedEnd, hhem]
  · rw [hkept.dike, hdike]
  · rw [hkept.stats, hhem, sat64]
  · rw [hkept.committed, hhem]

variable {st : Stripe} (hst : s.hem.stripe = some st)
include hst

/-- A flash that does not end its stripe leaves its mark, and in a Seam stop moves q_b. -/
theorem State.flashIssue_mark (hon : c.ends s.hem = false) : let u := s.flashIssue
    u.hem.mHw = some c.record.m ∧ u.hem.stripe = some st ∧ u.hem.state = s.hem.state ∧ u.eng.state = s.eng.state ∧
      u.cf.lastStripe = st.stripe ∧ (s.hem.state = .seamStop → u.hem.qb = ((c.record.m + 1) * st.p : Nat) - st.dRu) := by
  obtain ⟨-, heng, -⟩ := s.strobed_frame c rest
  obtain ⟨-, hmarkEng, -, hcf⟩ := (s.strobed c rest).noteMark_frame c st
  obtain ⟨-, hnextEng, -, hnextHem, hnextCf⟩ := ((s.strobed c rest).noteMark c st).testNext_frame c st
  have hhem := hnextHem.trans ((s.strobed c rest).noteMark_hem c st)
  rw [State.strobed_hem, hst] at hhem
  rw [State.flashIssue_goesOn hc hdue hst hon]
  refine ⟨congrArg Hem.mHw hhem, (congrArg Hem.stripe hhem).trans hst, (congrArg Hem.state hhem :),
    by rw [hnextEng, hmarkEng, heng], by rw [hnextCf, hcf], fun hseam => ?_⟩
  exact (congrArg Hem.qb hhem).trans (if_pos hseam)

/-- The last flash of a stripe ends it: Hem is Idle, and an active twin's engine in Ready. -/
theorem State.flashIssue_completes (hends : c.ends s.hem = true) : let u := s.flashIssue
    u.hem.stripe = none ∧ u.hem.state = .idle ∧ u.eng.state = if s.twin.active = true then .ready else s.eng.state := by
  obtain ⟨-, heng, -, hactive⟩ := s.strobed_frame c rest
  obtain ⟨-, hmarkEng, -⟩ := (s.strobed c rest).noteMark_frame c st
  have hmarkActive : ((s.strobed c rest).noteMark c st).twin.active = s.twin.active := by
    rw [← hactive]
    exact (congrArg Twin.active (State.noteMark_sent c st (s.strobed c rest)) :)
  obtain ⟨hclosed, hidle, hstate⟩ := State.stripeComplete_spec ((s.noteMark_stripe c rest st).trans hst)
  rw [State.flashIssue_ends hc hdue hst hends]
  exact ⟨hclosed, hidle, by rw [hstate, hmarkActive, hmarkEng, heng]⟩

end

theorem Committed.ends_false {c : Committed} {h : Hem} (hon : c.last = false ∨ (h.state ≠ .tracking ∧ h.commitSince = false)) :
    c.ends h = false := by
  obtain hlast | ⟨hstate, hsince⟩ := hon
  · simp [Committed.ends, hlast]
  · simp [Committed.ends, hstate, hsince]

theorem Committed.ends_true {c : Committed} {h : Hem} (hlast : c.last = true) (hstate : h.state = .tracking) :
    c.ends h = true := by
  simp [Committed.ends, hlast, hstate]

/-! ## The checks and starts beside it -/

theorem State.beginStripe_begun (s : State) :
    s.beginStripe.eng.state = .writing ∧ s.beginStripe.hem.state = .runIn ∧ s.beginStripe.hem.begun = true := by
  simp [State.beginStripe_engState, State.beginStripe_hem]

theorem execTgoodDrop_waits {t flash : Nat} {s : State} (hhigh : s.eng.tgood = true) : ∃ u, exec (.tgoodDrop t flash) s = .next u ∧
    u.eng.tgood = false ∧ u.waits (s.atTime t).now .tgoodDrop flash :=
  ⟨_, congrArg Host.Outcome.next (State.tgoodDrop_high (s := s.atTime t) flash hhigh), rfl,
    _, List.mem_append_right _ (List.mem_singleton_self _), rfl, rfl, rfl⟩

theorem execPeerEdge_waits {t flash : Nat} {d : Int} {s : State} (hfar : (s.atTime t).peerFar flash (d + 256 * s.twin.cfg.peerComp)) :
    ∃ u, exec (.peerEdge t flash d) s = .next u ∧ u.eng.tgood = s.eng.tgood ∧ u.waits (s.atTime t).now .peerEdge flash :=
  ⟨_, congrArg Host.Outcome.next (State.peerEdge_far hfar), rfl, State.waits_raise ..⟩

theorem execEdgeLate_waits {t : Nat} {c : Committed} {rest : List Committed} {s : State} (hc : s.hem.committed = c :: rest)
    (hfirst : c.edgeLate = false) (hdue : s.hem.issuedEnd ≤ (s.atTime t).now) : ∃ u, exec (.edgeLate t) s = .next u ∧
    u.hem.committed = { c with edgeLate := true } :: rest ∧ u.waits (s.atTime t).now .edgeLate c.record.flash :=
  ⟨_, congrArg Host.Outcome.next (State.edgeLateOf_late (s := s.atTime t) hc hfirst hdue), rfl, State.waits_raise ..⟩

theorem execPhaseTrim_frame (t : Nat) (d : Int) (s : State) :
    ∃ u, exec (.phaseTrim t d) s = .next u ∧ u.eng = s.eng ∧ u.hem.committed = s.hem.committed := by
  obtain ⟨u, hexec, ⟨-, rfl⟩ | ⟨-, rfl⟩⟩ := execPhaseTrim_cases t d s
  all_goals
    refine ⟨_, hexec, ?_⟩
    rw [State.noteDrift_eq]
    exact ⟨rfl, rfl⟩

/-! ## The statement -/

/-- Settles O43: FLASH_ISSUE from its strobe and what the end of the command keeps of it, and the commands beside it each
from what its operation does in the case at hand. -/
theorem flashIssues : Obligations.FlashIssues := by
  unfold Obligations.FlashIssues
  intro t s
  refine ⟨fun hnone => ?_, fun c rest hc => ⟨fun hearly => ?_, fun hdue => ?_, execEdgeLate_waits hc,
    execTgoodDrop_waits, fun d hfar hpeer hdrop => ?_, fun d => execPhaseTrim_frame t d s, fun st hst hactive => ⟨?_, ?_, ?_, ?_⟩⟩⟩
  -- FLASH_ISSUE
  · exact congrArg Host.Outcome.next (State.flashIssue_none (s := s.atTime t) hnone)
  · exact congrArg Host.Outcome.next (State.flashIssue_early (s := s.atTime t) hc hearly)
  · obtain ⟨hout, hflash, hat, hend, hstrobe, hcount, hclamp, hrest⟩ := State.flashIssue_issued (s := s.atTime t) hc hdue
    exact ⟨_, rfl, hout, hflash, hat, hend, hstrobe, hcount, hclamp, hrest,
      fun st hst hon => State.flashIssue_mark (s := s.atTime t) hc hdue hst (Committed.ends_false hon),
      fun st hst hlast hstate => State.flashIssue_completes (s := s.atTime t) hc hdue hst (Committed.ends_true hlast hstate),
      by simp⟩
  -- PEER_EDGE
  · exact execPeerEdge_waits ⟨hfar, by simp [hpeer], by simp [hdrop]⟩
  -- HELD_TIMEOUT
  · intro hheld hlate hfirst
    obtain ⟨depth, hd⟩ := State.heldTimeout_late (s := s.atTime t) hst hactive hheld hlate
    exact ⟨_, congrArg Host.Outcome.next (hd.trans (State.abandonHeld_first depth hfirst)), rfl, rfl⟩
  -- SEAM_RESUME_START
  · intro hmay hfit
    exact ⟨_, congrArg Host.Outcome.next (State.seamResume_runs hst hactive hmay hfit), by simp⟩
  -- STRIPE_BEGIN and SYNC_START_INSTANT
  · intro hmay
    refine ⟨fun hsync => ?_, fun o ho hbegun hsync hname hdue hin hpair => ?_⟩
    · have h := (execStripeBegin_active (t := t) hst hactive).trans (congrArg Host.Outcome.next (if_pos ⟨hmay, hsync⟩))
      exact ⟨_, h, State.beginStripe_begun (s.atTime t)⟩
    · have h := State.syncStart_admitted (s := s.atTime t) ho hactive hbegun hdue ⟨st, hst, hsync, hname⟩ (by simp [hin, hpair])
      exact ⟨_, congrArg Host.Outcome.next (h.trans (if_pos hmay)), State.beginStripe_begun (s.atTime t)⟩
  -- GROUP_RESUME_INSTANT
  · exact fun o ho hdue => execGroupResumeInstant_due ho hactive hdue

end Sys2Proof.Machine
end

section
/-! PROOFS. 07 R188 with 11 R344, R360 to R363: the step count goes to the instant of a command, and the time unit ticks on the
way. The frame lemmas of Laws/ show for every operation that it keeps the step count; this part says it of the operations
that answer a state among other things, of the rows of the command set, and of every command but those that set it. -/

namespace Sys2Proof.Machine
open Sys2Proof

/-! ## Mailbox commands -/

/-- The step of a row of the command set keeps the step count of the state that its checks see when the row's effect does. -/
theorem CmdSpec.run_now {c : CmdSpec} {n : Nat} {v u : State} {f : Request → List Byte → State → State}
    (h : (Host.Outcome.next (c.run v f) : Res) = .next u) (hv : n ≤ v.now) (hf : ∀ r b, (f r b v).now = v.now) : n ≤ u.now := by
  obtain rfl := Host.Outcome.next.inj h
  obtain hidle | ⟨r, st, -, hrefused⟩ | ⟨r, b, -, heffect⟩ := c.run_cases v f
  · rwa [hidle]
  · simpa [hrefused] using hv
  · rwa [heffect, hf]

theorem CmdSpec.status'_now {c : CmdSpec} {n : Nat} {v u : State} {body : State → List Byte} {clear : State → State}
    (h : (Host.Outcome.next (c.status' body clear v) : Res) = .next u) (hv : n ≤ v.now) (hclear : (clear v).now = v.now) :
    n ≤ u.now :=
  CmdSpec.run_now h hv fun _ _ => by
    split <;> simp [hclear]

theorem tryPlan_now {a : Nat} {st : AxisState} {pl : Plan} {after : Option Plan} {s u : State}
    (h : s.tryPlan a st pl after = .ok u) : u.now = s.now := by
  simp [tryPlan_frame h]

theorem execSleep_now {t : Nat} {wakeN : Bool} {s u : State} (h : execSleep t wakeN s = .next u) : s.now ≤ u.now := by
  refine CmdSpec.run_now h (Nat.le_max_left ..) fun r _ => ?_
  dsimp only
  split <;> simp

/-- The cases, in order: the status commands, the rows that apply one operation, those with branches of their own, and the rows of
the lemmas above. -/
theorem exec_now_of_row {c : Instr} {s u : State} (hrow : (mailboxRow c s).isSome) (h : exec c s = .next u) : s.now ≤ u.now := by
  cases c with
  | timeStatus | configDigest | jobStatus | cacheStats | loomStats | polderStatus | shuttleStatus | hemStatus
    | cuffStatus | slackStatus | braceStatus | calStatus | journalStatus =>
    exact CmdSpec.status'_now h (Nat.le_max_left ..) (by simp)
  | reset | roleSwap | faultConfig | cuffRetrain | hemConfig | slackConfig | cacheConfig | feed | jobEnd | clearFault
    | stripePause | stripeAbort | calibrate | stripeResume | bandRetry | axisEnable | axisDisable | stop | probeArm
    | rcClear | calConfig | capture =>
    exact CmdSpec.run_now h (Nat.le_max_left ..) (by simp)
  | twinTimeConfig | faultInject | loadTable | loomConfig | polderConfig | shuttleConfig | cuffConfig | dikeLimits
    | jobStart | stripeStart | feedConfig | probeSwitchConfig | servoConfig | probeRead | compareLoad
    | rereference | memFreq | fwLoad | fwSelect | auditRead | captureCancel =>
    refine CmdSpec.run_now h (Nat.le_max_left ..) fun r b => ?_
    dsimp only
    (repeat' split) <;> simp
  | setCellDir =>
    refine CmdSpec.run_now h (Nat.le_max_left ..) fun r b => ?_
    (repeat' split) <;> simp
  | move | home =>
    refine CmdSpec.run_now h (Nat.le_max_left ..) fun r _ => ?_
    dsimp only
    (repeat' split)
    next => simp
    next => simp
    next e => simp [tryPlan_now e]
  | sleep => exact execSleep_now h
  | _ => cases hrow

/-! ## Operations that answer a state among other things, and the commands that take it from them -/

theorem allocCell_now {b : Bool} {n : Nat} {r : List Nat × Nat × State} {s : State} (h : s.allocCell b n = some r) :
    r.2.2.now = s.now := by
  obtain ⟨hnow, -⟩ := allocCell_frame h
  exact hnow

theorem pinnedAlloc_now {id n fuel : Nat} {r : Option (List Nat × Nat × State)} {o : Option Band} {s u : State}
    (h : State.pinnedAlloc id n fuel s = (r, u, o)) : u.now = s.now ∧ ∀ x, r = some x → x.2.2.now = s.now := by
  obtain ⟨hu, -, -, -, -, -, -, -, -, -, -, -, -, -, -, -, -, -, -, -, -, -, -, -, -, hr⟩ := pinnedAlloc_frame h
  exact ⟨hu, fun x hx => by rw [hr x hx, hu]⟩

theorem State.moveData_now {n : Nat} {d : Desc} {data : List Byte} {s u : State} (h : s.moveData n d data = some u) :
    u.now = s.now := by
  unfold State.moveData at h
  split at h
  · cases h
    simp
  · split at h
    next e =>
      cases h
      have hnow := congrArg (fun x => x.2.now) e
      simpa using hnow.symm
    next => cases h

theorem decodeBody_now {stored : List Byte} {id n k total : Nat} {sc : RecScan} {s u : State}
    {r : Except FaultName (RecScan × Nat)} (h : decodeBody stored id n k total sc s = (r, u)) : u.now = s.now := by
  have hu : u = (decodeBody stored id n k total sc s).2 := by rw [h]
  simp [hu]

theorem State.initDram_now {memFail : Option (Nat × Nat)} {s u : State} (h : s.initDram memFail = some u) : u.now = s.now := by
  unfold State.initDram at h
  split at h
  · cases h
  · split at h
    · cases h
    · obtain rfl := Option.some.inj h
      rfl

theorem execDescriptorComplete_now {t n : Nat} {data : List Byte} {s u : State}
    (h : execDescriptorComplete t n data s = .next u) : s.now ≤ u.now := by
  obtain rfl := Host.Outcome.next.inj h
  (repeat' split)
  next => simp
  next => simp
  next => simp
  next e => simp [State.moveData_now e]
  next => simp

theorem execCellFetchStart_now {t : Nat} {s u : State} (h : execCellFetchStart t s = .next u) : s.now ≤ u.now := by
  simp only [execCellFetchStart, Host.Outcome.next.injEq] at h
  subst h
  (repeat' split)
  next => simp
  next => simp
  next => simp
  next e => simp [allocCell_now e]
  next => simp
  next e => simp [(pinnedAlloc_now e).2 _ rfl]
  next e => simp [(pinnedAlloc_now e).1]
  next e => simp [(pinnedAlloc_now e).1]

theorem execCellDecodeDone_now {t cell : Nat} {s u : State} (h : execCellDecodeDone t cell s = .next u) :
    s.now ≤ u.now := by
  simp only [execCellDecodeDone, Host.Outcome.next.injEq] at h
  subst h
  (repeat' split)
  next => simp
  next => simp
  next e => simp [decodeBody_now e]
  next e _ => simp [decodeBody_now e]
  next e _ => simp [decodeBody_now e]

theorem execBootComplete_now {t : Nat} {memFail : Option (Nat × Nat)} {s u : State}
    (h : exec (.bootComplete t memFail) s = .next u) : s.now ≤ u.now := by
  simp only [exec, execBootComplete, Host.Outcome.next.injEq] at h
  subst h
  split
  · simp
  · split
    · simp
    · split
      next e => simp [State.initDram_now e]
      next => split <;> simp

theorem execCalAttemptEnd_now {t output bank : Nat} {n1 n2 : List Nat} {tAvg : Int} {s u : State}
    (h : exec (.calAttemptEnd t output bank n1 n2 tAvg) s = .next u) : s.now ≤ u.now := by
  simp only [exec, execCalAttemptEnd, Host.Outcome.next.injEq] at h
  subst h
  split
  · simp
  · split
    · simp
    · simp
    · split <;> simp

/-! ## The commands of the blocks -/

/-- The cases, in order: the commands that set the step count; the rows of the command set; the commands of the part
above; those that take a value and a state from one operation; and every other command, whose arm is made of operations
that keep the step count of its instant. -/
theorem exec_now {c : Instr} {s u : State} (hc : setsClock c = false) (h : exec c s = .next u) : s.now ≤ u.now := by
  cases c with
  | powerUp | resetNRelease | resetEntry | pairingComplete => cases hc
  | reset | sleep | clearFault | roleSwap | twinTimeConfig | timeStatus | faultConfig | faultInject | cuffRetrain
    | loadTable | loomConfig | polderConfig | shuttleConfig | hemConfig | cuffConfig | cacheConfig | slackConfig
    | dikeLimits | configDigest | setCellDir | jobStart | feed | jobStatus | jobEnd | stripeStart | stripePause
    | stripeResume | stripeAbort | bandRetry | cacheStats | loomStats | polderStatus | shuttleStatus | hemStatus
    | cuffStatus | slackStatus | feedConfig | probeSwitchConfig | servoConfig | axisEnable | axisDisable | move | home
    | stop | probeArm | probeRead | compareLoad | rereference | rcClear | braceStatus | calibrate | calConfig | calStatus
    | memFreq | fwLoad | fwSelect | auditRead | journalStatus | capture | captureCancel =>
    exact exec_now_of_row rfl h
  | descriptorComplete => exact execDescriptorComplete_now h
  | cellFetchStart => exact execCellFetchStart_now h
  | cellDecodeDone => exact execCellDecodeDone_now h
  | bootComplete => exact execBootComplete_now h
  | calAttemptEnd => exact execCalAttemptEnd_now h
  | switchEdge | rxHello | rxTelem | rxLane | rxEvent | rxStuckOn | lead | leadTimeout | bar2Access | blockDecoded
    | dramRead | gussetHello | request | order =>
    simp only [exec, execSwitchEdge, execRxHello, execRxTelem, execRxLane, execRxEvent, execRxStuckOn, execLead,
      execLeadTimeout, execBar2Access, execBlockDecoded, execDramRead, execGussetHello, execRequest, execOrder,
      Host.Outcome.next.injEq] at h
    subst h
    (repeat' split) <;> simp
  | _ =>
    obtain rfl := Host.Outcome.next.inj h
    (repeat' split) <;> simp

/-! ## The time unit's ticks (11 R360 to R363) -/

theorem TimeUnit.ticks_zero (u : TimeUnit) : u.ticks 0 = u := rfl

/-- The count that ticks lead to: INC at each of them, and the pending TU_STEP once. -/
def TimeUnit.ahead (u : TimeUnit) (k : Nat) : Int := (u.total + k * u.inc : Int) + u.step * 2 ^ 32

theorem TimeUnit.ticks_pos {u : TimeUnit} {k : Nat} (hk : k ≠ 0) : u.ticks k = { u.ofTotal (u.ahead k).toNat with step := 0 } :=
  if_neg hk

theorem TimeUnit.ofTotal_ns_lt (u : TimeUnit) (x : Nat) : (u.ofTotal x).ns < 1000000000 := Nat.mod_lt _ (by decide)

theorem TimeUnit.ofTotal_frac_lt (u : TimeUnit) (x : Nat) : (u.ofTotal x).frac < 2 ^ 32 := Nat.mod_lt _ (by decide)

/-- A count within the range of SEC is held exactly. -/
theorem TimeUnit.ofTotal_total (u : TimeUnit) {x : Nat} (hx : x < 2 ^ 48 * 1000000000 * 2 ^ 32) : (u.ofTotal x).total = x := by
  simp only [TimeUnit.total, TimeUnit.ofTotal]
  omega

theorem TimeUnit.ticks_spec {u : TimeUnit} {k : Nat} (hk : k ≠ 0) (hx : 0 ≤ u.ahead k) :
    (u.ticks k).step = 0 ∧ (u.ticks k).inc = u.inc ∧ (u.ticks k).ns < 1000000000 ∧ (u.ticks k).frac < 2 ^ 32 ∧
      (u.ahead k < 2 ^ 48 * 1000000000 * 2 ^ 32 → ((u.ticks k).total : Int) = u.ahead k) := by
  rw [TimeUnit.ticks_pos hk]
  refine ⟨rfl, rfl, u.ofTotal_ns_lt _, u.ofTotal_frac_lt _, fun hfits => ?_⟩
  have hcount : ((u.ahead k).toNat : Int) = u.ahead k := Int.toNat_of_nonneg hx
  have htotal : (u.ofTotal (u.ahead k).toNat).total = (u.ahead k).toNat := u.ofTotal_total (by omega)
  rw [← hcount]
  exact congrArg Nat.cast htotal

/-! ## The statement -/

/-- Settles O6: what each command does after its instant keeps the step count, and the instant is that of `State.atTime`. -/
theorem timeGoesForward : Obligations.TimeGoesForward := by
  unfold Obligations.TimeGoesForward
  refine ⟨fun c s u => exec_now, fun t s => ⟨rfl, ⟨_, rfl⟩, rfl, State.transmit_idle, fun hk => ?_, fun hk hx => ?_⟩⟩
  · exact (congrArg s.tu.ticks hk).trans s.tu.ticks_zero
  · exact TimeUnit.ticks_spec (u := s.tu) hk hx

end Sys2Proof.Machine
end

section
/-! PROOFS. 08 R245, R253 and R262: the timers of the lanes, and those of the return channel with a bad message on it. -/

namespace Sys2Proof.Machine
open Sys2Proof

/-! ## One lane changes (08 R245, R262) -/

theorem listUpd_eq_set {β : Type} (l : List β) (i : Nat) (f : β → β) (d : β) : listUpd l i f = l.set i (f (l.getD i d)) := by
  induction l generalizing i with
  | nil => rfl
  | cons x l ih => cases i <;> simp [listUpd, ih]

/-- A physical lane's record is replaced. -/
def State.putLane (k : Nat) (l : Lane) (s : State) : State := s.updCf fun c => { c with lanes := c.lanes.set k l }

theorem State.setLane_eq (k : Nat) (st : LaneState) (s : State) :
    s.setLane k st = s.putLane k { s.lane k with state := st, since := s.now } := by
  simp only [State.setLane, listUpd_eq_set _ _ _ ({} : Lane)]
  rfl

theorem State.trainLane_eq (k : Nat) (s : State) : s.trainLane k = s.putLane k
    { state := .train, since := s.now, precode := s.cf.precode.getLsbD k, ffe := (s.cf.ffePre, s.cf.ffeMain, s.cf.ffePost) } := by
  simp only [State.trainLane, listUpd_eq_set _ _ _ ({} : Lane)]
  rfl

@[simp] theorem State.atTime_lane (t k : Nat) (s : State) : (s.atTime t).lane k = s.lane k := rfl

/-! ## The timers of the lanes (08 R245) -/

section
variable (t : Nat) {k : Nat} (s : State)

theorem execTrainTimeout_eq (hk : k < 68) : execTrainTimeout t k s =
    .next (if (s.lane k).state = .train ∧ (s.lane k).since + 100000 * 12800 ≤ (s.atTime t).now then
      ((s.atTime t).raise .trainFail k).putLane k { s.lane k with state := .failed, since := (s.atTime t).now } else s.atTime t) := by
  refine congrArg Host.Outcome.next (if_congr (by simp [hk, usSteps]) ?_ rfl)
  rw [State.setLane_eq]
  rfl

theorem execAlignTimeout_eq : execAlignTimeout t k s =
    .next (if (s.lane k).state = .align ∧ (s.lane k).since + 10000 * 12800 ≤ (s.atTime t).now then (s.atTime t).trainLane k
      else s.atTime t) :=
  congrArg Host.Outcome.next (if_congr (by simp [usSteps]) rfl rfl)

theorem execLostRetrain_eq : execLostRetrain t k s =
    .next (if (s.lane k).state = .lost ∧ (s.lane k).since + 1000 * 12800 ≤ (s.atTime t).now ∧
        (s.eng.state = .calibrate ∨ s.eng.state = .ready ∨ s.eng.state = .fault) then (s.atTime t).trainLane k
      else s.atTime t) :=
  congrArg Host.Outcome.next (if_congr (by simp [usSteps, and_assoc, or_assoc]) rfl rfl)

end

/-! ## The timers of the return channel (08 R253) -/

theorem State.badReturn_eq (lane : Nat) (s : State) : s.badReturn lane = { s with
    arb := if s.cf.ret.crcRaised = true then s.arb else
      { s.arb with faultQ := s.arb.faultQ ++ [{ at' := s.now, name := .retCrc, addr := lane % 2 ^ 48 }] }
    cf := { s.cf with
      ret := { s.cf.ret with crcRaised := true }, stats := { s.cf.stats with retBad := s.cf.stats.retBad + 1 } } } := by
  rw [State.badReturn]
  cases s.cf.ret.crcRaised <;> rfl

theorem State.testCaps_eq (s : State) : s.testCaps = { s with
    arb := if s.retCaps = false ∨ s.cf.ret.capsRaised = true then s.arb else
      { s.arb with faultQ := s.arb.faultQ ++ [{ at' := s.now, name := .retCaps, addr := s.cf.ret.caps % 2 ^ 48 }] }
    cf := { s.cf with ret := { s.cf.ret with capsRaised := s.retCaps } } } := by
  rw [State.testCaps]
  cases s.retCaps <;> cases s.cf.ret.capsRaised <;> rfl

/-- With no HELLO the capabilities are not known. -/
theorem State.retCaps_unknown {s : State} (h : s.cf.ret.helloAt = none) : s.retCaps = true := by
  simp [State.retCaps, h]

/-- A HELLO of this instant leaves RET_CAPS to its capabilities. -/
theorem State.retCaps_greeted {s : State} (h : s.cf.ret.helloAt = some s.now) : s.retCaps = s.capsBad := by
  have hnow : decide (s.now < s.now + 10000 * usSteps) = true := decide_eq_true (Nat.lt_add_of_pos_right (by decide))
  rw [State.retCaps, h, Option.any_some, hnow, Bool.not_true, Bool.false_or]

theorem execRetLost_eq (t : Nat) (s : State) : let last := (s.cf.ret.good.filterMap id).foldl max 0
    execRetLost t s = .next (if s.cf.ret.lost = true ∨ (s.atTime t).now < last + 1000 * 12800 then s.atTime t else
      ((s.atTime t).raise .retLost (((s.atTime t).now - last) / 12800)).updRet fun r => { r with lost := true }) := by
  refine congrArg Host.Outcome.next (if_congr (by simp [usSteps]) rfl ?_)
  rw [usSteps]
  rfl

theorem execHelloTimeout_early {t : Nat} {s : State} {h : Nat} (hsome : s.cf.ret.helloAt = some h)
    (hearly : (s.atTime t).now < h + 10000 * 12800) : execHelloTimeout t s = .next (s.atTime t) := by
  have hsome' : (s.atTime t).cf.ret.helloAt = some h := hsome
  simp only [execHelloTimeout, hsome']
  exact congrArg Host.Outcome.next (if_neg (Nat.not_le.2 hearly))

theorem execHelloTimeout_due {t : Nat} {s : State}
    (hdue : ∀ h, s.cf.ret.helloAt = some h → h + 10000 * 12800 ≤ (s.atTime t).now) :
    execHelloTimeout t s = .next (((s.atTime t).updRet fun r => { r with helloAt := none }).testCaps) := by
  have hcf : (s.atTime t).cf = s.cf := rfl
  cases hello : s.cf.ret.helloAt with
  | none =>
    have hsame : (s.atTime t).updRet (fun r => { r with helloAt := none }) = s.atTime t := by
      rw [State.updRet, State.updCf, hcf, ← hello]
      rfl
    simp only [execHelloTimeout, hcf, hello, hsame]
  | some h =>
    simp only [execHelloTimeout, hcf, hello]
    exact congrArg Host.Outcome.next (if_pos (hdue h hello))

/-- Settles O47, timer by timer. -/
theorem laneTimers : Obligations.LaneTimers := by
  unfold Obligations.LaneTimers
  intro t s _
  refine ⟨fun k hk => ⟨?_, ?_, ?_⟩, fun lane => ⟨_, rfl, ?_, ?_⟩, execRetLost_eq t s, ?_, fun hdue => ?_⟩
  -- TRAIN_TIMEOUT
  · refine (execTrainTimeout_eq t s hk).trans ?_
    rw [State.raise, Nat.mod_eq_of_lt (show k < 2 ^ 48 by omega)]
    rfl
  -- ALIGN_TIMEOUT and LOST_RETRAIN
  · exact (execAlignTimeout_eq t s).trans (by rw [State.trainLane_eq]; rfl)
  · exact (execLostRetrain_eq t s).trans (by rw [State.trainLane_eq]; rfl)
  -- RET_CRC
  · rw [State.badReturn_eq]
  · exact congrArg State.arb ((s.atTime t).badReturn_eq lane)
  -- HELLO_TIMEOUT
  · exact fun h => execHelloTimeout_early
  · have hcaps : ((s.atTime t).updRet fun r => { r with helloAt := none }).retCaps = true := State.retCaps_unknown rfl
    refine (execHelloTimeout_due hdue).trans (congrArg Host.Outcome.next ?_)
    rw [State.testCaps_eq, hcaps]
    simp

end Sys2Proof.Machine
end

section
/-! PROOFS. 08 R245, R247 and R249 to R253: the lanes move on by the receiver's bits, and the messages of the return channel. -/

namespace Sys2Proof.Machine
open Sys2Proof

/-! ## The receiver's bits move the lanes on (08 R245, R247, Table CUFF-6) -/

/-- The states of the physical lanes. -/
def State.laneStates (s : State) : List LaneState := s.cf.lanes.map Lane.state

/-- The state of a lane after the receiver's LOCK and TRAINED bits for it (Table CUFF-6). -/
def LaneState.moved (lock trained : Bool) : LaneState → LaneState
  | .train => if trained then .align else .train
  | .align => if lock then .up else .align
  | .up => if lock then .up else .lost
  | st => st

theorem State.lane_state (k : Nat) (s : State) : (s.lane k).state = s.laneStates.getD k .off :=
  (List.getD_map s.cf.lanes ({} : Lane) Lane.state).symm

theorem State.laneStates_set_self (k : Nat) (s : State) : s.laneStates.set k (s.lane k).state = s.laneStates := by
  rw [State.lane_state]
  obtain hk | hk := Nat.lt_or_ge k s.laneStates.length
  · rw [List.getD_eq_getElem _ _ hk, List.set_getElem_self]
  · exact List.set_eq_of_length_le hk

theorem State.laneStates_putLane (k : Nat) (l : Lane) (s : State) : (s.putLane k l).laneStates = s.laneStates.set k l.state :=
  List.map_set

@[simp] theorem State.setLane_laneStates (k : Nat) (st : LaneState) (s : State) : (s.setLane k st).laneStates = s.laneStates.set k st := by
  rw [State.setLane_eq, State.laneStates_putLane]

@[simp] theorem State.alignLane_laneStates (k : Nat) (s : State) : (s.alignLane k).laneStates = s.laneStates.set k .align :=
  (listUpd_map (f := fun l : Lane => { l with origin := s.now, sent := [], free := 0 }) (fun _ => rfl) _ k).trans
    (s.setLane_laneStates k .align)

@[simp] theorem State.lostLane_laneStates (k : Nat) (s : State) : (s.lostLane k).laneStates = s.laneStates.set k .lost :=
  (listUpd_map (f := fun l : Lane => l.cut s.now) (fun _ => rfl) _ k).trans (s.setLane_laneStates k .lost)

@[simp] theorem State.sendControl_laneStates (phys kind epoch seq stripe band flags : Nat) (tail : List Byte) (s : State) :
    (s.sendControl phys kind epoch seq stripe band flags tail).laneStates = s.laneStates :=
  putLane_states ..

theorem State.loseLane_laneStates (k : Nat) (s : State) : (s.loseLane k).laneStates = s.laneStates.set k .lost := by
  refine Eq.trans ?_ (s.lostLane_laneStates k)
  unfold State.loseLane
  dsimp only
  (repeat' split)
  · rfl
  · rfl
  · exact State.sendControl_laneStates ..

theorem State.laneBit_laneStates (lock trained : BitVec 72) (s : State) (k : Nat) : (s.laneBit lock trained k).laneStates =
    s.laneStates.set k ((s.lane k).state.moved (lock.getLsbD k) (trained.getLsbD k)) := by
  have hself := s.laneStates_set_self k
  unfold State.laneBit
  cases hst : (s.lane k).state <;> rw [hst] at hself
  case train => cases trained.getLsbD k <;> simp [LaneState.moved, hself]
  case align => cases lock.getLsbD k <;> simp [LaneState.moved, hself]
  case up => cases lock.getLsbD k <;> simp [LaneState.moved, hself, State.loseLane_laneStates]
  all_goals simp [LaneState.moved, hself]

theorem State.laneBit_state (lock trained : BitVec 72) {s : State} {j : Nat} (hj : j < s.laneStates.length) (k : Nat) :
    ((s.laneBit lock trained k).lane j).state =
      if k = j then (s.lane j).state.moved (lock.getLsbD j) (trained.getLsbD j) else (s.lane j).state := by
  rw [State.lane_state, State.laneBit_laneStates, List.getD_eq_getElem?_getD, List.getElem?_set]
  split
  next hkj =>
    subst hkj
    rw [if_pos hj, Option.getD_some]
  next => rw [State.lane_state, List.getD_eq_getElem?_getD]

/-- The bits of the first n lanes move those, each from the state that it had. -/
theorem State.foldl_laneBit_state (lock trained : BitVec 72) {s : State} {j : Nat} (hj : j < s.laneStates.length) (n : Nat) :
    (((List.range n).foldl (State.laneBit lock trained) s).lane j).state =
      if j < n then (s.lane j).state.moved (lock.getLsbD j) (trained.getLsbD j) else (s.lane j).state := by
  induction n with
  | zero => rfl
  | succ n ih =>
    have hlen : ((List.range n).foldl (State.laneBit lock trained) s).laneStates.length = s.laneStates.length :=
      foldl_keep (fun s => s.laneStates.length) _ _ _ fun s k => by rw [State.laneBit_laneStates, List.length_set]
    rw [List.range_succ, List.foldl_append, List.foldl_cons, List.foldl_nil, State.laneBit_state lock trained (hlen ▸ hj), ih]
    obtain hlt | rfl | hgt := Nat.lt_trichotomy j n
    · rw [if_neg (Nat.ne_of_gt hlt), if_pos hlt, if_pos (Nat.lt_succ_of_lt hlt)]
    · rw [if_pos rfl, if_neg (Nat.lt_irrefl j), if_pos (Nat.lt_succ_self j)]
    · rw [if_neg (Nat.ne_of_lt hgt), if_neg (Nat.lt_asymm hgt), if_neg (by omega)]

theorem State.restoreMap_laneStates (s : State) : s.restoreMap.laneStates = s.laneStates := by
  unfold State.restoreMap
  split <;> rfl

theorem State.laneBits_state (lock trained : BitVec 72) {s : State} {k : Nat} (hlen : s.cf.lanes.length = 68) (hk : k < 68) :
    ((s.laneBits lock trained).lane k).state = (s.lane k).state.moved (lock.getLsbD k) (trained.getLsbD k) := by
  have hk' : k < s.laneStates.length := by rwa [State.laneStates, List.length_map, hlen]
  rw [State.laneBits, State.lane_state, State.restoreMap_laneStates, ← State.lane_state, State.foldl_laneBit_state lock trained hk',
    if_pos hk]

/-- What the messages of the receiver report: the record of the return channel, with the two counts of codewords. -/
def State.lineReport (s : State) : CuffRet × Nat × Nat := (s.cf.ret, s.cf.stats.uncorrCodewords, s.cf.stats.corrSymbols)

theorem State.loseLane_lineReport (k : Nat) (s : State) : (s.loseLane k).lineReport = s.lineReport := by
  unfold State.loseLane
  dsimp only
  (repeat' split) <;> simp [State.lineReport, State.lostLane, State.sendControl]

theorem State.laneBit_lineReport (lock trained : BitVec 72) (s : State) (k : Nat) :
    (s.laneBit lock trained k).lineReport = s.lineReport := by
  unfold State.laneBit
  split
  · split <;> rfl
  · split <;> rfl
  · split
    · rfl
    · exact State.loseLane_lineReport k s
  · rfl

theorem State.restoreMap_lineReport (s : State) : s.restoreMap.lineReport = s.lineReport := by
  unfold State.restoreMap
  split <;> rfl

theorem State.laneBits_lineReport (lock trained : BitVec 72) (s : State) : (s.laneBits lock trained).lineReport = s.lineReport :=
  (State.restoreMap_lineReport _).trans (foldl_keep State.lineReport _ _ _ (State.laneBit_lineReport lock trained))

/-- A LANE message's bits and counts, and RX_FEC once for uncorrectable codewords (08 R252). -/
def State.laneReport (lock trained : BitVec 72) (uc cs : Nat) (s : State) : State :=
  let s := s.cuffStats fun t => { t with uncorrCodewords := t.uncorrCodewords + uc, corrSymbols := t.corrSymbols + cs }
  (s.raiseUnless (uc == 0 || s.cf.ret.fecRaised) .rxFec 0xFF).updRet fun r =>
    { r with lockBits := lock, trainedBits := trained, fecRaised := r.fecRaised || uc != 0 }

theorem State.laneReport_cf (lock trained : BitVec 72) (uc cs : Nat) (s : State) : (s.laneReport lock trained uc cs).cf = { s.cf with
    ret := { s.cf.ret with lockBits := lock, trainedBits := trained, fecRaised := s.cf.ret.fecRaised || uc != 0 }
    stats := { s.cf.stats with uncorrCodewords := s.cf.stats.uncorrCodewords + uc, corrSymbols := s.cf.stats.corrSymbols + cs } } := by
  simp [State.laneReport]

theorem State.laneReport_laneBits_eq (lock trained : BitVec 72) (uc cs : Nat) (s : State) :
    let u := (s.laneReport lock trained uc cs).laneBits lock trained
    u = { s with cf := u.cf, out := u.out, arb := u.arb, fc := u.fc } := by
  ext1 <;> simp [State.laneReport]

/-! ## A return message is taken, passed over or discarded (08 R249, R250, R253) -/

/-- VERSION and CRC of a return message are right. -/
def RetIntact (h : RetHdr) (type : Nat) (body : List Byte) : Prop :=
  h.version = 1 ∧ h.crc = crc32c (retBytes h type body) type

theorem retIntact_iff (h : RetHdr) (type : Nat) (body : List Byte) : retIntact h type body 0 = true ↔ RetIntact h type body := by
  simp [retIntact, RetIntact]

/-- A good copy shows that its return lane lives. -/
def State.heard (h : RetHdr) (s : State) : State :=
  s.updRet fun r => { r with good := listUpd r.good h.lane fun _ => some s.now, lost := false }

/-- The first good copy's MSG_SEQ is kept. -/
def State.taken (h : RetHdr) (s : State) : State := (s.heard h).updRet fun r => { r with seen := (h.mseq :: r.seen).take 16 }

theorem State.inject_idle {s : State} {checker : Nat} (h : (s.fc.inject.getD (checker - 1) {}).count = 0) (unit : Nat) :
    s.inject checker unit = (0, s) := by
  simp only [State.inject, injectStep, h, decide_true, Bool.true_or, if_true]

section
variable {h : RetHdr} {type : Nat} {body : List Byte} {s : State} (hidle : (s.fc.inject.getD 10 {}).count = 0)
include hidle

theorem State.accept_bad (hbad : ¬RetIntact h type body) : s.accept h type body = (false, s.badReturn h.lane) := by
  have hnot : retIntact h type body 0 = false := Bool.eq_false_iff.2 fun hgood => hbad ((retIntact_iff h type body).1 hgood)
  simp [State.accept, State.inject_idle (checker := 11) hidle, hnot]

theorem State.accept_copy (hgood : RetIntact h type body) (hseen : h.mseq ∈ s.cf.ret.seen) :
    s.accept h type body = (false, s.heard h) := by
  simp [State.accept, State.inject_idle (checker := 11) hidle, (retIntact_iff h type body).2 hgood, hseen, State.heard]

theorem State.accept_first (hgood : RetIntact h type body) (hnew : h.mseq ∉ s.cf.ret.seen) :
    s.accept h type body = (true, s.taken h) := by
  simp [State.accept, State.inject_idle (checker := 11) hidle, (retIntact_iff h type body).2 hgood, hnew, State.taken, State.heard]

end

/-! ## What each message does once it is decided on (08 R252) -/

/-- HELLO's fields are kept, with its time. -/
def State.greeted (rev caps mode ident : Nat) (s : State) : State :=
  s.updRet fun r => { r with rev := rev, caps := caps % 256, copyMode := mode, ident := ident, helloAt := some s.now }

/-- What a HELLO leaves, with RET_CAPS as its capabilities say. -/
theorem State.greeted_testCaps (rev caps mode ident : Nat) (s : State) : ∃ u, (s.greeted rev caps mode ident).testCaps = u ∧
    u = { s with
      arb := u.arb
      cf := { s.cf with ret := { s.cf.ret with
        rev := rev, caps := caps % 256, copyMode := mode, ident := ident, helloAt := some s.now, capsRaised := u.cf.ret.capsRaised } } } ∧
    (u.cf.ret.capsRaised = true ↔ caps % 2 = 0 ∧ ∃ l ∈ s.cf.lanes, l.precode = true) := by
  have hcaps : (s.greeted rev caps mode ident).retCaps = (s.greeted rev caps mode ident).capsBad := State.retCaps_greeted rfl
  rw [State.testCaps_eq, hcaps]
  refine ⟨_, rfl, rfl, ?_⟩
  simp [State.capsBad, State.greeted, Nat.mod_mod_of_dvd]

theorem State.extendSeq_congr {s u : State} (h : u.eng = s.eng) (seq : Nat) : u.extendSeq seq = s.extendSeq seq := by
  rw [State.extendSeq, h, State.extendSeq]

section
variable {t : Nat} {h : RetHdr} {s u : State} {ok : Bool}

theorem execRxHello_eq {rev caps mode ident : Nat} (hacc : (s.atTime t).accept h 1 (helloBody rev caps mode ident) = (ok, u)) :
    execRxHello t h rev caps mode ident s = .next (if ok then (u.greeted rev caps mode ident).testCaps else u) := by
  rw [execRxHello, hacc, State.greeted]

theorem execRxTelem_eq {temp : Int} {volt pair e : Nat} (hacc : (s.atTime t).accept h 2 (telemBody temp volt pair e) = (ok, u)) :
    execRxTelem t h temp volt pair e s = .next (if ok then
      { (u.updRet fun r => { r with telemAt := some u.now, pairSel := pair % 256 }) with
        hem := { u.hem with telem := some (temp, volt, u.now) } } else u) := by
  rw [execRxTelem, hacc]

theorem execRxLane_eq {lock trained : BitVec 72} {uc cs : Nat}
    (hacc : (s.atTime t).accept h 3 (laneBody lock trained uc cs) = (ok, u)) : execRxLane t h lock trained uc cs s =
      .next (if ok then (u.laneReport lock trained uc cs).laneBits lock trained else u) := by
  rw [execRxLane, hacc]
  rfl

theorem execRxEvent_dropped {kind lane rows seq ep : Nat}
    (hacc : (s.atTime t).accept h 4 (eventBody kind lane rows seq ep) = (false, u)) :
    execRxEvent t h kind lane rows seq ep s = .next u := by
  rw [execRxEvent, hacc]
  rfl

theorem execRxStuckOn_eq {beam : Nat} (hacc : (s.atTime t).accept h 5 (beBytes 4 beam) = (ok, u)) : execRxStuckOn t h beam s =
    .next (if ok then ((u.updRet fun r => { r with stuck := true }).raise .stuckOn (beam % 2 ^ 18)).cause .fault else u) := by
  rw [execRxStuckOn, hacc]

end

/-! ## The messages of the column -/

section
variable {t : Nat} {h : RetHdr} {s : State} (hidle : ((s.atTime t).fc.inject.getD 10 {}).count = 0)
include hidle

/-- The first good EVENT: the fault of its kind, at the beam and the SEQ that it names, and its count. -/
theorem execRxEvent_first {kind lane rows seq ep : Nat} (hgood : RetIntact h 4 (eventBody kind lane rows seq ep))
    (hnew : h.mseq ∉ s.cf.ret.seen) :
    let u := (s.atTime t).taken h
    let addr := fun beam => beam % 256 * 2 ^ 40 + s.extendSeq seq % 2 ^ 40
    let ends := fun v => execRxEvent t h kind lane rows seq ep s = .next v
    (kind = 1 → ends ((u.raise .rxMissing (addr lane)).cuffStats fun k => { k with rxMissing := k.rxMissing + 1 })) ∧
    (kind = 2 → ends ((u.raise .rxCompare (addr lane)).cuffStats fun k => { k with rxCompare := k.rxCompare + 1 })) ∧
    (kind = 3 → ends ((u.raise .rxSwitch (addr rows)).cuffStats fun k => { k with rxSwitch := k.rxSwitch + 1 })) ∧
    (kind = 4 → ends ((u.raise .rxUncompared (addr lane)).cuffStats fun k => { k with rxUncompared := k.rxUncompared + 1 })) ∧
    (kind = 5 → ends ((u.raise .rxLate (addr lane)).cuffStats fun k => { k with rxLate := k.rxLate + 1 })) ∧
    (kind = 0 ∨ 6 < kind → ends u) ∧ (kind = 6 → ends (u.raise .rxFraming lane)) := by
  intro u addr ends
  have hseq : ((s.atTime t).taken h).extendSeq seq = s.extendSeq seq := State.extendSeq_congr rfl seq
  simp only [ends, execRxEvent, State.accept_first hidle hgood hnew, if_true, hseq]
  refine ⟨?_, ?_, ?_, ?_, ?_, ?_, ?_⟩
  case refine_6 =>
    intro hkind
    split
    case h_7 => rfl
    all_goals omega
  all_goals
    rintro rfl
    rfl

/-- The first good LANE: the report is kept, and each lane moves on as its bits say. -/
theorem execRxLane_first {lock trained : BitVec 72} {uc cs : Nat} (hgood : RetIntact h 3 (laneBody lock trained uc cs))
    (hnew : h.mseq ∉ s.cf.ret.seen) (hlen : s.cf.lanes.length = 68) : ∃ u, execRxLane t h lock trained uc cs s = .next u ∧
      u = { s.atTime t with cf := u.cf, out := u.out, arb := u.arb, fc := u.fc } ∧
      u.cf.ret = { ((s.atTime t).taken h).cf.ret with
        lockBits := lock, trainedBits := trained, fecRaised := s.cf.ret.fecRaised || uc != 0 } ∧
      u.cf.stats.uncorrCodewords = s.cf.stats.uncorrCodewords + uc ∧ u.cf.stats.corrSymbols = s.cf.stats.corrSymbols + cs ∧
      ∀ k < 68, (u.lane k).state = (s.lane k).state.moved (lock.getLsbD k) (trained.getLsbD k) := by
  have hcf := State.laneReport_cf lock trained uc cs ((s.atTime t).taken h)
  have hreport := State.laneBits_lineReport lock trained (((s.atTime t).taken h).laneReport lock trained uc cs)
  simp only [State.lineReport, hcf, Prod.mk.injEq] at hreport
  obtain ⟨hret, huncorr, hcorr⟩ := hreport
  refine ⟨(((s.atTime t).taken h).laneReport lock trained uc cs).laneBits lock trained,
    (execRxLane_eq (State.accept_first hidle hgood hnew)).trans (congrArg _ (if_pos rfl)), ?_, hret, huncorr, hcorr, fun k hk => ?_⟩
  · exact State.laneReport_laneBits_eq ..
  · refine (State.laneBits_state lock trained (by rw [hcf]; exact hlen) hk).trans ?_
    rw [State.lane, hcf]
    rfl

end

/-- Settles O48: a bad message, a second copy and a first good one, message by message. -/
theorem returnMessages : Obligations.ReturnMessages := by
  unfold Obligations.ReturnMessages
  intro t h s hidle hlen
  refine ⟨?_, fun hseen => ?_, fun hnew => ⟨?_, ?_, ?_, ?_, ?_⟩⟩
  -- a bad message
  · have hbad := congrArg (Host.Outcome.next : State → Res) ((s.atTime t).badReturn_eq h.lane)
    intros
    exact ⟨fun hnot => (execRxHello_eq (State.accept_bad hidle hnot)).trans hbad,
      fun hnot => (execRxTelem_eq (State.accept_bad hidle hnot)).trans hbad,
      fun hnot => (execRxLane_eq (State.accept_bad hidle hnot)).trans hbad,
      fun hnot => (execRxEvent_dropped (State.accept_bad hidle hnot)).trans hbad,
      fun hnot => (execRxStuckOn_eq (State.accept_bad hidle hnot)).trans hbad⟩
  -- a second copy
  · intros
    exact ⟨fun hgood => execRxHello_eq (State.accept_copy hidle hgood hseen),
      fun hgood => execRxTelem_eq (State.accept_copy hidle hgood hseen),
      fun hgood => execRxLane_eq (State.accept_copy hidle hgood hseen),
      fun hgood => execRxEvent_dropped (State.accept_copy hidle hgood hseen),
      fun hgood => execRxStuckOn_eq (State.accept_copy hidle hgood hseen)⟩
  -- the first good copy
  · intro rev caps mode ident hgood
    obtain ⟨u, hu, hkept, hcaps⟩ := ((s.atTime t).taken h).greeted_testCaps rev caps mode ident
    refine ⟨u, (execRxHello_eq (State.accept_first hidle hgood hnew)).trans ?_, hkept, hcaps⟩
    rw [if_pos rfl, hu]
  · exact fun temp volt pair e hgood => execRxTelem_eq (State.accept_first hidle hgood hnew)
  · intro lock trained uc cs hgood
    obtain ⟨u, hexec, hkept, hret, huncorr, hcorr, hmoved⟩ := execRxLane_first hidle hgood hnew hlen
    refine ⟨u, hexec, hkept, hret, huncorr, hcorr, fun k hk => (hmoved k hk).trans ?_⟩
    cases (s.lane k).state <;> rfl
  · exact fun kind lane rows seq ep hgood => execRxEvent_first hidle hgood hnew
  · intro beam hgood
    refine (execRxStuckOn_eq (State.accept_first hidle hgood hnew)).trans ?_
    rw [if_pos rfl, State.raise, Nat.mod_eq_of_lt (show beam % 2 ^ 18 < 2 ^ 48 by omega)]
    rfl

end Sys2Proof.Machine
end

section
/-! PROOFS. 09 R282, R287 and R289: PROBE_ARM, PROBE_READ, COMPARE_LOAD and REREFERENCE. -/

namespace Sys2Proof.Machine
open Sys2Proof

/-! ## One record of a list -/

theorem listUpd_eq_set_of_get? {β : Type} {l : List β} {i : Nat} {x : β} (h : l[i]? = some x) (f : β → β) :
    listUpd l i f = l.set i (f x) := by
  rw [listUpd_eq_set l i f x, List.getD_eq_getElem?_getD, h, Option.getD_some]

theorem listUpd_getD_same {β : Type} {l : List β} {i : Nat} (hi : i < l.length) (f : β → β) (d : β) :
    (listUpd l i f).getD i d = f (l.getD i d) := by
  rw [listUpd_getD _ _ _ _ _ hi, if_pos rfl]

theorem listUpd_getD_other {β : Type} {i j : Nat} (hj : j ≠ i) (l : List β) (f : β → β) (d : β) :
    (listUpd l i f).getD j d = l.getD j d := by
  rw [List.getD_eq_getElem?_getD, listUpd_get?, if_neg hj.symm, List.getD_eq_getElem?_getD]

theorem State.updProbe_eq_set {n : Nat} {s : State} {d : Feed} {q : Probe} (hd : s.feed = d) (h : d.probes[n]? = some q)
    (f : Probe → Probe) : s.updProbe n f = { s with feed := { d with probes := d.probes.set n (f q) } } := by
  subst hd
  rw [State.updProbe, State.updFeed, listUpd_eq_set_of_get? h]

theorem State.updCmp_eq_set {n : Nat} {s : State} {c : Compare} (h : s.feed.cmps[n]? = some c) (f : Compare → Compare) :
    s.updCmp n f = { s with feed := { s.feed with cmps := s.feed.cmps.set n (f c) } } := by
  rw [State.updCmp, State.updFeed, listUpd_eq_set_of_get? h]

theorem State.updSrc_eq_set {n : Nat} {s : State} {c : Source} (h : s.feed.srcs[n]? = some c) (f : Source → Source) :
    s.updSrc n f = { s with feed := { s.feed with srcs := s.feed.srcs.set n (f c) } } := by
  rw [State.updSrc, State.updFeed, listUpd_eq_set_of_get? h]

@[simp] theorem State.atTime_src (t n : Nat) (s : State) : (s.atTime t).src n = s.src n := rfl

theorem State.raiseUnless_not (b : Bool) (f : FaultName) (addr : Nat) (s : State) :
    s.raiseUnless (!b) f addr = if b then s.raise f addr else s := by
  cases b <;> rfl

/-! ## PROBE_READ (R287) -/

/-- The result of a PROBE_READ (13 Table MBOX-9): the number of entries, the overflow bit, and the entries. -/
def Probe.result (p : Probe) : List Byte :=
  [byteOf p.buf.length, byteOf p.overflow.toNat] ++ List.replicate 6 0 ++ p.buf.flatMap (·.bytes)

theorem Probe.result_count {p : Probe} (h : p.buf.length < 256) : fld p.result 0 1 = p.buf.length := by
  simp [fld, Probe.result, leNat, byteOf, Nat.mod_eq_of_lt h]

theorem Probe.result_overflow (p : Probe) : fld p.result 1 1 = p.overflow.toNat := by
  cases h : p.overflow <;> simp [fld, Probe.result, leNat, byteOf, h]

theorem Probe.result_zero (p : Probe) : fld p.result 2 6 = 0 := by
  simp [fld, Probe.result, leNat, List.replicate]

theorem Probe.result_entries (p : Probe) : p.result.drop 8 = p.buf.flatMap (·.bytes) := by
  simp [Probe.result, List.replicate]

section
variable {t : Nat} {cur : Current} {s : State}

theorem execProbeRead_passes {q : Probe} (h : specProbeRead.Passes cur (s.atTime t))
    (hq : s.feed.probes[fld cur.req.params 0 1]? = some q) :
    let n := fld cur.req.params 0 1
    let s' := s.atTime t
    execProbeRead t s = .next (specProbeRead.done cur.req q.result
      { (if q.overflow then s'.raise .probeOverflow (s'.addrFlash n) else s') with
        feed := { s'.feed with probes := s'.feed.probes.set n { q with buf := [], overflow := false } } }) := by
  have hprobe : (s.atTime t).feed.probes.getD (fld cur.req.params 0 1) {} = q := by
    simp [List.getD_eq_getElem?_getD, hq]
  rw [execProbeRead, CmdSpec.next_run_passes h]
  simp only [hprobe, State.raiseUnless_not]
  rw [State.updProbe_eq_set (d := (s.atTime t).feed) (by simp) hq, Probe.result]

/-! ## COMPARE_LOAD (R289) -/

/-- The state that a COMPARE_LOAD of a compare leaves. -/
def State.compareLoaded (n : Nat) (c : Compare) (s : State) : State :=
  match (s.src c.source).y with
  | none => s.updCmp n fun _ => { c with state := .stale }
  | some y =>
    if c.behind y then (s.raise .cmpStale (s.addrFlash n)).updCmp n fun _ => { c with state := .stale } else s.updCmp n fun _ => c

section
variable {n : Nat} {c c₀ : Compare} (hc : s.feed.cmps[n]? = some c₀)
include hc

theorem State.compareLoaded_none (h : (s.src c.source).y = none) :
    s.compareLoaded n c = { s with feed := { s.feed with cmps := s.feed.cmps.set n { c with state := .stale } } } := by
  rw [State.compareLoaded, h]
  exact State.updCmp_eq_set hc _

theorem State.compareLoaded_behind {y : Int} (hy : (s.src c.source).y = some y) (h : c.behind y = true) : s.compareLoaded n c =
    { s.raise .cmpStale (s.addrFlash n) with
      feed := { s.feed with cmps := s.feed.cmps.set n { c with state := .stale } } } := by
  rw [State.compareLoaded, hy]
  exact (if_pos h).trans (State.updCmp_eq_set (s := s.raise ..) hc _)

theorem State.compareLoaded_ahead {y : Int} (hy : (s.src c.source).y = some y) (h : c.behind y = false) :
    s.compareLoaded n c = { s with feed := { s.feed with cmps := s.feed.cmps.set n c } } := by
  rw [State.compareLoaded, hy]
  exact (if_neg (Bool.eq_false_iff.1 h)).trans (State.updCmp_eq_set hc _)

end

theorem execCompareLoad_passes {c : Compare} {u : State} (h : specCompareLoad.Passes cur (s.atTime t))
    (hc : s.feed.cmps[fld cur.req.params 0 1]? = some c)
    (hu : (s.atTime t).compareLoaded (fld cur.req.params 0 1) (c.load cur.req.params) = u) :
    execCompareLoad t s = .next (specCompareLoad.done cur.req [] u) := by
  have hcmp : (s.atTime t).feed.cmps.getD (fld cur.req.params 0 1) {} = c := by
    simp [List.getD_eq_getElem?_getD, hc]
  rw [execCompareLoad, CmdSpec.next_run_passes h, ← hu]
  simp only [hcmp]
  rfl

/-! ## REREFERENCE (Table FEED-3) -/

/-- A source that acquires (Table FEED-3): the n-th of the sources, of which a quadrature encoder is Valid at once. -/
def Source.acquired (n : Nat) (c : Source) : Source :=
  if n < 8 then { c with state := .acquire, port := { c.port with goodRun := 0, badRun := 0, lastCnt := none } }
  else if n < 12 then
    { c with state := .valid, quad := { c.quad with count := 0, lastEdge := none, dir := 0, speed := 0, interval := 0 } }
  else { c with state := .acquire, sc := { c.sc with periods := 0, okTicks := 0 } }

theorem State.acquire_eq (n : Nat) (s : State) : s.acquire n = s.updSrc n (Source.acquired n) := rfl

theorem Source.acquired_state (n : Nat) (c : Source) :
    (c.acquired n).state = if 8 ≤ n ∧ n < 12 then .valid else .acquire := by
  unfold Source.acquired
  split
  next hport => exact (if_neg (by omega)).symm
  next hport =>
    split
    next hquad => exact (if_pos ⟨Nat.not_lt.1 hport, hquad⟩).symm
    next hquad => exact (if_neg (by omega)).symm

theorem Source.acquired_keeps (n : Nat) (c : Source) : (c.acquired n).cfg = c.cfg ∧ (c.acquired n).suspect = c.suspect := by
  unfold Source.acquired
  split_ifs <;> exact ⟨rfl, rfl⟩

theorem execRereference_passes {c : Source} (h : specRereference.Passes cur (s.atTime t))
    (hc : s.feed.srcs[fld cur.req.params 0 1]? = some c) : execRereference t s = .next (specRereference.done cur.req []
      ((s.atTime t).updSrc (fld cur.req.params 0 1) fun c =>
        if c.state = .lostSensor then c.acquired (fld cur.req.params 0 1) else { c with suspect := false })) := by
  have hsrc : (s.atTime t).src (fld cur.req.params 0 1) = c := by
    simp [State.src, List.getD_eq_getElem?_getD, hc]
  have hput := State.updSrc_eq_set (s := s.atTime t) hc
  rw [execRereference, CmdSpec.next_run_passes h, hput]
  dsimp only
  rw [hsrc, State.acquire_eq, hput, hput]
  by_cases hlost : c.state = .lostSensor
  · rw [if_pos (beq_iff_eq.2 hlost), if_pos hlost]
  · rw [if_neg (mt beq_iff_eq.1 hlost), if_neg hlost]

end

/-! ## The statement -/

/-- Settles O29, row by row: the state that each row's effect leaves. -/
theorem probeAndCompare : Obligations.ProbeAndCompare := by
  unfold Obligations.ProbeAndCompare
  intro t cur s
  refine ⟨fun h => CmdSpec.next_run_passes h _, fun q h hq hlen => ⟨q.result, execProbeRead_passes h hq, q.result_count hlen,
    q.result_overflow, q.result_zero, q.result_entries⟩, fun c h hc => ?_, fun c h hc => ⟨_, execRereference_passes h hc, ?_⟩⟩
  -- COMPARE_LOAD
  · exact ⟨fun y hy hahead => execCompareLoad_passes h hc (State.compareLoaded_ahead (s := s.atTime t) hc hy hahead),
      fun y hy hbehind => execCompareLoad_passes h hc (State.compareLoaded_behind (s := s.atTime t) hc hy hbehind),
      fun hnone => execCompareLoad_passes h hc (State.compareLoaded_none (s := s.atTime t) hc hnone)⟩
  -- REREFERENCE
  · rw [State.updSrc_eq_set (s := s.atTime t) hc]
    obtain ⟨hcfg, hsuspect⟩ := c.acquired_keeps (fld cur.req.params 0 1)
    refine ⟨rfl, fun hother => ?_, fun hlost => ⟨_, ?_, hcfg, hsuspect, c.acquired_state _⟩⟩
    · rw [if_neg hother]
      rfl
    · rw [if_pos hlost]
      rfl

end Sys2Proof.Machine
end

section
/-! PROOFS. 09 R269 to R273, R282 and R538: what becomes of one source by the requests and the words of its port. -/

namespace Sys2Proof.Machine
open Sys2Proof

/-! ## One source of the sixteen -/

section
variable {n k : Nat} {s u v : State} {c : Source}

/-- The sources are those of s, with c in the n-th place. -/
def State.HasSrc (s : State) (n : Nat) (c : Source) (u : State) : Prop := u.feed.srcs = s.feed.srcs.set n c

theorem State.HasSrc.same (h : s.HasSrc n c u) (hn : n < s.feed.srcs.length) : u.src n = c := by
  rw [State.src, h, List.getD_eq_getElem?_getD, List.getElem?_set_self hn, Option.getD_some]

theorem State.HasSrc.other (h : s.HasSrc n c u) (hk : k ≠ n) : u.src k = s.src k := by
  rw [State.src, h, List.getD_eq_getElem?_getD, List.getElem?_set_ne hk.symm, ← List.getD_eq_getElem?_getD, State.src]

theorem State.HasSrc.congr (h : s.HasSrc n c u) (hv : v.feed.srcs = u.feed.srcs) : s.HasSrc n c v := hv.trans h

theorem State.HasSrc.raise (h : s.HasSrc n c u) (f : FaultName) (addr : Nat) : s.HasSrc n c (u.raise f addr) := h

theorem State.HasSrc.raiseUnless (h : s.HasSrc n c u) (done : Bool) (f : FaultName) (addr : Nat) :
    s.HasSrc n c (u.raiseUnless done f addr) := h.congr (by simp)

theorem State.HasSrc.send (h : s.HasSrc n c u) (o : Out) : s.HasSrc n c (u.send o) := h

theorem State.HasSrc.convert (h : s.HasSrc n c u) (k : Nat) (raw : Int) : s.HasSrc n c (u.convert k raw).2 := h.congr (by simp)

theorem State.HasSrc.updSrc (h : s.HasSrc n c u) (hn : n < s.feed.srcs.length) (f : Source → Source) :
    s.HasSrc n (f c) (u.updSrc n f) := by
  have hsrc : u.feed.srcs.getD n {} = c := h.same hn
  simp only [State.HasSrc, State.updSrc_feed, listUpd_eq_set _ _ _ ({} : Source), hsrc]
  rw [h, List.set_set]

theorem State.HasSrc.ite {d : Source} (h : s.HasSrc n c u) (h' : s.HasSrc n d v) (p : Prop) [Decidable p] :
    s.HasSrc n (if p then c else d) (if p then u else v) := by
  split
  · exact h
  · exact h'

theorem State.hasSrc_updSrc (n : Nat) (f : Source → Source) (s : State) : s.HasSrc n (f (s.src n)) (s.updSrc n f) :=
  listUpd_eq_set ..

theorem State.hasSrc_self (hn : n < s.feed.srcs.length) : s.HasSrc n (s.src n) s := by
  rw [State.HasSrc, State.src, List.getD_eq_getElem _ _ hn, List.set_getElem_self]

theorem State.hasSrc_settle (hn : n < s.feed.srcs.length) : s.HasSrc n ((s.settle n).src n) (s.settle n) := by
  have hupd (f : Source → Source) : s.HasSrc n ((s.updSrc n f).src n) (s.updSrc n f) := by
    rw [(s.hasSrc_updSrc n f).same hn]
    exact s.hasSrc_updSrc n f
  unfold State.settle
  split
  · split
    · exact hupd _
    · exact State.hasSrc_self hn
  · exact State.hasSrc_self hn

theorem State.src_congr (h : u.feed = s.feed) : u.src n = s.src n := by
  rw [State.src, h, State.src]

@[simp] theorem State.send_src (o : Out) : (s.send o).src n = s.src n := rfl
@[simp] theorem State.axesFollow_src : s.axesFollow.src n = s.src n := State.src_congr (by simp)

/-! ## A request without a good word (R272, Table FEED-3) -/

/-- A source whose port's request got no good word: the run of good words ends, and lost_words of them lose a Valid one. -/
def Source.missed (c : Source) : Source :=
  { c with
    state := if c.state = .valid ∧ c.cfg.lostWords ≤ c.port.badRun + 1 then .lostTransport else c.state
    port := { c.port with goodRun := 0, badRun := c.port.badRun + 1 } }

theorem State.HasSrc.loseSource (h : s.HasSrc n c u) (hn : n < s.feed.srcs.length) :
    s.HasSrc n { c with state := .lostTransport } (u.loseSource n 1) :=
  h.updSrc hn fun c => { c with state := .lostTransport }

theorem State.HasSrc.missWord (h : s.HasSrc n c u) (hn : n < s.feed.srcs.length) : s.HasSrc n c.missed (u.missWord n) := by
  have hrun := h.updSrc hn fun c => { c with port := { c.port with goodRun := 0, badRun := c.port.badRun + 1 } }
  have hsrc := hrun.same hn
  unfold State.missWord
  dsimp only
  rw [hsrc]
  by_cases hlost : c.state = .valid ∧ c.cfg.lostWords ≤ c.port.badRun + 1
  · rw [if_pos (by simpa using hlost), Source.missed, if_pos hlost]
    exact hrun.loseSource hn
  · rw [if_neg (by simpa using hlost), Source.missed, if_neg hlost]
    exact hrun

/-! ## POS_REQUEST (R269, R538, Table FEED-3) -/

/-- A port's source as a request finds it: an earlier request without a word is missed, and a source that had lost its
transport acquires. -/
def Source.reopened (n : Nat) (c : Source) : Source :=
  if c.state = .lostTransport then (if c.port.tReq.isSome then c.missed else c).acquired n
  else if c.port.tReq.isSome then c.missed else c

theorem Source.reopened_loaded (n : Nat) (c : Source) : (c.reopened n).loaded = c.loaded := by
  unfold Source.reopened Source.acquired
  split_ifs <;> rfl

/-- The state in which a request finds its port. -/
def State.reopen (n : Nat) (s : State) : State :=
  if (s.src n).state = .lostTransport then (if (s.src n).port.tReq.isSome then s.missWord n else s).acquire n
  else if (s.src n).port.tReq.isSome then s.missWord n else s

theorem State.HasSrc.reopen (h : s.HasSrc n c u) (hn : n < s.feed.srcs.length) : s.HasSrc n (c.reopened n) (u.reopen n) := by
  have hmiss := (h.missWord hn).ite h (c.port.tReq.isSome = true)
  rw [State.reopen, h.same hn]
  exact (hmiss.updSrc hn (Source.acquired n)).ite hmiss _

@[simp] theorem State.reopen_now (n : Nat) (s : State) : (s.reopen n).now = s.now := by
  simp [State.reopen]

@[simp] theorem State.reopen_out (n : Nat) (s : State) : (s.reopen n).out = s.out := by
  simp [State.reopen]

/-- A port's source after a request that is due. -/
def Source.requested (n now : Nat) (c : Source) : Source :=
  let d := c.reopened n
  { d with port := { d.port with tReq := some now, bit := c.loaded.bitSteps, rx := c.loaded.rxDelay } }

theorem Source.requestDue_iff {now : Nat} : c.requestDue now = true ↔ c.cfg.enable = 1 ∧ c.state ≠ .off ∧
    now % (64 * c.loaded.wordPeriod) = 0 ∧ ∀ r, c.port.tReq = some r → r + 83 * c.port.bit ≤ now := by
  cases hreq : c.port.tReq <;> simp [Source.requestDue, Port.busy, hreq, and_assoc]

theorem State.posRequest_idle (h : ((s.settle n).src n).requestDue s.now = false) : s.posRequest n = s.settle n := by
  have hnow : (s.settle n).now = s.now := by simp
  rw [State.posRequest, hnow, h]
  rfl

theorem State.posRequest_eq (hn : n < 8) (hlen : n < s.feed.srcs.length) (hdue : ((s.settle n).src n).requestDue s.now = true) :
    s.posRequest n = (((s.settle n).reopen n).updSrc n fun c => { c with port := { c.port with
      tReq := some s.now, bit := ((s.settle n).src n).loaded.bitSteps, rx := ((s.settle n).src n).loaded.rxDelay } }).send
        (.posClock n s.now ((s.settle n).src n).loaded.bitSteps) := by
  have hnow : (s.settle n).now = s.now := by simp
  have hreopen : (((s.settle n).reopen n).src n).loaded = ((s.settle n).src n).loaded := by
    rw [((State.hasSrc_settle hlen).reopen hlen).same hlen, Source.reopened_loaded]
  have hnow' : ((s.settle n).reopen n).now = s.now := by simp
  rw [State.posRequest, hnow, hdue, if_neg (by simpa using hn), ← hreopen, ← hnow']
  simp only [State.reopen, beq_iff_eq]

theorem State.posRequest_due (hn : n < 8) (hlen : n < s.feed.srcs.length)
    (hdue : ((s.settle n).src n).requestDue s.now = true) :
    s.HasSrc n (((s.settle n).src n).requested n s.now) (s.posRequest n) ∧
    (s.posRequest n).out = s.out ++ [.posClock n s.now (256 * ((s.settle n).src n).loaded.clkDiv)] := by
  rw [State.posRequest_eq hn hlen hdue]
  exact ⟨((State.hasSrc_settle hlen).reopen hlen).updSrc hlen _, by simp [SrcCfg.bitSteps]⟩

/-! ## POS_WORD (R270 to R273) -/

/-- A port's source whose request is answered. -/
def Source.answered (c : Source) : Source := { c with port := { c.port with tReq := none } }

/-- A word whose CRC or reserved bits are wrong is counted, and its POS_CRC is the stripe's. -/
def Source.crcFailed (c : Source) : Source :=
  { c with port := { c.port with crcRaised := true, crcErrors := c.port.crcErrors + 1 } }

/-- A good word is kept until it is usable, and the second of a run makes an acquiring source Valid. -/
def Source.tookWord (cnt : Nat) (raw : Int) (tReq zeros : Nat) (c : Source) : Source :=
  { c with
    state := if c.state = .acquire ∧ 1 ≤ c.port.goodRun then .valid else c.state
    port := { c.port with
      lastCnt := some cnt, goodRun := c.port.goodRun + 1, badRun := 0
      next := some (raw, tReq + nsSteps c.cfg.latchDelay,
        sampleAt5 tReq c.port.bit c.port.rx (zeros + 73) / 5 + 1, c.port.goodRun + 1) } }

theorem startBit_zeros {zeros : Nat} (hlo : 1 ≤ zeros) (hhi : zeros ≤ 8) (bits : List Bool) :
    startBit (List.replicate zeros false ++ true :: bits) = some zeros := by
  have hz : (List.replicate zeros false ++ true :: bits).takeWhile (· == false) = List.replicate zeros false := by
    rw [List.takeWhile_append_of_pos (by simp), List.takeWhile_cons_of_neg (by simp), List.append_nil]
  simp only [startBit, hz, List.length_replicate, List.length_append, List.length_cons]
  simp [hlo, hhi]

theorem wordBits_reply {zeros : Nat} {bits : List Bool} (hlen : bits.length = 72) :
    ((List.replicate zeros false ++ true :: bits).drop (zeros + 1)).take 72 = bits := by
  rw [← List.drop_drop, List.drop_left' (by simp), List.drop_succ_cons, List.drop_zero, List.take_of_length_le hlen.le]

section
variable {tReq : Nat} (hn : n < 8) (hreq : ((s.settle n).src n).port.tReq = some tReq) (hon : ((s.settle n).src n).state ≠ .off)
include hn hreq hon

theorem State.posWord_noStart {reply : List Bool} (hstart : startBit reply = none) : ∃ k, s.posWord n reply =
    (((((s.settle n).updSrc n Source.answered).raise .posNostart (s.addrFlash n)).missWord n).send (.posIdle n k)) := by
  refine ⟨min 9 ((reply.takeWhile (· == false)).length + 1), ?_⟩
  simp [State.posWord, hreq, hon, Nat.not_le.2 hn, hstart, State.addrFlash, State.flash40]
  rfl

variable {zeros : Nat} {bits : List Bool} (hlo : 1 ≤ zeros) (hhi : zeros ≤ 8) (hlen : bits.length = 72)
  (hidle : (s.fc.inject.getD 11 {}).count = 0)
include hlo hhi hlen hidle

theorem State.posWord_crcFailed (hcrc : crc16 (bits.take 56) ≠ bitsNat (bits.drop 56)) :
    s.posWord n (List.replicate zeros false ++ true :: bits) =
      ((((((s.settle n).updSrc n Source.answered).send (.posIdle n (zeros + 73))).raiseUnless
        ((s.settle n).src n).port.crcRaised .posCrc (s.addrFlash n)).updSrc n Source.crcFailed).missWord n) := by
  have hbits := wordBits_reply (zeros := zeros) hlen
  have hstart := startBit_zeros hlo hhi bits
  simp [-List.getD_eq_getElem?_getD, State.posWord, hreq, hon, Nat.not_le.2 hn, hstart, hbits, State.inject_idle, hidle, hcrc,
    State.addrFlash, State.flash40]
  rfl

theorem State.posWord_tookWord (hcrc : crc16 (bits.take 56) = bitsNat (bits.drop 56)) (herr : bits.getD 52 false = false)
    (hwarn : bits.getD 53 false = false) (hr0 : bits.getD 54 false = false) (hr1 : bits.getD 55 false = false)
    (hcnt : ∀ x, ((s.settle n).src n).port.lastCnt = some x → (x + 1) % 16 = bitsNat ((bits.drop 48).take 4)) :
    s.posWord n (List.replicate zeros false ++ true :: bits) =
      ((((s.settle n).updSrc n Source.answered).send (.posIdle n (zeros + 73))).convert n
        (wrapS 48 (Int.ofNat (bitsNat (bits.take 48))))).2.updSrc n
          (Source.tookWord (bitsNat ((bits.drop 48).take 4)) (wrapS 48 (Int.ofNat (bitsNat (bits.take 48)))) tReq zeros) := by
  have hbits := wordBits_reply (zeros := zeros) hlen
  have hstart := startBit_zeros hlo hhi bits
  have hfollows : (((s.settle n).src n).port.lastCnt.map fun x =>
      !decide ((x + 1) % 16 = bitsNat ((bits.drop 48).take 4))).getD false = false := by
    cases hlast : ((s.settle n).src n).port.lastCnt with
    | none => rfl
    | some x => simp [hcnt x hlast]
  simp [-List.getD_eq_getElem?_getD, State.posWord, hreq, hon, Nat.not_le.2 hn, hstart, hbits, State.inject_idle, hidle, hcrc,
    herr, hwarn, hr0, hr1, hlen, hfollows]
  rfl

end

end

/-! ## What the ports and their words raise goes on to wait -/

section
variable {at' addr : Nat} {f : FaultName} {s : State}

theorem State.waits.updSrc (h : s.waits at' f addr) (n : Nat) (g : Source → Source) : (s.updSrc n g).waits at' f addr := h

theorem State.waits.updAxis (h : s.waits at' f addr) (a : Nat) (g : Axis → Axis) : (s.updAxis a g).waits at' f addr := h

theorem State.waits.missWord (h : s.waits at' f addr) (n : Nat) : (s.missWord n).waits at' f addr := by
  unfold State.missWord
  dsimp only
  split
  · exact ((h.updSrc n _).updSrc n _).raise ..
  · exact h

theorem State.waits.axisFollow (h : s.waits at' f addr) (a : Nat) : (s.axisFollow a).waits at' f addr := by
  unfold State.axisFollow
  dsimp only
  split
  · exact h
  · split
    · exact ((h.updAxis a _).updAxis _ _).raise ..
    · exact h

theorem State.waits.axesFollow (h : s.waits at' f addr) : s.axesFollow.waits at' f addr :=
  h.foldl (fun _ a h => h.axisFollow a) _

end

/-! ## The commands of the ports -/

section
variable {n : Nat} {s : State} {c : Source}

theorem Source.requested_free {now : Nat} (hfree : c.port.tReq = none) (hst : c.state ≠ .lostTransport) : c.requested n now =
    { c with port := { c.port with tReq := some now, bit := 256 * c.loaded.clkDiv, rx := c.loaded.rxDelay } } := by
  simp [Source.requested, Source.reopened, hfree, hst, SrcCfg.bitSteps]

theorem Source.requested_lost {now : Nat} (hn : n < 8) (hst : c.state = .lostTransport) : (c.requested n now).state = .acquire := by
  simp [Source.requested, Source.reopened, hst, Source.acquired_state, Nat.not_le.2 hn]

theorem Source.requested_missed {now : Nat} (hreq : c.port.tReq ≠ none) (hst : c.state = .valid) :
    (c.requested n now).port.goodRun = 0 ∧ (c.requested n now).port.badRun = c.port.badRun + 1 ∧
    (c.requested n now).state = if c.cfg.lostWords ≤ c.port.badRun + 1 then .lostTransport else .valid := by
  simp [Source.requested, Source.reopened, hst, Source.missed, Option.isSome_iff_ne_none.2 hreq]

theorem State.posRequest_axesFollow (hn : n < 8) (hlen : n < s.feed.srcs.length)
    (hdue : ((s.settle n).src n).requestDue s.now = true) :
    let c := (s.settle n).src n
    let u := (s.posRequest n).axesFollow
    u = { s with feed := u.feed, out := s.out ++ [.posClock n s.now (256 * c.loaded.clkDiv)], br := u.br, arb := u.arb } ∧
    u.src n = c.requested n s.now ∧ ∀ k ≠ n, u.src k = s.src k := by
  obtain ⟨hsrc, hout⟩ := State.posRequest_due hn hlen hdue
  refine ⟨?_, State.axesFollow_src.trans (hsrc.same hlen), fun k hk => State.axesFollow_src.trans (hsrc.other hk)⟩
  ext1 <;> simp [hout]

theorem State.posRequest_axesFollow_idle (hdue : ((s.settle n).src n).requestDue s.now = false) :
    let u := (s.posRequest n).axesFollow
    u = { s with feed := u.feed, br := u.br, arb := u.arb } ∧ u.src n = (s.settle n).src n := by
  rw [State.posRequest_idle hdue]
  refine ⟨?_, State.axesFollow_src⟩
  ext1 <;> simp

section
variable {tReq : Nat} (hn : n < 8) (hsrcs : n < s.feed.srcs.length) (hreq : ((s.settle n).src n).port.tReq = some tReq)
  (hon : ((s.settle n).src n).state ≠ .off)
include hn hsrcs hreq hon

theorem State.posWord_axesFollow_noStart {reply : List Bool} (hstart : startBit reply = none) :
    let u := (s.posWord n reply).axesFollow
    u = { s with feed := u.feed, arb := u.arb, br := u.br, out := u.out } ∧ u.waits s.now .posNostart (s.addrFlash n) ∧
    u.src n = ((s.settle n).src n).answered.missed := by
  obtain ⟨k, hword⟩ := State.posWord_noStart hn hreq hon hstart
  have hanswered := (State.hasSrc_settle hsrcs).updSrc hsrcs Source.answered
  have hraised := State.waits_raise .posNostart (s.addrFlash n) ((s.settle n).updSrc n Source.answered)
  simp only [State.updSrc_frame, State.settle_frame] at hraised
  have hwait : (s.posWord n reply).waits s.now .posNostart (s.addrFlash n) := by
    rw [hword]
    exact hraised.missWord n
  refine ⟨?_, hwait.axesFollow, ?_⟩
  · ext1 <;> simp [hword]
  · rw [State.axesFollow_src, hword]
    exact ((hanswered.raise ..).missWord hsrcs).same hsrcs

variable {zeros : Nat} {bits : List Bool} (hlo : 1 ≤ zeros) (hhi : zeros ≤ 8) (hlen : bits.length = 72)
  (hidle : (s.fc.inject.getD 11 {}).count = 0)
include hlo hhi hlen hidle

theorem State.posWord_axesFollow_crcFailed (hcrc : crc16 (bits.take 56) ≠ bitsNat (bits.drop 56)) :
    let c := (s.settle n).src n
    let u := (s.posWord n (List.replicate zeros false ++ true :: bits)).axesFollow
    u = { s with feed := u.feed, arb := u.arb, br := u.br, out := s.out ++ [.posIdle n (zeros + 73)] } ∧
    u.src n = c.answered.crcFailed.missed ∧ (c.port.crcRaised = false → u.waits s.now .posCrc (s.addrFlash n)) := by
  have hword := State.posWord_crcFailed hn hreq hon hlo hhi hlen hidle hcrc
  have hanswered := (State.hasSrc_settle hsrcs).updSrc hsrcs Source.answered
  refine ⟨?_, ?_, fun hfirst => ?_⟩
  · ext1 <;> simp [hword]
  · rw [State.axesFollow_src, hword]
    exact ((((hanswered.send _).raiseUnless ..).updSrc hsrcs _).missWord hsrcs).same hsrcs
  · have hraised := State.waits_raise .posCrc (s.addrFlash n)
      (((s.settle n).updSrc n Source.answered).send (.posIdle n (zeros + 73)))
    simp only [State.send_frame, State.updSrc_frame, State.settle_frame] at hraised
    rw [hword, hfirst]
    exact ((hraised.updSrc n _).missWord n).axesFollow

theorem State.posWord_axesFollow_tookWord (hcrc : crc16 (bits.take 56) = bitsNat (bits.drop 56)) (herr : bits.getD 52 false = false)
    (hwarn : bits.getD 53 false = false) (hr0 : bits.getD 54 false = false) (hr1 : bits.getD 55 false = false)
    (hcnt : ∀ x, ((s.settle n).src n).port.lastCnt = some x → (x + 1) % 16 = bitsNat ((bits.drop 48).take 4)) :
    let u := (s.posWord n (List.replicate zeros false ++ true :: bits)).axesFollow
    u = { s with feed := u.feed, arb := u.arb, br := u.br, out := s.out ++ [.posIdle n (zeros + 73)] } ∧
    u.src n = ((s.settle n).src n).answered.tookWord (bitsNat ((bits.drop 48).take 4))
      (wrapS 48 (Int.ofNat (bitsNat (bits.take 48)))) tReq zeros ∧
    ∀ k ≠ n, u.src k = s.src k := by
  have hword := State.posWord_tookWord hn hreq hon hlo hhi hlen hidle hcrc herr hwarn hr0 hr1 hcnt
  have hanswered := (State.hasSrc_settle hsrcs).updSrc hsrcs Source.answered
  refine ⟨?_, ?_, fun k hk => ?_⟩
  · ext1 <;> simp [hword]
  · rw [State.axesFollow_src, hword]
    exact (((hanswered.send _).convert ..).updSrc hsrcs _).same hsrcs
  · rw [State.axesFollow_src, hword]
    exact (((hanswered.send _).convert ..).updSrc hsrcs _).other hk

end

end

end Sys2Proof.Machine
end

section
/-! PROOFS. 09 R267, R268, R273 and R538: the samples of a sample tick, and the statement about them and the words of the ports. -/

namespace Sys2Proof.Machine
open Sys2Proof

/-! ## What the rest of a sample tick leaves of the sources (09 R285 to R295; 10 R320; 07 R193) -/

/-- The sources, the channel map, the switch sets and the last tick: Feed without its touch inputs. -/
def Feed.sampled (d : Feed) : Feed := { d with probes := [], cmps := [], sw := [] }

theorem Feed.srcs_of_sampled {d e : Feed} (h : d.sampled = e.sampled) : d.srcs = e.srcs := by
  simpa [Feed.sampled] using congrArg Feed.srcs h

theorem Feed.lastTick_of_sampled {d e : Feed} (h : d.sampled = e.sampled) : d.lastTick = e.lastTick := by
  simpa [Feed.sampled] using congrArg Feed.lastTick h

section
variable (s : State)

@[simp] theorem State.latchSwitches_sampled : s.latchSwitches.feed.sampled = s.feed.sampled :=
  foldl_keep (fun s => s.feed.sampled) _ _ _ fun s i => by
    dsimp only
    (repeat' split) <;> rfl

@[simp] theorem State.heldPosition_sampled (n input : Nat) : (s.heldPosition n input).feed.sampled = s.feed.sampled := rfl

@[simp] theorem State.acceptEdge_sampled (n input : Nat) (e : HeldEdge) :
    (s.acceptEdge n input e).feed.sampled = s.feed.sampled := by
  unfold State.acceptEdge
  dsimp only
  split <;> simp <;> rfl

@[simp] theorem State.heldEdge_sampled (i : Nat) : (s.heldEdge i).feed.sampled = s.feed.sampled := by
  unfold State.heldEdge
  dsimp only
  split
  · split
    · simp only [State.switchActs_frame, State.acceptEdge_sampled, State.heldPosition_sampled]
    · rfl
  · rfl

@[simp] theorem State.heldEdges_sampled : s.heldEdges.feed.sampled = s.feed.sampled :=
  foldl_keep (fun s => s.feed.sampled) _ _ _ State.heldEdge_sampled

@[simp] theorem State.completeProbe_sampled (n : Nat) (w : Nat × Bool × Nat × Bool) :
    (s.completeProbe n w).feed.sampled = s.feed.sampled :=
  foldl_keep (fun s => s.feed.sampled) _ _ _ fun _ _ => rfl

@[simp] theorem State.completeProbes_sampled : s.completeProbes.feed.sampled = s.feed.sampled :=
  foldl_keep (fun s => s.feed.sampled) _ _ _ fun _ n => foldl_keep (fun s => s.feed.sampled) _ _ _ (State.completeProbe_sampled · n ·)

@[simp] theorem State.testCompares_sampled (tick : Nat) : (s.testCompares tick).feed.sampled = s.feed.sampled := by
  unfold State.testCompares
  split <;> rfl

end

/-- The sources of a tick: each sampled in turn. -/
def State.sampleSources (s : State) : State :=
  let v := s.updFeed fun d => { d with lastTick := some s.now }
  (List.range 16).foldl (fun u n => u.sampleSource v.now n) v

/-- What follows the sampling of the sources in a tick keeps them. -/
theorem State.sampleAll_sampled (s : State) : s.sampleAll.feed.sampled = s.sampleSources.feed.sampled := by
  simp [State.sampleAll, State.sampleSources]

/-! ## One source at a tick (R267, R273, R538) -/

/-- A source with a loaded block whose tick has come in force. -/
def Source.settled (now : Nat) (c : Source) : Source := (c.newCfg.map fun g => if g.1 ≤ now then c.force g.2 else c).getD c

/-- The sample of a source that is not Off (R267, R268, R273). -/
def Source.sampleAt (n tick : Nat) (c : Source) : Option Int :=
  if c.cfg.enable ≠ 1 ∨ c.state ≠ .valid then none
  else if 8 ≤ n then c.toFu (c.raw n)
  else if c.port.haveWord = false ∨ 12800 * c.cfg.staleUs < tick - c.port.tw then none
  else (c.toFu c.port.pw).map fun v => v + roundHalfUp (c.port.v * ((tick : Int) - c.port.tw)) 65536

section
variable {n : Nat} {s u : State} {c : Source}

theorem Source.sampleAt_missing {tick : Nat} (h : c.state ≠ .valid ∨ c.cfg.enable ≠ 1) : c.sampleAt n tick = none :=
  if_pos h.symm

theorem Source.sampleAt_encoder {tick : Nat} (hn : 8 ≤ n) (h : c.cfg.enable = 1 ∧ c.state = .valid) :
    c.sampleAt n tick = c.toFu (c.raw n) := by
  rw [Source.sampleAt, if_neg (by simp [h]), if_pos hn]

theorem Source.sampleAt_port {tick : Nat} (hn : n < 8) (h : c.cfg.enable = 1 ∧ c.state = .valid) : c.sampleAt n tick =
    if c.port.haveWord = false ∨ 12800 * c.cfg.staleUs < tick - c.port.tw then none
    else (c.toFu c.port.pw).map fun v => v + roundHalfUp (c.port.v * ((tick : Int) - c.port.tw)) 65536 := by
  rw [Source.sampleAt, if_neg (by simp [h]), if_neg (Nat.not_le.2 hn)]

theorem State.settle_src (hn : n < s.feed.srcs.length) : (s.settle n).src n = (s.src n).settled s.now := by
  unfold State.settle
  split
  next tick g hnew =>
    split
    next hle => rw [(s.hasSrc_updSrc n _).same hn, Source.settled, hnew, Option.map_some, Option.getD_some, if_pos hle]
    next hlt => rw [Source.settled, hnew, Option.map_some, Option.getD_some, if_neg hlt]
  next hnone => rw [Source.settled, hnone, Option.map_none, Option.getD_none]

theorem State.convert_eq (n : Nat) (raw : Int) (s : State) : (s.convert n raw).1 = (s.src n).toFu raw := by
  unfold State.convert
  split <;> simp_all

theorem Source.toFu_congr {c d : Source} (hcfg : c.cfg = d.cfg) (hoffset : c.offset = d.offset) : c.toFu = d.toFu := by
  cases c
  cases d
  cases hcfg
  cases hoffset
  rfl

theorem Source.useWord_keeps (c : Source) (tick : Nat) : (c.useWord tick).cfg = c.cfg ∧ (c.useWord tick).state = c.state ∧
    (c.useWord tick).offset = c.offset ∧ (c.useWord tick).quad = c.quad ∧ (c.useWord tick).sc = c.sc := by
  unfold Source.useWord
  split
  · split
    · simp
    · simp
  · simp

theorem State.sampleSource_hasSrc (hn : n < s.feed.srcs.length) (tick : Nat) : ∃ d, s.HasSrc n d (s.sampleSource tick n) ∧
    (((s.settle n).src n).state ≠ .off → d.y = (((s.settle n).src n).useWord tick).sampleAt n tick) := by
  have hword := (State.hasSrc_settle hn).updSrc hn fun c => c.useWord tick
  have hstate := (((s.settle n).src n).useWord_keeps tick).2.1
  have hsrc := hword.same hn
  unfold State.sampleSource
  dsimp only
  simp only [hsrc]
  generalize ((s.settle n).src n).useWord tick = c at *
  split
  next hmissing =>
    have hmissing : c.cfg.enable ≠ 1 ∨ c.state ≠ .valid := by simpa using hmissing
    split
    next hoff => exact ⟨c, hword, fun hon => absurd (hstate ▸ beq_iff_eq.1 hoff) hon⟩
    next => exact ⟨_, hword.updSrc hn _, fun _ => (if_pos hmissing).symm⟩
  next hvalid =>
    have hvalid : c.cfg.enable = 1 ∧ c.state = .valid := by simpa using hvalid
    split
    next hport =>
      rw [Source.sampleAt_port hport hvalid]
      split
      next hno => exact ⟨_, hword.updSrc hn _, fun _ => (if_pos (.inl (by simpa using hno))).symm⟩
      next hhave =>
        split
        next hold => exact ⟨_, (hword.updSrc hn _).loseSource hn, fun _ => (if_pos (.inr hold)).symm⟩
        next hnew =>
          refine ⟨_, (hword.convert ..).updSrc hn _, fun _ => ?_⟩
          rw [if_neg (not_or.2 ⟨by simpa using hhave, hnew⟩), State.convert_eq, hsrc]
    next henc =>
      refine ⟨_, (hword.convert ..).updSrc hn _, fun _ => ?_⟩
      rw [Source.sampleAt_encoder (Nat.not_lt.1 henc) hvalid, State.convert_eq, hsrc]

theorem State.HasSrc.length (h : s.HasSrc n c u) : u.feed.srcs.length = s.feed.srcs.length := by
  rw [h, List.length_set]

theorem State.sampleSource_lastTick (tick : Nat) : (s.sampleSource tick n).feed.lastTick = s.feed.lastTick := by
  have hsettle : (s.settle n).feed.lastTick = s.feed.lastTick := by
    unfold State.settle
    (repeat' split) <;> rfl
  unfold State.sampleSource
  dsimp only
  (repeat' split) <;> simp [hsettle, State.loseSource]

/-- The samples of the first N sources of a tick: each is sampled as it was before the tick, and the others are left. -/
theorem State.foldl_sampleSource {N : Nat} (hN : N ≤ s.feed.srcs.length) :
    let v := (List.range N).foldl (fun v n => v.sampleSource s.now n) s
    v.feed.srcs.length = s.feed.srcs.length ∧ (∀ n ≥ N, v.src n = s.src n) ∧
    ∀ n < N, ((s.settle n).src n).state ≠ .off → (v.src n).y = (((s.settle n).src n).useWord s.now).sampleAt n s.now := by
  induction N with
  | zero => exact ⟨rfl, fun _ _ => rfl, fun _ h => absurd h (Nat.not_lt_zero _)⟩
  | succ N ih =>
    obtain ⟨hlen, hlater, hearlier⟩ := ih (Nat.le_of_succ_le hN)
    have hnow : ((List.range N).foldl (fun v n => v.sampleSource s.now n) s).now = s.now := foldl_now _ _ _ (by simp)
    rw [List.range_succ, List.foldl_append, List.foldl_cons, List.foldl_nil]
    generalize (List.range N).foldl (fun v n => v.sampleSource s.now n) s = v at *
    have hv : N < v.feed.srcs.length := hlen ▸ hN
    obtain ⟨d, hd, hsample⟩ := State.sampleSource_hasSrc hv s.now
    have hsettled : (v.settle N).src N = (s.settle N).src N := by
      rw [State.settle_src hv, State.settle_src hN, hlater N le_rfl, hnow]
    refine ⟨hd.length.trans hlen, fun n hn => ?_, fun n hn hon => ?_⟩
    · rw [hd.other (by omega), hlater n (by omega)]
    · obtain hlt | rfl := Nat.lt_succ_iff_lt_or_eq.1 hn
      · rw [hd.other (by omega), hearlier n hlt hon]
      · rw [hd.same hv, ← hsettled, hsample (hsettled ▸ hon)]

theorem State.sampleAll_lastTick (s : State) : s.sampleAll.feed.lastTick = some s.now := by
  rw [Feed.lastTick_of_sampled s.sampleAll_sampled, State.sampleSources]
  exact foldl_keep (fun s => s.feed.lastTick) _ _ _ fun _ _ => State.sampleSource_lastTick _

theorem State.sampleAll_y (hlen : s.feed.srcs.length = 16) (hn : n < 16) (hon : ((s.settle n).src n).state ≠ .off) :
    (s.sampleAll.src n).y = (((s.settle n).src n).useWord s.now).sampleAt n s.now := by
  have hsettled : ((s.updFeed fun d => { d with lastTick := some s.now }).settle n).src n = (s.settle n).src n := by
    rw [State.settle_src (hlen ▸ hn), State.settle_src (hlen ▸ hn)]
    rfl
  obtain ⟨-, -, hsample⟩ := State.foldl_sampleSource (s := s.updFeed fun d => { d with lastTick := some s.now }) (N := 16) hlen.ge
  have hy := hsample n hn (hsettled ▸ hon)
  rw [State.src, Feed.srcs_of_sampled s.sampleAll_sampled, State.sampleSources]
  rw [hsettled] at hy
  exact hy

end

/-! ## The commands (R267, R269 to R273) -/

section
variable {t n : Nat} {s : State}

theorem execSampleTick_due (hdue : (s.atTime t).now % 640 = 0) (hsleep : s.eng.state ≠ .sleep) (hboot : s.eng.state ≠ .boot) :
    execSampleTick t s = .next (s.atTime t).sampleAll := by
  have hon : (s.atTime t).feedOn = true := by simp [State.feedOn, hsleep, hboot]
  exact congrArg Host.Outcome.next (if_pos (by rw [hon, Bool.and_true, decide_eq_true hdue]))

theorem execSampleTick_between (h : (s.atTime t).now % 640 ≠ 0) : execSampleTick t s = .next (s.atTime t) :=
  congrArg Host.Outcome.next (if_neg (by rw [decide_eq_false h, Bool.false_and]; exact Bool.false_ne_true))

section
variable (hlen : s.feed.srcs.length = 16) (hn : n < 16)
include hlen hn

theorem State.sampleAll_y_missing (hon : ((s.settle n).src n).state ≠ .off)
    (hmissing : ((s.settle n).src n).state ≠ .valid ∨ ((s.settle n).src n).cfg.enable ≠ 1) : (s.sampleAll.src n).y = none := by
  obtain ⟨hcfg, hstate, -⟩ := ((s.settle n).src n).useWord_keeps s.now
  rw [State.sampleAll_y hlen hn hon, Source.sampleAt_missing (by rwa [hcfg, hstate])]

variable (hvalid : ((s.settle n).src n).cfg.enable = 1 ∧ ((s.settle n).src n).state = .valid)
include hvalid

theorem State.sampleAll_y_encoder (henc : 8 ≤ n) :
    (s.sampleAll.src n).y = ((s.settle n).src n).toFu (((s.settle n).src n).raw n) := by
  obtain ⟨hcfg, hstate, hoffset, hquad, hsc⟩ := ((s.settle n).src n).useWord_keeps s.now
  rw [State.sampleAll_y hlen hn (by simp [hvalid]), Source.sampleAt_encoder henc (by rwa [hcfg, hstate])]
  rw [Source.toFu_congr hcfg hoffset, Source.raw, hquad, hsc, Source.raw]

theorem State.sampleAll_y_port (hport : n < 8) (hnext : ((s.settle n).src n).port.next = none)
    (hword : ((s.settle n).src n).port.haveWord = true) :
    let c := (s.settle n).src n
    (s.sampleAll.src n).y = if 12800 * c.cfg.staleUs < s.now - c.port.tw then none
      else (c.toFu c.port.pw).map fun v => v + roundHalfUp (c.port.v * ((s.now : Int) - c.port.tw)) 65536 := by
  have hsame : ((s.settle n).src n).useWord s.now = (s.settle n).src n := by rw [Source.useWord, hnext]
  rw [State.sampleAll_y hlen hn (by simp [hvalid]), hsame, Source.sampleAt_port hport hvalid]
  simp [hword]

end
end

/-! ## The statement -/

/-- Settles O39: a tick source by source, and each request and word of a port by what becomes of its source. -/
theorem positionSamples : Obligations.PositionSamples := by
  unfold Obligations.PositionSamples
  intro t s hlen
  have hsrcs (n : Nat) (hn : n < 8) : n < (s.atTime t).feed.srcs.length := hlen ▸ Nat.lt_trans hn (by decide)
  refine ⟨fun hdue hsleep hboot => ⟨_, execSampleTick_due hdue hsleep hboot, State.sampleAll_lastTick _, fun n hn hon hmissing => ?_,
    fun n hn henc hvalid henable => ?_, fun n hn hvalid henable hnext hword => ?_, ?_⟩, execSampleTick_between, fun n hn hdue => ?_,
    fun n hn now => Source.requestDue_iff, fun n hidle => ?_, fun n hn tReq zeros bits hreq hon hlo hhi hbits hidle => ⟨?_, ?_⟩,
    fun n hn reply hreq hon hstart => ?_⟩
  -- SAMPLE_TICK
  · exact State.sampleAll_y_missing (s := s.atTime t) hlen hn hon hmissing
  · exact State.sampleAll_y_encoder (s := s.atTime t) hlen hn ⟨henable, hvalid⟩ henc
  · exact State.sampleAll_y_port (s := s.atTime t) hlen (by omega) ⟨henable, hvalid⟩ hn hnext hword
  · simp
  -- POS_REQUEST
  · obtain ⟨hkept, hsrc, hother⟩ := State.posRequest_axesFollow hn (hsrcs n hn) hdue
    refine ⟨_, rfl, hkept, ?_⟩
    rw [hsrc]
    refine ⟨rfl, rfl, rfl, fun hfree hst => ?_, Source.requested_lost hn, Source.requested_missed, fun k _ => hother k⟩
    rw [Source.requested_free hfree hst]
    exact ⟨rfl, rfl⟩
  · exact ⟨_, rfl, State.posRequest_axesFollow_idle hidle⟩
  -- POS_WORD
  · intro hcrc herr hwarn hr0 hr1 hcnt
    obtain ⟨hkept, hsrc, hother⟩ :=
      State.posWord_axesFollow_tookWord hn (hsrcs n hn) hreq hon hlo hhi hbits hidle hcrc herr hwarn hr0 hr1 hcnt
    refine ⟨_, rfl, hkept, ?_, fun hacquire hrun => ?_, fun k _ => hother k⟩
    · rw [hsrc]
      rfl
    · rw [hsrc]
      exact if_pos ⟨hacquire, hrun⟩
  · intro hcrc
    obtain ⟨hkept, hsrc, hwait⟩ := State.posWord_axesFollow_crcFailed hn (hsrcs n hn) hreq hon hlo hhi hbits hidle hcrc
    refine ⟨_, rfl, hkept, ?_, hwait, fun hvalid hlost => ?_⟩
    · rw [hsrc]
      rfl
    · rw [hsrc]
      exact if_pos ⟨hvalid, hlost⟩
  · obtain ⟨tReq, hreq⟩ := Option.ne_none_iff_exists'.1 hreq
    obtain ⟨hkept, hwait, hsrc⟩ := State.posWord_axesFollow_noStart hn (hsrcs n hn) hreq hon hstart
    refine ⟨_, rfl, hkept, hwait, ?_⟩
    rw [hsrc]
    rfl

end Sys2Proof.Machine
end

section
/-! PROOFS. 09 R285 to R295: probe edges, compare outputs and switch inputs. -/

namespace Sys2Proof.Machine
open Sys2Proof

/-! ## A probe's entries are completed (R286) -/

/-- A probe whose first waiting edges have become entries. -/
def Probe.complete (entries : List ProbeEntry) (p : Probe) : Probe :=
  { p with waiting := p.waiting.drop entries.length, buf := p.buf ++ entries }

/-- A probe some of whose waiting edges, perhaps none, have become entries. -/
def Probe.Completed (p q : Probe) : Prop := ∃ entries : List ProbeEntry, entries.length ≤ p.waiting.length ∧ q = p.complete entries

theorem Probe.complete_nil (p : Probe) : p.complete [] = p := by
  simp [Probe.complete]

theorem Probe.complete_complete (a b : List ProbeEntry) (p : Probe) : (p.complete a).complete b = p.complete (a ++ b) := by
  simp [Probe.complete, List.drop_drop]

theorem Probe.Completed.refl (p : Probe) : p.Completed p := ⟨[], Nat.zero_le _, p.complete_nil.symm⟩

theorem Probe.Completed.trans {p q r : Probe} (h : p.Completed q) (h' : q.Completed r) : p.Completed r := by
  obtain ⟨a, ha, rfl⟩ := h
  obtain ⟨b, hb, rfl⟩ := h'
  refine ⟨a ++ b, ?_, p.complete_complete a b⟩
  simp only [Probe.complete, List.length_drop] at hb
  rw [List.length_append]
  omega

theorem Probe.Completed.count {p q : Probe} (h : p.Completed q) :
    q.buf.length + q.waiting.length = p.buf.length + p.waiting.length := by
  obtain ⟨entries, hle, rfl⟩ := h
  simp only [Probe.complete, List.length_append, List.length_drop]
  omega

theorem Probe.Completed.keeps {p q : Probe} (h : p.Completed q) : q.level = p.level ∧ q.armed = p.armed := by
  obtain ⟨entries, -, rfl⟩ := h
  exact ⟨rfl, rfl⟩

/-- The n-th probe input. -/
def State.probe (n : Nat) (s : State) : Probe := s.feed.probes.getD n {}

section
variable {n j : Nat} {s : State}

theorem State.probe_updProbe_same {f : Probe → Probe} (hn : n < s.feed.probes.length) : (s.updProbe n f).probe n = f (s.probe n) :=
  listUpd_getD_same hn ..

theorem State.probe_updProbe_other {f : Probe → Probe} (hj : j ≠ n) : (s.updProbe n f).probe j = s.probe j :=
  listUpd_getD_other hj ..

theorem State.completeProbe_feed (n : Nat) (w : Nat × Bool × Nat × Bool) (s : State) : ∃ e,
    (s.completeProbe n w).feed = (s.updProbe n fun p => p.complete [e]).feed := by
  refine ⟨(s.probeEntry n w.1 w.2.1 w.2.2.1 w.2.2.2).1, ?_⟩
  simp [State.completeProbe, Probe.complete]

theorem State.probe_congr {u : State} (h : u.feed = s.feed) (n : Nat) : u.probe n = s.probe n := by
  rw [State.probe, h, State.probe]

theorem State.completeProbe_length (w : Nat × Bool × Nat × Bool) : (s.completeProbe n w).feed.probes.length = s.feed.probes.length := by
  obtain ⟨e, he⟩ := s.completeProbe_feed n w
  rw [he, State.updProbe_feed, listUpd_length]

theorem State.completeProbe_other (hj : j ≠ n) (w : Nat × Bool × Nat × Bool) : (s.completeProbe n w).probe j = s.probe j := by
  obtain ⟨e, he⟩ := s.completeProbe_feed n w
  rw [State.probe_congr he, State.probe_updProbe_other hj]

theorem State.foldl_completeProbe_same (hn : n < s.feed.probes.length) (l : List (Nat × Bool × Nat × Bool)) :
    ∃ entries, entries.length = l.length ∧ (l.foldl (State.completeProbe n) s).probe n = (s.probe n).complete entries := by
  induction l generalizing s with
  | nil => exact ⟨[], rfl, (s.probe n).complete_nil.symm⟩
  | cons w l ih =>
    obtain ⟨e, he⟩ := s.completeProbe_feed n w
    obtain ⟨entries, hlen, hprobe⟩ := ih (s := s.completeProbe n w) (by rwa [State.completeProbe_length])
    refine ⟨e :: entries, by rw [List.length_cons, List.length_cons, hlen], ?_⟩
    rw [List.foldl_cons, hprobe, State.probe_congr he, State.probe_updProbe_same hn, Probe.complete_complete, List.singleton_append]

/-- The waiting edges of one probe that are due become entries. -/
theorem State.foldl_completeProbe_completed (hn : n < s.feed.probes.length) (due : Nat × Bool × Nat × Bool → Bool) (j : Nat) :
    (s.probe j).Completed ((((s.probe n).waiting.filter due).foldl (State.completeProbe n) s).probe j) := by
  by_cases hj : j = n
  · subst hj
    obtain ⟨entries, hlen, hprobe⟩ := State.foldl_completeProbe_same hn ((s.probe j).waiting.filter due)
    exact ⟨entries, hlen ▸ List.length_filter_le .., hprobe⟩
  · rw [foldl_keep (State.probe j) _ _ _ fun s => State.completeProbe_other hj]
    exact .refl _

theorem State.completeProbes_completed (hlen : s.feed.probes.length = 2) (j : Nat) : (s.probe j).Completed (s.completeProbes.probe j) := by
  have hkeep (n : Nat) (v : State) (l : List (Nat × Bool × Nat × Bool)) :
      (l.foldl (State.completeProbe n) v).feed.probes.length = v.feed.probes.length :=
    foldl_keep (fun s => s.feed.probes.length) _ _ _ fun s => State.completeProbe_length
  refine (State.foldl_completeProbe_completed (n := 0) (by omega) _ j).trans
    (State.foldl_completeProbe_completed (n := 1) ?_ _ j)
  rw [hkeep]
  omega

theorem State.completeProbes_idle (h : s.feed.lastTick = none) : s.completeProbes = s := by
  simp [State.completeProbes, h, List.range_succ]

/-! ## PROBE_EDGE (R285, R287) -/

/-- A probe keeps an edge of a direction that its mode lets through (Table FEED-8). -/
def Probe.Wants (p : Probe) (rising : Bool) : Prop :=
  p.edge.testBit (if rising then 0 else 1) = true ∧ (p.mode = 2 ∨ (p.mode = 1 ∧ p.armed = true))

theorem Probe.wants_iff {p : Probe} {rising : Bool} :
    (p.edge.testBit (if rising then 0 else 1) && (p.mode == 2 || (p.mode == 1 && p.armed))) = true ↔ p.Wants rising := by
  simp [Probe.Wants]

/-- A probe that takes an edge: it waits for its entry. -/
def Probe.takes (te : Nat) (rising : Bool) (flash : Nat) (p : Probe) : Probe :=
  { p with
    level := rising, armed := p.mode == 2 && p.armed, dropped := false, waiting := p.waiting ++ [(te, rising, flash, p.dropped)] }

theorem listUpd_listUpd {β : Type} (l : List β) (i : Nat) (f g : β → β) :
    listUpd (listUpd l i f) i g = listUpd l i fun x => g (f x) := by
  induction l generalizing i with
  | nil => rfl
  | cons x l ih => cases i <;> simp [listUpd, ih]

theorem State.updProbe_updProbe (n : Nat) (f g : Probe → Probe) (s : State) :
    (s.updProbe n f).updProbe n g = s.updProbe n fun p => g (f p) := by
  simp only [State.updProbe, State.updFeed, listUpd_listUpd]

section
variable (hlen : n < s.feed.probes.length) (te : Nat) {rising : Bool}
include hlen

theorem State.probeEdge_eq : s.probeEdge n te rising =
    if !((s.probe n).edge.testBit (if rising then 0 else 1) && ((s.probe n).mode == 2 || ((s.probe n).mode == 1 && (s.probe n).armed))) ||
        decide (2 ≤ n) then
      s.updProbe n fun p => { p with level := rising }
    else if 16 ≤ (s.probe n).buf.length + (s.probe n).waiting.length then
      s.updProbe n fun p => { p with level := rising, overflow := true, dropped := true }
    else (s.updProbe n (Probe.takes te rising s.eng.lastFlash)).completeProbes := by
  have hsame : (s.updProbe n fun p => { p with level := rising }).feed.probes.getD n {} = { s.probe n with level := rising } :=
    State.probe_updProbe_same hlen
  unfold State.probeEdge
  dsimp only
  rw [hsame, State.updProbe_updProbe, State.updProbe_updProbe]
  rfl

theorem State.probeEdge_unwanted (h : ¬(s.probe n).Wants rising) :
    s.probeEdge n te rising = s.updProbe n fun p => { p with level := rising } := by
  rw [State.probeEdge_eq hlen, Bool.eq_false_iff.2 (mt Probe.wants_iff.1 h)]
  rfl

variable (hn : n < 2) (h : (s.probe n).Wants rising)
include hn h

theorem State.probeEdge_full (hfull : 16 ≤ (s.probe n).buf.length + (s.probe n).waiting.length) :
    s.probeEdge n te rising = s.updProbe n fun p => { p with level := rising, overflow := true, dropped := true } := by
  rw [State.probeEdge_eq hlen, Probe.wants_iff.2 h, decide_eq_false (Nat.not_le.2 hn)]
  exact if_pos hfull

theorem State.probeEdge_taken (hroom : (s.probe n).buf.length + (s.probe n).waiting.length < 16) :
    s.probeEdge n te rising = (s.updProbe n (Probe.takes te rising s.eng.lastFlash)).completeProbes := by
  rw [State.probeEdge_eq hlen, Probe.wants_iff.2 h, decide_eq_false (Nat.not_le.2 hn)]
  exact if_neg (Nat.not_le.2 hroom)

end

/-- Probe entries that are completed change the probes and what waits at the arbiter. -/
theorem State.completeProbes_keeps (s : State) : s.completeProbes =
    { s with feed := { s.feed with probes := s.completeProbes.feed.probes }, arb := s.completeProbes.arb } := by
  have hkeep : { s.completeProbes.feed with probes := [] } = { s.feed with probes := [] } :=
    foldl_keep (fun s => { s.feed with probes := [] }) _ _ _ fun s n =>
      foldl_keep (fun s => { s.feed with probes := [] }) _ _ _ fun s w => by
        obtain ⟨e, he⟩ := s.completeProbe_feed n w
        rw [he, State.updProbe_feed]
  ext1
  case feed => exact congrArg (fun d : Feed => { d with probes := s.completeProbes.feed.probes }) hkeep
  all_goals simp

theorem State.probeEdge_outcome (hn : n < 2) (hlen : s.feed.probes.length = 2) (te : Nat) (rising : Bool) :
    let p := s.probe n
    let u := s.probeEdge n te rising
    u = { s with feed := { s.feed with probes := u.feed.probes }, arb := u.arb } ∧ (u.probe n).level = rising ∧
    (¬p.Wants rising → u.probe n = { p with level := rising } ∧ u.arb = s.arb) ∧
    (p.Wants rising → 16 ≤ p.buf.length + p.waiting.length →
      u.probe n = { p with level := rising, overflow := true, dropped := true } ∧ u.arb = s.arb) ∧
    (p.Wants rising → p.buf.length + p.waiting.length < 16 →
      (u.probe n).buf.length + (u.probe n).waiting.length = p.buf.length + p.waiting.length + 1 ∧
      (p.mode = 1 → (u.probe n).armed = false) ∧
      (s.feed.lastTick = none → (u.probe n).waiting = p.waiting ++ [(te, rising, s.eng.lastFlash, p.dropped)])) := by
  have hn' : n < s.feed.probes.length := hlen ▸ hn
  by_cases hwants : (s.probe n).Wants rising
  · obtain hroom | hfull := Nat.lt_or_ge ((s.probe n).buf.length + (s.probe n).waiting.length) 16
    · rw [State.probeEdge_taken hn' te hn hwants hroom]
      have htakes := State.probe_updProbe_same (f := Probe.takes te rising s.eng.lastFlash) hn'
      have hdone := State.completeProbes_completed (s := s.updProbe n (Probe.takes te rising s.eng.lastFlash))
        ((listUpd_length ..).trans hlen) n
      rw [htakes] at hdone
      obtain ⟨hlevel, harmed⟩ := hdone.keeps
      refine ⟨State.completeProbes_keeps _, hlevel, fun h => absurd hwants h, fun _ h => absurd hroom (Nat.not_lt.2 h), fun _ _ =>
        ⟨?_, fun hmode => ?_, fun hnone => ?_⟩⟩
      · rw [hdone.count]
        simp only [Probe.takes, List.length_append, List.length_singleton]
        omega
      · rw [harmed, Probe.takes, hmode]
        rfl
      · rw [State.completeProbes_idle (s := s.updProbe n _) hnone, htakes, Probe.takes]
    · rw [State.probeEdge_full hn' te hn hwants hfull]
      have hprobe := State.probe_updProbe_same (f := fun p => { p with level := rising, overflow := true, dropped := true }) hn'
      exact ⟨rfl, congrArg Probe.level hprobe, fun h => absurd hwants h, fun _ _ => ⟨hprobe, rfl⟩,
        fun _ h => absurd h (Nat.not_lt.2 hfull)⟩
  · rw [State.probeEdge_unwanted hn' te hwants]
    have hprobe := State.probe_updProbe_same (f := fun p => { p with level := rising }) hn'
    exact ⟨rfl, congrArg Probe.level hprobe, fun _ => ⟨hprobe, rfl⟩, fun h => absurd h hwants, fun h => absurd h hwants⟩

end

/-! ## COMPARE_FIRE (R290, R291) -/

/-- The n-th compare output. -/
def State.cmp (n : Nat) (s : State) : Compare := s.feed.cmps.getD n {}

theorem State.cmp_updCmp_same {n : Nat} {f : Compare → Compare} {s : State} (hn : n < s.feed.cmps.length) :
    (s.updCmp n f).cmp n = f (s.cmp n) :=
  listUpd_getD_same hn ..

theorem State.cmp_updCmp_other {n j : Nat} {f : Compare → Compare} {s : State} (hj : j ≠ n) : (s.updCmp n f).cmp j = s.cmp j :=
  listUpd_getD_other hj ..

/-- A compare that fires once. -/
def Compare.fired (now : Nat) (c : Compare) : Compare :=
  { c with state := .fired, fireAt := none, highUntil := some (now + c.width * 64) }

/-- A periodic compare that fires and goes on to the value after the next k, which it skips. -/
def Compare.stepped (now k : Nat) (c : Compare) : Compare :=
  { c with
    value := c.value + c.step + k * c.step, fireAt := none, highUntil := some (now + c.width * 64)
    skipped := c.skipped + k, missed := c.missed || k != 0, missedRaised := c.missedRaised || k != 0 }

/-- A periodic compare at its next value. -/
def Compare.advanced (c : Compare) : Compare := { c with value := c.value + c.step }

/-- The values that a periodic compare skips so that its next one lies ahead of a position. -/
def Compare.skips (c : Compare) (y : Option Int) : Nat :=
  (y.map fun y => if c.behind y then
    (floorDiv (if c.dir = 1 then y - c.value else c.value - y) c.step.natAbs).toNat + 1 else 0).getD 0

/-- One more than the whole steps in a distance lead beyond it. -/
theorem lt_floorDiv_succ_mul {d b : Int} (hd : 0 ≤ d) (hb : 0 < b) : d < ((floorDiv d b).toNat + 1 : Nat) * b := by
  have hq : ((floorDiv d b).toNat : Int) = d / b := by
    rw [floorDiv, Int.fdiv_eq_ediv_of_nonneg d hb.le, Int.toNat_of_nonneg (Int.ediv_nonneg hd hb.le)]
  rw [Nat.cast_succ, hq]
  exact Int.lt_ediv_add_one_mul_self d hb

theorem Compare.skips_ahead (c : Compare) (y : Int) :
    (c.dir = 1 → 0 < c.step → y < c.value + c.skips (some y) * c.step) ∧
    (c.dir = -1 → c.step < 0 → c.value + c.skips (some y) * c.step < y) := by
  constructor
  · intro hdir hstep
    by_cases hbehind : c.value ≤ y
    · have hskips : c.skips (some y) = (floorDiv (y - c.value) c.step).toNat + 1 := by
        simp [Compare.skips, Compare.behind, hdir, hbehind, abs_of_pos hstep]
      have hlt := lt_floorDiv_succ_mul (sub_nonneg.2 hbehind) hstep
      rw [hskips]
      linarith
    · have hskips : c.skips (some y) = 0 := by simp [Compare.skips, Compare.behind, hdir, hbehind]
      rw [hskips]
      omega
  · intro hdir hstep
    by_cases hbehind : y ≤ c.value
    · have hskips : c.skips (some y) = (floorDiv (c.value - y) (-c.step)).toNat + 1 := by
        simp [Compare.skips, Compare.behind, hdir, hbehind, abs_of_neg hstep]
      have hlt := lt_floorDiv_succ_mul (sub_nonneg.2 hbehind) (neg_pos.2 hstep)
      rw [hskips]
      linarith
    · have hskips : c.skips (some y) = 0 := by simp [Compare.skips, Compare.behind, hdir, hbehind]
      rw [hskips]
      omega

section
variable {n f : Nat} {s : State} (hfire : (s.cmp n).fireAt = some f) (hdue : f ≤ s.now) (harmed : (s.cmp n).state = .armed)
  (hactive : s.twin.active = true)
include hfire hdue harmed hactive

theorem State.compareFire_once (hmode : (s.cmp n).mode = 0) :
    s.compareFire n = (s.send (.compare n true)).updCmp n (Compare.fired s.now) := by
  unfold State.cmp at *
  rw [State.compareFire, hfire]
  dsimp only
  rw [if_neg (by simp_all [State.standby]), if_pos hmode]
  rfl

theorem State.compareFire_periodic (hmode : (s.cmp n).mode ≠ 0) : ∃ k,
    k = (s.cmp n).advanced.skips (s.src (s.cmp n).source).y ∧
    s.compareFire n = ((s.send (.compare n true)).raiseUnless (k == 0 || (s.cmp n).missedRaised) .cmpMissed (s.addrFlash n)).updCmp n
      fun _ => (s.cmp n).stepped s.now k := by
  refine ⟨_, rfl, ?_⟩
  unfold State.cmp at *
  rw [State.compareFire, hfire]
  dsimp only
  rw [if_neg (by simp_all [State.standby]), if_neg hmode, State.send_src]
  unfold Compare.skips Compare.stepped
  cases (s.src (s.feed.cmps.getD n {}).source).y <;> rfl

/-- COMPARE_FIRE of an armed compare whose instant has come: its output rises, and it has fired or lies ahead again. -/
theorem State.compareFire_outcome (hn : n < s.feed.cmps.length) :
    let c := s.cmp n
    let u := s.compareFire n
    u = { s with feed := { s.feed with cmps := u.feed.cmps }, out := s.out ++ [.compare n true], arb := u.arb } ∧
    (c.mode = 0 → u.cmp n = c.fired s.now) ∧
    (c.mode ≠ 0 → ∃ k : Nat, u.cmp n = c.stepped s.now k ∧ ∀ y, (s.src c.source).y = some y →
      (c.dir = 1 → 0 < c.step → y < (u.cmp n).value) ∧ (c.dir = -1 → c.step < 0 → (u.cmp n).value < y)) := by
  by_cases hmode : (s.cmp n).mode = 0
  · have hcmp : ((s.send (.compare n true)).updCmp n (Compare.fired s.now)).cmp n = (s.cmp n).fired s.now := State.cmp_updCmp_same hn
    rw [State.compareFire_once hfire hdue harmed hactive hmode]
    exact ⟨rfl, fun _ => hcmp, fun h => absurd hmode h⟩
  · obtain ⟨k, hk, hfired⟩ := State.compareFire_periodic hfire hdue harmed hactive hmode
    have hcmp : (s.compareFire n).cmp n = (s.cmp n).stepped s.now k := by
      rw [hfired, State.cmp_updCmp_same (by simpa using hn)]
    refine ⟨?_, fun h => absurd h hmode, fun _ => ⟨k, hcmp, fun y hy => ?_⟩⟩
    · rw [hfired, State.raiseUnless_eq]
      rfl
    · rw [hcmp, Compare.stepped, hk, hy]
      exact (s.cmp n).advanced.skips_ahead y

end

/-! ## COMPARE_PULSE_END (R291) -/

/-- A compare whose output has fallen if its width has passed. -/
def Compare.pulseEnded (now : Nat) (c : Compare) : Compare := { c with highUntil := c.highUntil.filter fun h => decide (now < h) }

/-- The output of one compare falls if its width has passed. -/
def State.endPulse (s : State) (n : Nat) : State :=
  match (s.cmp n).highUntil with
  | some h => if h ≤ s.now then (s.updCmp n fun c => { c with highUntil := none }).send (.compare n false) else s
  | none => s

theorem State.comparePulseEnd_eq (s : State) : s.comparePulseEnd = (List.range 4).foldl State.endPulse s := rfl

theorem Compare.pulseEnded_due {now h : Nat} {c : Compare} (hhigh : c.highUntil = some h) (hdue : h ≤ now) :
    c.pulseEnded now = { c with highUntil := none } := by
  simp [Compare.pulseEnded, hhigh, hdue]

theorem Compare.pulseEnded_later {now : Nat} {c : Compare} (h : ∀ h, c.highUntil = some h → now < h) : c.pulseEnded now = c := by
  have hkept : c.highUntil.filter (now < ·) = c.highUntil := by
    cases hhigh : c.highUntil with
    | none => rfl
    | some k => simp [h k hhigh]
  rw [Compare.pulseEnded, hkept]

/-- An output stays as it is, or its width has passed and it falls. -/
theorem State.endPulse_cases (n : Nat) (s : State) :
    (s.endPulse n = s ∧ ∀ h, (s.cmp n).highUntil = some h → s.now < h) ∨
    ∃ h, (s.cmp n).highUntil = some h ∧ h ≤ s.now ∧
      s.endPulse n = (s.updCmp n fun c => { c with highUntil := none }).send (.compare n false) := by
  unfold State.endPulse
  split
  next k hhigh =>
    obtain hdue | hlater := le_or_gt k s.now
    · exact .inr ⟨k, hhigh, hdue, if_pos hdue⟩
    · refine .inl ⟨if_neg (Nat.not_le.2 hlater), fun h hh => ?_⟩
      rwa [← Option.some.inj (hhigh.symm.trans hh)]
  next hlow => exact .inl ⟨rfl, fun h hh => absurd (hlow.symm.trans hh) (Option.some_ne_none h).symm⟩

theorem State.endPulse_cmp_same {n : Nat} {s : State} (hn : n < s.feed.cmps.length) :
    (s.endPulse n).cmp n = (s.cmp n).pulseEnded s.now := by
  obtain ⟨hsame, hlater⟩ | ⟨h, hhigh, hdue, hfalls⟩ := s.endPulse_cases n
  · rw [hsame, Compare.pulseEnded_later hlater]
  · rw [hfalls, Compare.pulseEnded_due hhigh hdue]
    exact State.cmp_updCmp_same hn

theorem State.endPulse_cmp_other {n j : Nat} {s : State} (hj : j ≠ n) : (s.endPulse n).cmp j = s.cmp j := by
  obtain ⟨hsame, -⟩ | ⟨h, -, -, hfalls⟩ := s.endPulse_cases n
  · rw [hsame]
  · rw [hfalls]
    exact State.cmp_updCmp_other hj

theorem State.endPulse_keeps (n : Nat) (s : State) : s.endPulse n =
    { s with feed := { s.feed with cmps := (s.endPulse n).feed.cmps }, out := (s.endPulse n).out } := by
  obtain ⟨hsame, -⟩ | ⟨h, -, -, hfalls⟩ := s.endPulse_cases n
  · rw [hsame]
  · rw [hfalls]
    rfl

theorem State.endPulse_length (n : Nat) (s : State) : (s.endPulse n).feed.cmps.length = s.feed.cmps.length := by
  obtain ⟨hsame, -⟩ | ⟨h, -, -, hfalls⟩ := s.endPulse_cases n
  · rw [hsame]
  · rw [hfalls]
    exact listUpd_length ..

theorem State.endPulse_out {o : Out} {s : State} (ho : o ∈ s.out) (n : Nat) : o ∈ (s.endPulse n).out := by
  obtain ⟨hsame, -⟩ | ⟨h, -, -, hfalls⟩ := s.endPulse_cases n
  · rwa [hsame]
  · rw [hfalls]
    exact List.mem_append_left _ ho

theorem State.endPulse_falls {n h : Nat} {s : State} (hhigh : (s.cmp n).highUntil = some h) (hdue : h ≤ s.now) :
    .compare n false ∈ (s.endPulse n).out := by
  obtain ⟨-, hlater⟩ | ⟨k, -, -, hfalls⟩ := s.endPulse_cases n
  · exact absurd hdue (Nat.not_le.2 (hlater h hhigh))
  · rw [hfalls]
    exact List.mem_append_right _ (List.mem_singleton_self _)

/-- The first N outputs fall if their widths have passed. -/
theorem State.foldl_endPulse {s : State} {N : Nat} (hN : N ≤ s.feed.cmps.length) :
    let v := (List.range N).foldl State.endPulse s
    v.now = s.now ∧ v.feed.cmps.length = s.feed.cmps.length ∧ (∀ n ≥ N, v.cmp n = s.cmp n) ∧
    ∀ n < N, v.cmp n = (s.cmp n).pulseEnded s.now ∧
      ∀ h, (s.cmp n).highUntil = some h → h ≤ s.now → .compare n false ∈ v.out := by
  induction N with
  | zero => exact ⟨rfl, rfl, fun _ _ => rfl, fun _ h => absurd h (Nat.not_lt_zero _)⟩
  | succ N ih =>
    obtain ⟨hnow, hlen, hlater, hearlier⟩ := ih (Nat.le_of_succ_le hN)
    rw [List.range_succ, List.foldl_append, List.foldl_cons, List.foldl_nil]
    generalize (List.range N).foldl State.endPulse s = v at *
    have hv : N < v.feed.cmps.length := hlen ▸ hN
    refine ⟨(congrArg State.now (v.endPulse_keeps N)).trans hnow, (v.endPulse_length N).trans hlen, fun n hn => ?_, fun n hn => ?_⟩
    · rw [State.endPulse_cmp_other (by omega), hlater n (by omega)]
    · obtain hlt | rfl := Nat.lt_succ_iff_lt_or_eq.1 hn
      · obtain ⟨hcmp, hout⟩ := hearlier n hlt
        exact ⟨(State.endPulse_cmp_other (by omega)).trans hcmp, fun h hhigh hdue => State.endPulse_out (hout h hhigh hdue) N⟩
      · rw [State.endPulse_cmp_same hv, hlater n le_rfl, hnow]
        exact ⟨rfl, fun h hhigh hdue => State.endPulse_falls ((hlater n le_rfl).symm ▸ hhigh) (hnow ▸ hdue)⟩

theorem State.comparePulseEnd_keeps (s : State) : s.comparePulseEnd =
    { s with feed := { s.feed with cmps := s.comparePulseEnd.feed.cmps }, out := s.comparePulseEnd.out } := by
  have hkeep : { s.comparePulseEnd.feed with cmps := [] } = { s.feed with cmps := [] } := by
    rw [State.comparePulseEnd_eq]
    exact foldl_keep (fun s => { s.feed with cmps := [] }) _ _ _ fun s n =>
      congrArg (fun u : State => { u.feed with cmps := [] }) (s.endPulse_keeps n)
  ext1
  case feed => exact congrArg (fun d : Feed => { d with cmps := s.comparePulseEnd.feed.cmps }) hkeep
  all_goals simp

/-! ## Switch inputs (R293 to R295) -/

/-- The qualified level of each switch input, and the edge that its hysteresis holds back. -/
def State.swLevels (s : State) : List (Option Bool × Option HeldEdge) := s.feed.sw.map fun w => (w.qualified, w.held)

section
variable {n input : Nat} {s u : State}

theorem State.swIn_levels (n input : Nat) (s : State) :
    ((s.swIn n input).qualified, (s.swIn n input).held) = s.swLevels.getD (3 * n + input) (none, none) :=
  (List.getD_map s.feed.sw ({} : Switch) fun w : Switch => (w.qualified, w.held)).symm

theorem State.swIn_congr (h : u.swLevels = s.swLevels) :
    (u.swIn n input).qualified = (s.swIn n input).qualified ∧ (u.swIn n input).held = (s.swIn n input).held := by
  have hpair := (State.swIn_levels n input u).trans (h ▸ (State.swIn_levels n input s).symm)
  exact ⟨congrArg Prod.fst hpair, congrArg Prod.snd hpair⟩

theorem State.swIn_updSw_same {f : Switch → Switch} (hin : 3 * n + input < s.feed.sw.length) :
    (s.updSw n input f).swIn n input = f (s.swIn n input) :=
  listUpd_getD_same hin ..

theorem State.raise_levels (f : FaultName) (addr : Nat) (s : State) : (s.raise f addr).swLevels = s.swLevels := rfl

theorem State.ite_raise_levels (p : Prop) [Decidable p] (f : FaultName) (addr : Nat) (s : State) :
    (if p then s.raise f addr else s).swLevels = s.swLevels := by
  split <;> rfl

theorem State.updSw_levels {f : Switch → Switch} (hf : ∀ w, ((f w).qualified, (f w).held) = (w.qualified, w.held)) :
    (s.updSw n input f).swLevels = s.swLevels :=
  listUpd_map hf ..

theorem State.latchSwitches_levels (s : State) : s.latchSwitches.swLevels = s.swLevels :=
  foldl_keep State.swLevels _ _ _ fun s i => by
    dsimp only
    split
    · split
      · split
        · exact State.updSw_levels fun _ => rfl
        · rw [State.raise_levels]
          exact State.updSw_levels fun _ => rfl
      · rfl
    · split
      · exact State.updSw_levels fun _ => rfl
      · rfl

theorem State.swLevels_congr (h : u.feed = s.feed) : u.swLevels = s.swLevels := by
  rw [State.swLevels, h, State.swLevels]

/-! ## SWITCH_EDGE (R294) -/

/-- An input whose edge is accepted. -/
def Switch.accepted (e : HeldEdge) (w : Switch) : Switch :=
  { w with
    qualified := some e.raw, held := none, latch := e.pos.getD none, latchAt := if e.pos.isNone then some e.tRaw else none
    needLatch := e.pos == some none }

theorem State.acceptEdge_levels (e : HeldEdge) : (s.acceptEdge n input e).swLevels = (s.updSw n input (Switch.accepted e)).swLevels := by
  have hlatch := ((s.updSw n input (Switch.accepted e)).raiseUnless (e.pos != some none) .probeNopos
    ((s.updSw n input (Switch.accepted e)).addrFlash n)).latchSwitches_levels
  rw [State.swLevels_congr (u := State.raiseUnless ..) (s := s.updSw n input (Switch.accepted e)) (by simp)] at hlatch
  unfold State.acceptEdge
  dsimp only
  rw [State.ite_raise_levels]
  exact hlatch

theorem State.acceptEdge_swIn (e : HeldEdge) (hin : 3 * n + input < s.feed.sw.length) :
    ((s.acceptEdge n input e).swIn n input).qualified = some e.raw ∧ ((s.acceptEdge n input e).swIn n input).held = none := by
  obtain ⟨hqual, hheld⟩ := State.swIn_congr (n := n) (input := input) (s.acceptEdge_levels e)
  rw [State.swIn_updSw_same hin] at hqual hheld
  exact ⟨hqual, hheld⟩

theorem State.switchEdge_unqualified (hnone : (s.swIn n input).qualified = none) (raw : Bool) (tRaw : Nat) :
    s.switchEdge n input raw tRaw = (false, s) := by
  simp [State.switchEdge, hnone]

section
variable {raw : Bool} (tRaw : Nat) (hn : n < 4) (hinput : input < 3) (hother : (s.swIn n input).qualified = some (!raw))
include hn hinput hother

theorem State.switchEdge_passes (hpass : s.hystOk n input = true) :
    s.switchEdge n input raw tRaw = (true, s.acceptEdge n input { raw := raw, tRaw := tRaw }) := by
  simp [State.switchEdge, hother, hpass, Nat.not_le.2 hn, Nat.not_le.2 hinput]

theorem State.switchEdge_held (hkeep : s.hystOk n input = false) : s.switchEdge n input raw tRaw =
    (false, s.updSw n input fun w => { w with held := some { raw := raw, tRaw := tRaw } }) := by
  simp [State.switchEdge, hother, hkeep, Nat.not_le.2 hn, Nat.not_le.2 hinput]

end

theorem execSwitchEdge_eq {t tRaw : Nat} {raw ok : Bool} (h : (s.atTime t).switchEdge n input raw tRaw = (ok, u)) :
    execSwitchEdge t n input raw tRaw s = .next (if ok then State.switchActs (s.atTime t) n input tRaw u else u) := by
  rw [execSwitchEdge, h]

/-- An edge that is let through: the input takes it, and the axes act on it. -/
theorem State.switchActs_acceptEdge (before : State) (e : HeldEdge) (tRaw : Nat) (hin : 3 * n + input < s.feed.sw.length) :
    let u := State.switchActs before n input tRaw (s.acceptEdge n input e)
    u.feed.srcs = s.feed.srcs ∧ (u.swIn n input).qualified = some e.raw ∧ (u.swIn n input).held = none := by
  have hfeed : (State.switchActs before n input tRaw (s.acceptEdge n input e)).feed = (s.acceptEdge n input e).feed := by simp
  obtain ⟨hqual, hheld⟩ := State.swIn_congr (n := n) (input := input) (State.swLevels_congr hfeed)
  obtain ⟨hqual', hheld'⟩ := State.acceptEdge_swIn e hin
  exact ⟨(congrArg Feed.srcs hfeed).trans (Feed.srcs_of_sampled (s.acceptEdge_sampled n input e)), hqual.trans hqual', hheld.trans hheld'⟩

/-! ## SWITCH_FIRST_QUALIFICATION (R293, R295) -/

/-- An input that takes its first level. -/
def Switch.first (raw : Bool) (w : Switch) : Switch := { w with qualified := some raw, latch := none, latchAt := none, needLatch := false }

theorem State.switchFirst_again (raw : Bool) (h : (s.swIn n input).qualified ≠ none) : s.switchFirst n input raw = s := by
  rw [State.switchFirst, if_pos (by simp [Option.isSome_iff_ne_none.2 h])]

theorem State.waits.stopMoving {at' addr : Nat} {f : FaultName} (h : s.waits at' f addr) (a : Nat) : (s.stopMoving a).waits at' f addr :=
  (State.waits_congr (by simp)).2 h

theorem State.waits.homeFail {at' addr : Nat} {f : FaultName} (h : s.waits at' f addr) (a : Nat) : (s.homeFail a).waits at' f addr :=
  (State.waits_congr (by simp [State.homeFail])).2 (h.raise .homeFail (s.addrFlash a))

/-- Both limits of a set are active: LIM_BOTH, and the axes of the set hold or fail their homing (R295). -/
def State.bothLimits (n : Nat) (s : State) : State :=
  let s := s.raise .limBoth (s.addrFlash n)
  if s.standby then s
  else s.eachAxis fun a s =>
    if !s.limBoth a then s
    else if (s.axis a).homing.isSome then s.homeFail a
    else s.stopMoving a

theorem State.bothLimits_feed (n : Nat) (s : State) : (s.bothLimits n).feed = s.feed := by
  simp [State.bothLimits, State.eachAxis]

theorem State.bothLimits_waits (n : Nat) (s : State) : (s.bothLimits n).waits s.now .limBoth (s.addrFlash n) := by
  have hraised := State.waits_raise .limBoth (s.addrFlash n) s
  unfold State.bothLimits
  dsimp only
  split
  · exact hraised
  · refine hraised.foldl (fun v a h => ?_) _
    dsimp only
    split
    · exact h
    · split
      · exact h.homeFail a
      · exact h.stopMoving a

section
variable (raw : Bool) (hn : n < 4) (hinput : input < 3) (hnone : (s.swIn n input).qualified = none)
include hn hinput hnone

theorem State.switchFirst_eq :
    let v := s.updSw n input (Switch.first raw)
    s.switchFirst n input raw = if decide (input < 2) && v.swActive n 0 && v.swActive n 1 then v.bothLimits n else v := by
  rw [State.switchFirst, if_neg (by simp [hnone, Nat.not_le.2 hn, Nat.not_le.2 hinput])]
  rfl

theorem State.switchFirst_feed : (s.switchFirst n input raw).feed = (s.updSw n input (Switch.first raw)).feed := by
  rw [State.switchFirst_eq raw hn hinput hnone]
  split
  · exact State.bothLimits_feed ..
  · rfl

theorem State.switchFirst_limBoth (hlim : input < 2) (hp : (s.switchFirst n input raw).swActive n 0 = true)
    (hm : (s.switchFirst n input raw).swActive n 1 = true) : (s.switchFirst n input raw).waits s.now .limBoth (s.addrFlash n) := by
  have hactive (k : Nat) : (s.switchFirst n input raw).swActive n k = (s.updSw n input (Switch.first raw)).swActive n k := by
    simp only [State.swActive, State.swIn, State.swSet, State.switchFirst_feed raw hn hinput hnone]
  rw [hactive] at hp hm
  rw [State.switchFirst_eq raw hn hinput hnone, if_pos (by rw [decide_eq_true hlim, hp, hm]; rfl)]
  exact State.bothLimits_waits ..

end

end

/-! ## The statement -/

/-- Settles O41, command by command, each from what its operation makes of its probe, compare or switch input. -/
theorem touchInputs : Obligations.TouchInputs := by
  unfold Obligations.TouchInputs
  intro t s hprobes hcmps hsw
  have hin (n input : Nat) (hn : n < 4) (hinput : input < 3) : 3 * n + input < (s.atTime t).feed.sw.length := by
    simp only [State.atTime_frame, hsw]
    omega
  refine ⟨fun n hn te rising => ?_, fun n hn f hfire hdue harmed hactive => ?_, ⟨_, rfl, State.comparePulseEnd_keeps _, fun n hn => ?_⟩,
    fun n hn input hinput raw tRaw hnone => ?_, fun n hn input hinput raw tRaw hother => ?_, fun n hn input hinput raw => ?_⟩
  -- PROBE_EDGE
  · obtain ⟨hkept, hlevel, hnot, hfull, hroom⟩ := State.probeEdge_outcome (s := s.atTime t) hn hprobes te rising
    exact ⟨_, rfl, hkept, hlevel, hnot, hfull, hroom⟩
  -- COMPARE_FIRE
  · obtain ⟨hkept, honce, hperiodic⟩ := State.compareFire_outcome (s := s.atTime t) hfire hdue harmed hactive (hcmps ▸ hn)
    refine ⟨_, rfl, hkept, ?_⟩
    by_cases hmode : (s.cmp n).mode = 0
    · have hcmp : ((s.atTime t).compareFire n).feed.cmps.getD n {} = (s.cmp n).fired (s.atTime t).now := honce hmode
      dsimp only
      rw [hcmp]
      exact ⟨rfl, rfl, fun _ => ⟨rfl, rfl⟩, fun h => absurd hmode h⟩
    · obtain ⟨k, hk, hahead⟩ := hperiodic hmode
      have hcmp : ((s.atTime t).compareFire n).feed.cmps.getD n {} = (s.cmp n).stepped (s.atTime t).now k := hk
      rw [hk] at hahead
      dsimp only
      rw [hcmp]
      refine ⟨rfl, rfl, fun h => absurd h hmode, fun _ => ⟨harmed, k, ?_, rfl, ?_, hahead⟩⟩
      · simp only [Compare.stepped, State.cmp]
        ring
      · simp [Compare.stepped, Nat.pos_iff_ne_zero, State.cmp]
  -- COMPARE_PULSE_END
  · rw [State.comparePulseEnd_eq]
    obtain ⟨-, -, -, hended⟩ := State.foldl_endPulse (s := s.atTime t) (N := 4) hcmps.ge
    exact hended n hn
  -- SWITCH_EDGE of an input that is not qualified, and of one that is
  · exact execSwitchEdge_eq (State.switchEdge_unqualified (s := s.atTime t) hnone raw tRaw)
  · cases hpass : (s.atTime t).hystOk n input with
    | true =>
      obtain ⟨hsrcs, hqual, hheld⟩ := State.switchActs_acceptEdge (s.atTime t) { raw := raw, tRaw := tRaw } tRaw (hin n input hn hinput)
      refine ⟨_, execSwitchEdge_eq (State.switchEdge_passes (s := s.atTime t) tRaw hn hinput hother hpass), ?_⟩
      rw [if_pos rfl]
      exact ⟨by simp, by simp, by simp, by simp, by simp, hsrcs, fun _ => ⟨hqual, hheld⟩, fun h => absurd h.symm Bool.false_ne_true⟩
    | false =>
      refine ⟨_, execSwitchEdge_eq (State.switchEdge_held (s := s.atTime t) tRaw hn hinput hother hpass), ?_⟩
      rw [if_neg Bool.false_ne_true, State.swIn_updSw_same (hin n input hn hinput)]
      exact ⟨rfl, rfl, rfl, rfl, rfl, rfl, fun h => absurd h Bool.false_ne_true, fun _ => ⟨hother, rfl, rfl, rfl⟩⟩
  -- SWITCH_FIRST_QUALIFICATION
  · refine ⟨_, rfl, ?_⟩
    by_cases hnone : (s.swIn n input).qualified = none
    · have hfeed := State.switchFirst_feed (s := s.atTime t) raw hn hinput hnone
      have hfirst : ((s.atTime t).switchFirst n input raw).swIn n input = ((s.atTime t).swIn n input).first raw := by
        rw [State.swIn, hfeed]
        exact State.swIn_updSw_same (hin n input hn hinput)
      rw [hfirst, hnone]
      exact ⟨rfl, fun h => absurd rfl h, fun hlim _ => State.switchFirst_limBoth (s := s.atTime t) raw hn hinput hnone hlim,
        by simp, by simp, by simp, by simp, by simp, (congrArg Feed.srcs hfeed).trans rfl⟩
    · rw [State.switchFirst_again (s := s.atTime t) raw hnone]
      obtain ⟨r, hr⟩ := Option.ne_none_iff_exists'.1 hnone
      exact ⟨by rw [hr]; exact hr, fun _ => rfl, fun _ h => absurd h hnone, rfl, rfl, rfl, rfl, rfl, rfl⟩

end Sys2Proof.Machine
end

section
/-! PROOFS. 10 R311, R314, R322 and 13 R420: AXIS_ENABLE, AXIS_DISABLE, STOP and RC_CLEAR, each axis of the mask on its own. -/

namespace Sys2Proof.Machine
open Sys2Proof

/-! ## A command on the axes of its mask -/

theorem mem_maskAxes {r : Request} {a : Nat} (ha : a < 8) : a ∈ maskAxes r ↔ (fld r.params 0 1).testBit a = true := by
  simp [maskAxes, ha]

theorem nodup_maskAxes (r : Request) : (maskAxes r).Nodup := List.nodup_range.filter _

/-- A list whose named positions are changed one after the other: each named one is, once, and no other. -/
theorem getElem?_foldl_listUpd {β : Type} (F : Nat → β → β) {l : List Nat} (hl : l.Nodup) {xs : List β} {a : Nat} {x : β}
    (hx : xs[a]? = some x) : (l.foldl (fun xs k => listUpd xs k (F k)) xs)[a]? = some (if a ∈ l then F a x else x) := by
  induction l generalizing xs x with
  | nil => simpa using hx
  | cons k l ih =>
    obtain ⟨hk, hl⟩ := List.nodup_cons.1 hl
    have hhead : (listUpd xs k (F k))[a]? = some (if k = a then F a x else x) := by
      rw [listUpd_get?, hx]
      split
      next hka => rw [hka, Option.map_some]
      next => rfl
    rw [List.foldl_cons, ih hl hhead]
    by_cases hka : k = a
    · subst hka
      simp [hk]
    · simp [hka, Ne.symm hka]

/-- The state with other axes. -/
def State.withAxes (s : State) (xs : List Axis) : State := { s with br := { s.br with axes := xs } }

section
variable {s : State} {a : Nat} {x : Axis}

theorem State.axis_eq_of_get? (hx : s.br.axes[a]? = some x) : s.axis a = x := by
  rw [State.axis, List.getD_eq_getElem?_getD, hx, Option.getD_some]

theorem State.updAxis_congr {f g : Axis → Axis} (h : f (s.axis a) = g (s.axis a)) : s.updAxis a f = s.updAxis a g := by
  simp only [State.updAxis, listUpd_eq_set _ a _ ({} : Axis)]
  exact congrArg (fun y => s.updBr fun b => { b with axes := b.axes.set a y }) h

theorem State.updAxis_self {f : Axis → Axis} (h : f (s.axis a) = s.axis a) : s.updAxis a f = s := by
  rw [State.updAxis_congr (g := id) h]
  exact congrArg s.withAxes (List.ext_getElem? fun j => by simp [listUpd_get?])

theorem State.updAxis_updAxis (f g : Axis → Axis) : (s.updAxis a f).updAxis a g = s.updAxis a fun x => g (f x) :=
  congrArg s.withAxes (listUpd_listUpd s.br.axes a f g)

/-- A command that acts on each axis of a list by itself leaves all but the axes, and of these the named ones changed. -/
theorem State.foldl_axes {step : State → Nat → State} {F : Nat → Axis → Axis} {l : List Nat} (hl : l.Nodup)
    (hx : s.br.axes[a]? = some x) (hstep : ∀ xs k, step (s.withAxes xs) k = (s.withAxes xs).updAxis k (F k)) :
    l.foldl step s = { s with br := { s.br with axes := (l.foldl step s).br.axes } } ∧
      (l.foldl step s).br.axes[a]? = some (if a ∈ l then F a x else x) := by
  have hfold : l.foldl step s = s.withAxes (l.foldl (fun xs k => listUpd xs k (F k)) s.br.axes) :=
    List.foldl_hom (g₁ := fun xs k => listUpd xs k (F k)) s.withAxes hstep
  refine ⟨by rw [hfold]; rfl, ?_⟩
  rw [hfold]
  exact getElem?_foldl_listUpd F hl hx

end

/-! ## What becomes of one axis -/

/-- Hold, from Off or Coast (R322), at the measured position of a source. -/
def Axis.held (y : Option Int) (x : Axis) : Axis :=
  { x with
    state := .hold, region := .hold, plan := none, after := none, settling := false, y := y.getD x.y, e := 0
    traj := { p := y.getD x.y * 2 ^ 32 }, chain := {}, ferrCnt := 0, ferrOk := 0, ferrRaised := false }

/-- An axis that AXIS_ENABLE names: only Off and Coast go to Hold. -/
def State.enabledAxis (s : State) (x : Axis) : Axis := if x.live then x else x.held (s.src x.cfg.source).y

theorem Axis.live_iff {x : Axis} : x.live = true ↔ ¬(x.state = .off ∨ x.state = .coast) := by
  simp [Axis.live]

theorem State.enabledAxis_held {x : Axis} (h : x.state = .off ∨ x.state = .coast) (s : State) :
    s.enabledAxis x = x.held (s.src x.cfg.source).y :=
  if_neg fun hlive => Axis.live_iff.1 hlive h

theorem State.enabledAxis_live {x : Axis} (h : ¬(x.state = .off ∨ x.state = .coast)) (s : State) : s.enabledAxis x = x :=
  if_pos (Axis.live_iff.2 h)

theorem State.enableAxis_eq (a : Nat) (s : State) :
    (if (s.axis a).live then s else s.holdAxis a) = s.updAxis a s.enabledAxis := by
  split
  next hlive => exact (State.updAxis_self (f := s.enabledAxis) (if_pos hlive)).symm
  next hlive => exact (State.updAxis_congr (g := fun x => x.held (s.src x.cfg.source).y) (if_neg hlive)).symm

/-- Off: no plan, no output, no velocity. -/
def Axis.turnedOff (x : Axis) : Axis :=
  { x with
    state := .off, plan := none, after := none, homing := none, settling := false, region := .scan, out := 0
    traj := { x.traj with v := 0, a := 0, j := 0 } }

/-- With each axis that goes Off, Dike's side of it is cleared. -/
theorem State.foldl_axisOff_eq (l : List Nat) (s : State) : l.foldl (fun s a => s.axisOff a) s =
    { s.withAxes (l.foldl (fun xs k => listUpd xs k Axis.turnedOff) s.br.axes) with
      dike := { s.dike with axes := l.foldl (fun ds k => listUpd ds k fun _ => {}) s.dike.axes } } := by
  induction l generalizing s with
  | nil => rfl
  | cons k l ih => exact ih (s.axisOff k)

theorem State.foldl_axisOff {s : State} {a : Nat} {x : Axis} {l : List Nat} (hl : l.Nodup) (hx : s.br.axes[a]? = some x) :
    let u := l.foldl (fun s a => s.axisOff a) s
    u = { s with br := { s.br with axes := u.br.axes }, dike := { s.dike with axes := u.dike.axes } } ∧
      u.br.axes[a]? = some (if a ∈ l then x.turnedOff else x) := by
  rw [State.foldl_axisOff_eq]
  exact ⟨rfl, getElem?_foldl_listUpd (fun _ => Axis.turnedOff) hl hx⟩

/-- Stop (R314, R321), by a stop plan from the present trajectory. -/
def Axis.stopped (x : Axis) : Axis :=
  { x with state := .stop, plan := some (x.cfg.stopPlan x.traj), after := none, settling := false, homing := none }

/-- The axis follows a plan that STOP ends: in Move, Home and Stripe, and in Stop when a target has been given. -/
def Axis.HasTarget (x : Axis) : Prop := x.state = .move ∨ x.state = .home ∨ x.state = .stripe ∨
  (x.state = .stop ∧ (x.after.isSome = true ∨ (x.plan.any fun pl => pl.target.isSome) = true))

theorem Axis.moving_iff {x : Axis} : x.moving = true ↔ x.HasTarget := by
  unfold Axis.moving Axis.HasTarget
  cases x.state <;> simp

theorem State.stopAxis_eq (a : Nat) (s : State) : s.stopAxis a = s.updAxis a Axis.stopped := by
  rw [State.stopAxis, State.startPlan, State.updAxis_updAxis]
  exact State.updAxis_congr (by simp [Axis.stopped])

/-- An axis that STOP names, `kept` when it serves the open stripe. -/
def Axis.halted (kept : Bool) (x : Axis) : Axis := if kept then x else if x.moving then x.stopped else x

theorem Axis.halted_kept (x : Axis) : x.halted true = x := rfl

theorem Axis.halted_moving {x : Axis} (h : x.HasTarget) : x.halted false = x.stopped :=
  if_pos (Axis.moving_iff.2 h)

theorem Axis.halted_still {x : Axis} (h : ¬x.HasTarget) (kept : Bool) : x.halted kept = x := by
  rw [Axis.halted, if_neg (mt Axis.moving_iff.1 h), ite_self]

theorem State.haltAxis_eq (kept : Bool) (a : Nat) (s : State) :
    (if kept then s else s.stopMoving a) = s.updAxis a (Axis.halted kept) := by
  cases kept with
  | true => exact (State.updAxis_self (Axis.halted_kept _)).symm
  | false =>
    by_cases hmoving : (s.axis a).moving = true
    · have hhalted : (s.axis a).halted false = (s.axis a).stopped := Axis.halted_moving (Axis.moving_iff.1 hmoving)
      rw [State.updAxis_congr hhalted, ← State.stopAxis_eq, if_neg Bool.false_ne_true, State.stopMoving, if_pos hmoving]
    · rw [State.updAxis_self (Axis.halted_still (mt Axis.moving_iff.2 hmoving) false), if_neg Bool.false_ne_true,
        State.stopMoving, if_neg hmoving]

/-- STOP leaves out the axes of an open stripe. -/
theorem State.keepsAxis_iff {a : Nat} {s : State} : (s.stripeOpen && s.isStripeAxis a) = true ↔
    s.hem.stripe.isSome = true ∧ (a = s.br.g.scanAxis ∨ a = s.br.g.crossAxis) := by
  simp [State.stripeOpen, State.isStripeAxis]

/-! ## The statement -/

/-- Settles O27, row by row: what the row makes of each axis, and that it acts on those of its mask alone. -/
theorem axisMasks : Obligations.AxisMasks := by
  unfold Obligations.AxisMasks
  intro t cur s a x ha hx
  have hmask := mem_maskAxes (r := cur.req) ha
  have hnodup := nodup_maskAxes cur.req
  refine ⟨fun h => ?_, fun h => ?_, fun h => ?_, fun h => ?_⟩
  -- AXIS_ENABLE
  · obtain ⟨hkeep, hget⟩ := State.foldl_axes (step := fun s a => if (s.axis a).live then s else s.holdAxis a)
      (s := s.atTime t) (F := fun _ => (s.atTime t).enabledAxis) hnodup hx
      fun xs k => State.enableAxis_eq k ((s.atTime t).withAxes xs)
    refine ⟨_, _, CmdSpec.next_run_passes h _, hkeep, hget, fun hother => ?_, fun hnamed hoff => ?_⟩
    · rw [ite_eq_right_iff]
      exact fun hmem => State.enabledAxis_live (fun hoff => hother ⟨hmask.1 hmem, hoff⟩) _
    · rw [if_pos (hmask.2 hnamed), State.enabledAxis_held hoff]
      refine ⟨rfl, rfl, rfl, rfl, rfl, rfl, fun y hy => ?_⟩
      simp only [Axis.held, State.atTime_src, hy, Option.getD_some]
  -- AXIS_DISABLE
  · obtain ⟨hkeep, hget⟩ := State.foldl_axisOff (s := s.atTime t) hnodup hx
    refine ⟨_, _, CmdSpec.next_run_passes h _, hkeep, hget, fun hother => if_neg fun hmem => ?_, fun hnamed => ?_⟩
    · exact Bool.false_ne_true (hother.symm.trans (hmask.1 hmem))
    · rw [if_pos (hmask.2 hnamed)]
      exact ⟨rfl, rfl, rfl, rfl, rfl, rfl⟩
  -- STOP
  · obtain ⟨hkeep, hget⟩ := State.foldl_axes (step := fun s a => if s.stripeOpen && s.isStripeAxis a then s else s.stopMoving a)
      (s := s.atTime t) (F := fun k => Axis.halted ((s.atTime t).stripeOpen && (s.atTime t).isStripeAxis k)) hnodup hx
      fun xs k => State.haltAxis_eq _ k ((s.atTime t).withAxes xs)
    have hkept := State.keepsAxis_iff (a := a) (s := s.atTime t)
    refine ⟨_, _, CmdSpec.next_run_passes h _, hkeep, hget, fun hnamed hmoving hfree => ?_, fun hstays => ?_⟩
    · rw [if_pos (hmask.2 hnamed), Bool.eq_false_iff.2 (mt hkept.1 hfree), Axis.halted_moving hmoving]
      exact ⟨rfl, rfl, rfl⟩
    · rw [ite_eq_right_iff]
      intro hmem
      obtain hother | hstill | hstripe := hstays
      · exact absurd (hother.symm.trans (hmask.1 hmem)) Bool.false_ne_true
      · exact Axis.halted_still hstill _
      · rw [hkept.2 hstripe, Axis.halted_kept]
  -- RC_CLEAR
  · obtain ⟨hkeep, hget⟩ := State.foldl_axes (step := fun s a => s.updAxis a fun x => x.rcClear)
      (s := s.atTime t) (F := fun _ => Axis.rcClear) hnodup hx fun _ _ => rfl
    exact ⟨_, CmdSpec.next_run_passes h _, hkeep, hget.trans (congrArg some (if_congr hmask rfl rfl))⟩

end Sys2Proof.Machine
end

section
/-! PROOFS. 10 R313 to R315, R319, R322 and R323: MOVE and HOME of one axis. -/

namespace Sys2Proof.Machine
open Sys2Proof

/-! ## A plan in force, or refused -/

section
variable {s u : State} {a : Nat}

theorem State.axisSets_congr (hcfg : (u.axis a).cfg = (s.axis a).cfg) (hsets : u.feed.sets = s.feed.sets) :
    u.axisSets a = s.axisSets a := by
  simp only [State.axisSets, State.swSet, hcfg, hsets]

theorem State.limits_congr (hcfg : (u.axis a).cfg = (s.axis a).cfg) (hsets : u.feed.sets = s.feed.sets) (hsw : u.feed.sw = s.feed.sw) :
    u.limBoth a = s.limBoth a ∧ ∀ input, u.limBlocks a input = s.limBlocks a input := by
  simp only [State.limBoth, State.limBlocks, State.axisSets_congr hcfg hsets, State.swActive, State.swIn, State.swSet, hsets, hsw,
    implies_true, and_self]

/-- What a plan's refusal looks at (R315, R319): the axis's place, configuration and trajectory, and its switch inputs. -/
theorem State.planRefused_congr {x y : Axis} (hx : s.axis a = x) (hy : u.axis a = y) (hhomed : y.homed = x.homed) (hcfg : y.cfg = x.cfg)
    (htraj : y.traj = x.traj) (hsets : u.feed.sets = s.feed.sets) (hsw : u.feed.sw = s.feed.sw)
    (pl : Plan) (after : Option Plan) : u.planRefused a pl after = s.planRefused a pl after := by
  subst hx hy
  obtain ⟨hboth, hblocks⟩ := State.limits_congr hcfg hsets hsw
  rw [State.planRefused, State.planRefused, hhomed, hcfg, htraj, hboth, hblocks, hblocks]

end

section
variable {s : State} {a : Nat} {st : AxisState} {pl : Plan} {after : Option Plan}

theorem State.tryPlan_refused {f : FaultName} (h : s.planRefused a pl after = some f) : s.tryPlan a st pl after = .error f := by
  rw [State.tryPlan, h]

theorem State.tryPlan_ok (h : s.planRefused a pl after = none) : s.tryPlan a st pl after = .ok (s.startPlan a st pl after) := by
  rw [State.tryPlan, h]

theorem State.startPlan_home : s.startPlan a .home pl after =
    s.updAxis a fun x => { x with state := .home, plan := some pl, after := after, settling := false } :=
  State.updAxis_congr (by simp)

/-- A new target during Stop leaves the state Stop (R322). -/
theorem State.startPlan_move : s.startPlan a .move pl after = s.updAxis a fun x => { x with
    state := if x.state = .stop then .stop else .move, plan := some pl, after := after, settling := false } :=
  State.updAxis_congr (by simp)

variable {x : Axis} (hx : s.br.axes[a]? = some x)
include hx

theorem State.updAxis_eq_set (f : Axis → Axis) :
    s.updAxis a f = { s with br := { s.br with axes := s.br.axes.set a (f x) } } := by
  rw [State.updAxis, State.updBr, listUpd_eq_set_of_get? hx]

theorem State.get?_updAxis (f : Axis → Axis) : (s.updAxis a f).br.axes[a]? = some (f x) := by
  rw [State.updAxis_br, listUpd_get?, if_pos rfl, hx, Option.map_some]

end

/-! ## MOVE (R314, R315, R322) -/

section
variable {t : Nat} {cur : Current} {s : State} {x : Axis} (h : specMove.Passes cur (s.atTime t))
  (hx : s.br.axes[fld cur.req.params 0 1]? = some x)
include h hx

theorem execMove_noPlan (hnone : x.cfg.movePlans x.traj (sfld cur.req.params 8 8) = none) :
    execMove t s = .next (specMove.refuse cur.req stBadParam (s.atTime t)) := by
  have haxis : (s.atTime t).axis (fld cur.req.params 0 1) = x := State.axis_eq_of_get? hx
  rw [execMove, CmdSpec.next_run_passes h]
  simp only [haxis, hnone]

variable {pl : Plan} {after : Option Plan} (hplan : x.cfg.movePlans x.traj (sfld cur.req.params 8 8) = some (pl, after))
include hplan

theorem execMove_refused {f : FaultName} (hf : (s.atTime t).planRefused (fld cur.req.params 0 1) pl after = some f) :
    execMove t s = .next (specMove.checkFail cur.req f ((s.atTime t).addrFlash (fld cur.req.params 0 1)) (s.atTime t)) := by
  have haxis : (s.atTime t).axis (fld cur.req.params 0 1) = x := State.axis_eq_of_get? hx
  rw [execMove, CmdSpec.next_run_passes h]
  simp only [haxis, hplan, State.tryPlan_refused hf]

theorem execMove_started (hok : (s.atTime t).planRefused (fld cur.req.params 0 1) pl after = none) :
    execMove t s = .next (specMove.done cur.req [] ((s.atTime t).startPlan (fld cur.req.params 0 1) .move pl after)) := by
  have haxis : (s.atTime t).axis (fld cur.req.params 0 1) = x := State.axis_eq_of_get? hx
  rw [execMove, CmdSpec.next_run_passes h]
  simp only [haxis, hplan, State.tryPlan_ok hok]

end

/-! ## HOME (R323) -/

/-- A homing that begins at a place (Tables BRACE-5 and BRACE-6). -/
def HomeParams.begin (h : HomeParams) (p : Int) : Homing :=
  { params := h, seg := .search, dir := h.dir, reversed := false, from' := p }

theorem HomeParams.begin_dir (h : HomeParams) (p : Int) : (h.begin p).dir = h.dir := rfl
theorem HomeParams.begin_params (h : HomeParams) (p : Int) : (h.begin p).params = h := rfl

/-- An axis whose homing begins where it stands. -/
def Axis.homingFrom (h : HomeParams) (x : Axis) : Axis := { x with homing := some (h.begin x.traj.p) }

/-- The plan of H1: the speed of the search in its direction. -/
def Axis.searchPlan (h : HomeParams) (x : Axis) : Option Plan := x.cfg.planTo x.traj { target := none, vf := h.dir * h.vSearch }

theorem parseHome_dir (b : List Byte) : (parseHome b).dir = sfld b 1 1 := by rw [parseHome]
theorem parseHome_vSearch (b : List Byte) : (parseHome b).vSearch = fld b 8 8 := by rw [parseHome]
theorem parseHome_homePos (b : List Byte) : (parseHome b).homePos = sfld b 40 8 := by rw [parseHome]

theorem Axis.searchPlan_parseHome (b : List Byte) (x : Axis) : x.searchPlan (parseHome b) =
    x.cfg.planTo x.traj { target := none, vf := sfld b 1 1 * fld b 8 8 } := by
  rw [Axis.searchPlan, parseHome_dir, parseHome_vSearch]

/-- An axis that homes by a plan. -/
def Axis.homesBy (h : HomeParams) (pl : Plan) (x : Axis) : Axis :=
  { x.homingFrom h with state := .home, plan := some pl, after := none, settling := false }

/-- The sources at a homing of an axis with source n: one that has lost its sensor acquires (09 Table FEED-3). -/
def State.homingSrcs (n : Nat) (s : State) : List Source :=
  if (s.src n).state = .lostSensor then listUpd s.feed.srcs n (Source.acquired n) else s.feed.srcs

theorem State.homingSrcs_kept {n : Nat} {s : State} (h : (s.src n).state ≠ .lostSensor) : s.homingSrcs n = s.feed.srcs := if_neg h

theorem State.homingSrcs_other {n k : Nat} (hk : k ≠ n) (s : State) : (s.homingSrcs n)[k]? = s.feed.srcs[k]? := by
  unfold State.homingSrcs
  split
  next => rw [listUpd_get?, if_neg hk.symm]
  next => rfl

section
variable {s : State} {a : Nat} {x : Axis} (hx : s.br.axes[a]? = some x) (h : HomeParams)
include hx

theorem State.startHoming_eq : s.startHoming a h =
    ({ s with feed := { s.feed with srcs := s.homingSrcs x.cfg.source } } : State).updAxis a (Axis.homingFrom h) := by
  rw [State.startHoming, State.axis_eq_of_get? hx, State.homingSrcs]
  by_cases hlost : (s.src x.cfg.source).state = .lostSensor
  · simp only [hlost, beq_self_eq_true, if_true]
    rfl
  · simp only [beq_iff_eq, hlost, if_false]
    rfl

theorem State.startHoming_planRefused (pl : Plan) (after : Option Plan) :
    (s.startHoming a h).planRefused a pl after = s.planRefused a pl after := by
  rw [State.startHoming_eq hx]
  exact State.planRefused_congr (State.axis_eq_of_get? hx) (State.axis_eq_of_get? (State.get?_updAxis hx _)) rfl rfl rfl rfl rfl pl after

theorem State.startHoming_startPlan (pl : Plan) : (s.startHoming a h).startPlan a .home pl none = { s with
    feed := { s.feed with srcs := s.homingSrcs x.cfg.source }
    br := { s.br with axes := s.br.axes.set a (x.homesBy h pl) } } := by
  rw [State.startHoming_eq hx, State.startPlan_home, State.updAxis_updAxis]
  exact State.updAxis_eq_set (s := { s with feed := { s.feed with srcs := s.homingSrcs x.cfg.source } }) hx _

end

section
variable {t : Nat} {cur : Current} {s : State} {x : Axis} (h : specHome.Passes cur (s.atTime t))
  (hx : s.br.axes[fld cur.req.params 0 1]? = some x)
include h hx

theorem execHome_noPlan (hnone : x.searchPlan (parseHome cur.req.params) = none) :
    execHome t s = .next (specHome.refuse cur.req stBadParam (s.atTime t)) := by
  have haxis : (s.atTime t).axis (fld cur.req.params 0 1) = x := State.axis_eq_of_get? hx
  rw [Axis.searchPlan] at hnone
  rw [execHome, CmdSpec.next_run_passes h]
  simp only [haxis, hnone]

variable {pl : Plan} (hplan : x.searchPlan (parseHome cur.req.params) = some pl)
include hplan

theorem execHome_refused {f : FaultName} (hf : (s.atTime t).planRefused (fld cur.req.params 0 1) pl none = some f) :
    execHome t s = .next (specHome.checkFail cur.req f ((s.atTime t).addrFlash (fld cur.req.params 0 1)) (s.atTime t)) := by
  have haxis : (s.atTime t).axis (fld cur.req.params 0 1) = x := State.axis_eq_of_get? hx
  rw [Axis.searchPlan] at hplan
  rw [execHome, CmdSpec.next_run_passes h]
  simp only [haxis, hplan, State.tryPlan_refused ((State.startHoming_planRefused (s := s.atTime t) hx ..).trans hf)]

theorem execHome_started (hok : (s.atTime t).planRefused (fld cur.req.params 0 1) pl none = none) :
    execHome t s = .next (specHome.done cur.req []
      (((s.atTime t).startHoming (fld cur.req.params 0 1) (parseHome cur.req.params)).startPlan (fld cur.req.params 0 1) .home pl none)) := by
  have haxis : (s.atTime t).axis (fld cur.req.params 0 1) = x := State.axis_eq_of_get? hx
  rw [Axis.searchPlan] at hplan
  rw [execHome, CmdSpec.next_run_passes h]
  simp only [haxis, hplan, State.tryPlan_ok ((State.startHoming_planRefused (s := s.atTime t) hx ..).trans hok)]

end

/-! ## The statement -/

/-- Settles O28: for each row, no plan, a plan that is refused, and one in force. -/
theorem singleMotions : Obligations.SingleMotions := by
  unfold Obligations.SingleMotions
  intro t cur s x s' a hx
  refine ⟨fun h => ⟨execMove_noPlan h hx, fun pl after hplan => ⟨fun hok => ?_, fun f => execMove_refused h hx hplan⟩⟩, fun h => ?_⟩
  -- MOVE in force
  · refine (execMove_started h hx hplan hok).trans ?_
    rw [State.startPlan_move, State.updAxis_eq_set (s := s.atTime t) hx]
  -- HOME
  · simp only [← Axis.searchPlan_parseHome]
    refine ⟨execHome_noPlan h hx, fun pl f hplan => execHome_refused h hx hplan, fun pl hplan hok =>
      ⟨(parseHome cur.req.params).begin x.traj.p, _, execHome_started h hx hplan hok, ?_⟩⟩
    rw [State.startHoming_startPlan (s := s.atTime t) hx]
    exact ⟨rfl, State.homingSrcs_kept (s := s.atTime t), fun _ n hn => State.homingSrcs_other hn (s.atTime t), rfl,
      by rw [HomeParams.begin_dir, parseHome_dir], rfl, rfl, by rw [HomeParams.begin_params, parseHome_homePos]⟩

end Sys2Proof.Machine
end

section
/-! PROOFS. 10 R301, R302, R308 and R329: the servo cycle, its output phase and the settle timeout. -/

namespace Sys2Proof.Machine
open Sys2Proof

/-! ## What the motion of a cycle leaves of Brace (R301) -/

/-- The global configuration, the number of the cycle, its frame and the previous one. -/
def State.cycleFrames (s : State) : BrGlobal × Nat × ActFrame × ActFrame := (s.br.g, s.br.cycle, s.br.cur, s.br.prev)

theorem State.cycleFrames_eq_iff {s : State} {g : BrGlobal} {n : Nat} {cur prev : ActFrame} :
    s.cycleFrames = (g, n, cur, prev) ↔ s.br.g = g ∧ s.br.cycle = n ∧ s.br.cur = cur ∧ s.br.prev = prev := by
  simp [State.cycleFrames]

section
variable (s : State)

@[simp] theorem State.ite_cycleFrames (c : Prop) [Decidable c] (u : State) :
    (if c then s else u).cycleFrames = if c then s.cycleFrames else u.cycleFrames := by
  split <;> rfl

@[simp] theorem State.eachAxis_cycleFrames {f : Nat → State → State} (h : ∀ a u, (f a u).cycleFrames = u.cycleFrames) :
    (s.eachAxis f).cycleFrames = s.cycleFrames :=
  foldl_keep State.cycleFrames _ _ _ fun u a => h a u

@[simp] theorem State.raise_cycleFrames (f : FaultName) (addr : Nat) : (s.raise f addr).cycleFrames = s.cycleFrames := rfl
@[simp] theorem State.raiseUnless_cycleFrames (done : Bool) (f : FaultName) (addr : Nat) :
    (s.raiseUnless done f addr).cycleFrames = s.cycleFrames := by
  cases done <;> rfl
@[simp] theorem State.updAxis_cycleFrames (a : Nat) (f : Axis → Axis) : (s.updAxis a f).cycleFrames = s.cycleFrames := rfl
@[simp] theorem State.updDikeAxis_cycleFrames (a : Nat) (f : DikeAxis → DikeAxis) : (s.updDikeAxis a f).cycleFrames = s.cycleFrames := rfl
@[simp] theorem State.updDike_cycleFrames (f : Dike → Dike) : (s.updDike f).cycleFrames = s.cycleFrames := rfl
@[simp] theorem State.updSrc_cycleFrames (n : Nat) (f : Source → Source) : (s.updSrc n f).cycleFrames = s.cycleFrames := rfl
@[simp] theorem State.updHoming_cycleFrames (a : Nat) (f : Homing → Homing) : (s.updHoming a f).cycleFrames = s.cycleFrames := rfl
@[simp] theorem State.stopAxis_cycleFrames (a : Nat) : (s.stopAxis a).cycleFrames = s.cycleFrames := rfl
@[simp] theorem State.homeFail_cycleFrames (a : Nat) : (s.homeFail a).cycleFrames = s.cycleFrames := rfl
@[simp] theorem State.homeStop_cycleFrames (a : Nat) (seg : HomeSeg) : (s.homeStop a seg).cycleFrames = s.cycleFrames := rfl
@[simp] theorem State.homeDone_cycleFrames (a : Nat) : (s.homeDone a).cycleFrames = s.cycleFrames := by
  simp only [State.homeDone, State.updSrc_cycleFrames, State.updAxis_cycleFrames, State.stopAxis_cycleFrames]
@[simp] theorem State.regionCycle_cycleFrames (a : Nat) (last : Bool) : (s.regionCycle a last).cycleFrames = s.cycleFrames := rfl

theorem State.tryPlan_cycleFrames {a : Nat} {st : AxisState} {pl : Plan} {after : Option Plan} {u : State}
    (h : s.tryPlan a st pl after = .ok u) : u.cycleFrames = s.cycleFrames := by
  unfold State.tryPlan at h
  split at h
  · cases h
  · cases h
    rfl

@[simp] theorem State.homePlan_cycleFrames (a : Nat) (plan : Option (Plan × Option Plan)) :
    (s.homePlan a plan).cycleFrames = s.cycleFrames := by
  unfold State.homePlan
  split
  next => rfl
  next =>
    split
    next h => exact s.tryPlan_cycleFrames h
    next => rfl

@[simp] theorem State.homeSearch_cycleFrames (a : Nat) (seg : HomeSeg) (v : Int) : (s.homeSearch a seg v).cycleFrames = s.cycleFrames :=
  State.homePlan_cycleFrames ..

@[simp] theorem State.homeReference_cycleFrames (a : Nat) (h : Homing) (ph : Int) :
    (s.homeReference a h ph).cycleFrames = s.cycleFrames := by
  unfold State.homeReference
  simp only [State.homeStop_cycleFrames, State.updAxis_cycleFrames]
  exact State.eachAxis_cycleFrames _ fun b u => by split <;> rfl

@[simp] theorem State.homeIndex_cycleFrames (a : Nat) (h : Homing) (far : Bool) : (s.homeIndex a h far).cycleFrames = s.cycleFrames := by
  unfold State.homeIndex
  dsimp only
  (repeat' split) <;> simp

@[simp] theorem State.homeStep_cycleFrames (a : Nat) (last : Bool) : (s.homeStep a last).cycleFrames = s.cycleFrames := by
  unfold State.homeStep
  dsimp only
  (repeat' split) <;> simp

@[simp] theorem State.takeSample_cycleFrames (a : Nat) : (s.takeSample a).cycleFrames = s.cycleFrames := by
  unfold State.takeSample
  dsimp only
  split <;> simp

@[simp] theorem State.advanceAxes_cycleFrames : s.advanceAxes.2.cycleFrames = s.cycleFrames :=
  foldl_keep₂ State.cycleFrames _ _ _ fun u a => by
    dsimp only
    split <;> rfl

@[simp] theorem State.errorCycle_cycleFrames (a : Nat) : (s.errorCycle a).cycleFrames = s.cycleFrames := by
  simp [State.errorCycle]

@[simp] theorem State.dikeCycle_cycleFrames (a : Nat) (y : Option Int) : (s.dikeCycle a y).cycleFrames = s.cycleFrames := by
  unfold State.dikeCycle
  extract_lets x d l bad checked dv moved
  have hchecked : checked.cycleFrames = s.cycleFrames := by
    unfold checked
    cases bad with
    | none => rfl
    | some b => simp
  have hmoved : moved.cycleFrames = s.cycleFrames := (State.updDikeAxis_cycleFrames ..).trans hchecked
  split
  next => exact hmoved
  next => exact hmoved

@[simp] theorem State.chainCycle_cycleFrames (a : Nat) (scan first : Bool) (qref vc : Int) :
    (s.chainCycle a scan first qref vc).cycleFrames = s.cycleFrames := by
  simp [State.chainCycle]

theorem State.shadowRaised_cycleFrames (hit : Bool) :
    (s.updBr fun b => { b with shadowRaised := b.shadowRaised || hit }).cycleFrames = s.cycleFrames := rfl

@[simp] theorem State.shadowCycle_cycleFrames : s.shadowCycle.cycleFrames = s.cycleFrames := by
  unfold State.shadowCycle
  split
  next => rfl
  next f _ =>
    split
    next => rfl
    next =>
      refine (State.eachAxis_cycleFrames _ fun a u => ?_).trans (State.eachAxis_cycleFrames _ fun a u => ?_)
      · dsimp only
        (repeat' split) <;> rfl
      · dsimp only
        split
        · rfl
        · rw [State.shadowRaised_cycleFrames, State.updAxis_cycleFrames, State.raiseUnless_cycleFrames]

@[simp] theorem State.backUp_cycleFrames : s.backUp.cycleFrames = s.cycleFrames := by
  unfold State.backUp
  split
  next => rfl
  next =>
    dsimp only
    split
    next =>
      split
      next h => exact (State.tryPlan_cycleFrames _ h).trans rfl
      next => rfl
    next => rfl

@[simp] theorem State.stageStopped_cycleFrames : s.stageStopped.cycleFrames = s.cycleFrames := State.backUp_cycleFrames _

@[simp] theorem State.segmentCycle_cycleFrames (lasts : List Nat) : (s.segmentCycle lasts).cycleFrames = s.cycleFrames := by
  unfold State.segmentCycle
  dsimp only
  split
  -- Run, the stop of a Seam, back-up, run-out, and the segments that no end of a plan changes
  next => split <;> rfl
  next =>
    split
    · exact State.stageStopped_cycleFrames s
    · rfl
  next => split <;> rfl
  next => split <;> rfl
  next => rfl

/-! ## The stages of a cycle -/

/-- A cycle as it begins: numbered by its multiple of T_s, with the blocks that waited for it in force (R332). -/
def State.numbered : State :=
  s.shadowCycle.updBr fun b => { b with cycle := s.shadowCycle.now / s.shadowCycle.servoPeriod, axes := b.axes.map Axis.force }

/-- The axes have their samples and one cycle of their trajectories; with the axes whose plan has ended. -/
def State.advanced : List Nat × State := (s.numbered.eachAxis State.takeSample).advanceAxes

/-- The axes have their states and regions of the cycle. -/
def State.placedAxes : State := s.advanced.2.eachAxis fun a u => u.regionCycle a (s.advanced.1.contains a)

/-- The chains have run, and Dike after them. -/
def State.chained : State :=
  let scan := s.numbered.br.segment == .scan
  s.placedAxes.eachAxis fun a u => u.chainCycle a scan (scan && !u.br.inScan) s.placedAxes.scanRef.1 s.placedAxes.scanRef.2

/-- The cycle has its frame. -/
def State.framed : State := s.chained.makeFrame.updBr fun b => { b with inScan := s.numbered.br.segment == .scan }

/-- The active twin's homing and stripe segments follow. -/
theorem State.servoMotion_eq : s.servoMotion = if s.framed.standby then s.framed else
    (s.framed.eachAxis fun a u => if (u.axis a).state == .home then u.homeStep a (s.advanced.1.contains a) else u).segmentCycle
      s.advanced.1 := by
  unfold State.framed State.chained State.placedAxes State.advanced State.numbered State.servoMotion
  dsimp only

theorem State.numbered_cycleFrames : s.numbered.cycleFrames = (s.br.g, s.now / s.servoPeriod, s.br.cur, s.br.prev) := by
  obtain ⟨hg, -, hcur, hprev⟩ := State.cycleFrames_eq_iff.1 s.shadowCycle_cycleFrames
  simp [State.numbered, State.cycleFrames, State.servoPeriod, hg, hcur, hprev]

theorem State.chained_cycleFrames : s.chained.cycleFrames = s.numbered.cycleFrames := by
  refine (State.eachAxis_cycleFrames _ fun a u => State.chainCycle_cycleFrames ..).trans ?_
  refine (State.eachAxis_cycleFrames _ fun a u => State.regionCycle_cycleFrames ..).trans ?_
  exact (State.advanceAxes_cycleFrames _).trans (State.eachAxis_cycleFrames _ fun a u => State.takeSample_cycleFrames ..)

theorem State.inScan_cycleFrames (scan : Bool) : (s.updBr fun b => { b with inScan := scan }).cycleFrames = s.cycleFrames := rfl

theorem State.framed_cycleFrames : s.framed.cycleFrames = s.chained.makeFrame.cycleFrames := State.inScan_cycleFrames ..

theorem State.servoMotion_cycleFrames : s.servoMotion.cycleFrames = s.chained.makeFrame.cycleFrames := by
  rw [State.servoMotion_eq, ← State.framed_cycleFrames]
  split
  next => rfl
  next => simp

theorem State.makeFrame_br : s.makeFrame.br.cycle = s.br.cycle ∧ s.makeFrame.br.cur.cycle = s.br.cycle ∧ s.makeFrame.br.prev = s.br.cur :=
  ⟨rfl, rfl, rfl⟩

/-- The cycle numbers itself, its frame carries that number, and the frame of the cycle before becomes the previous one. -/
theorem State.servoMotion_br : s.servoMotion.br.cycle = s.now / s.servoPeriod ∧ s.servoMotion.br.cur.cycle = s.now / s.servoPeriod ∧
    s.servoMotion.br.prev = s.br.cur := by
  obtain ⟨-, hcycle, hcur, -⟩ := State.cycleFrames_eq_iff.1 (s.chained_cycleFrames.trans s.numbered_cycleFrames)
  obtain ⟨-, hcycle', hcur', hprev'⟩ := State.cycleFrames_eq_iff.1 s.servoMotion_cycleFrames
  obtain ⟨hnumber, hframe, hlast⟩ := s.chained.makeFrame_br
  rw [hcycle', hcur', hprev', hnumber, hframe, hlast, hcycle, hcur]
  exact ⟨rfl, rfl, rfl⟩

end

/-! ## What the twins tell each other in a cycle (11 R348, R358) -/

section
variable (s : State)

/-- The peer has the slack of the cycle, and the cycle is counted. -/
def State.countedCycle : State := (s.toPeer (.slack s.ownSlack)).updSlack fun k => { k with peerAge := k.peerAge + 1 }

/-- The standby has the frame and the image of the cycle. -/
def State.sentCycle : State :=
  let c := s.countedCycle.br.cur
  (s.countedCycle.toPeer (.setpoint c.cycle c.ctrl0 c.ctrl1 c.set0 c.set1)).sendImage

/-- A twin that follows, or has no peer, sends no frame; the active one does, and may end a role swap with it. -/
theorem State.tellPeer_cases : s.tellPeer = s.countedCycle ∨ s.tellPeer = s.sentCycle ∨
    (s.sentCycle.twin.swapDue = true ∧ s.tellPeer = (s.sentCycle.toPeer (.takeover s.sentCycle.br.cycle 2)).becomeStandby) := by
  unfold State.tellPeer State.sentCycle State.countedCycle
  dsimp only
  split
  next => exact .inl rfl
  next =>
    split
    next hswap => exact .inr (.inr ⟨hswap, rfl⟩)
    next => exact .inr (.inl rfl)

theorem State.toPeer_swapDue (m : GMsg) : (s.toPeer m).twin.swapDue = s.twin.swapDue := by
  unfold State.toPeer
  split <;> rfl

theorem State.sendImage_swapDue : s.sendImage.twin.swapDue = s.twin.swapDue := by
  unfold State.sendImage
  simp only [State.toPeer_swapDue]
  exact foldl_keep (fun s => s.twin.swapDue) _ _ _ fun s m => s.toPeer_swapDue m

theorem State.sentCycle_swapDue : s.sentCycle.twin.swapDue = s.twin.swapDue := by
  unfold State.sentCycle State.countedCycle
  simp only [State.sendImage_swapDue, State.toPeer_swapDue, State.updSlack_frame]

theorem State.tellPeer_cycleFrames : s.tellPeer.cycleFrames = s.cycleFrames := by
  obtain h | h | ⟨-, h⟩ := s.tellPeer_cases <;> rw [h]
  all_goals simp [State.countedCycle, State.sentCycle, State.becomeStandby, State.cycleFrames]

theorem State.tellPeer_slack : s.tellPeer.slack = { s.slack with peerAge := s.slack.peerAge + 1 } := by
  obtain h | h | ⟨-, h⟩ := s.tellPeer_cases <;> rw [h]
  all_goals simp [State.countedCycle, State.sentCycle]

theorem State.tellPeer_tu (hswap : s.twin.swapDue = false) : s.tellPeer.tu = s.tu := by
  obtain h | h | ⟨hdue, h⟩ := s.tellPeer_cases
  · rw [h]
    simp [State.countedCycle]
  · rw [h]
    simp [State.countedCycle, State.sentCycle]
  · rw [State.sentCycle_swapDue, hswap] at hdue
    cases hdue

end

theorem State.atTime_feedOn {s : State} (t : Nat) (hsleep : s.eng.state ≠ .sleep) (hboot : s.eng.state ≠ .boot) :
    (s.atTime t).feedOn = true := by
  simp [State.feedOn, hsleep, hboot]

theorem execServoCycle_due {t : Nat} {s : State} (h : (s.atTime t).now % (s.atTime t).servoPeriod = 0) (hon : (s.atTime t).feedOn = true) :
    execServoCycle t s = .next (s.atTime t).servoMotion.tellPeer := by
  simp only [execServoCycle, h, hon, decide_true, Bool.and_self, if_true]

theorem execServoCycle_between {t : Nat} {s : State} (h : (s.atTime t).now % (s.atTime t).servoPeriod ≠ 0) :
    execServoCycle t s = .next (s.atTime t) := by
  simp only [execServoCycle, h, decide_false, Bool.false_and, Bool.false_eq_true, if_false]

/-! ## The output phase (R302, R328, R329) -/

/-- A link's frame as it goes out. -/
def State.linkFrame (s : State) (link cycle : Nat) (set : List Int) (ctrl : Nat) : Out :=
  let b := actFrame s.eng.twinB s.twin.active link ctrl cycle set 0
  .act link b (actGroups (s.br.rd.getD link false) b).1

section
variable {s : State} (hidle : (s.fc.inject.getD 13 {}).count = 0)
include hidle

theorem State.sendLink_idle (link cycle : Nat) (set : List Int) (ctrl : Nat) : ∃ rd, s.sendLink link cycle set ctrl = { s with
    out := s.out ++ [s.linkFrame link cycle set ctrl], br := { s.br with rd := listUpd s.br.rd link fun _ => rd } } := by
  rw [State.sendLink, State.inject_idle (checker := 14) hidle]
  exact ⟨_, rfl⟩

theorem State.sendAct_idle (f : ActFrame) : s.sendAct f = { s with
    out := s.out ++ [s.linkFrame 0 f.cycle f.set0 f.ctrl0, s.linkFrame 1 f.cycle f.set1 f.ctrl1]
    br := { s.br with rd := (s.sendAct f).br.rd } } := by
  obtain ⟨rd, hfirst⟩ := State.sendLink_idle hidle 0 f.cycle f.set0 f.ctrl0
  obtain ⟨rd', hsecond⟩ := State.sendLink_idle (s := s.sendLink 0 f.cycle f.set0 f.ctrl0) (by rw [hfirst]; exact hidle) 1 f.cycle f.set1 f.ctrl1
  have hframe : (s.sendLink 0 f.cycle f.set0 f.ctrl0).linkFrame 1 f.cycle f.set1 f.ctrl1 = s.linkFrame 1 f.cycle f.set1 f.ctrl1 := by
    simp only [State.linkFrame, hfirst, listUpd_getD_other Nat.one_ne_zero]
  rw [State.sendAct, hsecond, hframe, hfirst]
  simp

end

/-- The standby has no frame of the active twin's for the cycle. -/
def State.LacksCopy (s : State) : Prop := (s.br.copied.all fun f => f.cycle != s.br.cycle) = true

theorem State.lacksCopy_iff {s : State} : s.LacksCopy ↔ ∀ f, s.br.copied = some f → f.cycle ≠ s.br.cycle := by
  unfold State.LacksCopy
  cases s.br.copied <;> simp

/-- The frame of a cycle that has not finished: the previous setpoints, with HOLD_PREV. -/
def State.heldFrame (s : State) : ActFrame :=
  { s.br.cur with set0 := s.br.prev.set0, set1 := s.br.prev.set1, ctrl0 := s.br.cur.ctrl0 + 16, ctrl1 := s.br.cur.ctrl1 + 16 }

section
variable {s : State} {finished : Bool}

theorem State.atOutputPhase_iff : s.atOutputPhase = true ↔ s.now % s.servoPeriod = s.br.g.outPhase := by
  simp [State.atOutputPhase]

theorem State.outputPhase_between (h : s.now % s.servoPeriod ≠ s.br.g.outPhase) : s.outputPhase finished = s := by
  rw [State.outputPhase, Bool.eq_false_iff.2 (mt State.atOutputPhase_iff.1 h)]
  rfl

variable (hphase : s.now % s.servoPeriod = s.br.g.outPhase) (hsleep : s.eng.state ≠ .sleep) (hboot : s.eng.state ≠ .boot)
include hphase hsleep hboot

theorem State.outputPhase_active (hactive : s.twin.active = true) : s.outputPhase finished =
    if finished then s.sendAct s.br.cur
    else ((s.raise .outputLate (s.addrFlash 0xFF)).toPeer (.setpoint s.heldFrame.cycle s.heldFrame.ctrl0 s.heldFrame.ctrl1
      s.heldFrame.set0 s.heldFrame.set1)).sendAct s.heldFrame := by
  simp [State.outputPhase, State.atOutputPhase_iff.2 hphase, State.standby, hactive, hsleep, hboot, State.heldFrame]

section
variable (hstandby : s.twin.active = false) (hswap : s.twin.swapDue = false) (hpair : s.twin.pair ≠ .alone)
include hstandby hswap hpair

theorem State.outputPhase_copied {f : ActFrame} (hf : s.br.copied = some f) (hcycle : f.cycle = s.br.cycle) :
    s.outputPhase finished = if s.dike.peerHold then s else s.sendAct f := by
  simp [State.outputPhase, State.atOutputPhase_iff.2 hphase, State.standby, hstandby, hswap, hsleep, hboot, hpair, hf, hcycle]

theorem State.outputPhase_lacking (h : s.LacksCopy) : s.outputPhase finished = s.copyMissed := by
  cases hcopied : s.br.copied with
  | none => simp [State.outputPhase, State.atOutputPhase_iff.2 hphase, State.standby, hstandby, hswap, hsleep, hboot, hpair, hcopied]
  | some f =>
    have hother := State.lacksCopy_iff.1 h f hcopied
    simp [State.outputPhase, State.atOutputPhase_iff.2 hphase, State.standby, hstandby, hswap, hsleep, hboot, hpair, hcopied, hother]

end

end

theorem State.toPeer_txQ (m : GMsg) (s : State) : ∃ q, s.toPeer m = { s with twin := { s.twin with txQ := q } } := by
  unfold State.toPeer
  split
  next => exact ⟨s.twin.txQ, rfl⟩
  next => exact ⟨_, rfl⟩

section
variable {s : State} (hidle : (s.fc.inject.getD 13 {}).count = 0)
include hidle

/-- OUTPUT_LATE waits, the peer hears of the previous setpoints, and they go out. -/
theorem State.sendHeld_outcome (m : GMsg) :
    let u := ((s.raise .outputLate (s.addrFlash 0xFF)).toPeer m).sendAct s.heldFrame
    let f := s.heldFrame
    u = { s with out := u.out, br := { s.br with rd := u.br.rd }, arb := u.arb, twin := { s.twin with txQ := u.twin.txQ } } ∧
      u.out = s.out ++ [s.linkFrame 0 f.cycle f.set0 f.ctrl0, s.linkFrame 1 f.cycle f.set1 f.ctrl1] ∧
      u.arb.faultQ = s.arb.faultQ ++ [{ at' := s.now, name := .outputLate, addr := s.addrFlash 0xFF % 2 ^ 48 }] := by
  obtain ⟨q, hq⟩ := State.toPeer_txQ m (s.raise .outputLate (s.addrFlash 0xFF))
  have hsend := State.sendAct_idle (s := (s.raise .outputLate (s.addrFlash 0xFF)).toPeer m) (by simpa using hidle) s.heldFrame
  rw [hq] at hsend ⊢
  exact ⟨by rw [hsend]; rfl, congrArg State.out hsend, congrArg (fun u => u.arb.faultQ) hsend⟩

/-- The copied frame goes out, but for the hold that the standby's own checks have set (15 R466). -/
theorem State.sendCopied_outcome (f : ActFrame) :
    let u := if s.dike.peerHold then s else s.sendAct f
    u = { s with out := u.out, br := u.br, arb := u.arb } ∧ (s.dike.peerHold = false →
      u.out = s.out ++ [s.linkFrame 0 f.cycle f.set0 f.ctrl0, s.linkFrame 1 f.cycle f.set1 f.ctrl1] ∧ u.arb = s.arb) := by
  have hsend := State.sendAct_idle hidle f
  cases s.dike.peerHold with
  | true => exact ⟨rfl, fun h => absurd h.symm Bool.false_ne_true⟩
  | false =>
    rw [if_neg Bool.false_ne_true]
    exact ⟨by rw [hsend], fun _ => ⟨congrArg State.out hsend, by simp⟩⟩

end

/-- A missed copy is counted, and the first of a stripe is raised for both links. -/
theorem State.copyMissed_outcome (s : State) :
    s.copyMissed = { s with out := s.copyMissed.out, br := s.copyMissed.br, arb := s.copyMissed.arb } ∧ s.copyMissed.out = s.out ∧
    s.copyMissed.br.copyMisses = s.br.copyMisses + 1 ∧ (s.br.copyMissRaised = false →
      s.copyMissed.waits s.now .actCopyMiss (s.addrFlash 0) ∧ s.copyMissed.waits s.now .actCopyMiss (s.addrFlash 1)) := by
  unfold State.copyMissed
  cases s.br.copyMissRaised with
  | true => exact ⟨rfl, rfl, rfl, fun h => absurd h.symm Bool.false_ne_true⟩
  | false =>
    exact ⟨rfl, rfl, rfl, fun _ => ⟨(s.waits_raise .actCopyMiss (s.addrFlash 0)).raise .actCopyMiss (s.addrFlash 1),
      (s.raise .actCopyMiss (s.addrFlash 0)).waits_raise .actCopyMiss (s.addrFlash 1)⟩⟩

/-! ## The settle timeout (R308) -/

/-- SETTLE_TIMEOUT is due: the axis has settled for longer than settle_to, and it has not been raised yet. -/
def State.SettleOverdue (a : Nat) (s : State) : Prop :=
  (s.axis a).settling = true ∧ (s.axis a).settleLate = false ∧ s.twin.active = true ∧
    (s.axis a).settleStart + (s.axis a).cfg.settleTo * 12800000 < s.now

theorem State.settleTimeout_iff {a : Nat} {s : State} : ((s.axis a).settling && !(s.axis a).settleLate && !s.standby &&
    decide ((s.axis a).settleStart + (s.axis a).cfg.settleTo * 12800000 < s.now)) = true ↔ s.SettleOverdue a := by
  simp [State.SettleOverdue, State.standby, and_assoc]

theorem State.get?_axis {a : Nat} {s : State} (ha : a < s.br.axes.length) : s.br.axes[a]? = some (s.axis a) := by
  simp [State.axis, ha]

theorem State.settleTimeout_overdue {a : Nat} {s : State} (h : s.SettleOverdue a) :
    s.settleTimeout a = (s.raise .settleTimeout (s.addrFlash a)).updAxis a fun x => { x with settleLate := true } :=
  if_pos (State.settleTimeout_iff.2 h)

theorem State.settleTimeout_idle {a : Nat} {s : State} (h : ¬s.SettleOverdue a) : s.settleTimeout a = s :=
  if_neg (mt State.settleTimeout_iff.1 h)

/-! ## The statement -/

/-- Settles O42: a servo cycle by its stages and what it tells the peer, an output phase by the twin's role and whether the
cycle's frame is there, a settle by whether it is overdue. -/
theorem servoCycles : Obligations.ServoCycles := by
  unfold Obligations.ServoCycles
  intro t s s' frame
  refine ⟨fun hdue hsleep hboot => ?_, execServoCycle_between, fun hother finished => ?_, fun hphase hactive hsleep hboot hidle => ?_,
    fun hphase hstandby hswap hpair hsleep hboot hidle finished => ?_, fun a ha => ?_⟩
  -- SERVO_CYCLE
  · refine ⟨_, execServoCycle_due hdue (State.atTime_feedOn t hsleep hboot), ?_⟩
    obtain ⟨-, hcycle, hcur, hprev⟩ := State.cycleFrames_eq_iff.1 s'.servoMotion.tellPeer_cycleFrames
    obtain ⟨hnumber, hframe, hlast⟩ := s'.servoMotion_br
    have htwin : s'.servoMotion.twin = s'.twin := by simp
    have htu (hswap : s.twin.swapDue = false) : s'.servoMotion.tellPeer.tu = s'.tu :=
      (State.tellPeer_tu _ ((congrArg Twin.swapDue htwin).trans hswap)).trans (by simp)
    rw [hcycle, hcur, hprev, hnumber, hframe, hlast, State.tellPeer_slack]
    simp only [State.tellPeer_frame, State.servoMotion_frame]
    exact ⟨rfl, trivial, rfl, rfl, rfl, htu, rfl, rfl, rfl, rfl, rfl, rfl, rfl, rfl, rfl, rfl, rfl, rfl, rfl, rfl⟩
  -- OUTPUT_PHASE at another instant
  · exact congrArg Host.Outcome.next (State.outputPhase_between hother)
  -- OUTPUT_PHASE of an active twin
  · have hout (finished : Bool) := State.outputPhase_active (s := s') (finished := finished) hphase hsleep hboot hactive
    refine ⟨⟨_, congrArg Host.Outcome.next (hout true), ?_⟩, ⟨_, congrArg Host.Outcome.next (hout false), ?_⟩⟩
    · rw [if_pos rfl]
      have h := State.sendAct_idle (s := s') hidle s'.br.cur
      exact ⟨by rw [h], congrArg State.out h⟩
    · rw [if_neg Bool.false_ne_true]
      exact State.sendHeld_outcome (s := s') hidle _
  -- OUTPUT_PHASE of a standby
  · by_cases hlacks : s'.LacksCopy
    · obtain ⟨hkeep, hout, hmisses, hfirst⟩ := s'.copyMissed_outcome
      refine ⟨_, congrArg Host.Outcome.next (State.outputPhase_lacking (s := s') hphase hsleep hboot hstandby hswap hpair hlacks),
        hkeep, fun f hf hcycle => absurd hcycle (State.lacksCopy_iff.1 hlacks f hf), fun _ => ⟨hout, hmisses, hfirst⟩⟩
    · obtain ⟨f, hf, hcycle⟩ : ∃ f, s'.br.copied = some f ∧ f.cycle = s'.br.cycle := by
        simpa [State.lacksCopy_iff] using hlacks
      obtain ⟨hkeep, hsent⟩ := State.sendCopied_outcome (s := s') hidle f
      refine ⟨_, congrArg Host.Outcome.next (State.outputPhase_copied (s := s') hphase hsleep hboot hstandby hswap hpair hf hcycle),
        hkeep, fun g hg _ => ?_, fun h => absurd h hlacks⟩
      cases hf.symm.trans hg
      exact hsent
  -- SETTLE_TIMEOUT
  · refine congrArg Host.Outcome.next ?_
    split
    next h =>
      refine (State.settleTimeout_overdue (s := s') h).trans ?_
      exact State.updAxis_eq_set (s := s'.raise .settleTimeout (s'.addrFlash a)) (State.get?_axis ha) _
    next h => exact State.settleTimeout_idle (s := s') h

end Sys2Proof.Machine
end

section
/-! PROOFS. 11 R361 to R363 and R372: what a write of a pulse's control register makes of the pulse, what its firing
makes of it, and the commands of the time unit. -/

namespace Sys2Proof.Machine
open Sys2Proof

@[simp] theorem TimeUnit.ticks_pls (u : TimeUnit) (k : Nat) : (u.ticks k).pls = u.pls := by
  unfold TimeUnit.ticks
  split <;> rfl

theorem TimeUnit.passed_iff {u : TimeUnit} {ns : Nat} : u.passed ns = true ↔ ns * 2 ^ 32 < u.total := decide_eq_true_iff
theorem TimeUnit.reached_iff {u : TimeUnit} {ns : Nat} : u.reached ns = true ↔ ns * 2 ^ 32 ≤ u.total := decide_eq_true_iff

/-! ## A pulse (R362) -/

/-- What a write of the control register notes in a pulse, ARM apart (00 R14). -/
def Pulse.noteWrite (value : BitVec 32) (now : Nat) (p : Pulse) : Pulse :=
  { p with
    width := bitsOf value.toNat 31 16, missed := p.missed && (!value.getLsbD 3 || p.missedAt == some now)
    fired := p.fired && (!value.getLsbD 1 || p.firedAt == some now) }

/-- The time that a pulse's registers give, in ns. -/
def Pulse.time (p : Pulse) : Nat := p.sec * 1000000000 + p.ns

/-- The pulse that a write of its control register leaves. -/
def Pulse.written (value : BitVec 32) (now : Nat) (u : TimeUnit) (p : Pulse) : Pulse :=
  if !value.getLsbD 0 then { p.noteWrite value now with arm := false }
  else if u.passed p.time then { p.noteWrite value now with arm := false, stale := true }
  else { p.noteWrite value now with arm := true, stale := false, target := p.time }

theorem execPulseArm_eq (t n : Nat) (value : BitVec 32) (s : State) : execPulseArm t n value s =
    .next ((s.atTime t).updPls n (Pulse.written value (s.atTime t).now (s.atTime t).tu)) := rfl

section
variable (value : BitVec 32) (now : Nat) (u : TimeUnit) (p : Pulse)

theorem Pulse.noteWrite_width : (p.noteWrite value now).width = value.toNat / 2 ^ 16 := by
  have hlt := value.isLt
  show bitsOf value.toNat 31 16 = _
  rw [bitsOf, Nat.shiftRight_eq_div_pow]
  omega

/-- Whatever becomes of ARM, the write notes the width and clears the flags. -/
theorem Pulse.written_notes : (p.written value now u).width = value.toNat / 2 ^ 16 ∧
    (p.written value now u).missed = (p.noteWrite value now).missed ∧ (p.written value now u).fired = (p.noteWrite value now).fired := by
  rw [← Pulse.noteWrite_width value now p]
  unfold Pulse.written
  (repeat' split) <;> exact ⟨rfl, rfl, rfl⟩

variable {value u}

theorem Pulse.written_disarmed (h : value.getLsbD 0 = false) : p.written value now u = { p.noteWrite value now with arm := false } := by
  exact if_pos (by rw [h]; rfl)

theorem Pulse.written_late (h : value.getLsbD 0 = true) (hpassed : p.time * 2 ^ 32 < u.total) :
    p.written value now u = { p.noteWrite value now with arm := false, stale := true } := by
  have harm : (!value.getLsbD 0) = false := by rw [h]; rfl
  rw [Pulse.written, harm, if_neg Bool.false_ne_true, if_pos (TimeUnit.passed_iff.2 hpassed)]

theorem Pulse.written_armed (h : value.getLsbD 0 = true) (hahead : u.total ≤ p.time * 2 ^ 32) :
    p.written value now u = { p.noteWrite value now with arm := true, stale := false, target := p.time } := by
  have harm : (!value.getLsbD 0) = false := by rw [h]; rfl
  rw [Pulse.written, harm, if_neg Bool.false_ne_true, if_neg fun hlate => Nat.not_lt.2 hahead (TimeUnit.passed_iff.1 hlate)]

theorem Pulse.fire_noted : (p.fire now u).fired = true ∧ (p.fire now u).firedAt = some now ∧
    (p.fire now u).highUntil = some (now + 64 * max 1 p.width) := by
  unfold Pulse.fire
  dsimp only
  split <;> exact ⟨rfl, rfl, rfl⟩

theorem Pulse.fire_single (h : p.per = 0) : (p.fire now u).arm = false := by
  simp [Pulse.fire, h]

/-- The periods that a pulse whose next time the unit has reached leaves out. -/
def Pulse.skipped (u : TimeUnit) (p : Pulse) : Nat :=
  if u.reached (p.target + p.period) then (u.nowNs - (p.target + p.period)) / p.period + 1 else 0

theorem Pulse.fire_periodic (h : p.per ≠ 0) : (p.fire now u).arm = p.arm ∧
    (p.fire now u).target = p.target + (p.skipped u + 1) * p.period ∧
    ((p.fire now u).missed = true ↔ p.missed = true ∨ 0 < p.skipped u) := by
  simp only [Pulse.fire, if_neg h]
  refine ⟨trivial, ?_, ?_⟩
  · show p.target + p.period + p.skipped u * p.period = _
    rw [Nat.succ_mul]
    omega
  · show (p.missed || p.skipped u != 0) = true ↔ _
    rw [Bool.or_eq_true, bne_iff_ne, Nat.pos_iff_ne_zero]

/-- A whole period beyond the time in nanoseconds is beyond the time unit. -/
theorem Pulse.skipped_ahead (hfrac : u.frac < 2 ^ 32) :
    u.total < (p.target + (p.skipped u + 1) * p.period) * 2 ^ 32 := by
  have htotal : u.total = u.nowNs * 2 ^ 32 + u.frac := rfl
  have hpos : 0 < p.period := Nat.lt_of_lt_of_le (by decide) (Nat.le_max_left 100 p.per)
  rw [Nat.succ_mul]
  by_cases hreached : (p.target + p.period) * 2 ^ 32 ≤ u.total
  · have hskip : p.skipped u = (u.nowNs - (p.target + p.period)) / p.period + 1 := if_pos (TimeUnit.reached_iff.2 hreached)
    have hlt := Nat.lt_mul_div_succ (u.nowNs - (p.target + p.period)) hpos
    rw [Nat.mul_comm, ← hskip] at hlt
    omega
  · have hskip : p.skipped u = 0 := if_neg (hreached ∘ TimeUnit.reached_iff.1)
    rw [hskip]
    omega

end

/-! ## The commands -/

section
variable {t n : Nat} {s : State}

theorem State.updPls_eq (f : Pulse → Pulse) : s.updPls n f = { s with tu := { s.tu with pls := s.tu.pls.set n (f (s.pls n)) } } := by
  simp only [State.updPls, State.updTu, listUpd_eq_set _ _ _ ({} : Pulse)]
  rfl

theorem State.pls_updPls_same (hn : n < s.tu.pls.length) (f : Pulse → Pulse) : (s.updPls n f).pls n = f (s.pls n) :=
  listUpd_getD_same hn f {}

theorem State.pls_updPls_other {k : Nat} (hk : k ≠ n) (f : Pulse → Pulse) : (s.updPls n f).pls k = s.pls k :=
  listUpd_getD_other hk s.tu.pls f {}

theorem execPulseFire_idle (h : ((s.atTime t).pls n).arm = false ∨ s.twin.active = false ∨
    (s.atTime t).tu.total < ((s.atTime t).pls n).target * 2 ^ 32) : execPulseFire t n s = .next (s.atTime t) := by
  refine congrArg Host.Outcome.next (if_pos ?_)
  rcases h with h | h | h
  · simp [h]
  · simp [State.standby, h]
  · rw [Bool.eq_false_iff.2 (mt TimeUnit.reached_iff.1 (Nat.not_le.2 h))]
    exact Bool.or_true _

/-- The rising edge of a firing, at an output that is low. -/
def State.rise (n : Nat) (s : State) : State := if (s.pls n).highUntil.isSome then s else s.send (.pulse n true)

theorem State.rise_low (h : (s.pls n).highUntil = none) : s.rise n = s.send (.pulse n true) := if_neg (by simp [h])

theorem State.rise_eq (n : Nat) (s : State) : s.rise n = { s with out := (s.rise n).out } := by
  unfold State.rise
  split <;> rfl

/-- The edge goes out before its pulse is noted, and FIRED sends vector 6. -/
theorem execPulseFire_due (harm : ((s.atTime t).pls n).arm = true) (hactive : s.twin.active = true)
    (hdue : ((s.atTime t).pls n).target * 2 ^ 32 ≤ (s.atTime t).tu.total) :
    execPulseFire t n s = .next ((((s.atTime t).rise n).updPls n fun p => p.fire (s.atTime t).now (s.atTime t).tu).vector 6) := by
  refine congrArg Host.Outcome.next ((if_neg ?_).trans ?_)
  · rw [TimeUnit.reached_iff.2 hdue, harm]
    simp [State.standby, hactive]
  · unfold State.rise
    split <;> rfl

theorem State.vector_eq (v : Nat) (s : State) : s.vector v = { s with out := (s.vector v).out, sl := (s.vector v).sl } := by
  unfold State.vector
  dsimp only
  split <;> rfl

theorem State.atTime_timeFollower (t : Nat) (s : State) : (s.atTime t).timeFollower = s.timeFollower := rfl

theorem execPulseEnd_high {e : Nat} (he : ((s.atTime t).pls n).highUntil = some e) :
    execPulseEnd t n s = .next (if e ≤ (s.atTime t).now then
      ((s.atTime t).send (.pulse n false)).updPls n (fun p => { p with highUntil := none }) else s.atTime t) := by
  simp only [execPulseEnd, he]

theorem execPtpMessage_off {offset pathDelay : Int} {portState : Nat} (h : s.twin.cfg.ptpEnable = 0) :
    execPtpMessage t offset pathDelay portState s = .next (s.atTime t) :=
  congrArg Host.Outcome.next (if_pos h)

/-- What a message of the grandmaster writes into the time unit. -/
def TimeUnit.synced (offset pathDelay : Int) (portState : Nat) (u : TimeUnit) : TimeUnit :=
  { u with gmOffset := offset, pathDelay := pathDelay, portState := portState % 256 }

theorem execPtpMessage_on {offset pathDelay : Int} {portState : Nat} (h : s.twin.cfg.ptpEnable ≠ 0) :
    execPtpMessage t offset pathDelay portState s = .next (let v := (s.atTime t).updTu (·.synced offset pathDelay portState)
      if v.ptpSteered then v.steer offset else v) :=
  congrArg Host.Outcome.next (if_neg h)

end

/-- Settles O52, command by command: a write and a firing of a pulse by what they make of it. -/
theorem timeUnitCommands : Obligations.TimeUnitCommands := by
  unfold Obligations.TimeUnitCommands
  intro t s hlen s'
  have hlen' : s'.tu.pls.length = 2 := by simpa [s'] using hlen
  refine ⟨rfl, fun value => ⟨fun hfollows => ?_, fun hfree => ?_⟩, fun n hn value => ?_, fun n hn => ⟨execPulseFire_idle, fun harm hactive hdue => ?_⟩,
    fun n hn e he => ?_, fun offset pathDelay portState => ⟨execPtpMessage_off, fun hon => ?_⟩⟩
  -- TU_INC_WRITE and TU_STEP
  · exact ⟨congrArg Host.Outcome.next (if_pos hfollows), congrArg Host.Outcome.next (if_pos hfollows)⟩
  · have hfree' : ¬s'.timeFollower = true := by rw [State.atTime_timeFollower, hfree]; decide
    exact ⟨congrArg Host.Outcome.next (if_neg hfree'), congrArg Host.Outcome.next (if_neg hfree')⟩
  -- PULSE_ARM
  · have hsame := State.pls_updPls_same (s := s') (hlen'.symm ▸ hn) (Pulse.written value s'.now s'.tu)
    have hother := State.pls_updPls_other (s := s') (k := 1 - n) (n := n) (by omega) (Pulse.written value s'.now s'.tu)
    obtain ⟨hwidth, hmissed, hfired⟩ := (s'.pls n).written_notes value s'.now s'.tu
    refine ⟨_, execPulseArm_eq t n value s, rfl, ?_⟩
    simp only [State.pls] at hsame hother ⊢
    rw [hsame]
    refine ⟨hwidth, hmissed, hfired, fun h => ?_, fun h hpassed => ?_, fun h hahead => ?_, hother⟩
    · rw [Pulse.written_disarmed _ _ h]
      exact ⟨rfl, rfl⟩
    · rw [Pulse.written_late _ _ h hpassed]
      exact ⟨rfl, rfl⟩
    · rw [Pulse.written_armed _ _ h hahead]
      exact ⟨rfl, rfl, rfl⟩
  -- PULSE_FIRE
  · have hlow : (s'.rise n).tu = s'.tu := (congrArg State.tu (s'.rise_eq n)).trans rfl
    have hfired := State.pls_updPls_same (s := s'.rise n) (by rw [hlow, hlen']; exact hn) fun p => p.fire s'.now s'.tu
    rw [show (s'.rise n).pls n = s'.pls n from congrArg (fun u => u.pls.getD n {}) hlow] at hfired
    refine ⟨_, execPulseFire_due harm hactive hdue, ?_, ?_⟩
    · rw [State.vector_eq, State.updPls_eq, s'.rise_eq]
    · rw [State.vector_eq]
      simp only [State.pls] at hfired
      dsimp only
      rw [hfired]
      obtain ⟨hset, hat, hhigh⟩ := (s'.pls n).fire_noted s'.now (u := s'.tu)
      refine ⟨hset, hat, hhigh, fun hquiet => ?_, (s'.pls n).fire_single s'.now, fun hper hfrac => ?_⟩
      · refine (State.vector_out_grows 6 _).subset ?_
        show Out.pulse n true ∈ (s'.rise n).out
        rw [State.rise_low hquiet]
        exact List.mem_append_right _ (List.mem_singleton_self _)
      · obtain ⟨harm', htarget, hmissed⟩ := (s'.pls n).fire_periodic s'.now (u := s'.tu) hper
        have hahead := (s'.pls n).skipped_ahead hfrac
        rw [← htarget] at hahead
        exact ⟨harm'.trans harm, hahead, _, htarget, hmissed⟩
  -- PULSE_END
  · rw [show exec (.pulseEnd t n) s = execPulseEnd t n s from rfl, execPulseEnd_high he, State.updPls_eq]
    rfl
  -- PTP_MESSAGE
  · refine ⟨_, execPtpMessage_on hon, ?_, fun hsteered => ?_⟩
    · dsimp only
      split <;> rfl
    · dsimp only
      rw [if_neg (by rw [Bool.not_eq_true]; exact hsteered)]
      rfl

end Sys2Proof.Machine
end

section
/-! PROOFS. 11 R364 to R370: what a message on the Stitch ring does at its first good copy and at any other, the ring
leader and its orders, and what the module sends on the ring by itself. -/

namespace Sys2Proof.Machine
open Sys2Proof

/-! ## Receiving and forwarding (R364) -/

section
variable {h : MsgHdr} {m : SMsg} {s : State}

theorem State.atTime_ringOn {t : Nat} (hring : s.twin.cfg.ringEnable = 1) (hsleep : s.eng.state ≠ .sleep) (hboot : s.eng.state ≠ .boot)
    (hreset : s.eng.inReset = false) : (s.atTime t).ringOn = true := by
  simp [State.ringOn, hring, hsleep, hboot, hreset]

/-- A copy of a message is noted. -/
def State.noteCopy (h : MsgHdr) (s : State) : State :=
  { s with ring := { s.ring with rxLast := ((h.src, h.mseq) :: s.ring.rxLast).take 256 } }

/-- The first good copy of a message is noted and, unless it ends its way here, forwarded. -/
def State.relayed (h : MsgHdr) (m : SMsg) (s : State) : State :=
  if h.hops = 0 ∨ h.src = s.member then s.noteCopy h else (s.noteCopy h).forward h m

theorem State.stitchRx_dropped (hdrop : m.good h = false ∨ (h.src, h.mseq) ∈ s.ring.rxLast) : s.stitchRx h m = (false, s) := by
  refine if_pos ?_
  rcases hdrop with hbad | hcopy
  · simp [hbad]
  · simp [hcopy]

theorem State.stitchRx_first (hon : s.ringOn = true) (hgood : m.good h = true) (hnew : (h.src, h.mseq) ∉ s.ring.rxLast) :
    s.stitchRx h m = (true, s.relayed h m) := by
  refine (if_neg (by simp [hon, hgood, hnew])).trans (Prod.ext rfl ?_)
  simp only [State.relayed, Bool.or_eq_true, decide_eq_true_eq]
  rfl

/-- The message that goes on: a TIME of kind 4 takes the delays into its correction (R368). -/
def State.onward (m : SMsg) (s : State) : SMsg :=
  match m with
  | .time 4 ta tb c => .time 4 ta tb (c + s.ring.hopDelay + Config.residence s.free)
  | m => m

theorem State.onward_time (ta tb : Nat) (c : Int) : ∃ c', s.onward (.time 4 ta tb c) = .time 4 ta tb c' := ⟨_, rfl⟩

theorem State.onward_other (hm : ∀ ta tb c, m ≠ .time 4 ta tb c) : s.onward m = m := by
  unfold State.onward
  split
  next ta tb c => exact absurd rfl (hm ta tb c)
  next => rfl

theorem State.forward_eq (h : MsgHdr) (m : SMsg) (s : State) : s.forward h m = { s with
    out := s.out ++ [.stitch h.west (!h.west) h.src h.mseq (h.hops - 1) (s.onward m)
      (wireMessage (s.onward m).type h.src h.active (h.hops - 1) h.mseq (s.onward m).body 0)]
    ring := { s.ring with tx := (s.forward h m).ring.tx }, free := s.free + 1 } := by
  rfl

theorem State.relayed_eq (h : MsgHdr) (m : SMsg) (s : State) : s.relayed h m = { s with
    out := (s.relayed h m).out, free := (s.relayed h m).free
    ring := { s.ring with rxLast := (s.relayed h m).ring.rxLast, tx := (s.relayed h m).ring.tx } } := by
  unfold State.relayed
  split
  · rfl
  · rw [State.forward_eq]
    rfl

@[simp] theorem State.relayed_frame (h : MsgHdr) (m : SMsg) (s : State) :
    let u := s.relayed h m
    u.now = s.now ∧ u.eng = s.eng ∧ u.arb = s.arb ∧ u.tu = s.tu ∧ u.twin = s.twin ∧ u.mb = s.mb ∧ u.feed = s.feed ∧ u.job = s.job := by
  rw [State.relayed_eq]
  exact ⟨rfl, rfl, rfl, rfl, rfl, rfl, rfl, rfl⟩

theorem State.atTime_isLeader (t : Nat) (s : State) : (s.atTime t).isLeader = s.isLeader := rfl

theorem State.relayed_isLeader : (s.relayed h m).isLeader = s.isLeader := by
  rw [State.relayed_eq]
  rfl

/-! ### The commands, by what receiving answers -/

variable {t : Nat} {first : Bool} {v : State}

theorem execLead_rx {leader o : Nat} (hrx : (s.atTime t).stitchRx h (.lead leader o) = (first, v)) : execLead t h leader o s =
    .next (if first then (v.updRing fun r => { r with leader := some leader, leadAt := v.now }).quarantine else v) := by
  simp only [execLead, hrx]

theorem execRequest_rx {event stripe mask at' : Nat} (hrx : (s.atTime t).stitchRx h (.request event stripe mask at') = (first, v)) :
    execRequest t h event stripe mask at' s =
      .next (if first && v.isLeader then v.leaderRequest h.src event stripe mask at' else v) := by
  simp only [execRequest, hrx]

theorem execOrder_rx {o event member stripe mask at' : Nat} {order : OrderMsg}
    (horder : order = { order := o, event := event, member := member, stripe := stripe, mask := mask, at' := at' })
    (hrx : (s.atTime t).stitchRx h (.order order) = (first, v)) :
    execOrder t h o event member stripe mask at' s = .next (if first && !(v.isLeader && h.src == v.member) then v.takeOrder order else v) := by
  subst horder
  simp only [execOrder, hrx]

theorem State.stitchTime_dropped {kind ta tb : Nat} {corr : Int} (hrx : s.stitchRx h (.time kind ta tb corr) = (false, v)) :
    s.stitchTime h kind ta tb corr = v := by
  rw [State.stitchTime, hrx]
  rfl

/-- TIME of kind 3 gives the delay of the hop that it came on. -/
theorem State.stitchTime_hop {ta tb : Nat} {corr : Int} (hrx : s.stitchRx h (.time 3 ta tb corr) = (true, v)) :
    s.stitchTime h 3 ta tb corr = v.updRing fun r => { r with hopDelay := Config.hopDelay ta tb v.tu.t8 } := by
  rw [State.stitchTime, hrx]
  rfl

/-- TIME of kind 4 gives the offset from the ring's time leader. -/
theorem State.stitchTime_leader {ta tb : Nat} {corr : Int} (hrx : s.stitchRx h (.time 4 ta tb corr) = (true, v)) (hsrc : h.src ≠ v.member) :
    s.stitchTime h 4 ta tb corr = v.ringTime (wrapS 40 ((v.tu.t8 : Int) - ta - roundHalfUp corr 256)) := by
  rw [State.stitchTime, hrx]
  exact if_neg hsrc

theorem execGussetHello_rx {m : Hello} (hrx : (s.atTime t).stitchRx h (.hello m) = (first, v)) :
    execGussetHello t h true m.build m.role m.pairState m.engineState m.configDigest m.ringDigest s =
      .next (if first && h.src != v.member then v.stitchHello h.src m else v) := by
  simp only [execGussetHello, hrx, if_true]

end

/-! ## The leader and the quarantine (R365, R366) -/

theorem State.quarantine_ring (s : State) : s.quarantine.ring = { s.ring with quarantined := s.quarantine.ring.quarantined } := by
  simp [State.quarantine]

/-- A comparison with the leader may quarantine pairs and raise STI_QUARANTINE. -/
theorem State.quarantine_eq (s : State) : s.quarantine = { s with
    arb := s.quarantine.arb, ring := { s.ring with quarantined := s.quarantine.ring.quarantined } } := by
  rw [← State.quarantine_ring]
  ext1 <;> simp

/-- What a message wrote into the ring's record stays under the comparison that follows it. -/
theorem State.updRing_quarantine (f : RingNet → RingNet) (s : State) : let u := (s.updRing f).quarantine
    u = { s with ring := u.ring, arb := u.arb } ∧ u.ring = { f s.ring with quarantined := u.ring.quarantined } := by
  refine ⟨?_, State.quarantine_ring _⟩
  rw [State.quarantine_eq]
  rfl

/-! ## Time on the ring (R368, R369) -/

/-- The offset from the time leader decides on admission to synchronous starts (R369). -/
def State.admitted (off : Int) (s : State) : State :=
  let s := s.updTu fun u => { u with ringOffset := off * 256, locked := absLe off 25600 }
  if absLe off 25600 then
    (s.updRing fun r => { r with okCount := s.ring.okCount + 1 }).updTu fun u => { u with excluded := u.excluded && decide (s.ring.okCount + 1 < 1000) }
  else
    ((s.raiseUnless s.tu.excluded .stiTime (toBits 48 (asr off 8))).updRing fun r => { r with okCount := 0 }).updTu fun u =>
      { u with excluded := true }

theorem State.ringTime_eq {off : Int} {s : State} (hactive : s.twin.active = true) :
    s.ringTime off = if (s.admitted off).timeFollower then (s.admitted off).steer off else s.admitted off :=
  if_neg (by simp [State.standby, hactive])

theorem State.steer_eq (off : Int) (s : State) : s.steer off = { s with tu := { s.tu with inc := (s.steer off).tu.inc } } := rfl

theorem State.admitted_spec (off : Int) (s : State) : let u := s.admitted off
    u = { s with ring := u.ring, tu := u.tu, arb := u.arb } ∧ u.tu.ringOffset = off * 256 ∧ (u.tu.locked = true ↔ off.natAbs ≤ 25600) ∧
      (25600 < off.natAbs → u.tu.excluded = true ∧ u.ring.okCount = 0) := by
  by_cases hnear : off.natAbs ≤ 25600
  · have hle : absLe off 25600 = true := decide_eq_true hnear
    simp only [State.admitted, hle, if_true]
    exact ⟨rfl, rfl, iff_of_true rfl hnear, fun hfar => absurd hnear (Nat.not_le.2 hfar)⟩
  · have hle : absLe off 25600 = false := decide_eq_false hnear
    simp only [State.admitted, hle, Bool.false_eq_true, if_false]
    rw [State.raiseUnless_eq]
    exact ⟨rfl, rfl, iff_of_false Bool.false_ne_true hnear, fun _ => ⟨rfl, rfl⟩⟩

theorem State.ringTime_spec {off : Int} {s : State} (hactive : s.twin.active = true) : let u := s.ringTime off
    u = { s with ring := u.ring, tu := u.tu, arb := u.arb } ∧ u.tu.ringOffset = off * 256 ∧ (u.tu.locked = true ↔ off.natAbs ≤ 25600) ∧
      (25600 < off.natAbs → u.tu.excluded = true ∧ u.ring.okCount = 0) := by
  have hspec := s.admitted_spec off
  rw [State.ringTime_eq hactive]
  split
  · obtain ⟨hframe, hrest⟩ := hspec
    refine ⟨?_, hrest⟩
    rw [State.steer_eq, hframe]
  · exact hspec

/-! ## Orders (R370, R371) -/

/-- What the module sends goes on from what it has sent, the start that it ordered last stays, and the orders go forward. -/
structure State.OrdersGo (s u : State) : Prop where
  out : s.out <+: u.out
  started : u.ring.started = s.ring.started
  seen : s.ring.orderSeen ≤ u.ring.orderSeen

section
variable {s u v : State}

theorem State.OrdersGo.of_ring (hout : s.out <+: u.out) (hring : u.ring = s.ring) : s.OrdersGo u :=
  ⟨hout, congrArg RingNet.started hring, Nat.le_of_eq (congrArg RingNet.orderSeen hring).symm⟩

theorem State.OrdersGo.of_eq (hout : u.out = s.out) (hring : u.ring = s.ring) : s.OrdersGo u := .of_ring (hout ▸ List.prefix_rfl) hring

theorem State.OrdersGo.refl (s : State) : s.OrdersGo s := .of_eq rfl rfl

theorem State.OrdersGo.trans (h : s.OrdersGo u) (h' : u.OrdersGo v) : s.OrdersGo v :=
  ⟨h.out.trans h'.out, h'.started.trans h.started, h.seen.trans h'.seen⟩

theorem State.sendStitch_eq (m : SMsg) (s : State) : ∃ bytes, s.sendStitch m = { s with
    out := s.out ++ [.stitch true true s.member s.ring.txMseq 7 m bytes]
    ring := { s.ring with txMseq := (s.ring.txMseq + 1) % 2 ^ 32, tx := (s.sendStitch m).ring.tx }
    fc := (s.sendStitch m).fc } := ⟨_, rfl⟩

theorem State.sendStitch_ordersGo (m : SMsg) (s : State) : s.OrdersGo (s.sendStitch m) := by
  obtain ⟨bytes, hsend⟩ := s.sendStitch_eq m
  rw [hsend]
  exact ⟨List.prefix_append _ _, rfl, Nat.le_refl _⟩

theorem State.cuffWithdraw_out_grows (first : Nat) (s : State) : s.out <+: (s.cuffWithdraw first).out := by
  unfold State.cuffWithdraw
  dsimp only
  rw [(State.takeSlots_frame 2 _).2.2.2.1]
  refine List.IsPrefix.trans (l₂ := _) ?_ (foldl_out_grows (fun u k => ?_) _ _)
  · exact List.prefix_rfl
  · obtain ⟨_, _, hsend, -⟩ := u.sendControl_out k 4 ((s.cf.epoch + 1) % 256) (first % 2 ^ 32) u.curStripe 0xFFFF 0 [0, 0, 0]
    rw [hsend]
    exact List.prefix_append _ _

theorem State.withdrawUngated_out_grows (key : Nat) (s : State) : s.out <+: (s.withdrawUngated key).out := by
  unfold State.withdrawUngated
  dsimp only
  split
  · exact List.prefix_rfl
  next c _ _ =>
    simp only [(State.toPeer_frame _ _).2.2.2.2.1]
    exact List.IsPrefix.trans (l₂ := _) (by simp) (State.cuffWithdraw_out_grows c.record.flash _)

/-- The engine enters Seam, and the receiver hears of it. -/
def State.enterSeam (s : State) : State :=
  ((s.hemStats fun t => { t with seams := sat64 (t.seams + 1) }).enter .seam).cuffStatus

theorem State.enterSeam_ordersGo (s : State) : s.OrdersGo s.enterSeam :=
  .of_ring ((State.enter_out_grows .seam (s.hemStats _)).trans (State.cuffStatus_out_grows _)) (by simp [State.enterSeam])

/-- A cause joins those of the Seam. -/
def State.addSeam (c : Cause) (s : State) : State :=
  (s.updHem fun h => { h with causes := if h.causes.contains c then h.causes else h.causes ++ [c] }).clearBandCauses

theorem State.acceptSeam_ordersGo (key : Nat) (c : Cause) (s : State) : s.OrdersGo (s.acceptSeam key c) := by
  have hwithdraw : s.OrdersGo (s.withdrawUngated key) := .of_ring (s.withdrawUngated_out_grows key) (by simp)
  unfold State.acceptSeam
  split
  next => exact .refl s
  next st _ =>
    dsimp only
    split
    next => exact .refl s
    next =>
      split
      · exact .refl s
      · exact .of_eq (by simp) (by simp)
    next => exact hwithdraw.trans (.of_eq (by simp) (by simp))
    next =>
      have hstop : s.OrdersGo (((((s.withdrawUngated key).dropCause .reversal).addSeam c).seamStop st).enterSeam) :=
        (hwithdraw.trans (.of_eq (by simp [State.addSeam]) (by simp [State.addSeam]))).trans (State.enterSeam_ordersGo _)
      split
      next => 
        split
        · exact hstop.trans (State.sendStitch_ordersGo ..)
        · exact hstop
      next => exact hstop

theorem State.groupHold_ordersGo (s : State) : s.OrdersGo s.groupHold := by
  have hpause : s.OrdersGo ((s.updHem fun h => { h with causes := h.causes.filter (· != .pause false) }).pauseStripe true) := by
    unfold State.pauseStripe
    split
    · exact .of_eq rfl rfl
    · exact State.OrdersGo.trans (u := s.updHem _) (.of_eq rfl rfl) (State.acceptSeam_ordersGo ..)
  unfold State.groupHold
  dsimp only
  split
  · exact hpause.trans ⟨List.prefix_rfl, rfl, Nat.le_refl _⟩
  · exact .refl s

/-- An order in its turn is the last one acted on. -/
theorem State.act_spec (o : OrderMsg) (s : State) (h : s.ring.orderSeen ≤ o.order) : s.OrdersGo (s.act o) ∧ o.order ≤ (s.act o).ring.orderSeen := by
  have hnote : s.OrdersGo (s.updRing fun r => { r with orderSeen := o.order }) := ⟨List.prefix_rfl, rfl, h⟩
  have hgo (u : State) (hu : (s.updRing fun r => { r with orderSeen := o.order }).OrdersGo u) : s.OrdersGo u ∧ o.order ≤ u.ring.orderSeen :=
    ⟨hnote.trans hu, hu.seen⟩
  unfold State.act
  dsimp only
  split
  · exact hgo _ (.refl _)
  · split
    next => exact hgo _ ⟨List.prefix_rfl, rfl, Nat.le_refl _⟩
    next =>
      split
      · exact hgo _ (State.groupHold_ordersGo _)
      · exact hgo _ (.refl _)
    next =>
      split
      · exact hgo _ ⟨List.prefix_rfl, rfl, Nat.le_refl _⟩
      · exact hgo _ (.refl _)
    next => exact hgo _ (.refl _)

theorem State.actHeld_ordersGo (fuel : Nat) (s : State) : s.OrdersGo (State.actHeld fuel s) := by
  induction fuel generalizing s with
  | zero => exact .refl s
  | succ fuel ih =>
    unfold State.actHeld
    split
    next => exact .refl s
    next o ho =>
      have hturn : o.order = s.ring.orderSeen + 1 := by simpa using List.find?_some ho
      have htaken : s.OrdersGo (s.updRing fun r => { r with orderHeld := r.orderHeld.filter (· != o) }) := ⟨List.prefix_rfl, rfl, Nat.le_refl _⟩
      exact (htaken.trans (State.act_spec o _ (by rw [hturn]; exact Nat.le_succ _)).1).trans (ih _)

/-- An order in its turn is taken, and those that waited for it. -/
theorem State.takeOrder_next {o : OrderMsg} (h : o.order = s.ring.orderSeen + 1) : s.takeOrder o = (s.act o).actHeld 64 := by
  simp [State.takeOrder, h]

theorem State.takeOrder_past {o : OrderMsg} (hany : s.ring.orderSeen ≠ 0) (h : o.order ≤ s.ring.orderSeen) : s.takeOrder o = s :=
  if_pos (by simp [hany, h])

theorem State.takeOrder_early {o : OrderMsg} (hany : s.ring.orderSeen ≠ 0) (h : s.ring.orderSeen + 1 < o.order) :
    s.takeOrder o = s.updRing fun r => { r with orderHeld := (r.orderHeld ++ [o]).take 64 } :=
  (if_neg (by simp; omega)).trans (if_neg (by simp [hany]; omega))

theorem State.actHeld_none (h : s.ring.orderHeld = []) (fuel : Nat) : State.actHeld fuel s = s := by
  cases fuel with
  | zero => rfl
  | succ fuel => rw [State.actHeld, h]; rfl

/-- A start that this pair takes part in waits for its instant. -/
theorem State.act_start {o : OrderMsg} (hevent : o.event = 1) (hmask : o.mask.testBit s.eng.pairId = true) (hpair : s.eng.pairId ∉ s.ring.quarantined) :
    s.act o = s.updRing fun r => { r with
      orderSeen := o.order, sync := some { stripe := o.stripe, mask := o.mask, at' := o.at' }, dropped := none } := by
  have hin : ¬(!o.mask.testBit s.eng.pairId || s.ring.quarantined.contains s.eng.pairId) = true := by simp [hmask, hpair]
  refine (if_neg hin).trans ?_
  rw [hevent]
  rfl

/-- The leader's ORDER goes out under the next order number, and it acts on it (R370). -/
theorem State.giveOrder_spec (event member stripe mask at' : Nat) (s : State) : let u := s.giveOrder event member stripe mask at'
    (∃ bytes l, u.out = s.out ++ .stitch true true s.member s.ring.txMseq 7
      (.order { order := s.ring.orderSeen + 1, event := event, member := member, stripe := stripe, mask := mask, at' := at' }) bytes :: l) ∧
      u.ring.started = s.ring.started ∧ s.ring.orderSeen + 1 ≤ u.ring.orderSeen := by
  obtain ⟨bytes, hsend⟩ := s.sendStitch_eq
    (.order { order := s.ring.orderSeen + 1, event := event, member := member, stripe := stripe, mask := mask, at' := at' })
  have hout : (s.orderOut event member stripe mask at').out = _ := congrArg State.out hsend
  have hstarted : (s.orderOut event member stripe mask at').ring.started = s.ring.started := congrArg (·.ring.started) hsend
  have hseen : (s.orderOut event member stripe mask at').ring.orderSeen = s.ring.orderSeen := congrArg (·.ring.orderSeen) hsend
  intro u
  have hu : u = _ := State.takeOrder_next (by rw [hseen])
  obtain ⟨hact, hturn⟩ := State.act_spec { order := s.ring.orderSeen + 1, event := event, member := member, stripe := stripe, mask := mask, at' := at' }
    (s.orderOut event member stripe mask at') (by rw [hseen]; exact Nat.le_succ _)
  have hheld := State.actHeld_ordersGo 64 ((s.orderOut event member stripe mask at').act
    { order := s.ring.orderSeen + 1, event := event, member := member, stripe := stripe, mask := mask, at' := at' })
  rw [← hu] at hheld
  obtain ⟨l, hl⟩ := hact.out.trans hheld.out
  exact ⟨⟨bytes, l, by rw [← hl, hout, List.append_assoc]; rfl⟩, hheld.started.trans (hact.started.trans hstarted), hturn.trans hheld.seen⟩

theorem State.leaderRequest_start (src stripe mask asked : Nat) (hnone : s.ring.started = none) :
    s.leaderRequest src 1 stripe mask asked = ((s.event (.ringRequest 1)).updRing fun r => { r with
      started := some { stripe := stripe, mask := mask, at' := s.instantFor asked }, resumeReqs := [] }).giveOrder 1 src stripe mask (s.instantFor asked) :=
  if_neg (by simp [hnone])

end

/-! ## What the module sends by itself (R365, R366, R368) -/

/-- Messages of this module's own go out of both sides one after the other, each under the next MSEQ. -/
def State.Sends (s u : State) (ms : List SMsg) : Prop :=
  u = { s with out := u.out, ring := u.ring, fc := u.fc } ∧
    u.ring.txMseq = (s.ring.txMseq + ms.length) % 2 ^ 32 ∧ ∃ bs : List (List Byte), bs.length = ms.length ∧
    u.out = s.out ++ ((ms.zip bs).zipIdx.map fun x => .stitch true true s.member (if x.2 = 0 then s.ring.txMseq else (s.ring.txMseq + x.2) % 2 ^ 32) 7 x.1.1 x.1.2)

section
variable {t : Nat} {s : State}

theorem State.sends_one (m : SMsg) : s.Sends (s.sendStitch m) [m] := by
  obtain ⟨bytes, hsend⟩ := s.sendStitch_eq m
  exact ⟨by rw [hsend], by rw [hsend]; rfl, [bytes], rfl, by rw [hsend]; rfl⟩

theorem State.sends_two (m n : SMsg) : s.Sends ((s.sendStitch m).sendStitch n) [m, n] := by
  obtain ⟨b, hm⟩ := s.sendStitch_eq m
  obtain ⟨c, hn⟩ := (s.sendStitch m).sendStitch_eq n
  have hseq : (s.sendStitch m).ring.txMseq = (s.ring.txMseq + 1) % 2 ^ 32 := congrArg (·.ring.txMseq) hm
  refine ⟨by rw [hn, hm], ?_, [b, c], rfl, ?_⟩
  · rw [hn]
    show ((s.sendStitch m).ring.txMseq + 1) % 2 ^ 32 = (s.ring.txMseq + 2) % 2 ^ 32
    rw [hseq]
    omega
  · rw [hn]
    dsimp only
    rw [hseq, show (s.sendStitch m).member = s.member from rfl, show (s.sendStitch m).out = _ from congrArg State.out hm, List.append_assoc]
    rfl

theorem State.dueAfter_iff {last : Option Nat} {n : Nat} {s : State} : s.dueAfter last n = true ↔ ∀ a, last = some a → a + n ≤ s.now := by
  cases last <;> simp [State.dueAfter]

theorem execLeadBroadcast_idle (h : ¬(s.isLeader = true ∧ ∀ a, s.ring.leadSent = some a → a + 10 * 12800 ≤ (s.atTime t).now)) :
    exec (.leadBroadcast t) s = .next (s.atTime t) := by
  refine congrArg Host.Outcome.next (if_neg ?_)
  rw [Bool.and_eq_true, State.dueAfter_iff]
  exact h

theorem execLeadBroadcast_due (h : s.isLeader = true ∧ ∀ a, s.ring.leadSent = some a → a + 10 * 12800 ≤ (s.atTime t).now) :
    ∃ u, exec (.leadBroadcast t) s = .next u ∧ (s.atTime t).Sends u [.lead s.member s.ring.orderSeen] ∧ u.ring.leadSent = some (s.atTime t).now := by
  refine ⟨((s.atTime t).sendStitch (.lead s.member s.ring.orderSeen)).updRing fun r => { r with leadSent := some (s.atTime t).now },
    congrArg Host.Outcome.next (if_pos ?_), ?_, rfl⟩
  · rw [Bool.and_eq_true, State.dueAfter_iff]
    exact h
  · obtain ⟨hframe, hseq, hout⟩ := (s.atTime t).sends_one (.lead s.member s.ring.orderSeen)
    exact ⟨by rw [State.updRing, hframe], hseq, hout⟩

theorem execTimeBroadcast_idle (h : ¬∀ a, s.ring.timeSent = some a → a + 100 * 12800 ≤ (s.atTime t).now) :
    exec (.timeBroadcast t) s = .next (s.atTime t) := by
  refine congrArg Host.Outcome.next (if_pos ?_)
  rw [Bool.or_eq_true]
  refine .inr ?_
  rw [Bool.not_eq_true', ← Bool.not_eq_true, State.dueAfter_iff]
  exact h

theorem execTimeBroadcast_due (hon : (s.atTime t).ringOn = true) (h : ∀ a, s.ring.timeSent = some a → a + 100 * 12800 ≤ (s.atTime t).now) :
    ∃ u, exec (.timeBroadcast t) s = .next u ∧ u.ring.timeSent = some (s.atTime t).now ∧
      (s.atTime t).Sends u (.time 3 (s.atTime t).tu.t8 0 0 :: (if s.isLeader = true then [.time 4 (s.atTime t).tu.t8 0 0] else [])) := by
  let v := (s.atTime t).updRing fun r => { r with timeSent := some (s.atTime t).now }
  have hdue : (s.atTime t).dueAfter s.ring.timeSent (100 * usSteps) = true := State.dueAfter_iff.mpr h
  have hexec : exec (.timeBroadcast t) s = .next (if s.isLeader = true then
      (v.sendStitch (.time 3 v.tu.t8 0 0)).sendStitch (.time 4 v.tu.t8 0 0) else v.sendStitch (.time 3 v.tu.t8 0 0)) :=
    congrArg Host.Outcome.next (if_neg (by simp [hon, hdue]))
  refine ⟨_, hexec, ?_⟩
  split
  · obtain ⟨hframe, hseq, hout⟩ := v.sends_two (.time 3 v.tu.t8 0 0) (.time 4 v.tu.t8 0 0)
    exact ⟨rfl, hframe, hseq, hout⟩
  · obtain ⟨hframe, hseq, hout⟩ := v.sends_one (.time 3 v.tu.t8 0 0)
    exact ⟨rfl, hframe, hseq, hout⟩

theorem execLeadTimeout_idle (h : s.isLeader = true ∨ (s.atTime t).now < s.ring.leadAt + 30 * 12800) :
    exec (.leadTimeout t) s = .next (s.atTime t) := by
  refine congrArg Host.Outcome.next (if_pos ?_)
  rw [Bool.or_eq_true, Bool.or_eq_true, decide_eq_true_eq]
  exact h.imp_left .inr

/-- The new leader is noted, and the rings are compared again. -/
def State.relead (s : State) : State := (s.updRing fun r => { r with leader := s.bestLeader, leadAt := s.now }).quarantine

theorem execLeadTimeout_late_eq (hon : (s.atTime t).ringOn = true) (hnot : s.isLeader = false) (hlate : s.ring.leadAt + 30 * 12800 ≤ (s.atTime t).now)
    {l : Option Nat} (hl : (s.atTime t).bestLeader = l) : exec (.leadTimeout t) s = .next (l.elim (s.atTime t).relead fun m =>
      (s.atTime t).relead.raise .stiLeader (m * 2 ^ 40 + (s.atTime t).relead.flash40)) := by
  refine congrArg Host.Outcome.next ((if_neg ?_).trans ?_)
  rotate_left
  · subst hl
    cases hbest : (s.atTime t).bestLeader <;> simp only [hbest, State.relead, Option.elim]
  have hpast : decide ((s.atTime t).now < s.ring.leadAt + 30 * usSteps) = false := decide_eq_false (Nat.not_lt.mpr hlate)
  rw [hon, State.atTime_isLeader, hnot]
  exact ne_of_eq_of_ne hpast Bool.false_ne_true

theorem State.relead_spec (s : State) : s.relead = { s with ring := s.relead.ring, arb := s.relead.arb } ∧
    s.relead.ring.leader = s.bestLeader ∧ s.relead.ring.leadAt = s.now := by
  obtain ⟨hframe, hnoted⟩ := s.updRing_quarantine fun r => { r with leader := s.bestLeader, leadAt := s.now }
  exact ⟨hframe, congrArg RingNet.leader hnoted, congrArg RingNet.leadAt hnoted⟩

theorem State.raise_eq (f : FaultName) (addr : Nat) (s : State) : s.raise f addr = { s with arb := (s.raise f addr).arb } := by
  ext1 <;> simp

theorem execLeadTimeout_late (hon : (s.atTime t).ringOn = true) (hnot : s.isLeader = false) (hlate : s.ring.leadAt + 30 * 12800 ≤ (s.atTime t).now) :
    ∃ u, exec (.leadTimeout t) s = .next u ∧ u = { s.atTime t with ring := u.ring, arb := u.arb } ∧
      u.ring.leader = (s.atTime t).bestLeader ∧ u.ring.leadAt = (s.atTime t).now ∧
      ∀ m, (s.atTime t).bestLeader = some m → u.waits (s.atTime t).now .stiLeader (m * 2 ^ 40 + s.flash40) := by
  obtain ⟨hframe, hleader, hat⟩ := (s.atTime t).relead_spec
  have hexec {l} := execLeadTimeout_late_eq (l := l) hon hnot hlate
  generalize (s.atTime t).relead = v at *
  cases hbest : (s.atTime t).bestLeader with
  | none => exact ⟨v, hexec hbest, hframe, hleader.trans hbest, hat, nofun⟩
  | some m =>
    have hnow : v.now = (s.atTime t).now := by rw [hframe]
    have hflash : v.flash40 = s.flash40 := by rw [hframe]; rfl
    have hring : (v.raise .stiLeader (m * 2 ^ 40 + v.flash40)).ring = v.ring := by simp
    refine ⟨v.raise .stiLeader (m * 2 ^ 40 + v.flash40), hexec hbest, ?_, by rw [hring, hleader, hbest], by rw [hring, hat], ?_⟩
    · rw [State.raise_eq, hframe]
    · rintro _ ⟨⟩
      rw [← hnow, ← hflash]
      exact State.waits_raise _ _ _
end

/-! ## The first good copy of a message, command by command -/

section
variable {t : Nat} {h : MsgHdr} {s v : State}

theorem execLead_first {leader o : Nat} (hrx : (s.atTime t).stitchRx h (.lead leader o) = (true, v)) :
    ∃ u, exec (.lead t h leader o) s = .next u ∧ u = { v with ring := u.ring, arb := u.arb } ∧
      u.ring.leader = some leader ∧ u.ring.leadAt = v.now := by
  obtain ⟨hframe, hnoted⟩ := v.updRing_quarantine fun r => { r with leader := some leader, leadAt := v.now }
  refine ⟨_, execLead_rx hrx, hframe, ?_⟩
  rw [if_pos rfl, hnoted]
  exact ⟨rfl, rfl⟩

theorem execGussetHello_first {m : Hello} (hrx : (s.atTime t).stitchRx h (.hello m) = (true, v)) (hsrc : h.src ≠ v.member) :
    ∃ u, exec (.gussetHello t h true m.build m.role m.pairState m.engineState m.configDigest m.ringDigest) s = .next u ∧
      u = { v with ring := u.ring, arb := u.arb } ∧ u.ring.hellos.head? = some (h.src, m) := by
  obtain ⟨hframe, hnoted⟩ := v.updRing_quarantine fun r => { r with hellos := (h.src, m) :: r.hellos.filter (·.1 != h.src) }
  exact ⟨v.stitchHello h.src m, (execGussetHello_rx hrx).trans (congrArg Host.Outcome.next (if_pos (by simp [hsrc]))), hframe,
    congrArg (·.hellos.head?) hnoted⟩

theorem execRequest_other {event stripe mask at' : Nat} (hrx : (s.atTime t).stitchRx h (.request event stripe mask at') = (true, v))
    (hlead : v.isLeader = false) : exec (.request t h event stripe mask at') s = .next v :=
  (execRequest_rx hrx).trans (congrArg Host.Outcome.next (if_neg (by simp [hlead])))

theorem execRequest_start {stripe mask at' : Nat} (hrx : (s.atTime t).stitchRx h (.request 1 stripe mask at') = (true, v))
    (hlead : v.isLeader = true) (hnone : v.ring.started = none) : ∃ u bytes, exec (.request t h 1 stripe mask at') s = .next u ∧
      (∃ l, u.out = v.out ++ .stitch true true v.member v.ring.txMseq 7
        (.order { order := v.ring.orderSeen + 1, event := 1, member := h.src, stripe := stripe, mask := mask, at' := v.instantFor at' }) bytes :: l) ∧
      u.ring.started = some { stripe := stripe, mask := mask, at' := v.instantFor at' } ∧ v.ring.orderSeen + 1 ≤ u.ring.orderSeen ∧
      u.mb = v.mb ∧ u.feed = v.feed ∧ u.job = v.job ∧ u.tu = v.tu := by
  have hexec : exec (.request t h 1 stripe mask at') s = .next (v.leaderRequest h.src 1 stripe mask at') :=
    (execRequest_rx hrx).trans (congrArg Host.Outcome.next (if_pos (by simp [hlead])))
  have hgive := State.giveOrder_spec 1 h.src stripe mask (v.instantFor at') ((v.event (.ringRequest 1)).updRing fun r => { r with
    started := some { stripe := stripe, mask := mask, at' := v.instantFor at' }, resumeReqs := [] })
  rw [← State.leaderRequest_start h.src stripe mask at' hnone] at hgive
  obtain ⟨⟨bytes, l, hout⟩, hstarted, hseen⟩ := hgive
  exact ⟨_, bytes, hexec, ⟨l, hout⟩, hstarted, hseen, by simp, by simp, by simp, by simp⟩

section
variable {o event member stripe mask at' : Nat} {order : OrderMsg}
  (horder : order = { order := o, event := event, member := member, stripe := stripe, mask := mask, at' := at' })
  (hrx : (s.atTime t).stitchRx h (.order order) = (true, v)) (hother : v.isLeader = false ∨ h.src ≠ v.member)
include horder hrx hother

/-- The leader's own ORDERs come back to it; it has acted on them. -/
theorem execOrder_first : exec (.order t h o event member stripe mask at') s = .next (v.takeOrder order) :=
  (execOrder_rx horder hrx).trans (congrArg Host.Outcome.next (if_pos (by rcases hother with hother | hother <;> simp [hother])))

theorem execOrder_start (hevent : event = 1) (ho : o = v.ring.orderSeen + 1) (hheld : v.ring.orderHeld = [])
    (hmask : mask.testBit v.eng.pairId = true) (hpair : v.eng.pairId ∉ v.ring.quarantined) :
    exec (.order t h o event member stripe mask at') s = .next
      { v with ring := { v.ring with orderSeen := o, sync := some { stripe := stripe, mask := mask, at' := at' }, dropped := none } } := by
  rw [execOrder_first horder hrx hother]
  subst horder
  rw [State.takeOrder_next ho, State.act_start hevent hmask hpair]
  refine congrArg Host.Outcome.next (State.actHeld_none ?_ 64)
  exact hheld

end

theorem exec_stitchTime (t : Nat) (h : MsgHdr) (kind ta tb : Nat) (corr : Int) (s : State) :
    exec (.time t h true kind ta tb corr) s = .next ((s.atTime t).stitchTime h kind ta tb corr) := rfl

theorem execTime_hop {ta tb : Nat} {corr : Int} (hrx : (s.atTime t).stitchRx h (.time 3 ta tb corr) = (true, v)) :
    exec (.time t h true 3 ta tb corr) s = .next { v with ring := { v.ring with hopDelay := Config.hopDelay ta tb v.tu.t8 } } := by
  rw [exec_stitchTime, State.stitchTime_hop hrx]
  rfl

theorem execTime_leader {ta tb : Nat} {corr : Int} (hrx : (s.atTime t).stitchRx h (.time 4 ta tb corr) = (true, v)) (hsrc : h.src ≠ v.member)
    (hactive : v.twin.active = true) : ∃ u, exec (.time t h true 4 ta tb corr) s = .next u ∧
      u = { v with ring := u.ring, tu := u.tu, arb := u.arb } ∧
      let off := wrapS 40 ((v.tu.t8 : Int) - ta - roundHalfUp corr 256)
      u.tu.ringOffset = off * 256 ∧ (u.tu.locked = true ↔ off.natAbs ≤ 25600) ∧ (25600 < off.natAbs → u.tu.excluded = true ∧ u.ring.okCount = 0) :=
  ⟨_, by rw [exec_stitchTime, State.stitchTime_leader hrx hsrc], State.ringTime_spec hactive⟩

end

/-- Settles O51, message by message and then what the module sends by itself. -/
theorem stitchEvents : Obligations.StitchEvents := by
  unfold Obligations.StitchEvents
  intro t h s hsleep hboot hreset hring s' base r sends
  have hon : s'.ringOn = true := State.atTime_ringOn hring hsleep hboot hreset
  refine ⟨fun m => ?_, fun leader o event stripe mask at' member kind ta tb corr hello p hp hdrop => ?_, fun hnew => ?_, ?_, ?_, fun hidle => ?_,
    fun hnot hlate => ?_⟩
  · have hforward := State.forward_eq h m base
    refine ⟨by rw [hforward], base.onward m, _, congrArg State.out hforward, ?_, State.onward_other⟩
    rintro k ta tb c rfl rfl
    exact base.onward_time ta tb c
  · simp only [List.mem_cons, List.not_mem_nil, or_false] at hp
    rcases hp with rfl | rfl | rfl | rfl | rfl
    · exact execLead_rx (State.stitchRx_dropped hdrop)
    · exact execRequest_rx (State.stitchRx_dropped hdrop)
    · exact execOrder_rx rfl (State.stitchRx_dropped hdrop)
    · exact congrArg Host.Outcome.next (State.stitchTime_dropped (State.stitchRx_dropped hdrop))
    · exact execGussetHello_rx (State.stitchRx_dropped hdrop)
  · have hfirst {m : SMsg} (hgood : m.good h = true) : s'.stitchRx h m = (true, r m) := State.stitchRx_first hon hgood hnew
    have hr (m : SMsg) : r m = s'.relayed h m := rfl
    have hleader (m : SMsg) : (r m).isLeader = s.isLeader := by rw [hr, State.relayed_isLeader, State.atTime_isLeader]
    have hmember (m : SMsg) : (r m).member = s.member := by rw [hr, State.relayed_eq]; rfl
    have htu (m : SMsg) : (r m).tu = s'.tu := by rw [hr, State.relayed_eq]
    have hring (m : SMsg) : (r m).ring = { s.ring with rxLast := (r m).ring.rxLast, tx := (r m).ring.tx } := congrArg State.ring (State.relayed_eq h m s')
    refine ⟨fun leader o hgood => ?_, fun m hgood hsrc => ?_, fun event stripe mask at' hgood hlead => ?_, fun stripe mask at' hgood hlead hnone => ?_,
      fun o event member stripe mask at' => ?_, fun ta tb corr hgood => ?_, fun ta tb corr hgood hsrc hactive => ?_⟩
    · obtain ⟨u, hexec, hframe, hnamed, hat⟩ := execLead_first (hfirst hgood)
      exact ⟨u, hexec, hframe, hnamed, hat.trans (State.relayed_frame h _ s').1⟩
    · exact execGussetHello_first (hfirst hgood) ((hmember _).symm ▸ hsrc)
    · exact execRequest_other (hfirst hgood) ((hleader _).trans hlead)
    · have hstarted : (r (.request 1 stripe mask at')).ring.started = none := (congrArg RingNet.started (hring _)).trans hnone
      obtain ⟨u, bytes, hexec, hout, hstart, hseen, hmb, hfeed, hjob, htime⟩ :=
        execRequest_start (hfirst hgood) ((hleader _).trans hlead) hstarted
      have hat : (r (.request 1 stripe mask at')).instantFor at' = s'.instantFor at' := by rw [State.instantFor, htu, State.instantFor]
      rw [hmember, hring, hat] at hout
      rw [hat] at hstart
      rw [hring] at hseen
      have hframe := State.relayed_frame h (.request 1 stripe mask at') s'
      obtain ⟨-, -, -, -, -, hmb', hfeed', hjob'⟩ := hframe
      exact ⟨u, bytes, hexec, hout, hstart, hseen, hmb.trans hmb', hfeed.trans hfeed', hjob.trans hjob', htime.trans (htu _)⟩
    · intro m hgood hother hany
      have hother' : (r m).isLeader = false ∨ h.src ≠ (r m).member := by rw [hleader, hmember]; exact hother
      have hexec := execOrder_first rfl (hfirst hgood) hother'
      have hany' : (r m).ring.orderSeen ≠ 0 := by rw [hring]; exact hany
      refine ⟨fun ho => ?_, fun ho => ?_, fun hevent ho hheld hmask hpair => ?_⟩
      · rw [hexec, State.takeOrder_past hany' (by rw [hring]; exact ho)]
      · exact ⟨_, hexec.trans (congrArg _ (State.takeOrder_early hany' (by rw [hring]; exact ho))), rfl⟩
      · have heng : (r m).eng = s.eng := by rw [hr, State.relayed_eq]; rfl
        exact execOrder_start rfl (hfirst hgood) hother' hevent (by rw [hring]; exact ho) (by rw [hring]; exact hheld) (by rw [heng]; exact hmask)
          (by rw [heng, hring]; exact hpair)
    · rw [execTime_hop (hfirst hgood), congrArg TimeUnit.t8 (htu _)]
    · have hoffset := execTime_leader (hfirst hgood) ((hmember _).symm ▸ hsrc) (by rw [hr, State.relayed_eq]; exact hactive)
      rw [htu] at hoffset
      exact hoffset
  · exact ⟨execLeadBroadcast_idle, execLeadBroadcast_due⟩
  · exact ⟨execTimeBroadcast_idle, execTimeBroadcast_due hon⟩
  · exact execLeadTimeout_idle hidle
  · exact execLeadTimeout_late hon hnot hlate

end Sys2Proof.Machine
end

section
/-! PROOFS. 11 R338, R341, R343, R344, R352 to R357: the twin's own clock of the pair — how a pairing ends, what a
heartbeat slot and a heartbeat do, and what is left of the pair when the peer is gone. -/

namespace Sys2Proof.Machine
open Sys2Proof

/-! ## What only raises faults and sends messages to the peer -/

/-- The pair is as it was, apart from messages that wait to be sent; a fault that waits goes on to wait. -/
structure State.OnlyTells (s u : State) : Prop where
  waits : ∀ {at' addr : Nat} {f : FaultName}, s.waits at' f addr → u.waits at' f addr
  sent : u.twin.sent = s.twin.sent
  txQ : s.twin.txQ <+: u.twin.txQ

section
variable {s v u : State}

theorem State.OnlyTells.of_waits (hwaits : ∀ {at' addr : Nat} {f : FaultName}, s.waits at' f addr → u.waits at' f addr)
    (htwin : u.twin = s.twin) : s.OnlyTells u :=
  ⟨hwaits, by rw [htwin], ⟨[], by rw [htwin, List.append_nil]⟩⟩

theorem State.OnlyTells.of_eq (harb : u.arb = s.arb) (htwin : u.twin = s.twin) : s.OnlyTells u :=
  .of_waits (fun h => (State.waits_congr harb).2 h) htwin

theorem State.OnlyTells.refl (s : State) : s.OnlyTells s := .of_eq rfl rfl

theorem State.OnlyTells.trans (hsv : s.OnlyTells v) (hvu : v.OnlyTells u) : s.OnlyTells u :=
  ⟨fun h => hvu.waits (hsv.waits h), hvu.sent.trans hsv.sent, hsv.txQ.trans hvu.txQ⟩

/-- What changes neither the arbiter nor the pair afterwards. -/
theorem State.OnlyTells.then_eq (hsv : s.OnlyTells v) (harb : u.arb = v.arb) (htwin : u.twin = v.twin) : s.OnlyTells u :=
  hsv.trans (.of_eq harb htwin)

/-- The causes of stopping that wait are no part of it. -/
theorem State.OnlyTells.noCauses (h : s.OnlyTells u) : s.OnlyTells { u with arb := { u.arb with causeQ := [] } } := ⟨h.waits, h.sent, h.txQ⟩

theorem State.OnlyTells.pair (h : s.OnlyTells u) : u.twin.pair = s.twin.pair :=
  show u.twin.sent.pair = s.twin.sent.pair by rw [h.sent]
theorem State.OnlyTells.active (h : s.OnlyTells u) : u.twin.active = s.twin.active :=
  show u.twin.sent.active = s.twin.sent.active by rw [h.sent]

end

section
variable {s : State}

theorem State.raise_onlyTells (f : FaultName) (addr : Nat) : s.OnlyTells (s.raise f addr) :=
  .of_waits (fun h => h.raise f addr) (by simp)

theorem State.event_onlyTells (e : EventName) : s.OnlyTells (s.event e) :=
  .of_waits (fun h => h.event e) (by simp)

theorem State.sendGusset_onlyTells (m : GMsg) : s.OnlyTells (s.sendGusset m) :=
  ⟨id, rfl, ⟨[m], rfl⟩⟩

theorem State.toPeer_onlyTells (m : GMsg) : s.OnlyTells (s.toPeer m) := by
  unfold State.toPeer
  split
  · exact .refl s
  · exact State.sendGusset_onlyTells m

theorem State.report_onlyTells (stripe band outcome : Nat) (failed : Bool) : s.OnlyTells (s.report stripe band outcome failed) := by
  refine ⟨fun h => h.report .., State.report_sent .., ?_⟩
  unfold State.report
  split
  · exact ⟨[], List.append_nil _⟩
  next b _ => simpa using (State.toPeer_onlyTells (.band stripe band outcome b.attempt (BitVec.ofNat 64 (if failed then 0 else b.computed)))).txQ

theorem State.bandFault_onlyTells (stripe band : Nat) (failed : Bool) : s.OnlyTells (s.bandFault stripe band failed) := by
  have hraise : s.OnlyTells ((s.idleUnits stripe band).raise .bandFault (addrBand stripe band)) :=
    (State.OnlyTells.of_eq (by simp) (by simp)).trans (State.raise_onlyTells ..)
  unfold State.bandFault
  dsimp only
  split
  · exact (hraise.then_eq (by simp) (by simp)).trans (State.report_onlyTells ..)
  · exact ((hraise.then_eq (by simp) (by simp)).trans (State.report_onlyTells ..)).trans (.of_waits (fun h => h.cause _) (by simp))

theorem State.renderFailed_onlyTells (stripe band : Nat) (failed : Bool) : s.OnlyTells (s.renderFailed stripe band failed) := by
  unfold State.renderFailed
  split
  next => exact .refl s
  next b hb =>
    split
    next =>
      have hreport := ((State.raise_onlyTells (s := s) .bandMismatch (addrBand stripe band)).then_eq
        (u := (s.raise .bandMismatch (addrBand stripe band)).polStats fun t => { t with reweaves := t.reweaves + 1 })
        (by simp) (by simp)).trans (State.report_onlyTells stripe band 2 failed)
      dsimp only
      split
      next => exact (hreport.then_eq (by simp) (by simp)).trans (State.bandFault_onlyTells ..)
      next => exact hreport.then_eq (by simp) (by simp)
    next =>
      split
      next => exact State.bandFault_onlyTells ..
      next => exact .refl s

theorem State.takeInGo_onlyTells (fuel : Nat) (s : State) : s.OnlyTells (State.takeInGo fuel s) := by
  induction fuel generalizing s with
  | zero => exact .refl s
  | succ fuel ih =>
    unfold State.takeInGo
    split
    · exact .refl s
    · dsimp only
      split
      · exact .refl s
      · refine State.OnlyTells.trans ?_ (ih _)
        split
        · split
          · exact (State.OnlyTells.of_eq (by simp) (by simp)).trans (State.renderFailed_onlyTells ..)
          · exact .of_eq (by simp) (by simp)
        · exact .of_eq (by simp) (by simp)

theorem State.takeIn_onlyTells (s : State) : s.OnlyTells s.takeIn :=
  (State.takeInGo_onlyTells 32 s).then_eq (by simp [State.takeIn]) (by simp [State.takeIn])

theorem State.restartRing_onlyTells (stripe : Nat) (s : State) : s.OnlyTells (s.restartRing stripe) := by
  unfold State.restartRing
  exact State.OnlyTells.trans (.of_eq (by simp) (by simp)) (State.takeIn_onlyTells _)

theorem State.passAll_onlyTells : s.OnlyTells s.passAll := .of_eq (by simp) (by simp)

theorem State.bandsOn_onlyTells : s.OnlyTells s.bandsOn := .of_eq (by simp) (by simp)

theorem State.storeTrim_onlyTells : s.OnlyTells s.storeTrim := .of_waits State.waits.storeTrim (by simp)

theorem State.endStripe_onlyTells (aborted : Bool) : s.OnlyTells (s.endStripe aborted) := by
  unfold State.endStripe
  split
  · exact .refl s
  next st hst =>
    refine State.OnlyTells.trans ?_ State.storeTrim_onlyTells
    refine State.OnlyTells.trans ?_ State.bandsOn_onlyTells
    refine State.OnlyTells.trans ?_ State.passAll_onlyTells
    refine State.OnlyTells.trans ?_ (State.restartRing_onlyTells _ _)
    dsimp only
    split
    · exact .of_eq (by simp) (by simp)
    · exact .of_eq rfl rfl

/-! ### The engine stops -/

theorem State.waits.takeSlots {at' addr : Nat} {f : FaultName} (h : s.waits at' f addr) (n : Nat) : (State.takeSlots n s).waits at' f addr :=
  (State.takeSlots_keepsLate s n).waits h

theorem State.cuffWithdraw_onlyTells (first : Nat) : s.OnlyTells (s.cuffWithdraw first) :=
  .of_waits (fun h => State.waits.takeSlots ((State.waits_congr (by simp)).2 h) 2) (by simp)

theorem State.shWithdraw_onlyTells (first : Nat) : s.OnlyTells (s.shWithdraw first) :=
  .of_waits (fun h => (State.pumpSlots_keepsLate _).waits h) (by simp)

theorem State.withdrawUngated_onlyTells (key : Nat) : s.OnlyTells (s.withdrawUngated key) := by
  unfold State.withdrawUngated
  dsimp only
  split
  · exact .of_eq rfl rfl
  · refine State.OnlyTells.trans ?_ (State.toPeer_onlyTells _)
    refine State.OnlyTells.trans ?_ (State.cuffWithdraw_onlyTells _)
    refine State.OnlyTells.trans ?_ (State.shWithdraw_onlyTells _)
    exact .of_eq rfl rfl

theorem State.hemStop_onlyTells (key : Nat) : s.OnlyTells (s.hemStop key) := by
  unfold State.hemStop
  dsimp only
  split <;> exact (State.withdrawUngated_onlyTells key).then_eq rfl rfl

theorem State.endWrite_onlyTells (key : Nat) : s.OnlyTells (s.endWrite key) := by
  unfold State.endWrite
  split
  · exact .of_eq (by simp) (by simp)
  · exact (State.hemStop_onlyTells key).trans (State.endStripe_onlyTells true)

theorem State.enter_onlyTells (e : EngState) : s.OnlyTells (s.enter e) := .of_waits (fun h => h.enter e) (by simp)

theorem State.setTgood_onlyTells (b : Bool) : s.OnlyTells (s.setTgood b) := .of_waits (fun h => h.setTgood b) (by simp)

theorem State.cuffStatus_onlyTells : s.OnlyTells s.cuffStatus := .of_eq (by simp) (by simp)

theorem State.endEscalation_onlyTells : s.OnlyTells s.endEscalation := .of_eq (by simp) (by simp)

theorem State.axesOff_onlyTells : s.OnlyTells s.axesOff := .of_eq (by simp) (by simp)

theorem State.controlledStop_onlyTells : s.OnlyTells s.controlledStop := .of_eq (by simp) (by simp)

/-- What Fault writes into the pair. -/
def State.ownFault (s : State) : State := { s with twin := { s.twin with ownFault := true } }

/-- Fault stops the engine, which tells the peer, and the pair is as it was. -/
theorem State.enterFault_onlyTells (hsleep : s.eng.state ≠ .sleep) (hreset : s.eng.inReset = false) (key : Nat) (off : Bool) :
    s.ownFault.OnlyTells (s.enterFault key off) ∧ (s.enterFault key off).eng.state = .fault := by
  unfold State.enterFault
  rw [if_neg (by simp [hsleep, hreset])]
  dsimp only
  split
  next hfault => exact ⟨.refl _, by simpa using hfault⟩
  next =>
    have hwrite : s.ownFault.OnlyTells (s.ownFault.endWrite key).abandonCal := (State.endWrite_onlyTells key).then_eq (by simp) (by simp)
    refine ⟨?_, by simp⟩
    refine State.OnlyTells.trans ?_ State.cuffStatus_onlyTells
    refine State.OnlyTells.trans ?_ (State.enter_onlyTells .fault)
    refine State.OnlyTells.trans ?_ (State.setTgood_onlyTells false)
    refine State.OnlyTells.trans ?_ State.endEscalation_onlyTells
    refine State.OnlyTells.noCauses ?_
    split
    · exact hwrite
    · split
      · exact hwrite.trans State.axesOff_onlyTells
      · exact hwrite.trans State.controlledStop_onlyTells

end

/-! ## The peer is gone (R355 to R357) -/

section
variable {s : State}

theorem State.alone_twin (s : State) : s.alone.twin.pair = .alone ∧ s.alone.twin.active = true ∧ s.alone.twin.txQ = s.twin.txQ := by
  simp [State.alone]

theorem State.alone_waits {at' addr : Nat} {f : FaultName} (h : s.waits at' f addr) : s.alone.waits at' f addr :=
  (State.waits_congr (by simp)).2 h

/-- The module is on its own; what waited to be sent goes on to wait. -/
structure State.OnItsOwn (s u : State) : Prop where
  pair : u.twin.pair = .alone
  active : u.twin.active = true
  txQ : s.twin.txQ <+: u.twin.txQ

theorem State.alone_onItsOwn (s : State) : s.OnItsOwn s.alone := by
  obtain ⟨hpair, hactive, htxQ⟩ := s.alone_twin
  exact ⟨hpair, hactive, by rw [htxQ]⟩

theorem State.peerGone_pairing (hpair : s.twin.pair = .pairing) (live : Bool) : s.peerGone live = s.alone :=
  if_pos (by simp [hpair])

section
variable (hpair : s.twin.pair ≠ .pairing)
include hpair

theorem State.peerGone_active (hactive : s.twin.active = true) (live : Bool) :
    s.peerGone live = (s.raise .peerLost (s.addrFlash s.peerMember)).alone :=
  (if_neg (by simp [hpair])).trans (if_pos hactive)

theorem State.peerGone_lives (hactive : s.twin.active = false) :
    s.peerGone true = ((s.raise .gusLost (s.addrFlash s.peerMember)).alone).enterFault (s.slot 8) false :=
  (if_neg (by simp [hpair])).trans ((if_neg (by simp [hactive])).trans (if_pos rfl))

theorem State.peerGone_silent (hactive : s.twin.active = false) : s.peerGone false = if s.paired then s.takeOver else s.alone :=
  (if_neg (by simp [hpair])).trans ((if_neg (by simp [hactive])).trans (if_neg Bool.false_ne_true))

end

theorem State.becomeActive_keeps (s : State) : (s.eng.state ≠ .seam → s.becomeActive.eng = s.eng) ∧ s.becomeActive.twin.txQ = s.twin.txQ ∧
    ∀ at' f addr, s.waits at' f addr → s.becomeActive.waits at' f addr := by
  have hsame {at' f addr} (v : State) (h : v.waits at' f addr) : v.cuffStatus.waits at' f addr := State.cuffStatus_onlyTells.waits h
  unfold State.becomeActive
  dsimp only
  split
  next hseam =>
    refine ⟨fun hnot => absurd ?_ hnot, by simp, fun at' f addr h => hsame _ (State.waits.enter ((State.waits_congr ?_).2 h) _)⟩
    · simp only [Bool.and_eq_true, beq_iff_eq] at hseam
      simpa using hseam.1
    · simp
  next => exact ⟨fun _ => by simp, by simp, fun at' f addr h => hsame _ ((State.waits_congr (by simp)).2 h)⟩

/-- The standby's last word to the peer is TAKEOVER (R355). -/
theorem State.takeOver_onItsOwn (s : State) : s.OnItsOwn s.takeOver := by
  obtain ⟨hpair, hactive, htxQ⟩ := State.alone_twin
    (((s.raise .takeover (s.addrFlash s.peerMember)).sendGusset (.takeover s.br.cycle 1)).takeFc).becomeActive
  refine ⟨hpair, hactive, ?_⟩
  obtain ⟨-, hbecome, -⟩ := State.becomeActive_keeps
    (((s.raise .takeover (s.addrFlash s.peerMember)).sendGusset (.takeover s.br.cycle 1)).takeFc)
  rw [show s.takeOver.twin.txQ = _ from htxQ, hbecome]
  simp [State.sendGusset]

theorem State.takeOver_keeps (s : State) : (s.eng.state ≠ .seam → s.takeOver.eng = s.eng) ∧ s.takeOver.waits s.now .takeover (s.addrFlash s.peerMember) := by
  obtain ⟨heng, -, hwaits⟩ := State.becomeActive_keeps
    (((s.raise .takeover (s.addrFlash s.peerMember)).sendGusset (.takeover s.br.cycle 1)).takeFc)
  refine ⟨fun hseam => ?_, State.alone_waits (hwaits _ _ _ ((State.waits_congr (by simp)).2 (State.waits_raise .takeover _ s)))⟩
  have h := heng (by simpa [State.sendGusset] using hseam)
  simpa [State.takeOver, State.sendGusset] using h

/-- After three missed slots the module is on its own, whatever the pair was. -/
theorem State.peerGone_onItsOwn (hsleep : s.eng.state ≠ .sleep) (hreset : s.eng.inReset = false) (live : Bool) : s.OnItsOwn (s.peerGone live) := by
  have halone (f : FaultName) : s.OnItsOwn (s.raise f (s.addrFlash s.peerMember)).alone := by
    obtain ⟨hpair, hactive, htxQ⟩ := State.alone_onItsOwn (s.raise f (s.addrFlash s.peerMember))
    exact ⟨hpair, hactive, htxQ⟩
  unfold State.peerGone
  split
  · exact s.alone_onItsOwn
  · split
    · exact halone .peerLost
    · split
      · obtain ⟨hpair, hactive, htxQ⟩ := halone .gusLost
        obtain ⟨htell, -⟩ := State.enterFault_onlyTells (s := (s.raise .gusLost (s.addrFlash s.peerMember)).alone)
          (by simpa using hsleep) (by simpa using hreset) (s.slot 8) false
        exact ⟨htell.pair.trans hpair, htell.active.trans hactive, htxQ.trans htell.txQ⟩
      · split
        · exact s.takeOver_onItsOwn
        · exact s.alone_onItsOwn

theorem State.peerGone_fault (hsleep : s.eng.state ≠ .sleep) (hreset : s.eng.inReset = false) (hpair : s.twin.pair ≠ .pairing)
    (hactive : s.twin.active = false) : (s.peerGone true).eng.state = .fault ∧ (s.peerGone true).waits s.now .gusLost (s.addrFlash s.peerMember) := by
  rw [State.peerGone_lives hpair hactive]
  obtain ⟨htell, hfault⟩ := State.enterFault_onlyTells (s := (s.raise .gusLost (s.addrFlash s.peerMember)).alone)
    (by simpa using hsleep) (by simpa using hreset) (s.slot 8) false
  exact ⟨hfault, htell.waits (State.alone_waits (State.waits_raise ..))⟩

end

/-! ## A heartbeat slot (R353) -/

section
variable {t lanes : Nat} {live : Bool} {s : State}

/-- What every slot does at first: the lanes' times, and this module's own HEARTBEAT. -/
def State.slotStart (lanes : Nat) (s : State) : State :=
  let v := s.updTwin fun w => { w with tx := w.tx.map s.gussetTimer }
  if v.cp.halted then v
  else (v.sendGusset (.heartbeat (v.now / usSteps) v.hello.engineState v.hello.role v.hello.pairState (lanes % 256) v.twin.lastApplied)).updTwin fun w =>
    { w with gusLive := !w.gusLive }

theorem State.slotStart_eq (lanes : Nat) (s : State) : s.slotStart lanes = { s with
    twin := { s.twin with tx := s.twin.tx.map s.gussetTimer, txQ := (s.slotStart lanes).twin.txQ, gusLive := (s.slotStart lanes).twin.gusLive } } := by
  unfold State.slotStart
  dsimp only
  split <;> rfl

theorem State.slotStart_queued (hrun : s.cp.halted = false) : (s.slotStart lanes).twin.txQ = s.twin.txQ ++
    [.heartbeat (s.now / 12800) s.eng.state.code s.hello.role s.hello.pairState (lanes % 256) s.twin.lastApplied] := by
  unfold State.slotStart
  rw [if_neg (by simpa [State.updTwin] using hrun)]
  rfl

theorem State.slotStart_keeps (lanes : Nat) (s : State) : let v := s.slotStart lanes
    (v.now = s.now ∧ v.eng = s.eng ∧ v.arb = s.arb ∧ v.tu = s.tu ∧ v.dram = s.dram ∧ v.feed = s.feed ∧ v.pending = s.pending) ∧
    v.twin.pair = s.twin.pair ∧ v.twin.active = s.twin.active ∧ v.twin.slotSeen = s.twin.slotSeen ∧ v.twin.missed = s.twin.missed := by
  rw [State.slotStart_eq]
  exact ⟨⟨rfl, rfl, rfl, rfl, rfl, rfl, rfl⟩, rfl, rfl, rfl, rfl⟩

/-- A slot that ends without the peer's HEARTBEAT counts. -/
def State.slotEnd (s : State) : State :=
  s.updTwin fun w => { w with slotSeen := false, missed := if s.twin.slotSeen then 0 else s.twin.missed + 1 }

theorem execHeartbeatSlot_between (h : (s.atTime t).now % 12800 ≠ 0) : exec (.heartbeatSlot t live lanes) s = .next (s.atTime t) :=
  congrArg Host.Outcome.next (if_pos (by rw [Bool.or_eq_true]; exact .inr (decide_eq_true h)))

/-- What a slot does to the pair after its HEARTBEAT. -/
def State.slotJudge (live : Bool) (s : State) : State :=
  if s.twin.pair = .alone then s else if s.slotEnd.twin.missed = 3 then s.slotEnd.peerGone live else s.slotEnd

theorem execHeartbeatSlot_slot (hon : (s.atTime t).gussetOn = true) (h : (s.atTime t).now % 12800 = 0) :
    exec (.heartbeatSlot t live lanes) s = .next (((s.atTime t).slotStart lanes).slotJudge live) :=
  congrArg Host.Outcome.next (if_neg (by rw [Bool.or_eq_true, not_or]; exact ⟨by simp [hon], by rw [decide_eq_true_eq, not_not]; exact h⟩))

theorem State.slotJudge_frame (live : Bool) (s : State) : let u := s.slotJudge live
    u.tu = s.tu ∧ u.dram = s.dram ∧ u.feed = s.feed ∧ u.pending = s.pending := by
  unfold State.slotJudge
  (repeat' split) <;> simp [State.slotEnd]

theorem State.slotJudge_alone (h : s.twin.pair = .alone) : s.slotJudge live = s := if_pos h

section
variable (hpair : s.twin.pair ≠ .alone)
include hpair

theorem State.slotJudge_stays (h : s.slotEnd.twin.missed ≠ 3) : s.slotJudge live = s.slotEnd := (if_neg hpair).trans (if_neg h)

theorem State.slotJudge_seen (hseen : s.twin.slotSeen = true) :
    s.slotJudge live = { s with twin := { s.twin with slotSeen := false, missed := 0 } } := by
  rw [State.slotJudge_stays hpair (by simp [State.slotEnd, State.updTwin, hseen]), State.slotEnd, hseen]
  rfl

theorem State.slotJudge_missed (hseen : s.twin.slotSeen = false) (hmissed : s.twin.missed ≠ 2) :
    s.slotJudge live = { s with twin := { s.twin with slotSeen := false, missed := s.twin.missed + 1 } } := by
  rw [State.slotJudge_stays hpair (by simpa [State.slotEnd, State.updTwin, hseen] using hmissed), State.slotEnd, hseen]
  rfl

theorem State.slotJudge_third (hseen : s.twin.slotSeen = false) (hmissed : s.twin.missed = 2) : s.slotJudge live = s.slotEnd.peerGone live :=
  (if_neg hpair).trans (if_pos (by simp [State.slotEnd, State.updTwin, hseen, hmissed]))

end

theorem State.slotJudge_txQ (hsleep : s.eng.state ≠ .sleep) (hreset : s.eng.inReset = false) : s.twin.txQ <+: (s.slotJudge live).twin.txQ := by
  unfold State.slotJudge
  split
  · exact ⟨[], List.append_nil _⟩
  · split
    · exact (State.peerGone_onItsOwn (s := s.slotEnd) hsleep hreset live).txQ
    · exact ⟨[], List.append_nil _⟩

end

/-! ## The peer's HEARTBEAT (R338, R353) -/

section
variable {lanes : Nat} {s : State}

theorem exec_heartbeat_dropped {t slot es role ps applied : Nat} {h : MsgHdr}
    (hdrop : (GMsg.heartbeat slot es role ps lanes applied).good h = false ∨ h.src ≠ s.peerMember) :
    exec (.heartbeat t h slot es role ps lanes applied) s = .next (s.atTime t) := by
  refine congrArg Host.Outcome.next (if_pos ?_)
  rw [Bool.or_eq_true, Bool.or_eq_true]
  rcases hdrop with hbad | hsrc
  · exact .inl (.inr (by simp [hbad]))
  · exact .inr (bne_iff_ne.2 hsrc)

/-- A transmit lane's state after the peer's LOCK and TRAINED. -/
def LaneState.onBits (lanes k : Nat) (x : LaneState) : LaneState :=
  match x with
  | .train => if lanes.testBit (4 + k) then .align else .train
  | .align => if lanes.testBit k then .up else .align
  | .up => if lanes.testBit k then .up else .lost
  | x => x

def State.gusState (s : State) (k : Nat) : LaneState := (s.twin.tx.getD k {}).state

/-- Only the transmit lanes to the peer are judged. -/
structure State.OnlyLanes (s u : State) : Prop where
  frame : u = { s with arb := u.arb, twin := { s.twin with tx := u.twin.tx, txQ := u.twin.txQ, helloAt := u.twin.helloAt } }
  waits : ∀ {at' addr : Nat} {f : FaultName}, s.waits at' f addr → u.waits at' f addr

theorem State.OnlyLanes.trans {s v u : State} (hsv : s.OnlyLanes v) (hvu : v.OnlyLanes u) : s.OnlyLanes u := by
  refine ⟨?_, fun h => hvu.waits (hsv.waits h)⟩
  rw [hvu.frame, hsv.frame]

theorem State.gussetLane_onlyLanes (lanes : Nat) (s : State) (k : Nat) : s.OnlyLanes (s.gussetLane lanes k) := by
  unfold State.gussetLane
  dsimp only
  split
  · split
    · exact ⟨rfl, id⟩
    · exact ⟨rfl, id⟩
  · split
    · exact ⟨rfl, id⟩
    · exact ⟨rfl, id⟩
  · split
    · exact ⟨rfl, id⟩
    · exact ⟨rfl, fun h => State.waits.raise (s := s.updTwin fun w => { w with tx := listUpd w.tx k fun l => { l.cut s.now with state := .lost, since := s.now } }) h _ _⟩
  · exact ⟨rfl, id⟩

theorem gusState_listUpd {s u : State} {k : Nat} {f : Lane → Lane} (h : u.twin.tx = listUpd s.twin.tx k f) (hk : k < s.twin.tx.length) (j : Nat) :
    u.gusState j = if j = k then (f (s.twin.tx.getD k {})).state else s.gusState j := by
  rw [State.gusState, h]
  split
  next hj => rw [hj, listUpd_getD_same hk]
  next hj => rw [listUpd_getD_other hj]; rfl

theorem State.gussetLane_state (lanes : Nat) (s : State) (k j : Nat) :
    (s.gussetLane lanes k).gusState j = if j = k then (s.gusState k).onBits lanes k else s.gusState j := by
  have hkept {x : LaneState} (hx : s.gusState k = x) (h : x.onBits lanes k = x) : s.gusState j = if j = k then x.onBits lanes k else s.gusState j := by
    split
    next hj => rw [hj, hx, h]
    next => rfl
  have hlen (hx : s.gusState k ≠ .off) : k < s.twin.tx.length := by
    refine Decidable.byContradiction fun hk => hx ?_
    rw [State.gusState, List.getD_eq_default _ _ (Nat.le_of_not_lt hk)]
  unfold State.gussetLane
  dsimp only
  split
  next hst =>
    have hx : s.gusState k = .train := hst
    rw [hx]
    split
    next hbit => rw [gusState_listUpd rfl (hlen (by rw [hx]; decide)), LaneState.onBits, if_pos hbit]
    next hbit => exact hkept hx (if_neg hbit)
  next hst =>
    have hx : s.gusState k = .align := hst
    rw [hx]
    split
    next hbit => rw [gusState_listUpd (f := fun l => { l with state := .up, since := s.now }) rfl (hlen (by rw [hx]; decide)), LaneState.onBits, if_pos hbit]
    next hbit => exact hkept hx (if_neg hbit)
  next hst =>
    have hx : s.gusState k = .up := hst
    rw [hx]
    split
    next hbit => exact hkept hx (if_pos hbit)
    next hbit =>
      rw [gusState_listUpd (f := fun l => { l.cut s.now with state := .lost, since := s.now }) rfl (hlen (by rw [hx]; decide)), LaneState.onBits, if_neg hbit]
  next htrain halign hup =>
    refine hkept rfl ?_
    unfold LaneState.onBits
    split
    next hx => exact absurd hx htrain
    next hx => exact absurd hx halign
    next hx => exact absurd hx hup
    next => rfl

theorem State.gussetLane_waits {k : Nat} (hup : s.gusState k = .up) (hbit : lanes.testBit k = false) :
    (s.gussetLane lanes k).waits s.now .gusLane (s.addrSub s.peerMember k) := by
  have hst : (s.twin.tx.getD k {}).state = .up := hup
  unfold State.gussetLane
  simp only [hst, hbit]
  exact State.waits_raise ..

/-- The lanes are judged one by one, each by its own two bits. -/
theorem State.foldl_gussetLane (lanes : Nat) {l : List Nat} (hl : l.Nodup) (s : State) : let u := l.foldl (State.gussetLane lanes) s
    s.OnlyLanes u ∧ (∀ k, u.gusState k = if k ∈ l then (s.gusState k).onBits lanes k else s.gusState k) ∧
    ∀ k ∈ l, s.gusState k = .up → lanes.testBit k = false → u.waits s.now .gusLane (s.addrSub s.peerMember k) := by
  induction l generalizing s with
  | nil => exact ⟨⟨rfl, id⟩, fun k => by simp, by simp⟩
  | cons k l ih =>
    obtain ⟨hk, hl⟩ := List.nodup_cons.1 hl
    obtain ⟨hlanes, hstate, hwaits⟩ := ih hl (s.gussetLane lanes k)
    have hfirst := s.gussetLane_onlyLanes lanes k
    refine ⟨hfirst.trans hlanes, fun j => ?_, fun j hj hup hbit => ?_⟩
    · rw [List.foldl_cons, hstate, State.gussetLane_state]
      by_cases hjk : j = k
      · subst hjk
        simp [hk]
      · simp [hjk]
    · rw [List.foldl_cons]
      by_cases hjk : j = k
      · subst hjk
        exact hlanes.waits (State.gussetLane_waits hup hbit)
      · have hnow := hwaits j (by simpa [hjk] using hj) (by rw [State.gussetLane_state, if_neg hjk, hup]) hbit
        rw [hfirst.frame] at hnow
        rw [hfirst.frame]
        exact hnow

theorem State.pairUp_eq (s : State) : ∃ p, s.pairUp = { s with twin := { s.twin with pair := p } } ∧ (s.twin.pair ≠ .joining → p = s.twin.pair) := by
  unfold State.pairUp
  split
  next h =>
    simp only [Bool.and_eq_true, beq_iff_eq] at h
    exact ⟨.paired, rfl, fun hnot => absurd h.1.1 hnot⟩
  next => exact ⟨s.twin.pair, rfl, fun _ => rfl⟩

/-- What the good HEARTBEAT of the peer does. -/
def State.beat (lanes applied : Nat) (s : State) : State :=
  let v := (s.gussetLanes lanes).updTwin fun w => { w with slotSeen := true }
  if v.twin.pair == .joining || v.twin.pair == .paired then
    (v.updTwin fun w => { w with applied := some applied, joined := w.joined || (w.active && applied != 0) }).pairUp
  else v

theorem exec_heartbeat_good {t slot es role ps applied : Nat} {h : MsgHdr} (hon : (s.atTime t).gussetOn = true)
    (hgood : (GMsg.heartbeat slot es role ps lanes applied).good h = true) (hsrc : h.src = s.peerMember) :
    exec (.heartbeat t h slot es role ps lanes applied) s = .next ((s.atTime t).beat (lanes % 256) applied) := by
  refine congrArg Host.Outcome.next (if_neg ?_)
  rw [Bool.or_eq_true, Bool.or_eq_true, hon, hgood, bne_iff_ne]
  simp only [Bool.not_true, Bool.false_eq_true, or_self, false_or, not_not]
  exact hsrc

theorem State.beat_lanes (lanes applied : Nat) (s : State) : let u := s.beat lanes applied
    u = { s with twin := u.twin, arb := u.arb } ∧ u.twin.slotSeen = true ∧ u.twin.lanes = lanes ∧
    (s.twin.pair = .paired → u.twin.applied = some applied ∧ u.twin.pair = .paired) ∧
    u.arb = (s.gussetLanes lanes).arb ∧ u.twin.tx = (s.gussetLanes lanes).twin.tx := by
  obtain ⟨hlanes, -, -⟩ := s.foldl_gussetLane lanes (l := List.range 4) List.nodup_range
  have hframe := hlanes.frame
  have hset : s.gussetLanes lanes = { s with arb := (s.gussetLanes lanes).arb, twin := { s.twin with
      tx := (s.gussetLanes lanes).twin.tx, txQ := (s.gussetLanes lanes).twin.txQ, helloAt := (s.gussetLanes lanes).twin.helloAt, lanes := lanes } } := by
    rw [State.gussetLanes, hframe]
    rfl
  unfold State.beat
  generalize s.gussetLanes lanes = v at hset
  have hpair : v.twin.pair = s.twin.pair := by rw [hset]
  have hbits : v.twin.lanes = lanes := by rw [hset]
  have hrest : v = { s with twin := v.twin, arb := v.arb } := by rw [hset]
  dsimp only
  split
  next h =>
    obtain ⟨p, hp, hkeep⟩ := State.pairUp_eq ((v.updTwin fun w => { w with slotSeen := true }).updTwin fun w =>
      { w with applied := some applied, joined := w.joined || (w.active && applied != 0) })
    rw [hp]
    refine ⟨?_, rfl, hbits, fun hpaired => ⟨rfl, (hkeep ?_).trans (hpair.trans hpaired)⟩, rfl, rfl⟩
    · rw [hrest]
      rfl
    · exact ne_of_eq_of_ne (hpair.trans hpaired) (by decide)
  next h =>
    refine ⟨?_, rfl, hbits, fun hpaired => absurd ?_ h, rfl, rfl⟩
    · rw [hrest]
      rfl
    · simp [State.updTwin, hpair, hpaired]

end

section
variable (s : State) (applied : Nat) {lanes k : Nat} (hk : k < 4)
include hk

theorem State.beat_state : (s.beat lanes applied).gusState k = (s.gusState k).onBits lanes k := by
  obtain ⟨-, -, -, -, -, htx⟩ := s.beat_lanes lanes applied
  obtain ⟨-, hstate, -⟩ := s.foldl_gussetLane lanes (l := List.range 4) List.nodup_range
  rw [State.gusState, htx]
  exact (hstate k).trans (if_pos (List.mem_range.2 hk))

theorem State.beat_waits (hup : s.gusState k = .up) (hbit : lanes.testBit k = false) :
    (s.beat lanes applied).waits s.now .gusLane (s.addrSub s.peerMember k) := by
  obtain ⟨-, -, -, -, harb, -⟩ := s.beat_lanes lanes applied
  obtain ⟨-, -, hwaits⟩ := s.foldl_gussetLane lanes (l := List.range 4) List.nodup_range
  rw [State.waits_congr harb]
  exact hwaits k (List.mem_range.2 hk) hup hbit

end

/-! ## Pairing ends, and the rest of the pair's timers (R341, R343, R344, R352, R356) -/

section
variable {t : Nat} {s : State}

section
variable {s1 r1 s2 r2 sec ns frac inc : Nat}

theorem execPairingComplete_idle (h : s.twin.pair ≠ .pairing) : exec (.pairingComplete t s1 r1 s2 r2 sec ns frac inc) s = .next (s.atTime t) :=
  congrArg Host.Outcome.next (if_pos (bne_iff_ne.2 h))

/-- What the active twin's pairing ends with. -/
def State.joining (s : State) : State := s.updTwin fun w => { w with pair := .joining, joined := false, applied := none, lastApplied := 0 }

theorem execPairingComplete_pairing (h : s.twin.pair = .pairing) : exec (.pairingComplete t s1 r1 s2 r2 sec ns frac inc) s = .next
    (State.joining (if (s.atTime t).standby then
        ((s.atTime t).shiftSteps (roundHalfUp (((r1 : Int) - s1) - ((r2 : Int) - s2)) 128 * 64)).updTu fun u =>
          { u with sec := sec % 2 ^ 48, ns := ns % 1000000000, frac := frac % 2 ^ 32, inc := inc % 2 ^ 40 }
      else s.atTime t)) := by
  refine congrArg Host.Outcome.next (if_neg ?_)
  rw [bne_iff_ne, not_not]
  exact h

theorem execPairingComplete_active (h : s.twin.pair = .pairing) (hactive : s.twin.active = true) :
    exec (.pairingComplete t s1 r1 s2 r2 sec ns frac inc) s = .next (s.atTime t).joining := by
  rw [execPairingComplete_pairing h, if_neg (by simp [State.standby, hactive])]

theorem execPairingComplete_standby (h : s.twin.pair = .pairing) (hactive : s.twin.active = false) :
    ∃ u, exec (.pairingComplete t s1 r1 s2 r2 sec ns frac inc) s = .next u ∧
      u.now = (((s.atTime t).now : Int) - roundHalfUp (((r1 : Int) - s1) - ((r2 : Int) - s2)) 128 * 64).toNat ∧ u.twin.pair = .joining ∧
      u.tu = { (s.atTime t).tu with sec := sec % 2 ^ 48, ns := ns % 1000000000, frac := frac % 2 ^ 32, inc := inc % 2 ^ 40 } ∧
      u.eng = s.eng ∧ u.br = s.br ∧ u.mb = s.mb ∧ u.cal = s.cal ∧ u.jr = s.jr ∧ u.dram = s.dram := by
  rw [execPairingComplete_pairing h, if_pos (by simp [State.standby, hactive])]
  exact ⟨_, rfl, rfl, rfl, rfl, rfl, rfl, rfl, rfl, rfl, rfl⟩

end

theorem exec_liveLost (t : Nat) (s : State) : exec (.liveLost t) s = .next (if s.twin.pair = .alone then s.atTime t else
    { s.atTime t with arb := { (s.atTime t).arb with faultQ := (s.atTime t).arb.faultQ ++
      [{ at' := (s.atTime t).now, name := .liveLost, addr := s.addrFlash s.peerMember % 2 ^ 48 }] } }) := rfl

theorem exec_digestTimeout {d : Dig} (hown : d.own = true) (hd : s.twin.digests = [d]) :
    exec (.digestTimeout t d.flash d.epoch) s = .next (if d.at' + 10 * 12800 ≤ (s.atTime t).now then
      { s.atTime t with twin := { (s.atTime t).twin with digests := [], digestMissing := (s.atTime t).twin.digestMissing + 1 } } else s.atTime t) := by
  have hd' : (s.atTime t).twin.digests = [d] := hd
  show execDigestTimeout t d.flash d.epoch s = _
  unfold execDigestTimeout
  by_cases hdue : d.at' + 10 * 12800 ≤ (s.atTime t).now
  · have hany : decide (d.at' + 10 * usSteps ≤ (s.atTime t).now) = true := decide_eq_true hdue
    simp only [hd', List.any_cons, beq_self_eq_true, hown, hany, Bool.and_true, Bool.true_or, if_true, if_pos hdue]
    simp only [State.updTwin, hd', List.filter_cons, beq_self_eq_true, hown, hany]
    rfl
  · have hany : decide (d.at' + 10 * usSteps ≤ (s.atTime t).now) = false := decide_eq_false hdue
    simp only [hd', List.any_cons, hany, Bool.and_false, List.any_nil, Bool.or_false, if_neg hdue]
    rfl

theorem State.deliverHeld_none (h : s.twin.rxHeld = []) (fuel : Nat) : s.deliverHeld fuel = s := by
  cases fuel with
  | zero => rfl
  | succ fuel =>
    have hnone : (s.twin.rxNext.bind fun n => s.twin.rxHeld.find? (·.1 == n)) = none := by
      rw [h]
      cases s.twin.rxNext <;> rfl
    rw [State.deliverHeld, hnone]

theorem execGusGap_idle (h : s.twin.rxHeld = [] ∨ s.twin.rxNext = none ∨ ∀ x ∈ s.twin.rxHeld, (s.atTime t).now < x.2.1 + 2 * 12800) :
    exec (.gusGap t) s = .next (s.atTime t) := by
  show execGusGap t s = _
  unfold execGusGap
  refine congrArg Host.Outcome.next ?_
  split
  next n k x hnext hfirst =>
    rcases h with hheld | hnone | hwait
    · rw [show (s.atTime t).twin.rxHeld = [] from hheld] at hfirst
      exact absurd hfirst nofun
    · exact absurd (hnext.symm.trans hnone) nofun
    · refine if_pos ?_
      rw [Bool.not_eq_true', List.any_eq_false]
      intro x hx
      simpa [usSteps] using hwait x hx
  next => rfl

theorem execGusGap_slack {n k a khz : Nat} (hnext : s.twin.rxNext = some n) (hheld : s.twin.rxHeld = [(k, a, .slack khz)])
    (hdue : a + 2 * 12800 ≤ (s.atTime t).now) (hpair : s.twin.pair ≠ .alone) : exec (.gusGap t) s = .next { s.atTime t with
      arb := { (s.atTime t).arb with faultQ := (s.atTime t).arb.faultQ ++ [{ at' := (s.atTime t).now, name := .gusGap, addr := s.addrFlash s.peerMember % 2 ^ 48 }] }
      twin := { (s.atTime t).twin with rxNext := some ((k + 1) % 2 ^ 32), rxHeld := [] }, slack := { (s.atTime t).slack with peer := some khz, peerAge := 0 } } := by
  have hnext' : (s.atTime t).twin.rxNext = some n := hnext
  have hheld' : (s.atTime t).twin.rxHeld = [(k, a, .slack khz)] := hheld
  have hany : decide (a + 2 * usSteps ≤ (s.atTime t).now) = true := decide_eq_true hdue
  show execGusGap t s = _
  unfold execGusGap
  simp only [hnext', hheld', minBy, List.any_cons, hany, Bool.true_or, Bool.not_true, Bool.false_eq_true, if_false]
  refine congrArg Host.Outcome.next ?_
  rw [State.deliverHeld]
  simp only [State.updTwin, State.raise, hheld', Option.bind_some, List.find?_cons, beq_self_eq_true, List.filter_cons, bne_self_eq_false,
    Bool.false_eq_true, if_false, List.filter_nil]
  rw [State.deliver, if_neg (by exact hpair), State.deliverHeld_none (by rfl)]
  rfl

theorem execHelloBroadcast_gusset (hon : (s.atTime t).gussetOn = true) :
    exec (.helloBroadcast t false) s = .next (if ∀ a, (s.atTime t).twin.helloAt = some a → a + 100 * 12800 ≤ (s.atTime t).now then
      { s.atTime t with twin := { (s.atTime t).twin with txQ := (s.atTime t).twin.txQ ++ [.hello (s.atTime t).hello], helloAt := some (s.atTime t).now } } else s.atTime t) := by
  refine congrArg Host.Outcome.next ((if_neg Bool.false_ne_true).trans ?_)
  simp only [Bool.and_eq_true, hon, true_and, State.dueAfter_iff]
  rfl

theorem execHelloBroadcast_idle (h : ¬((s.atTime t).ringOn = true ∧ ∀ a, s.ring.helloSent = some a → a + 1000 * 12800 ≤ (s.atTime t).now)) :
    exec (.helloBroadcast t true) s = .next (s.atTime t) := by
  refine congrArg Host.Outcome.next ((if_pos rfl).trans (if_neg ?_))
  rw [Bool.and_eq_true, State.dueAfter_iff]
  exact h

theorem execHelloBroadcast_due (hon : (s.atTime t).ringOn = true) (h : ∀ a, s.ring.helloSent = some a → a + 1000 * 12800 ≤ (s.atTime t).now) :
    ∃ u bytes, exec (.helloBroadcast t true) s = .next u ∧ u = { s.atTime t with out := u.out, ring := u.ring, fc := u.fc } ∧
      u.out = (s.atTime t).out ++ [.stitch true true s.member s.ring.txMseq 7 (.hello (s.atTime t).hello) bytes] ∧ u.ring.helloSent = some (s.atTime t).now ∧
      u.ring.txMseq = (s.ring.txMseq + 1) % 2 ^ 32 := by
  obtain ⟨bytes, hsend⟩ := (s.atTime t).sendStitch_eq (.hello (s.atTime t).hello)
  refine ⟨((s.atTime t).sendStitch (.hello (s.atTime t).hello)).updRing fun r => { r with helloSent := some (s.atTime t).now }, bytes,
    congrArg Host.Outcome.next ((if_pos rfl).trans (if_pos ?_)), ?_, ?_, rfl, ?_⟩
  · rw [Bool.and_eq_true, State.dueAfter_iff]
    exact ⟨hon, h⟩
  · rw [State.updRing, hsend]
  · exact congrArg State.out hsend
  · exact congrArg (·.ring.txMseq) hsend

end

/-- A HEARTBEAT_SLOT clause by clause: what every slot leaves, the peer seen, missed, and missed for the third time. -/
theorem execHeartbeatSlot_spec {t lanes : Nat} {live : Bool} {s : State} (hon : (s.atTime t).gussetOn = true) (hsleep : s.eng.state ≠ .sleep)
    (hreset : s.eng.inReset = false) (h : (s.atTime t).now % 12800 = 0) : ∃ u, exec (.heartbeatSlot t live lanes) s = .next u ∧
      u.tu = (s.atTime t).tu ∧ u.dram = s.dram ∧ u.feed = s.feed ∧ u.pending = s.pending ∧
      (s.cp.halted = false → .heartbeat ((s.atTime t).now / 12800) s.eng.state.code (s.atTime t).hello.role (s.atTime t).hello.pairState (lanes % 256)
        s.twin.lastApplied ∈ u.twin.txQ) ∧
      (s.twin.pair = .alone → u.eng = s.eng ∧ u.arb = s.arb ∧ u.twin.pair = .alone) ∧
      (s.twin.pair ≠ .alone → s.twin.slotSeen = true → u.twin.missed = 0 ∧ u.twin.slotSeen = false ∧ u.twin.pair = s.twin.pair ∧ u.eng = s.eng ∧ u.arb = s.arb) ∧
      (s.twin.pair ≠ .alone → s.twin.slotSeen = false → s.twin.missed ≠ 2 → u.twin.missed = s.twin.missed + 1 ∧ u.twin.pair = s.twin.pair ∧ u.eng = s.eng ∧ u.arb = s.arb) ∧
      (s.twin.pair ≠ .alone → s.twin.slotSeen = false → s.twin.missed = 2 → u.twin.pair = .alone ∧ u.twin.active = true ∧
        (s.twin.pair ≠ .pairing → s.twin.active = true → u.eng = s.eng ∧ ∃ a, u.waits (s.atTime t).now .peerLost a) ∧
        (s.twin.pair ≠ .pairing → s.twin.active = false → live = true → u.eng.state = .fault ∧ ∃ a, u.waits (s.atTime t).now .gusLost a) ∧
        (s.twin.pair = .paired → s.twin.active = false → live = false → (s.eng.state ≠ .seam → u.eng = s.eng) ∧ ∃ a, u.waits (s.atTime t).now .takeover a)) := by
  obtain ⟨⟨hnow, heng, harb, htu, hdram, hfeed, hpending⟩, hpair, hactive, hseen, hmissed⟩ := (s.atTime t).slotStart_keeps lanes
  have hqueued : s.cp.halted = false → _ := (s.atTime t).slotStart_queued (lanes := lanes)
  refine ⟨_, execHeartbeatSlot_slot hon h, ?_⟩
  generalize (s.atTime t).slotStart lanes = v at *
  have heng' : v.eng = s.eng := heng
  have hpair' : v.twin.pair = s.twin.pair := hpair
  have hactive' : v.twin.active = s.twin.active := hactive
  obtain ⟨htu', hdram', hfeed', hpending'⟩ := v.slotJudge_frame live
  refine ⟨htu'.trans htu, hdram'.trans hdram, hfeed'.trans hfeed, hpending'.trans hpending, fun hrun => ?_, fun ha => ?_, fun ha hs => ?_,
    fun ha hs hm => ?_, fun ha hs hm => ?_⟩
  · refine (State.slotJudge_txQ (by rwa [heng']) (by rwa [heng'])).subset ?_
    rw [hqueued hrun]
    exact List.mem_append_right _ (List.mem_singleton_self _)
  · rw [State.slotJudge_alone (hpair'.trans ha)]
    exact ⟨heng, harb, hpair'.trans ha⟩
  · rw [State.slotJudge_seen (hpair' ▸ ha) (hseen.trans hs)]
    exact ⟨rfl, rfl, hpair, heng, harb⟩
  · rw [State.slotJudge_missed (hpair' ▸ ha) (hseen.trans hs) (hmissed ▸ hm)]
    exact ⟨congrArg (· + 1) hmissed, hpair, heng, harb⟩
  · rw [State.slotJudge_third (hpair' ▸ ha) (hseen.trans hs) (hmissed.trans hm)]
    have hnow' : v.slotEnd.now = (s.atTime t).now := hnow
    have hslot : v.slotEnd.eng = s.eng := heng'
    have hown := State.peerGone_onItsOwn (s := v.slotEnd) (live := live) (by exact heng' ▸ hsleep) (by exact heng' ▸ hreset)
    refine ⟨hown.pair, hown.active, fun hp hac => ?_, fun hp hac hl => ?_, fun hp hac hl => ?_⟩
    · rw [State.peerGone_active (s := v.slotEnd) (by exact hpair' ▸ hp) (hactive'.trans hac), ← hnow']
      exact ⟨by simpa using hslot, _, State.alone_waits (State.waits_raise ..)⟩
    · subst hl
      rw [← hnow']
      obtain ⟨hfault, hwaits⟩ := State.peerGone_fault (s := v.slotEnd) (by exact heng' ▸ hsleep) (by exact heng' ▸ hreset) (by exact hpair' ▸ hp) (hactive'.trans hac)
      exact ⟨hfault, _, hwaits⟩
    · subst hl
      obtain ⟨hkeep, hwaits⟩ := v.slotEnd.takeOver_keeps
      have hpaired : (v.twin.pair == .paired) = true := beq_iff_eq.2 (hpair'.trans hp)
      rw [State.peerGone_silent (s := v.slotEnd) (by rw [show v.slotEnd.twin.pair = s.twin.pair from hpair', hp]; decide) (hactive'.trans hac),
        if_pos (show v.slotEnd.paired = true from hpaired), ← hnow']
      exact ⟨fun hseam => (hkeep (by exact heng' ▸ hseam)).trans heng', _, hwaits⟩

/-- Settles O50: how pairing ends, then a slot, a heartbeat, and the pair's timers one by one. -/
theorem pairEvents : Obligations.PairEvents := by
  unfold Obligations.PairEvents
  intro t s hsleep hboot hreset s'
  have hon : s'.gussetOn = true := by simp [State.gussetOn, s', hsleep, hboot, hreset]
  refine ⟨fun s1 r1 s2 r2 sec ns frac inc => ⟨execPairingComplete_idle, execPairingComplete_active, execPairingComplete_standby⟩,
    fun live lanes => execHeartbeatSlot_between, fun live lanes => execHeartbeatSlot_spec hon hsleep hreset,
    fun h slot es role ps lanes applied => ⟨exec_heartbeat_dropped, fun hgood hsrc => ?_⟩, exec_liveLost t s,
    fun d hown hd => exec_digestTimeout hown hd, execGusGap_idle, fun n k a khz hnext hheld hdue hpair => execGusGap_slack hnext hheld hdue hpair,
    execHelloBroadcast_gusset hon, fun hidle => execHelloBroadcast_idle fun hboth => hidle ⟨?_, hboth.2⟩, fun hdue => ?_⟩
  · obtain ⟨hframe, hslot, hbits, hpaired, -, -⟩ := s'.beat_lanes (lanes % 256) applied
    exact ⟨_, exec_heartbeat_good hon hgood hsrc, hframe, hslot, hbits, hpaired, fun k hk => s'.beat_state applied hk,
      fun k hk hup hbit => s'.beat_waits applied hk hup hbit⟩
  · exact of_decide_eq_true ((Bool.and_eq_true _ _).mp hboth.1).1
  · exact execHelloBroadcast_due (State.atTime_ringOn hdue.1 hsleep hboot hreset) hdue.2

end Sys2Proof.Machine
end

section
/-! PROOFS. 11 R341, R347 to R352, R358; 07 R213: a message of the peer on Gusset, when it is taken and what each one
does then. -/

namespace Sys2Proof.Machine
open Sys2Proof

/-! ## Receiving on Gusset (R341) -/

/-- A copy of the last message is one behind the next. -/
theorem wrapS_last (a : Nat) : wrapS 32 ((a : Int) - ((a + 1) % 2 ^ 32 : Nat)) = -1 := by
  have hmod : ((a : Int) - ((a + 1) % 2 ^ 32 : Nat)).emod (2 ^ 32) = 2 ^ 32 - 1 := by
    show ((a : Int) - ((a + 1) % 2 ^ 32 : Nat)) % (2 ^ 32) = 2 ^ 32 - 1
    omega
  unfold wrapS
  rw [hmod]
  decide

section
variable {h : MsgHdr} {m : GMsg} {s : State}

theorem State.gussetRx_dropped (hdrop : m.good h = false ∨ h.src ≠ s.peerMember ∨ (s.twin.rxNext = some ((h.mseq + 1) % 2 ^ 32) ∧ h.mseq < 2 ^ 32)) :
    s.gussetRx h m = s := by
  unfold State.gussetRx
  split
  next => rfl
  next hrx =>
    simp only [Bool.or_eq_true, not_or, Bool.not_eq_true', bne_iff_ne, not_not, Bool.not_eq_false] at hrx
    obtain ⟨⟨-, hgood⟩, hsrc⟩ := hrx
    obtain hbad | hother | ⟨hlast, -⟩ := hdrop
    · exact absurd hgood (by simp [hbad])
    · exact absurd hsrc hother
    · refine if_pos ?_
      rw [hlast, Option.getD_some, wrapS_last h.mseq]
      decide

section
variable (hon : s.gussetOn = true) (hgood : m.good h = true) (hsrc : h.src = s.peerMember)
include hon hgood hsrc

theorem State.gussetRx_taken : s.gussetRx h m =
    let n := s.twin.rxNext.getD h.mseq
    let d := wrapS 32 ((h.mseq : Int) - n)
    if d < 0 then s
    else if d = 0 then ((s.updTwin fun w => { w with rxNext := some ((n + 1) % 2 ^ 32) }).deliver m).deliverHeld 64
    else if s.twin.rxHeld.any (·.1 == h.mseq) then s
    else s.updTwin fun w => { w with rxHeld := w.rxHeld ++ [(h.mseq, s.now, m)] } :=
  if_neg (by simp [hon, hgood, hsrc])

theorem State.gussetRx_early {n : Nat} (hnext : s.twin.rxNext = some n) (hd : 0 < wrapS 32 ((h.mseq : Int) - n)) :
    s.gussetRx h m = if s.twin.rxHeld.any (·.1 == h.mseq) then s else
      { s with twin := { s.twin with rxHeld := s.twin.rxHeld ++ [(h.mseq, s.now, m)] } } := by
  rw [State.gussetRx_taken hon hgood hsrc, hnext, Option.getD_some]
  exact (if_neg (by omega)).trans (if_neg (by omega))

/-- The message whose turn it is. -/
def State.turn (h : MsgHdr) (s : State) : State := s.updTwin fun w => { w with rxNext := some ((h.mseq + 1) % 2 ^ 32) }

theorem State.gussetRx_next (hnext : s.twin.rxNext = none ∨ s.twin.rxNext = some h.mseq) (hkeep : ((s.turn h).deliver m).twin.rxHeld = []) :
    s.gussetRx h m = (s.turn h).deliver m := by
  have hn : s.twin.rxNext.getD h.mseq = h.mseq := by
    obtain hnext | hnext := hnext <;> rw [hnext] <;> rfl
  have hd : wrapS 32 ((h.mseq : Int) - h.mseq) = 0 := by
    rw [Int.sub_self]
    decide
  rw [State.gussetRx_taken hon hgood hsrc, hn]
  exact (if_neg (by omega)).trans ((if_pos hd).trans (State.deliverHeld_none hkeep 64))

end

end

/-! ## What each message does (R347 to R352, R358) -/

section
variable {s : State}

theorem State.deliver_slack (khz : Nat) (s : State) :
    s.deliver (.slack khz) = if s.twin.pair = .alone then s else { s with slack := { s.slack with peer := some khz, peerAge := 0 } } := rfl

theorem State.deliver_state (cycle sect offset : Nat) (data : List Byte) (s : State) : s.deliver (.state cycle sect offset data) =
    { s with twin := { s.twin with image := s.twin.image.filter (·.1 == cycle) ++ [(cycle, sect, offset, data)] } } := rfl

/-- A standby of a pair that is joining or joined follows the active twin. -/
theorem State.follows_iff : s.follows = true ↔ s.twin.active = false ∧ (s.twin.pair = .joining ∨ s.twin.pair = .paired) := by
  simp [State.follows, State.standby]

theorem State.follows_false_iff : s.follows = false ↔ ¬(s.twin.active = false ∧ (s.twin.pair = .joining ∨ s.twin.pair = .paired)) := by
  rw [← State.follows_iff, Bool.not_eq_true]

theorem State.deliver_setpoint (cycle c0 c1 : Nat) (s0 s1 : List Int) (s : State) : s.deliver (.setpoint cycle c0 c1 s0 s1) =
    if s.follows then { s with br := { s.br with copied := some { cycle := cycle, set0 := s0, set1 := s1, ctrl0 := c0, ctrl1 := c1 } } } else s := rfl

/-! ### STATE_END (R348) -/

theorem State.deliver_stateEnd_idle {cycle count : Nat} {crc : Word} {im : Image} (h : s.follows = false) : s.deliver (.stateEnd cycle count crc im) = s := by
  refine if_pos ?_
  cases hpair : s.twin.pair <;> simp_all [State.follows]

theorem State.deliver_stateEnd_empty {cycle : Nat} {crc : Word} {im : Image} (h : s.follows = true) (hempty : s.twin.image = []) :
    s.deliver (.stateEnd cycle 0 crc im) = if crc.toNat = crc64 cycle [] then s.applyImage im cycle else s.imageLost := by
  obtain ⟨hactive, hpair⟩ := State.follows_iff.1 h
  show s.stateEnd cycle 0 crc im = _
  unfold State.stateEnd
  rw [if_neg (by rcases hpair with hpair | hpair <;> simp [State.standby, hactive, hpair])]
  simp only [hempty, sortBy, List.filter_nil, List.foldl_nil, List.flatMap_nil, List.length_nil, decide_true, Bool.true_and, beq_iff_eq,
    eq_comm (a := crc.toNat)]

/-- An image that is not whole leaves the last one; at the third in a row the pair joins anew. -/
theorem State.imageLost_spec (hpair : s.twin.pair = .joining ∨ s.twin.pair = .paired) : let u := s.imageLost
    u = { s with arb := u.arb, twin := u.twin, cf := u.cf, out := u.out, fc := u.fc } ∧
      u.twin.snap = s.twin.snap ∧ u.twin.unapplied = (if s.twin.unapplied = 2 then 0 else s.twin.unapplied + 1) ∧
      u.twin.pair = (if s.twin.unapplied = 2 then .joining else s.twin.pair) ∧ u.twin.rxHeld = s.twin.rxHeld ∧
      u.waits s.now .gusGap (s.addrFlash s.peerMember) := by
  have hwaits := State.waits_raise .gusGap (s.addrFlash s.peerMember) s
  refine ⟨by ext1 <;> simp, ?_⟩
  unfold State.imageLost
  dsimp only
  split
  next hthird =>
    have hlost : s.twin.unapplied = 2 := by omega
    have hjoin : (if (s.twin.pair == .paired) = true then PairState.joining else s.twin.pair) = .joining := by
      obtain hpair | hpair := hpair <;> rw [hpair] <;> rfl
    refine ⟨by simp, by simp [hlost], ?_, by simp, ?_⟩
    · rw [if_pos hlost]
      simpa using hjoin
    · exact State.cuffStatus_onlyTells.waits hwaits
  next hless =>
    have hlost : s.twin.unapplied ≠ 2 := by omega
    exact ⟨by simp, by simp [hlost], by simp [hlost], by simp, hwaits⟩

/-! ### BAND (R350) -/

/-- What the peer's report leaves of a band. -/
def Band.told (outcome computed : Nat) (b : Band) : Band := { b with peerReleased := if outcome = 1 then some computed else none }

section
variable {stripe band outcome computed : Nat} {b : Band} (hb : s.band stripe band = some b)
include hb

theorem State.peerBand_eq : s.peerBand stripe band outcome computed =
    let v := ((s.updBand stripe band (Band.told outcome computed)).raiseUnless (!(outcome == 1 && b.polder == .released && b.computed != computed))
      .twinChequin (addrBand stripe band)).clearBandCauses
    if b.polder == .faulted && !v.bandReady stripe band then v.cause (.bandData stripe band) else v := by
  have hband : (s.updBand stripe band (Band.told outcome computed)).band stripe band = some (b.told outcome computed) :=
    State.band_updBand_same (f := Band.told outcome computed) (fun _ => ⟨rfl, rfl⟩) hb
  unfold State.peerBand
  rw [State.ensureBand_of_band hb]
  unfold Band.told at hband ⊢
  simp only [hband]

theorem State.peerBand_frame_eq : let u := s.peerBand stripe band outcome computed
    u = { s with bands := u.bands, arb := u.arb, hem := { s.hem with causes := u.hem.causes } } := by
  have hhem : (s.peerBand stripe band outcome computed).hem = { s.hem with causes := (s.peerBand stripe band outcome computed).hem.causes } := by
    rw [State.peerBand_eq hb]
    dsimp only
    split <;> simp [State.clearBandCauses]
  ext1 <;> simp
  rw [hhem]

theorem State.peerBand_band : (s.peerBand stripe band outcome computed).band stripe band = some (b.told outcome computed) := by
  rw [← State.band_updBand_same (f := Band.told outcome computed) (fun _ => ⟨rfl, rfl⟩) hb, State.peerBand_eq hb]
  refine State.band_congr ?_ ..
  dsimp only
  split <;> simp

theorem State.peerBand_waits (hout : outcome = 1) (hreleased : b.polder = .released) (hdiffer : b.computed ≠ computed) :
    (s.peerBand stripe band outcome computed).waits s.now .twinChequin (addrBand stripe band) := by
  have hraise := State.waits_raise .twinChequin (addrBand stripe band) (s.updBand stripe band (Band.told outcome computed))
  have hnot : (!(outcome == 1 && b.polder == .released && b.computed != computed)) = false := by simp [hout, hreleased, hdiffer]
  rw [State.peerBand_eq hb, hnot, hreleased]
  exact hraise

end

/-! ### DIGEST (R352) -/

theorem State.digestArrives_first {d : Dig} (h : s.twin.digests = []) : s.digestArrives d = { s with twin := { s.twin with digests := [d] } } := by
  rw [State.digestArrives, h]
  rfl

theorem State.digestArrives_other {d x : Dig} (h : s.twin.digests = [x]) (hflash : x.flash = d.flash) (hepoch : x.epoch = d.epoch) (hown : x.own ≠ d.own) :
    s.digestArrives d = ({ s with twin := { s.twin with digests := [] } } : State).raiseUnless (d.void || x.void || d.value == x.value) .twinDispatch
      ((s.member.xor 1) * 2 ^ 40 + d.flash % 2 ^ 40) := by
  have hfind : [x].find? (fun y => y.flash == d.flash && y.epoch == d.epoch && y.own != d.own) = some x :=
    List.find?_cons_of_pos (by simp [hflash, hepoch, hown])
  simp only [State.digestArrives, h, hfind, List.filter_cons, List.filter_nil, bne_self_eq_false, Bool.false_eq_true, if_false]
  rfl

/-- The two twins' digests of a flash are compared once, and are forgotten. -/
theorem State.digestArrives_compared {d x : Dig} (h : s.twin.digests = [x]) (hflash : x.flash = d.flash) (hepoch : x.epoch = d.epoch) (hown : x.own ≠ d.own) :
    let u := s.digestArrives d
    u = { s with twin := { s.twin with digests := [] }, arb := u.arb } ∧ ((d.void = true ∨ x.void = true ∨ d.value = x.value) → u.arb = s.arb) ∧
      (d.void = false → x.void = false → d.value ≠ x.value →
        ∃ a, u.arb.faultQ = s.arb.faultQ ++ [{ at' := s.now, name := .twinDispatch, addr := a }]) := by
  rw [State.digestArrives_other h hflash hepoch hown]
  refine ⟨?_, fun hsame => ?_, fun hd hx hvalue => ?_⟩
  · unfold State.raiseUnless
    split <;> rfl
  · rw [State.raiseUnless, if_pos (by simpa [or_assoc] using hsame)]
  · rw [State.raiseUnless, if_neg (by simp [hd, hx, hvalue])]
    exact ⟨_, rfl⟩

/-! ### TIME of kind 1, TAKEOVER, HELLO -/

theorem State.deliver_time_idle {ta tb : Nat} {corr : Int} (h : s.twin.pair ≠ .pairing) : s.deliver (.time 1 ta tb corr) = s :=
  if_pos (by simp [h])

theorem State.deliver_time_standby {ta tb : Nat} {corr : Int} (h : s.twin.pair = .pairing) (hactive : s.twin.active = false) :
    s.deliver (.time 1 ta tb corr) = { s with twin := { s.twin with timeExch := some (ta, s.now) } } :=
  (if_neg (by simp [h])).trans (if_pos (by simp [State.standby, State.updTwin, hactive]))

theorem State.deliver_time_active {ta tb : Nat} {corr : Int} (h : s.twin.pair = .pairing) (hactive : s.twin.active = true) :
    s.deliver (.time 1 ta tb corr) =
      let b := (s.now / s.servoPeriod + 1) * s.servoPeriod
      let w := s.tu.ticks (b / 64 - s.now / 64)
      { s with twin := { s.twin with timeExch := some (ta, s.now), txQ := s.twin.txQ ++ [.time 1 s.now s.now 0, .timeLoad b w.sec w.ns w.frac w.inc] } } := by
  refine (if_neg (by simp [h])).trans ((if_neg (by simp [State.standby, State.updTwin, hactive])).trans ?_)
  simp only [State.updTwin, State.sendGusset, List.append_assoc, List.singleton_append]
  rfl

theorem State.deliver_takeover_swap (cycle : Nat) (hactive : s.twin.active = false) :
    s.deliver (.takeover cycle 2) = { s with twin := { s.twin with swapDue := true } } :=
  if_pos (by simp [State.standby, hactive])

theorem State.deliver_takeover_left (cycle : Nat) (hactive : s.twin.active = true) (hpair : s.twin.pair ≠ .alone) :
    s.deliver (.takeover cycle 1) = s.alone := by
  show s.peerTakeover 1 = _
  unfold State.peerTakeover
  rw [if_neg (by simp), if_pos (by simp [hactive, hpair])]

theorem State.alone_left (s : State) : let u := s.alone
    u.twin.pair = .alone ∧ u.twin.active = true ∧ u.slack.peer = none ∧ u.twin.rxHeld = [] ∧ u.eng = s.eng ∧ u.hem = s.hem ∧ u.mb = s.mb ∧ u.arb = s.arb := by
  simp [State.alone]

/-- From Alone, with no job open on either side, the roles are those of the twins' places (R336). -/
theorem State.deliver_hello_alone {m : Hello} (hpair : s.twin.pair = .alone) (hjob : s.job = none) (hrole : m.role / 2 % 2 = 0) :
    s.deliver (.hello m) = { s with twin := { s.twin with
      peer := some m, peerDigest := some (BitVec.ofNat 64 m.configDigest), pair := .pairing, active := !s.eng.twinB, missed := 0, slotSeen := true
      txQ := s.twin.txQ ++ [.time 1 s.now 0 0] } } := by
  show s.peerHello m = _
  unfold State.peerHello
  simp [State.updTwin, State.jobOpen, State.sendGusset, hpair, hjob, hrole]

/-! ### COMMIT and WITHDRAW at a standby (07 R213) -/

theorem State.peerCommit_idle {r : FlashRec} {tn : Nat} {f : Int} (h : s.follows = false ∨ s.eng.state = .fault ∨ s.hem.stripe = none) :
    s.peerCommit r tn f = s := by
  unfold State.peerCommit
  split
  next => rfl
  next st hst =>
    refine if_pos ?_
    obtain h | h | h := h
    · simp [State.followsWrite, h]
    · simp [State.followsWrite, h]
    · exact absurd (hst.symm.trans h) nofun

/-- The shadow test of a flash only counts. -/
theorem State.shadowTest_hem (m : Nat) (s : State) : (s.shadowTest m).hem =
    { s.hem with shadowRaised := (s.shadowTest m).hem.shadowRaised, stats := (s.shadowTest m).hem.stats } := by
  unfold State.shadowTest
  split
  · split
    · rfl
    · split
      · rfl
      · rfl
  · rfl

/-- The record of a flash goes to Shuttle, and its time is tested. -/
theorem State.toShuttle_keeps (v : State) (r : FlashRec) (tn : Nat) : let u := (((v.captureCommit r tn).recordArrives r tn).takeSlots 2).shadowTest r.m
    u.hem = { v.hem with shadowRaised := u.hem.shadowRaised, stats := u.hem.stats } ∧ u.eng = v.eng := by
  have hhem : (((v.captureCommit r tn).recordArrives r tn).takeSlots 2).hem = v.hem := by simp
  exact ⟨hhem ▸ State.shadowTest_hem r.m _, by simp⟩

/-- A flash joins those that are committed. -/
def Hem.join (r : FlashRec) (tn endAt : Nat) (c : Committed) (h : Hem) : Hem :=
  { h with committed := h.committed ++ [c], mNext := r.m + 1, resync := false, tPrev := tn, endPrev := endAt, commitSince := true }

section
variable (r : FlashRec) (tn : Nat) (f : Int) {st : Stripe} (hfollows : s.follows = true) (hfault : s.eng.state ≠ .fault) (hst : s.hem.stripe = some st)
include hfollows hfault hst

/-- The flash joins the committed ones, then its record goes to Shuttle. -/
theorem State.peerCommit_eq : ∃ v : State, s.peerCommit r tn f = ((((v.captureCommit r tn).recordArrives r tn).takeSlots 2).shadowTest r.m) ∧
    v.eng.flashNext = r.flash + 1 ∧ ∃ (endAt : Nat) (c : Committed), v.hem = s.hem.join r tn endAt c ∧ c.record = r ∧ c.tn = tn ∧ c.f = f ∧ c.epoch = s.cf.epoch := by
  have hwrite : (!s.followsWrite) = false := by simp [State.followsWrite, hfollows, hfault]
  have hhem (re : Bool) (ex ey px py : Int) : (s.track re ex ey px py).2.hem = s.hem := by simp
  have hcf (re : Bool) (ex ey px py : Int) : (s.track re ex ey px py).2.cf = s.cf := by simp
  unfold State.peerCommit
  simp only [hst, hwrite, Bool.false_eq_true, if_false]
  refine ⟨_, rfl, rfl, ?_⟩
  exact ⟨_, _, congrArg (Hem.join r tn _ _) (hhem ..), rfl, rfl, rfl, congrArg Cuff.epoch (hcf ..)⟩

theorem State.peerCommit_spec : let u := s.peerCommit r tn f
    ∃ c, u.hem.committed = s.hem.committed ++ [c] ∧ c.record = r ∧ c.tn = tn ∧ c.f = f ∧ c.epoch = s.cf.epoch ∧ u.hem.mNext = r.m + 1 ∧
      u.eng.flashNext = r.flash + 1 ∧ u.hem.commitSince = true := by
  obtain ⟨v, hv, hnext, endAt, c, hhem, hrecord, htn, hf, hepoch⟩ := State.peerCommit_eq r tn f hfollows hfault hst
  obtain ⟨hafter, heng⟩ := v.toShuttle_keeps r tn
  rw [← hv] at hafter heng
  generalize s.peerCommit r tn f = u at *
  rw [hhem] at hafter
  refine ⟨c, ?_, hrecord, htn, hf, hepoch, ?_, by rw [heng, hnext], ?_⟩ <;> rw [hafter] <;> rfl

end

theorem State.peerCommit_keeps (r : FlashRec) (tn : Nat) (f : Int) (s : State) : let u := s.peerCommit r tn f
    u.out = s.out ∧ u.mb = s.mb ∧ u.feed = s.feed ∧ u.bands = s.bands ∧ u.job = s.job ∧ u.twin = s.twin := by
  simp

theorem State.peerWithdraw_keeps (flash epoch : Nat) (s : State) : let u := s.peerWithdraw flash epoch
    u.mb = s.mb ∧ u.feed = s.feed ∧ u.bands = s.bands ∧ u.job = s.job ∧ u.br = s.br ∧ u.twin = s.twin := by
  simp

theorem State.peerWithdraw_idle {flash epoch : Nat} (h : s.follows = false ∨ s.eng.state = .fault) : s.peerWithdraw flash epoch = s := by
  refine if_pos ?_
  obtain h | h := h <;> simp [State.followsWrite, h]

theorem State.sendControl_epoch (phys kind epoch seq stripe band flags : Nat) (tail : List Byte) (s : State) :
    (s.sendControl phys kind epoch seq stripe band flags tail).cf.epoch = s.cf.epoch := rfl

theorem State.takeSlots_epoch (n : Nat) (s : State) : (State.takeSlots n s).cf.epoch = s.cf.epoch := by
  obtain ⟨l, hl⟩ := State.takeSlots_cf n s
  rw [hl]

/-- Each withdrawal begins a new epoch (08 R240). -/
theorem State.cuffWithdraw_epoch (first : Nat) (s : State) : (s.cuffWithdraw first).cf.epoch = (s.cf.epoch + 1) % 256 := by
  unfold State.cuffWithdraw
  dsimp only
  rw [State.takeSlots_epoch, foldl_keep (fun s => s.cf.epoch) _ _ _ fun s k => State.sendControl_epoch ..]
  rfl

theorem State.peerWithdraw_spec (flash epoch : Nat) (hfollows : s.follows = true) (hfault : s.eng.state ≠ .fault) : let u := s.peerWithdraw flash epoch
    u.hem.committed = (s.hem.committed.filter fun c => decide (c.record.flash < flash)) ∧ u.eng.flashNext = flash ∧ u.cf.epoch = epoch % 256 ∧
      u.hem.resync = true := by
  have hwrite : (!s.followsWrite) = false := by simp [State.followsWrite, hfollows, hfault]
  unfold State.peerWithdraw
  simp only [hwrite, Bool.false_eq_true, if_false]
  refine ⟨by simp [State.updHem], by simp, ?_, by simp [State.updHem]⟩
  rw [State.cuffWithdraw_epoch]
  simp only [State.shWithdraw_frame, State.updCf]
  omega

end

/-! ## A whole image (R348, Table TWIN-5) -/

/-- The pair, apart from what waits to be sent and whose Fault it is. -/
def Twin.shared (tw : Twin) : Twin := { tw with txQ := [], ownFault := false }

theorem Twin.pair_of_shared {a b : Twin} (h : a.shared = b.shared) : a.pair = b.pair := by
  show a.shared.pair = b.shared.pair
  rw [h]

theorem Twin.rxHeld_of_shared {a b : Twin} (h : a.shared = b.shared) : a.rxHeld = b.rxHeld := by
  show a.shared.rxHeld = b.shared.rxHeld
  rw [h]

theorem Twin.shared_of_sent {a b : Twin} (h : a.sent = b.sent) : a.shared = b.shared :=
  congrArg (fun c : Twin => { c with ownFault := false }) h

section
variable {s : State}

theorem State.endWrite_standby (hstandby : s.standby = true) (key : Nat) : (s.endWrite key).twin = s.twin ∧ (s.endWrite key).fc = s.fc := by
  unfold State.endWrite
  rw [if_pos hstandby]
  simp

theorem State.cuffStatus_copied (s : State) : s.cuffStatus.fc.copied = s.fc.copied := by
  unfold State.cuffStatus
  split
  · exact foldl_keep (fun s => s.fc.copied) _ _ _ fun s k => rfl
  · rfl

/-- The last of what Fault does. -/
def State.faulted (s : State) : State :=
  (((({ s with arb := { s.arb with causeQ := [] } } : State).endEscalation).setTgood false).enter .fault).cuffStatus

theorem State.faulted_keeps (s : State) : s.faulted.br = s.br ∧ s.faulted.twin = s.twin ∧ s.faulted.fc.copied = s.fc.copied := by
  refine ⟨by simp [State.faulted], by simp [State.faulted], ?_⟩
  unfold State.faulted
  rw [State.cuffStatus_copied]
  simp [State.endEscalation]

/-- A standby that enters Fault moves none of its axes. -/
theorem State.enterFault_standby_cases (hstandby : s.standby = true) (key : Nat) (off : Bool) :
    s.enterFault key off = s ∨ s.enterFault key off = s.ownFault ∨ s.enterFault key off = (s.ownFault.endWrite key).abandonCal.faulted := by
  obtain ⟨htwin, -⟩ := State.endWrite_standby (s := s.ownFault) hstandby key
  have hstill : (s.ownFault.endWrite key).abandonCal.standby = true := by
    simp only [State.standby, State.abandonCal_frame, htwin]
    exact hstandby
  unfold State.enterFault
  split
  · exact .inl rfl
  · dsimp only
    split
    · exact .inr (.inl rfl)
    · exact .inr (.inr (congrArg State.faulted (if_pos hstill)))

/-- A standby that enters Fault keeps its Brace, and the copy of the collector. -/
theorem State.enterFault_standby (hstandby : s.standby = true) (key : Nat) (off : Bool) : let u := s.enterFault key off
    u.br = s.br ∧ u.fc.copied = s.fc.copied ∧ u.twin.shared = s.twin.shared := by
  obtain ⟨htwin, hfc⟩ := State.endWrite_standby (s := s.ownFault) hstandby key
  obtain hsame | hown | hfault := State.enterFault_standby_cases hstandby key off
  · rw [hsame]
    exact ⟨rfl, rfl, rfl⟩
  · rw [hown]
    exact ⟨rfl, rfl, rfl⟩
  · obtain ⟨hbr, htwin', hcopied⟩ := (s.ownFault.endWrite key).abandonCal.faulted_keeps
    rw [hfault]
    refine ⟨hbr.trans (by simp [State.ownFault]), hcopied.trans ?_, ?_⟩
    · simp only [State.abandonCal_frame, hfc]
      rfl
    · simp only [htwin', State.abandonCal_frame, htwin]
      rfl

/-- The engine state of an image leaves the rest of the image as it was copied. -/
theorem State.copyState_standby (hstandby : s.standby = true) (im : Image) : let u := s.copyState im
    u.br = s.br ∧ u.fc.copied = s.fc.copied ∧ u.twin.shared = s.twin.shared := by
  unfold State.copyState
  split
  · exact ⟨rfl, rfl, rfl⟩
  · split
    · exact State.enterFault_standby hstandby ..
    · dsimp only
      rw [State.cuffStatus_copied]
      split <;> simp

theorem State.skipTo_onlyTells (stripe : Nat) : s.OnlyTells (s.skipTo stripe) := by
  unfold State.skipTo
  split
  · exact .refl s
  · dsimp only
    split
    · exact .of_eq (by simp) (by simp)
    · exact State.OnlyTells.trans (.of_eq (by simp) (by simp)) (State.restartRing_onlyTells ..)

theorem State.stripeAccepted_onlyTells (st : Stripe) : s.OnlyTells (s.stripeAccepted st) := by
  have hflags : s.OnlyTells s.newStripeFlags := .of_eq (by simp) (by simp)
  unfold State.stripeAccepted
  exact (hflags.trans (State.skipTo_onlyTells st.stripe)).then_eq (by simp) (by simp)

theorem State.copyStripe_onlyTells (im : Image) : s.OnlyTells (s.copyStripe im) := by
  unfold State.copyStripe
  split
  · split
    · exact State.stripeAccepted_onlyTells _
    · exact .refl s
  · split
    · exact .refl s
    · exact (State.endStripe_onlyTells true).trans (State.stripeAccepted_onlyTells _)
  · exact State.endStripe_onlyTells true
  · exact .refl s

/-- The image in everything but the engine state. -/
def State.copied (im : Image) (cycle : Nat) (s : State) : State :=
  let s := if !im.jobOpen && s.jobOpen then s.closeJob else s
  let s := (((s.copyStripe im).copyHem im).copyBrace im).copyTime im cycle
  let s := s.updFc fun c => { c with copied := some im.fc }
  s.updDike fun d => { d with axes := (d.axes.zipIdx).map fun (p : DikeAxis × Nat) => p.1.copy (im.dikeAxes.getD p.2 p.1) }

theorem State.copied_onlyTells (im : Image) (cycle : Nat) (s : State) : s.OnlyTells (s.copied im cycle) := by
  have hclose : s.OnlyTells (if !im.jobOpen && s.jobOpen then s.closeJob else s) := by
    split
    · exact .of_eq (by simp) (by simp)
    · exact .refl s
  unfold State.copied
  exact (hclose.trans (State.copyStripe_onlyTells im)).then_eq (by simp [State.updDike]) (by simp [State.updDike])

theorem State.copied_spec (im : Image) (cycle : Nat) (s : State) : let u := s.copied im cycle
    u.br.segment = im.segment ∧ u.feed.cmps = im.cmps.map (fun c => { c with highUntil := none }) ∧ u.fc.copied = some im.fc ∧ u.tu.locked = true :=
  ⟨rfl, rfl, rfl, rfl⟩

/-- The standby's record of the image that it has applied: a pair that was joining has formed when the active twin is in Ready. -/
def State.holds (im : Image) (cycle : Nat) (s : State) : State :=
  let v := s.updTwin fun w => { w with snap := some im, lastApplied := cycle, unapplied := 0, joined := true, image := [] }
  if v.twin.pair == .joining && im.state == .ready then (v.updTwin fun w => { w with pair := .paired }).cuffStatus else v

theorem State.applyImage_eq (im : Image) (cycle : Nat) (s : State) : s.applyImage im cycle = ((s.copied im cycle).copyState im).holds im cycle := rfl

theorem State.holds_spec (im : Image) (cycle : Nat) (hpair : s.twin.pair = .joining ∨ s.twin.pair = .paired) : let u := s.holds im cycle
    u.twin.snap = some im ∧ u.twin.lastApplied = cycle ∧ u.twin.joined = true ∧ u.twin.unapplied = 0 ∧ u.twin.rxHeld = s.twin.rxHeld ∧
      (im.state = .ready → u.twin.pair = .paired) ∧ u.br = s.br ∧ u.feed = s.feed ∧ u.tu = s.tu ∧ u.fc.copied = s.fc.copied := by
  unfold State.holds
  dsimp only
  split
  next => simp [State.updTwin, State.cuffStatus_copied]
  next h =>
    refine ⟨rfl, rfl, rfl, rfl, rfl, fun hready => ?_, rfl, rfl, rfl, rfl⟩
    obtain hpair | hpair := hpair
    · exact absurd (by simp [State.updTwin, hpair, hready]) h
    · exact hpair

theorem State.applyImage_spec (im : Image) (cycle : Nat) (hactive : s.twin.active = false) (hpair : s.twin.pair = .joining ∨ s.twin.pair = .paired) :
    let u := s.applyImage im cycle
    u.twin.snap = some im ∧ u.twin.lastApplied = cycle ∧ u.twin.joined = true ∧ u.twin.unapplied = 0 ∧ u.br.segment = im.segment ∧
      u.feed.cmps = im.cmps.map (fun c => { c with highUntil := none }) ∧ (im.state = .ready → u.twin.pair = .paired) ∧ u.fc.copied = some im.fc ∧
      u.tu.locked = true ∧ u.mb = s.mb ∧ u.slack = s.slack ∧ u.twin.rxHeld = s.twin.rxHeld := by
  have htell := s.copied_onlyTells im cycle
  obtain ⟨hsegment, hcmps, hcopied, hlocked⟩ := s.copied_spec im cycle
  have hstandby : (s.copied im cycle).standby = true := by
    rw [State.standby, htell.active, hactive]
    rfl
  obtain ⟨hbr, hfc, hshared⟩ := State.copyState_standby hstandby im
  have hkept : ((s.copied im cycle).copyState im).twin.shared = s.twin.shared := hshared.trans (Twin.shared_of_sent htell.sent)
  have hpair' : ((s.copied im cycle).copyState im).twin.pair = s.twin.pair := Twin.pair_of_shared hkept
  have hheld : ((s.copied im cycle).copyState im).twin.rxHeld = s.twin.rxHeld := Twin.rxHeld_of_shared hkept
  obtain ⟨hsnap, happlied, hjoined, hunapplied, hrx, hready, hbr', hfeed, htu, hfc'⟩ := State.holds_spec im cycle (hpair' ▸ hpair)
  rw [← State.applyImage_eq] at *
  refine ⟨hsnap, happlied, hjoined, hunapplied, ?_, ?_, hready, ?_, ?_, by simp, by simp, hrx.trans hheld⟩
  · rw [hbr', hbr, hsegment]
  · rw [hfeed]
    simpa using hcmps
  · rw [hfc', hfc, hcopied]
  · rw [htu]
    simpa using hlocked

end

/-! ## The commands -/

section
variable {t : Nat} {h : MsgHdr} {s : State}

/-- The next message has its effect, and none is held that could follow it. -/
theorem exec_gusset_taken {i : Instr} {m : GMsg} {u : State} (hon : (s.atTime t).gussetOn = true) (hsrc : h.src = s.peerMember)
    (hnext : s.twin.rxNext = none ∨ s.twin.rxNext = some h.mseq) (hexec : exec i s = .next ((s.atTime t).gussetRx h m)) (hgood : m.good h = true)
    (hdeliver : ((s.atTime t).turn h).deliver m = u) (hkeep : u.twin.rxHeld = []) : exec i s = .next u := by
  subst hdeliver
  rw [hexec, State.gussetRx_next hon hgood hsrc hnext hkeep]

section
variable {m : Hello}

theorem execHello_bad (hgood : (GMsg.hello m).good h = false) :
    exec (.gussetHello t h false m.build m.role m.pairState m.engineState m.configDigest m.ringDigest) s = .next (s.atTime t) :=
  congrArg Host.Outcome.next ((if_neg Bool.false_ne_true).trans (if_pos (by simp [hgood])))

theorem execHello_other (hon : (s.atTime t).gussetOn = true) (hgood : (GMsg.hello m).good h = true) (hsrc : h.src ≠ s.peerMember) :
    exec (.gussetHello t h false m.build m.role m.pairState m.engineState m.configDigest m.ringDigest) s = .next
      (if s.twin.pair = .alone then (s.atTime t).raise .twinIdent (s.addrFlash (h.src % 8)) else s.atTime t) :=
  congrArg Host.Outcome.next ((if_neg Bool.false_ne_true).trans ((if_neg (by simp [hon, hgood])).trans (if_pos (bne_iff_ne.2 hsrc))))

theorem execHello_peer (hon : (s.atTime t).gussetOn = true) (hgood : (GMsg.hello m).good h = true) (hsrc : h.src = s.peerMember) :
    exec (.gussetHello t h false m.build m.role m.pairState m.engineState m.configDigest m.ringDigest) s = .next ((s.atTime t).gussetRx h (.hello m)) :=
  congrArg Host.Outcome.next ((if_neg Bool.false_ne_true).trans ((if_neg (by simp [hon, hgood])).trans (if_neg (by rw [bne_iff_ne, not_not]; exact hsrc))))

end

end

/-- Settles O49: when a message is taken, then what each one does. -/
theorem gussetMessages : Obligations.GussetMessages := by
  unfold Obligations.GussetMessages
  intro t h s hsleep hboot hreset s' r follows
  have hon : s'.gussetOn = true := by simp [State.gussetOn, s', hsleep, hboot, hreset]
  refine ⟨fun khz cycle sect offset data count crc image ctrl0 ctrl1 set0 set1 record tn f flash epoch stripe band outcome attempt value void item kind ta tb corr
      cause hello p hp => ?_, fun hsrc hnext hheld => ?_⟩
  · have hexec : exec p.1 s = .next (s'.gussetRx h p.2) := by
      simp only [List.mem_cons, List.not_mem_nil, or_false] at hp
      rcases hp with rfl | rfl | rfl | rfl | rfl | rfl | rfl | rfl | rfl | rfl | rfl <;> rfl
    refine ⟨fun hdrop => ?_, fun hgood hsrc n hnext hd => ?_, execHello_bad, execHello_other hon⟩
    · exact hexec.trans (congrArg _ (State.gussetRx_dropped hdrop))
    · exact hexec.trans (congrArg _ (State.gussetRx_early hon hgood hsrc hnext hd))
  · have taken {i : Instr} {m : GMsg} {u : State} (hexec : exec i s = .next (s'.gussetRx h m)) (hgood : m.good h = true) (hdeliver : r.deliver m = u)
        (hkeep : u.twin.rxHeld = []) : exec i s = .next u := exec_gusset_taken hon hsrc hnext hexec hgood hdeliver hkeep
    have hfollows : r.follows = true ↔ follows := State.follows_iff
    have hfollows' : r.follows = false ↔ ¬follows := State.follows_false_iff
    refine ⟨fun khz hgood => taken rfl hgood (State.deliver_slack ..) ?_, fun cycle sect offset data hgood => taken rfl hgood (State.deliver_state ..) hheld,
      fun cycle crc im hgood hnot => taken rfl hgood (State.deliver_stateEnd_idle (hfollows'.2 hnot)) hheld,
      fun cycle crc im hgood hf hempty hcrc => ?_, fun cycle crc im hgood hf hempty hcrc => ?_,
      fun cycle c0 c1 s0 s1 hgood => ⟨fun hf => ?_, fun hnot => ?_⟩,
      fun record tn f hgood => ⟨fun hidle => ?_, fun st hf hfault hst => ?_⟩,
      fun flash epoch hgood => ⟨fun hidle => ?_, fun hf hfault => ?_⟩,
      fun stripe band outcome attempt value b hgood hb => ?_,
      fun flash epoch void value hgood => ⟨fun halone => ?_, fun x halone hx hflash hepoch hown => ?_, fun halone hnone => ?_⟩,
      fun value => ⟨fun hgood => taken rfl hgood rfl hheld, fun hgood => taken rfl hgood rfl hheld, fun hgood => taken rfl hgood rfl hheld⟩,
      fun ta tb corr hgood => ⟨fun hp => ?_, fun hp hactive => ?_, fun hp hactive => ?_⟩,
      fun cycle => ⟨fun hgood hactive => ?_, fun hgood hactive hp => ?_⟩,
      fun m hgood hp hjob hrole => ?_⟩
    · split
      · exact hheld
      · exact hheld
    · obtain ⟨hactive, hpair⟩ := hf
      have hdeliver : r.deliver (.stateEnd cycle 0 crc im) = r.applyImage im cycle :=
        (State.deliver_stateEnd_empty (hfollows.2 ⟨hactive, hpair⟩) hempty).trans (if_pos hcrc)
      obtain ⟨hsnap, happlied, hjoined, hunapplied, hsegment, hcmps, hready, hfc, hlocked, hmb, hslack, hrx⟩ :=
        State.applyImage_spec (s := r) im cycle hactive hpair
      exact ⟨_, taken rfl hgood hdeliver (hrx.trans hheld), hsnap, happlied, hjoined, hunapplied, hsegment, hcmps, hready, hfc, hlocked, hmb, hslack⟩
    · have hdeliver : r.deliver (.stateEnd cycle 0 crc im) = r.imageLost :=
        (State.deliver_stateEnd_empty (hfollows.2 hf) hempty).trans (if_neg hcrc)
      obtain ⟨hframe, hsnap, hunapplied, hpair, hrx, hwaits⟩ := State.imageLost_spec (s := r) hf.2
      exact ⟨_, taken rfl hgood hdeliver (hrx.trans hheld), hframe, hsnap, hunapplied, hpair, _, hwaits⟩
    · exact taken rfl hgood ((State.deliver_setpoint ..).trans (if_pos (hfollows.2 hf))) hheld
    · exact taken rfl hgood ((State.deliver_setpoint ..).trans (if_neg (by rw [hfollows]; exact hnot))) hheld
    · refine taken rfl hgood (State.peerCommit_idle ?_) hheld
      exact hidle.imp_left hfollows'.2
    · obtain ⟨c, hcommitted, hrecord, htn, hf', hepoch, hmNext, hflash, hsince⟩ := State.peerCommit_spec (s := r) record tn f (hfollows.2 hf) hfault hst
      obtain ⟨hout, hmb, hfeed, hbands, hjob, htwin⟩ := State.peerCommit_keeps record tn f r
      exact ⟨_, c, taken rfl hgood rfl ((congrArg Twin.rxHeld htwin).trans hheld), hcommitted, hrecord, htn, hf', hepoch, hmNext, hflash, hsince,
        hout, hmb, hfeed, hbands, hjob⟩
    · refine taken rfl hgood (State.peerWithdraw_idle ?_) hheld
      exact hidle.imp_left hfollows'.2
    · obtain ⟨hcommitted, hflash, hepoch, hresync⟩ := State.peerWithdraw_spec (s := r) flash epoch (hfollows.2 hf) hfault
      obtain ⟨hmb, hfeed, hbands, hjob, hbr, htwin⟩ := State.peerWithdraw_keeps flash epoch r
      exact ⟨_, taken rfl hgood rfl ((congrArg Twin.rxHeld htwin).trans hheld), hcommitted, hflash, hepoch, hresync, hmb, hfeed, hbands, hjob, hbr⟩
    · have hframe := State.peerBand_frame_eq (s := r) (outcome := outcome) (computed := value.toNat) hb
      refine ⟨_, taken rfl hgood rfl ?_, hframe, State.peerBand_band (s := r) hb, State.peerBand_waits (s := r) hb⟩
      exact (congrArg (fun u : State => u.twin.rxHeld) hframe).trans hheld
    · exact taken rfl hgood (if_pos halone) hheld
    · obtain ⟨hframe, hsame, hdiffer⟩ := State.digestArrives_compared (s := r)
        (d := { flash := flash, epoch := epoch, void := void, value := value, at' := r.now, own := false }) hx hflash hepoch (by simp [hown])
      exact ⟨_, taken rfl hgood (if_neg halone) ((congrArg (fun u : State => u.twin.rxHeld) hframe).trans hheld), hframe, hsame, hdiffer⟩
    · exact taken rfl hgood ((if_neg halone).trans (State.digestArrives_first hnone)) hheld
    · exact taken rfl hgood (State.deliver_time_idle hp) hheld
    · exact taken rfl hgood (State.deliver_time_standby hp hactive) hheld
    · exact taken rfl hgood (State.deliver_time_active hp hactive) hheld
    · exact taken rfl hgood (State.deliver_takeover_swap cycle hactive) hheld
    · obtain ⟨hpair, hact, hpeer, hrx, heng, hhem, hmb, harb⟩ := r.alone_left
      exact ⟨_, taken rfl hgood (State.deliver_takeover_left cycle hactive hp) hrx, hpair, hact, hpeer, heng, hhem, hmb, harb⟩
    · exact ⟨_, taken (execHello_peer hon hgood hsrc) hgood (State.deliver_hello_alone hp hjob hrole) hheld, rfl, rfl, rfl, rfl, rfl, rfl, rfl, rfl, rfl⟩

end Sys2Proof.Machine
end

section
/-! PROOFS. 12 R390 to R394: what the operations of Sluice write to a ring, and the ring's control registers. -/

namespace Sys2Proof.Machine
open Sys2Proof

/-! ## One ring -/

/-- A ring's registers and state are replaced. -/
def State.putRing (n : Nat) (r : Ring) (s : State) : State := { s with sl := { s.sl with rings := s.sl.rings.set n r } }

/-- An update of a ring replaces it. -/
theorem State.updRing'_eq (n : Nat) (f : Ring → Ring) (s : State) : s.updRing' n f = s.putRing n (f (s.ring' n)) := by
  rw [State.updRing', State.updSl, State.putRing, listUpd_eq_set _ n f {}]
  rfl

@[simp] theorem State.putRing_length (n : Nat) (r : Ring) (s : State) : (s.putRing n r).sl.rings.length = s.sl.rings.length := List.length_set

@[simp] theorem State.updRing'_length (n : Nat) (f : Ring → Ring) (s : State) : (s.updRing' n f).sl.rings.length = s.sl.rings.length :=
  listUpd_length ..

theorem State.putRing_putRing (n : Nat) (r x : Ring) (s : State) : (s.putRing n r).putRing n x = s.putRing n x := by
  simp only [State.putRing, List.set_set]

/-- What an update leaves of a ring as it was, it leaves of each. -/
theorem State.updRing'_keeps {β : Type} {g : Ring → β} {f : Ring → Ring} (hf : ∀ r, g (f r) = g r) (n k : Nat) (s : State) :
    g ((s.updRing' n f).ring' k) = g (s.ring' k) := by
  simp only [State.ring', State.updRing'_sl, List.getD_eq_getElem?_getD, listUpd_get?]
  split
  · cases s.sl.rings[k]? <;> simp [hf]
  · rfl

theorem State.ring'_congr {s u : State} (h : u.sl.rings = s.sl.rings) (n : Nat) : u.ring' n = s.ring' n := by
  rw [State.ring', h, State.ring']

@[simp] theorem State.atTime_ring' (t n : Nat) (s : State) : (s.atTime t).ring' n = s.ring' n := rfl
@[simp] theorem State.sendAll_ring' (l : List Out) (n : Nat) (s : State) : (s.sendAll l).ring' n = s.ring' n := rfl

section
variable {n : Nat} {s : State} (hn : n < s.sl.rings.length)
include hn

theorem State.updRing'_ring' (f : Ring → Ring) : (s.updRing' n f).ring' n = f (s.ring' n) := listUpd_getD_same hn f {}

theorem State.putRing_ring' (r : Ring) : (s.putRing n r).ring' n = r := by
  simp [State.ring', State.putRing, List.getD_eq_getElem?_getD, hn]

theorem State.putRing_same : s.putRing n (s.ring' n) = s := by
  have h : s.sl.rings.set n (s.ring' n) = s.sl.rings := by
    rw [State.ring', List.getD_eq_getElem _ _ hn, List.set_getElem_self]
  rw [State.putRing, h]

theorem State.updRing'_same {f : Ring → Ring} (hf : f (s.ring' n) = s.ring' n) : s.updRing' n f = s := by
  rw [State.updRing'_eq, hf, State.putRing_same hn]

end

/-! ## Ring control (R390 to R393) -/

section
variable {t n : Nat} {s : State}

theorem execRingEnable_idle (h : (s.ring' n).state = .idle) : exec (.ringEnable t n) s = .next ((s.atTime t).putRing n
    (Ring.runAt { s.ring' n with enable := true, cqHead := 0, cqTail := 0, records := 0, abort := false, free := [] } ((s.ring' n).head / 32 * 32))) := by
  refine congrArg Host.Outcome.next ((State.updRing'_eq ..).trans ?_)
  simp [h]

theorem execRingEnable_other (hn : n < s.sl.rings.length) (h : (s.ring' n).state ≠ .idle) : exec (.ringEnable t n) s = .next (s.atTime t) :=
  congrArg Host.Outcome.next (State.updRing'_same (s := s.atTime t) hn (by simp [h]))

/-- What RING_DISABLE makes of a ring; `halted` says that every channel is halted. -/
def Ring.disable (halted : Bool) (r : Ring) : Ring :=
  match r.state with
  | .running => if r.started then { r with state := .stopping, enable := false } else r.idle
  | .parked => r.idle
  | .halted => if halted then { r with enable := false } else r.idle
  | _ => { r with enable := false }

theorem execRingDisable_eq : exec (.ringDisable t n) s = .next ((s.atTime t).putRing n ((s.ring' n).disable s.sl.halted)) :=
  congrArg Host.Outcome.next (State.updRing'_eq ..)

/-- What RING_ABORT makes of a ring. -/
def Ring.abortNow (r : Ring) : Ring :=
  match r.state with
  | .running => if r.started then { r with state := .stopping, abort := true } else r.idle
  | .stopping => { r with abort := true }
  | _ => r

theorem execRingAbort_eq : exec (.ringAbort t n) s = .next ((s.atTime t).putRing n (s.ring' n).abortNow) :=
  congrArg Host.Outcome.next (State.updRing'_eq ..)

theorem execRingAbort_rest (hn : n < s.sl.rings.length) (h : (s.ring' n).abortNow = s.ring' n) : exec (.ringAbort t n) s = .next (s.atTime t) :=
  congrArg Host.Outcome.next (State.updRing'_same (s := s.atTime t) hn h)

theorem execRingDoorbell_parked (hparked : (s.ring' n).state = .parked) (hrun : s.sl.halted = false) :
    exec (.ringDoorbell t n) s = .next ((s.atTime t).putRing n (s.ring' n).askNext) := by
  refine congrArg Host.Outcome.next ((State.updRing'_eq ..).trans ?_)
  simp [hparked, hrun]

theorem execRingDoorbell_other (h : (s.ring' n).state ≠ .parked) :
    exec (.ringDoorbell t n) s = .next ((s.atTime t).putRing n { s.ring' n with dbPending := true }) := by
  refine congrArg Host.Outcome.next ((State.updRing'_eq ..).trans ?_)
  simp [h]

/-! ## The re-read of a tail's next field (R391, R392) -/

theorem execNextReread_idle {next : Nat} (h : (s.ring' n).rereads = 0) : exec (.nextReread t n next) s = .next (s.atTime t) :=
  congrArg Host.Outcome.next (if_pos (by simp [h]))

/-- What the answer of a re-read makes of a ring at work. -/
def Ring.answered (next : Nat) (r : Ring) : Ring :=
  if next ≠ 0 then { r with rereads := r.rereads - 1 }.runAt next
  else if r.state == .running then
    (if r.dbPending then { r with rereads := r.rereads - 1, state := .parked }.askNext else { r with rereads := r.rereads - 1, state := .parked })
  else { r with rereads := r.rereads - 1 }

theorem execNextReread_answered {next : Nat} (hrun : s.sl.halted = false) (hread : (s.ring' n).rereads ≠ 0)
    (hwork : (s.ring' n).state = .running ∨ (s.ring' n).state = .parked) :
    exec (.nextReread t n next) s = .next ((s.atTime t).putRing n ((s.ring' n).answered next)) := by
  refine congrArg Host.Outcome.next ((if_neg ?_).trans (State.updRing'_eq ..))
  obtain hwork | hwork := hwork <;> simp [hrun, hread, hwork]

end
end Sys2Proof.Machine
end

section
/-! PROOFS. 12 R386 to R397: a completion record, a descriptor that fails, and the records that stream rings queue. -/

namespace Sys2Proof.Machine
open Sys2Proof

/-! ## Interrupt vectors and completion records (R381, R394, R395) -/

/-- A vector that may not be sent is recorded in the PBA. -/
theorem State.vector_sl (v : Nat) (s : State) : ∃ pba, (s.vector v).sl = { s.sl with pba := pba } := by
  unfold State.vector
  dsimp only
  split
  · exact ⟨_, rfl⟩
  · exact ⟨_, rfl⟩

/-- The 32 bytes of a ring's next record. -/
def Ring.recordBytes (r : Ring) (d : Desc) (status bytes stream seq : Nat) : List Byte :=
  leBytes 8 d.addr ++ leBytes 4 bytes ++ [byteOf status, byteOf ((if r.records.testBit r.cqSize then 0 else 1) + 2 * d.int.toNat + 4 * d.last.toNat)] ++
    leBytes 2 (r.records + 1) ++ leBytes 8 seq ++ [byteOf stream, 0, 0, 0, 0, 0, 0, 0]

/-- Where a ring's next record goes. -/
def Ring.recordAt (r : Ring) : Nat := r.cqBase + 32 * (r.records % 2 ^ r.cqSize)

/-- A ring that has written a record. -/
def Ring.recorded (status : Nat) (r : Ring) : Ring := { r with records := r.records + 1, cqTail := (r.cqTail + 1) % 2 ^ 32, lastSt := status }

/-- A ring's record is an event, a write to the host, and the ring's vector where it is due. -/
theorem State.record_eq (n : Nat) (d : Desc) (status bytes stream : Nat) (s : State) : s.record n d status bytes stream =
    let u := ((s.event (.dmaRecord n)).send (.hostWrite (s.ring' n).recordAt ((s.ring' n).recordBytes d status bytes stream (s.seqFor 11)))).updRing' n
      (Ring.recorded status)
    if d.int || status != csOk then u.vector (s.ring' n).vector else u := rfl

/-- Of Sluice, a record changes its ring and the PBA. -/
theorem State.record_sl (n : Nat) (d : Desc) (status bytes stream : Nat) (s : State) :
    ∃ pba, (s.record n d status bytes stream).sl = { s.sl with rings := listUpd s.sl.rings n (Ring.recorded status), pba := pba } := by
  rw [State.record_eq]
  dsimp only
  split
  · obtain ⟨pba, hsl⟩ := State.vector_sl (s.ring' n).vector (((s.event (.dmaRecord n)).send
      (.hostWrite (s.ring' n).recordAt ((s.ring' n).recordBytes d status bytes stream (s.seqFor 11)))).updRing' n (Ring.recorded status))
    exact ⟨pba, by rw [hsl]; simp⟩
  · exact ⟨s.sl.pba, by simp⟩

theorem State.record_rings (n : Nat) (d : Desc) (status bytes stream : Nat) (s : State) :
    (s.record n d status bytes stream).sl.rings = (s.updRing' n (Ring.recorded status)).sl.rings := by
  obtain ⟨pba, hsl⟩ := State.record_sl n d status bytes stream s
  rw [hsl]
  rfl

/-- A record goes to the host first, then its vector. -/
theorem State.record_out (n : Nat) (d : Desc) (status bytes stream : Nat) (s : State) : ∃ l, (s.record n d status bytes stream).out =
    s.out ++ .hostWrite (s.ring' n).recordAt ((s.ring' n).recordBytes d status bytes stream (s.seqFor 11)) :: l := by
  rw [State.record_eq]
  dsimp only
  split
  · obtain ⟨l, hl⟩ := State.vector_out_grows (s.ring' n).vector (((s.event (.dmaRecord n)).send
      (.hostWrite (s.ring' n).recordAt ((s.ring' n).recordBytes d status bytes stream (s.seqFor 11)))).updRing' n (Ring.recorded status))
    exact ⟨l, by rw [← hl]; simp⟩
  · exact ⟨[], by simp⟩

theorem State.record_sends (n : Nat) (d : Desc) (status bytes stream : Nat) (s : State) :
    .hostWrite (s.ring' n).recordAt ((s.ring' n).recordBytes d status bytes stream (s.seqFor 11)) ∈ (s.record n d status bytes stream).out := by
  obtain ⟨l, hout⟩ := State.record_out n d status bytes stream s
  rw [hout]
  exact List.mem_append_right _ List.mem_cons_self

@[simp] theorem Ring.recordBytes_length (r : Ring) (d : Desc) (status bytes stream seq : Nat) : (r.recordBytes d status bytes stream seq).length = 32 := by
  simp [Ring.recordBytes]

/-! ## A fault that waits goes on to wait -/

section
variable {at' addr : Nat} {f : FaultName} {s : State}

theorem State.waits.raiseUnless (h : s.waits at' f addr) (done : Bool) (g : FaultName) (a : Nat) : (s.raiseUnless done g a).waits at' f addr := by
  cases done
  · exact h.raise g a
  · exact h

theorem State.waits.record (h : s.waits at' f addr) (n : Nat) (d : Desc) (status bytes stream : Nat) :
    (s.record n d status bytes stream).waits at' f addr := by
  have harb : (s.record n d status bytes stream).arb = (s.event (.dmaRecord n)).arb := by
    rw [State.record_eq]
    dsimp only
    split <;> simp
  exact (State.waits_congr harb).2 (h.event _)

theorem State.waits.readRaw (h : s.waits at' f addr) (requester block : Nat) (err : List Word) : (s.readRaw requester block err).2.waits at' f addr := by
  unfold State.readRaw
  split
  next => exact h
  next =>
    dsimp only
    split
    next => exact h
    next d _ =>
      unfold State.countCe
      dsimp only
      split
      · exact State.waits.raise ((State.waits_congr (by simp)).2 h) ..
      · exact (State.waits_congr (by simp)).2 h
    all_goals exact h.raise ..

theorem State.waits.flushEntry (h : s.waits at' f addr) (m : Merge) (err : List Word) : (s.flushEntry m err).waits at' f addr := by
  have hqueued : ((s.dropEntry m.block).enqueue m.block 1 m.cls true).waits at' f addr := (State.waits_congr (by simp)).2 h
  have hread := hqueued.readRaw m.who m.block err
  unfold State.flushEntry
  dsimp only
  split
  · exact (State.waits_congr (by simp)).2 hqueued
  · split
    next e => exact (State.waits_congr (by simp)).2 (e ▸ hread)
    next e => exact (State.waits_congr (by simp)).2 (e ▸ hread)

theorem State.waits.mergeEntry (h : s.waits at' f addr) (who cls block : Nat) : (s.mergeEntry who cls block).waits at' f addr := by
  have hroom : s.mergeRoom.waits at' f addr := by
    unfold State.mergeRoom
    split
    · exact h
    · split
      · exact h.flushEntry ..
      · exact h
  unfold State.mergeEntry
  split
  · exact h
  · exact hroom

theorem State.waits.mergeWrite (h : s.waits at' f addr) (who cls block off : Nat) (data : List Byte) :
    (s.mergeWrite who cls block off data).waits at' f addr := by
  have hmerged (new : List (Nat × Byte)) : ((s.mergeEntry who cls block).mergeBytes who cls block new).waits at' f addr := h.mergeEntry who cls block
  unfold State.mergeWrite
  dsimp only
  split
  · split
    · exact (hmerged _).flushEntry ..
    · exact hmerged _
  · exact hmerged _

theorem State.waits.modifyBlock (h : s.waits at' f addr) (who block off : Nat) (data : List Byte) (err : List Word) :
    (s.modifyBlock who block off data err).waits at' f addr := by
  have hread : ((s.dropEntry block).readRaw who block []).2.waits at' f addr := State.waits.readRaw ((State.waits_congr (by simp)).2 h) ..
  unfold State.modifyBlock
  dsimp only
  split
  next e => exact (State.waits_congr (by simp)).2 (e ▸ hread)
  next e => exact (State.waits_congr (by simp)).2 (e ▸ hread)

theorem State.waits.writePart (h : s.waits at' f addr) (who cls block off : Nat) (data : List Byte) (err : List Word) :
    (s.writePart who cls block off data err).waits at' f addr := by
  unfold State.writePart
  split
  · exact (State.waits_congr (by simp)).2 h
  · split
    · exact h.modifyBlock ..
    · exact h.mergeWrite ..

theorem State.waits.writeBytes (h : s.waits at' f addr) (who cls a : Nat) (data : List Byte) : (s.writeBytes who cls a data).waits at' f addr := by
  unfold State.writeBytes
  generalize data.length / 64 + 2 = fuel
  induction fuel generalizing a data s with
  | zero => exact h
  | succ fuel ih =>
    unfold State.writeRange
    split
    · exact h
    · exact ih (h.writePart ..) _ _

theorem State.waits.scramble (h : s.waits at' f addr) (n : Nat) (d : Desc) : (s.scramble n d).waits at' f addr := by
  unfold State.scramble
  split
  · exact State.waits.writeBytes (s := s.nextFree.2) h ..
  · exact h

theorem State.waits.dropRecord (h : s.waits at' f addr) (n : Nat) : (s.dropRecord n).waits at' f addr :=
  State.waits.raiseUnless (s := s.polStats fun t => { t with reportsDropped := t.reportsDropped + 1 }) h ..

end

/-! ## A descriptor that fails, and one that ends (Table HOST-8) -/

section
variable {n : Nat} {s : State}

/-- A descriptor that fails leaves its record and its fault, and its ring is Halted. -/
theorem State.failDesc_spec (hn : n < s.sl.rings.length) (d : Desc) (status : Nat) (f : FaultName) : let u := s.failDesc n d status f
    u.ring' n = ((s.ring' n).recorded status).rest .halted ∧ u.waits s.now f (ringAddr n d.addr) ∧
      ∃ b, .hostWrite (s.ring' n).recordAt b ∈ u.out ∧ b.length = 32 := by
  have hsl : ((s.raise f (ringAddr n d.addr)).scramble n d).sl = s.sl := by simp
  have hring : ((s.raise f (ringAddr n d.addr)).scramble n d).ring' n = s.ring' n := State.ring'_congr (congrArg Sluice.rings hsl) n
  refine ⟨?_, ?_, ?_⟩
  · rw [State.failDesc, State.updRing'_ring' (by rw [State.record_rings, State.updRing'_length, hsl]; exact hn), State.ring'_congr (State.record_rings ..),
      State.updRing'_ring' (by rw [hsl]; exact hn), hring]
  · exact ((s.waits_raise f (ringAddr n d.addr)).scramble n d).record n d status 0 0
  · have hmem := ((s.raise f (ringAddr n d.addr)).scramble n d).record_sends n d status 0 0
    rw [hring] at hmem
    exact ⟨_, hmem, Ring.recordBytes_length ..⟩

theorem State.startDesc_none (h : (s.ring' n).desc = none) : s.startDesc n = s := by
  unfold State.startDesc
  simp [h]

theorem State.pumpStream_none (h : (s.ring' n).streamQ = [] ∨ (s.ring' n).free = []) (fuel : Nat) : s.pumpStream n fuel = s := by
  cases fuel with
  | zero => rfl
  | succ fuel =>
    unfold State.pumpStream
    obtain h | h := h <;> simp [h]

/-! ## The completion head stays (R394) -/

theorem State.record_cqHead (k : Nat) (d : Desc) (status bytes stream : Nat) :
    ((s.record n d status bytes stream).ring' k).cqHead = (s.ring' k).cqHead := by
  rw [State.ring'_congr (State.record_rings ..)]
  exact State.updRing'_keeps (g := Ring.cqHead) (f := Ring.recorded status) (fun _ => rfl) ..

theorem State.startDesc_cqHead (k : Nat) : ((s.startDesc n).ring' k).cqHead = (s.ring' k).cqHead := by
  unfold State.startDesc
  dsimp only
  split
  next => rfl
  next d _ =>
    split
    next => rfl
    next =>
      split
      next status f _ =>
        have hscramble : ((s.raise f (ringAddr n d.addr)).scramble n d).ring' k = s.ring' k := State.ring'_congr (by simp) k
        rw [State.failDesc, State.updRing'_keeps (g := Ring.cqHead) (by intro; rfl), State.record_cqHead, hscramble]
      next => rw [State.sendAll_ring', State.updRing'_keeps (g := Ring.cqHead) (by intro; rfl)]

theorem State.follow_cqHead (k : Nat) (d : Desc) : ((s.follow n d).ring' k).cqHead = (s.ring' k).cqHead := by
  refine State.updRing'_keeps (g := Ring.cqHead) (fun r => ?_) ..
  split
  · rfl
  · split
    · split <;> rfl
    · rfl

theorem State.pumpStream_cqHead (k fuel : Nat) : ((s.pumpStream n fuel).ring' k).cqHead = (s.ring' k).cqHead := by
  induction fuel generalizing s with
  | zero => rfl
  | succ fuel ih =>
    unfold State.pumpStream
    dsimp only
    split
    next q _ d free _ _ =>
      split
      · rfl
      · rw [ih, State.follow_cqHead, State.record_cqHead, State.sendAll_ring', State.updRing'_keeps (g := Ring.cqHead) (by intro; rfl)]
    next => rfl

end

end Sys2Proof.Machine
end

section
/-! PROOFS. 12 R390 to R394: the ring's control registers. -/

namespace Sys2Proof.Machine
open Sys2Proof

/-! ## The completion head (R394) -/

section
variable {t n value : Nat} {s : State}

theorem execCqHeadWrite_beyond (hv : value < 2 ^ 32) (h : 2 ^ (s.ring' n).cqSize < ((s.ring' n).cqTail + 2 ^ 32 - value) % 2 ^ 32) :
    exec (.cqHeadWrite t n value) s = .next ((s.atTime t).raise .cqHead (n * 2 ^ 40)) :=
  congrArg Host.Outcome.next (if_pos (by rw [Nat.mod_eq_of_lt hv]; exact h))

/-- A completion head within the records written is taken, and what waited for a slot goes on. -/
theorem execCqHeadWrite_taken (hv : value < 2 ^ 32) (h : ((s.ring' n).cqTail + 2 ^ 32 - value) % 2 ^ 32 ≤ 2 ^ (s.ring' n).cqSize) :
    exec (.cqHeadWrite t n value) s = .next ((((s.atTime t).putRing n { s.ring' n with cqHead := value }).startDesc n).pumpStream n 16) := by
  refine congrArg Host.Outcome.next ((if_neg (by rw [Nat.mod_eq_of_lt hv]; exact h.not_gt)).trans ?_)
  rw [State.updRing'_eq, Nat.mod_eq_of_lt hv]
  rfl

end

/-- Settles O55, register by register: what each makes of its ring. -/
theorem ringControl : Obligations.RingControl := by
  unfold Obligations.RingControl
  intro t n s hn hlen s' r put atRest runsAt
  have hring : n < s.sl.rings.length := hlen ▸ hn
  have disables {x : Ring} (h : r.disable s.sl.halted = x) : exec (.ringDisable t n) s = .next (put x) := h ▸ execRingDisable_eq
  have aborts {x : Ring} (h : r.abortNow = x) : exec (.ringAbort t n) s = .next (put x) := h ▸ execRingAbort_eq
  have answers {x : Ring} {next : Nat} (hrun : s.sl.halted = false) (hread : r.rereads ≠ 0) (hwork : r.state = .running ∨ r.state = .parked)
      (h : r.answered next = x) : exec (.nextReread t n next) s = .next (put x) := h ▸ execNextReread_answered hrun hread hwork
  refine ⟨execRingEnable_idle, execRingEnable_other hring, fun hrunning hstarted => ⟨disables ?_, aborts ?_⟩,
    fun hrunning hstarted => ⟨disables ?_, aborts ?_⟩, fun hparked => ⟨disables ?_, execRingAbort_rest hring ?_⟩,
    fun hhalted => ⟨disables ?_, execRingAbort_rest hring ?_⟩, execRingDoorbell_parked, execRingDoorbell_other,
    fun value hv => ⟨fun hbeyond => ?_, fun htaken => ?_⟩,
    fun next hrun hread => ⟨fun hnext hwork => answers hrun hread hwork ?_, fun hnext hparked => answers hrun hread (.inr hparked) ?_,
      fun hnext hrunning hdb => answers hrun hread (.inl hrunning) ?_, fun hnext hrunning hdb => answers hrun hread (.inl hrunning) ?_⟩,
    fun _ => execNextReread_idle⟩
  · simp [Ring.disable, hrunning, hstarted]
  · simp [Ring.abortNow, hrunning, hstarted]
  · simp [Ring.disable, hrunning, hstarted, Ring.idle, Ring.rest, atRest]
  · simp [Ring.abortNow, hrunning, hstarted, Ring.idle, Ring.rest, atRest]
  · simp [Ring.disable, hparked, Ring.idle, Ring.rest, atRest]
  · exact (by simp [Ring.abortNow, hparked] : r.abortNow = r)
  · simp [Ring.disable, hhalted, Ring.idle, Ring.rest, atRest]
  · exact (by simp [Ring.abortNow, hhalted] : r.abortNow = r)
  · have haddr : n * 2 ^ 40 % 2 ^ 48 = n * 2 ^ 40 := Nat.mod_eq_of_lt (by omega)
    rw [execCqHeadWrite_beyond hv hbeyond, State.raise, haddr]
  · have hput : (s'.putRing n { r with cqHead := value }).ring' n = { r with cqHead := value } := State.putRing_ring' (s := s') hring _
    refine ⟨_, execCqHeadWrite_taken hv htaken, ?_, fun hdesc hqueue => ?_⟩
    · rw [State.pumpStream_cqHead, State.startDesc_cqHead, hput]
    · rw [State.startDesc_none (by rw [hput]; exact hdesc), State.pumpStream_none (.inl (by rw [hput]; exact hqueue))]
      rfl
  · simp [Ring.answered, hnext, Ring.runAt, runsAt]
  · simp [Ring.answered, hnext, hparked]
  · simp [Ring.answered, hnext, hrunning, hdb]
  · simp [Ring.answered, Ring.askNext, hnext, hrunning, hdb, Nat.sub_add_cancel (Nat.one_le_iff_ne_zero.2 hread)]

end Sys2Proof.Machine
end

section
/-! PROOFS. 12 R383 to R397: a descriptor from its fetch to its completion, and the records of the stream rings. -/

namespace Sys2Proof.Machine
open Sys2Proof

/-! ## The bytes of a completion record (R395) -/

theorem leNat_leBytes (n v : Nat) : leNat (leBytes n v) = v % 256 ^ n := by
  induction n generalizing v with
  | zero => rw [pow_zero, Nat.mod_one]; rfl
  | succ n ih =>
    rw [leBytes, leNat, ih, byteOf, BitVec.toNat_ofNat, pow_succ' 256 n]
    exact (Nat.mod_mul (a := 256)).symm

theorem Ring.recordBytes_fields (r : Ring) (d : Desc) (bytes stream seq : Nat) : let b := r.recordBytes d csOk bytes stream seq
    fld b 0 8 = d.addr % 2 ^ 64 ∧ fld b 8 4 = bytes % 2 ^ 32 ∧ fld b 12 1 = 0 := by
  have hstart (rest : List Byte) : fld (leBytes 8 d.addr ++ (leBytes 4 bytes ++ rest)) 0 8 = d.addr % 2 ^ 64 ∧
      fld (leBytes 8 d.addr ++ (leBytes 4 bytes ++ rest)) 8 4 = bytes % 2 ^ 32 ∧
      fld (leBytes 8 d.addr ++ (leBytes 4 bytes ++ rest)) 12 1 = leNat (rest.take 1) := by
    refine ⟨?_, ?_, ?_⟩
    · rw [fld, List.drop_zero, List.take_left' (leBytes_length 8 d.addr), leNat_leBytes]
      norm_num
    · rw [fld, List.drop_left' (leBytes_length 8 d.addr), List.take_left' (leBytes_length 4 bytes), leNat_leBytes]
      norm_num
    · rw [fld, ← List.append_assoc, List.drop_left' (by simp)]
  simp only [Ring.recordBytes, List.append_assoc]
  obtain ⟨haddr, hlen, hstatus⟩ := hstart _
  exact ⟨haddr, hlen, hstatus⟩

/-! ## What follows a descriptor that completed OK (R391, R392) -/

/-- What the end of a descriptor makes of ring n. -/
def Ring.followed (n : Nat) (d : Desc) (r : Ring) : Ring :=
  if r.state == .stopping || d.last then r.idle
  else if d.next ≠ 0 then (if r.stream n then { r with cur := d.next } else r.runAt d.next)
  else { r with desc := none, started := false }.askNext

theorem State.follow_eq (n : Nat) (d : Desc) (s : State) : s.follow n d = s.updRing' n (Ring.followed n d) := rfl

section
variable {n : Nat} {d : Desc} {r : Ring}

theorem Ring.followed_keeps : let x := r.followed n d
    x.records = r.records ∧ x.cqTail = r.cqTail ∧ x.streamQ = r.streamQ ∧ (r.free = [] → x.free = []) := by
  unfold Ring.followed
  split
  · exact ⟨rfl, rfl, rfl, fun _ => rfl⟩
  · split
    · split
      · exact ⟨rfl, rfl, rfl, id⟩
      · exact ⟨rfl, rfl, rfl, id⟩
    · exact ⟨rfl, rfl, rfl, id⟩

theorem Ring.followed_last (h : d.last = true) : r.followed n d = r.idle := if_pos (by simp [h])

section
variable (hrunning : r.state = .running) (hlast : d.last = false)
include hrunning hlast

theorem Ring.followed_next (hnext : d.next ≠ 0) (hcopy : r.stream n = false) : r.followed n d = r.runAt d.next :=
  (if_neg (by simp [hrunning, hlast])).trans ((if_pos hnext).trans (if_neg (by simp [hcopy])))

theorem Ring.followed_end (hnext : d.next = 0) : r.followed n d = Ring.askNext { r with desc := none, started := false } :=
  (if_neg (by simp [hrunning, hlast])).trans (if_neg (by simp [hnext]))

end
end

/-- The ring after the record of a descriptor that completed. -/
theorem State.record_follow_ring' {n : Nat} {s : State} (hn : n < s.sl.rings.length) (d : Desc) (status bytes stream : Nat) :
    ((s.record n d status bytes stream).follow n d).ring' n = ((s.ring' n).recorded status).followed n d := by
  have hrings := State.record_rings n d status bytes stream s
  rw [State.follow_eq, State.updRing'_ring' (by rw [hrings, State.updRing'_length]; exact hn), State.ring'_congr hrings, State.updRing'_ring' hn]

/-! ## A fetched descriptor (R386, R397) -/

section
variable {t n addr : Nat} {bytes index : List Byte} {s : State}

/-- A ring that has fetched a descriptor, which has not started. -/
def Ring.fetched (d : Desc) (r : Ring) : Ring := { r with desc := some d, fetch := none, started := false }

theorem execDescriptorFetched_idle (h : (s.ring' n).state ≠ .running ∨ (s.ring' n).fetch ≠ some addr) :
    exec (.descriptorFetched t n addr bytes index) s = .next (s.atTime t) := by
  refine congrArg Host.Outcome.next (if_pos ?_)
  obtain h | h := h <;> simp [h]

section
variable (hhalt : s.sl.halted = false) (hrunning : (s.ring' n).state = .running) (hfetch : (s.ring' n).fetch = some addr)
include hhalt hrunning hfetch

theorem execDescriptorFetched_copy (hcopy : (s.ring' n).stream n = false) : exec (.descriptorFetched t n addr bytes index) s = .next
    (((s.atTime t).putRing n ((s.ring' n).fetched { addr := addr, raw := bytes, table := index })).startDesc n) := by
  refine congrArg Host.Outcome.next ((if_neg ?_).trans ((if_neg ?_).trans ?_))
  · simp [hhalt, hrunning, hfetch]
  · simp [hcopy]
  · rw [State.updRing'_eq]
    rfl

theorem execDescriptorFetched_stream (hstream : (s.ring' n).stream n = true) (hfree : (s.ring' n).free.length < 8) :
    exec (.descriptorFetched t n addr bytes index) s = .next ((s.atTime t).takeFree n { addr := addr, raw := bytes, table := index }) := by
  refine congrArg Host.Outcome.next ((if_neg ?_).trans ((if_pos ?_).trans (if_pos hfree)))
  · simp [hhalt, hrunning, hfetch]
  · simp [hstream]

end

section
variable {d : Desc} (hdesc : (s.ring' n).desc = some d) (hwaiting : (s.ring' n).started = false) (hslot : (s.ring' n).slotFree = true)
  (hrunning : (s.ring' n).state = .running) (hhalt : s.sl.halted = false)
include hdesc hwaiting hslot hrunning hhalt

theorem State.startDesc_good (hgood : d.wrong n false = none) : s.startDesc n =
    (s.putRing n { s.ring' n with started := true }).sendAll (if n < 16 then (d.ranges d.src).flatMap fun p => readRequests p.1 p.2 else []) := by
  unfold State.startDesc
  simp [hdesc, hwaiting, hslot, hrunning, hhalt, hgood, State.updRing'_eq]

theorem State.startDesc_wrong {status : Nat} {f : FaultName} (hwrong : d.wrong n false = some (status, f)) : s.startDesc n = s.failDesc n d status f := by
  unfold State.startDesc
  simp [hdesc, hwaiting, hslot, hrunning, hhalt, hwrong]

end

section
variable {d : Desc} (hn : n < s.sl.rings.length) (hslot : (s.ring' n).slotFree = true) (hrunning : (s.ring' n).state = .running) (hhalt : s.sl.halted = false)
include hn hslot hrunning hhalt

/-- A fetched descriptor that passes its checks starts, and its read requests go out. -/
theorem State.fetched_good (hgood : d.wrong n false = none) : (s.putRing n ((s.ring' n).fetched d)).startDesc n =
    (s.putRing n { (s.ring' n).fetched d with started := true }).sendAll
      (if n < 16 then (d.ranges d.src).flatMap fun p => readRequests p.1 p.2 else []) := by
  have hput : (s.putRing n ((s.ring' n).fetched d)).ring' n = (s.ring' n).fetched d := State.putRing_ring' hn _
  have hslot' : ((s.ring' n).fetched d).slotFree = true := hslot
  rw [State.startDesc_good (congrArg Ring.desc hput) (congrArg Ring.started hput) (by rw [hput, hslot']) ((congrArg Ring.state hput).trans hrunning)
    hhalt hgood, hput, State.putRing_putRing]

/-- One that fails them leaves its record and its fault, and its ring is Halted. -/
theorem State.fetched_wrong {status : Nat} {f : FaultName} (hwrong : d.wrong n false = some (status, f)) :
    let u := (s.putRing n ((s.ring' n).fetched d)).startDesc n
    u = (s.putRing n ((s.ring' n).fetched d)).failDesc n d status f ∧ u.ring' n = (((s.ring' n).fetched d).recorded status).rest .halted ∧
      u.waits s.now f (ringAddr n d.addr) ∧ ∃ b, .hostWrite (s.ring' n).recordAt b ∈ u.out ∧ b.length = 32 := by
  have hput : (s.putRing n ((s.ring' n).fetched d)).ring' n = (s.ring' n).fetched d := State.putRing_ring' hn _
  have hslot' : ((s.ring' n).fetched d).slotFree = true := hslot
  rw [State.startDesc_wrong (congrArg Ring.desc hput) (congrArg Ring.started hput) (by rw [hput, hslot']) ((congrArg Ring.state hput).trans hrunning)
    hhalt hwrong]
  have hspec := State.failDesc_spec (s := s.putRing n ((s.ring' n).fetched d)) (n := n) (by rw [State.putRing_length]; exact hn) d status f
  rw [hput] at hspec
  exact ⟨rfl, hspec⟩

end

/-- A stream ring without queued records takes a good descriptor among its free ones. -/
theorem State.takeFree_good {d : Desc} (hn : n < s.sl.rings.length) (hgood : d.wrong n true = none) (hqueue : (s.ring' n).streamQ = []) :
    s.takeFree n d = s.putRing n { s.ring' n with
      free := (s.ring' n).free ++ [d], dbPending := false, fetch := if d.last = true ∨ d.next = 0 then none else some d.next } := by
  unfold State.takeFree
  simp only [hgood]
  rw [State.pumpStream_none, State.updRing'_eq]
  · simp
  · rw [State.updRing'_ring' hn]
    exact .inl hqueue

end

/-! ## A descriptor whose data has moved (R386, R387, R399) -/

section
variable {t n : Nat} {data : List Byte} {s : State}

theorem execDescriptorComplete_idle (h : (s.ring' n).desc = none ∨ (s.ring' n).started = false) :
    exec (.descriptorComplete t n data) s = .next (s.atTime t) := by
  refine congrArg Host.Outcome.next ?_
  dsimp only [State.atTime_ring']
  split
  next => rfl
  next d hdesc =>
    obtain h | h := h
    · exact absurd (hdesc.symm.trans h) nofun
    · exact if_pos (by simp [h])

theorem execDescriptorComplete_moved {d : Desc} {v : State} (hhalt : s.sl.halted = false) (hdesc : (s.ring' n).desc = some d)
    (hstarted : (s.ring' n).started = true) (hgoes : (s.ring' n).abort = false) (hmoved : (s.atTime t).moveData n d data = some v) :
    exec (.descriptorComplete t n data) s = .next ((v.record n d csOk d.len 0).follow n d) := by
  refine congrArg Host.Outcome.next ?_
  dsimp only [State.atTime_ring']
  simp [hhalt, hdesc, hstarted, hgoes, hmoved]

/-- Requests to the host that are sent one list after another. -/
theorem State.foldl_sendAll {β : Type} (g : β → List Out) (l : List β) (s : State) :
    l.foldl (fun s p => s.sendAll (g p)) s = s.sendAll (l.flatMap g) := by
  induction l generalizing s with
  | nil => simp [State.sendAll]
  | cons p l ih => rw [List.foldl_cons, ih, List.flatMap_cons, State.sendAll, State.sendAll, State.sendAll, List.append_assoc]

/-- The bytes of the host go, rearranged, into the transfer area. -/
theorem State.moveData_in (h : n < 16) (d : Desc) :
    s.moveData n d data = some (s.writeBytes 2 1 d.dst (swapBytes d.swap d.len (padTo d.len (data.take d.len)))) := if_pos h

/-- What DRAM holds goes, rearranged, to the host ranges. -/
theorem State.moveData_out {d : Desc} {b : List Byte} (h : 16 ≤ n) (hread : (s.readBytes 2 d.src d.len).1 = some b) :
    s.moveData n d data = some ((s.readBytes 2 d.src d.len).2.sendAll
      ((cutRanges (d.ranges d.dst) (swapBytes d.swap d.len b)).flatMap fun p => writeRequests p.1 p.2)) := by
  have hpair : s.readBytes 2 d.src d.len = (some b, (s.readBytes 2 d.src d.len).2) := Prod.ext hread rfl
  unfold State.moveData
  rw [if_neg h.not_gt, hpair]
  simp only [State.foldl_sendAll fun p : Nat × List Byte => writeRequests p.1 p.2]

/-- A descriptor that completed OK: what its ring goes on to, and the fields of its record. -/
theorem State.record_follow_sends {d : Desc} (hn : n < s.sl.rings.length) : let u := (s.record n d csOk d.len 0).follow n d
    u.ring' n = ((s.ring' n).recorded csOk).followed n d ∧ ∃ b, .hostWrite (s.ring' n).recordAt b ∈ u.out ∧ b.length = 32 ∧
      fld b 0 8 = d.addr % 2 ^ 64 ∧ fld b 8 4 = d.len % 2 ^ 32 ∧ fld b 12 1 = 0 :=
  ⟨State.record_follow_ring' hn .., _, s.record_sends n d csOk d.len 0, Ring.recordBytes_length .., Ring.recordBytes_fields ..⟩

end

/-! ## Stream records (R397) -/

section
variable {t n : Nat} {bytes : List Byte} {s : State}

theorem satInc_sixteen (k : Nat) : satInc 16 k = min (k + 1) 65535 := by
  unfold satInc
  split <;> omega

/-- A record that is dropped counts at Sluice and at Polder. -/
theorem State.dropRecord_eq (n : Nat) (s : State) : s.dropRecord n =
    { s with
      sl := { s.sl with drops := min (s.sl.drops + 1) 65535 }, arb := (s.dropRecord n).arb
      pol := { s.pol with stats := { s.pol.stats with reportsDropped := s.pol.stats.reportsDropped + 1 } } } := by
  unfold State.dropRecord
  rw [State.raiseUnless_eq, State.updSl, satInc_sixteen]
  rfl

theorem State.dropRecord_waits (h : s.sl.drops = 0) : (s.dropRecord n).waits s.now .streamDrop (n * 2 ^ 40) := by
  unfold State.dropRecord
  rw [h]
  exact State.waits_raise (s := s.polStats fun t => { t with reportsDropped := t.reportsDropped + 1 }) ..

/-- The records on their way have arrived. -/
def State.streamArrived (s : State) : State := { s with sl := { s.sl with streamOut := [] } }

theorem execStreamRecord_none (h : s.sl.streamOut = []) : exec (.streamRecord t n) s = .next (s.atTime t) := by
  refine congrArg Host.Outcome.next ?_
  simp [h]

/-- The record of ring n is dropped, or joins the ring's queue. -/
theorem execStreamRecord_one (hout : s.sl.streamOut = [(n, bytes)]) (hhalt : s.sl.halted = false) : let v := (s.atTime t).streamArrived
    exec (.streamRecord t n) s = .next (if (s.ring' n).stream n = false ∨ ¬((s.ring' n).state = .running ∨ (s.ring' n).state = .parked) ∨
        16 ≤ (s.ring' n).streamQ.length
      then v.dropRecord n else (v.updRing' n fun r => { r with streamQ := r.streamQ ++ [(v.now, bytes)] }).pumpStream n 16) := by
  refine congrArg Host.Outcome.next ?_
  have harrived : ((s.atTime t).updSl fun k => { k with streamOut := dropFirst (n, bytes) k.streamOut }) = (s.atTime t).streamArrived := by
    simp [State.updSl, State.streamArrived, hout, dropFirst]
  have hring : (s.atTime t).streamArrived.ring' n = s.ring' n := rfl
  have hrun : (s.atTime t).streamArrived.sl.halted = false := hhalt
  simp only [State.atTime_frame, hout, List.find?_cons_of_pos, beq_self_eq_true, harrived, hring, hrun]
  refine if_congr ?_ rfl rfl
  simp [or_assoc]

theorem execStreamRecord_joins (hout : s.sl.streamOut = [(n, bytes)]) (hhalt : s.sl.halted = false) (hstream : (s.ring' n).stream n = true)
    (hwork : (s.ring' n).state = .running ∨ (s.ring' n).state = .parked) (hqueue : (s.ring' n).streamQ = []) : let v := (s.atTime t).streamArrived
    exec (.streamRecord t n) s = .next ((v.updRing' n fun r => { r with streamQ := r.streamQ ++ [(v.now, bytes)] }).pumpStream n 16) :=
  (execStreamRecord_one hout hhalt).trans (congrArg Host.Outcome.next (if_neg (by simp [hstream, hwork, hqueue])))

/-- A ring whose only queued record goes into its only free descriptor. -/
def Ring.filled (d : Desc) (r : Ring) : Ring := { r with streamQ := [], free := [], cur := d.addr }

/-- The record goes to the host, with its completion record behind it. -/
theorem State.pumpStream_one {d : Desc} {at' : Nat} (hn : n < s.sl.rings.length) (hhalt : s.sl.halted = false) (hqueue : (s.ring' n).streamQ = [(at', bytes)])
    (hfree : (s.ring' n).free = [d]) (hslot : (s.ring' n).slotFree = true) (fuel : Nat) : s.pumpStream n (fuel + 1) =
      (((s.putRing n ((s.ring' n).filled d)).sendAll (writeRequests d.dst bytes)).record n d csOk bytes.length 1).follow n d := by
  have hput : ((s.putRing n ((s.ring' n).filled d)).sendAll (writeRequests d.dst bytes)).ring' n = (s.ring' n).filled d := State.putRing_ring' hn _
  unfold State.pumpStream
  simp only [hqueue, hfree, hslot, hhalt, Bool.not_true, Bool.or_self, Bool.false_eq_true, if_false, State.updRing'_eq]
  obtain ⟨-, -, hempty, -⟩ := Ring.followed_keeps (n := n) (d := d) (r := ((s.ring' n).filled d).recorded csOk)
  refine State.pumpStream_none (.inl ?_) fuel
  refine (congrArg Ring.streamQ (State.record_follow_ring' (by simpa using hn) ..)).trans ?_
  exact (congrArg (fun r => ((Ring.recorded csOk r).followed n d).streamQ) hput).trans hempty

theorem State.pumpStream_written {d : Desc} {at' : Nat} (hn : n < s.sl.rings.length) (hhalt : s.sl.halted = false)
    (hqueue : (s.ring' n).streamQ = [(at', bytes)]) (hfree : (s.ring' n).free = [d]) (hslot : (s.ring' n).slotFree = true) (fuel : Nat) :
    let u := s.pumpStream n (fuel + 1)
    (∀ o ∈ writeRequests d.dst bytes, o ∈ u.out) ∧ (∃ b, .hostWrite (s.ring' n).recordAt b ∈ u.out) ∧
      (u.ring' n).free = [] ∧ (u.ring' n).streamQ = [] ∧ (u.ring' n).records = (s.ring' n).records + 1 := by
  rw [State.pumpStream_one hn hhalt hqueue hfree hslot]
  have hput : ((s.putRing n ((s.ring' n).filled d)).sendAll (writeRequests d.dst bytes)).ring' n = (s.ring' n).filled d := State.putRing_ring' hn _
  have hsent : ((s.putRing n ((s.ring' n).filled d)).sendAll (writeRequests d.dst bytes)).out = s.out ++ writeRequests d.dst bytes := rfl
  have hn' : n < ((s.putRing n ((s.ring' n).filled d)).sendAll (writeRequests d.dst bytes)).sl.rings.length := by simpa using hn
  generalize (s.putRing n ((s.ring' n).filled d)).sendAll (writeRequests d.dst bytes) = v at *
  obtain ⟨l, hout⟩ := v.record_out n d csOk bytes.length 1
  rw [hput, hsent, List.append_assoc] at hout
  obtain ⟨hrecords, -, hempty, hnone⟩ := Ring.followed_keeps (n := n) (d := d) (r := ((s.ring' n).filled d).recorded csOk)
  have hafter := State.record_follow_ring' hn' d csOk bytes.length 1
  rw [hput] at hafter
  have hout' : ((v.record n d csOk bytes.length 1).follow n d).out = _ := hout
  intro u
  rw [hafter, hout']
  exact ⟨fun o ho => by simp [ho], ⟨_, List.mem_append_right _ (List.mem_append_right _ List.mem_cons_self)⟩, hnone rfl, hempty, hrecords⟩

theorem execStreamRecordTimeout_idle {at' : Nat} {q : List (Nat × List Byte)} (hqueue : (s.ring' n).streamQ = (at', bytes) :: q)
    (hearly : (s.atTime t).now < at' + 4 * 12800) : exec (.streamRecordTimeout t n) s = .next (s.atTime t) := by
  refine congrArg Host.Outcome.next ?_
  simp only [State.atTime_ring', hqueue]
  exact if_neg (by simp [usSteps] at hearly ⊢; omega)

theorem execStreamRecordTimeout_due {at' : Nat} {q : List (Nat × List Byte)} (hqueue : (s.ring' n).streamQ = (at', bytes) :: q) (hfree : (s.ring' n).free = [])
    (hdue : at' + 4 * 12800 ≤ (s.atTime t).now) :
    exec (.streamRecordTimeout t n) s = .next (((s.atTime t).putRing n { s.ring' n with streamQ := q }).dropRecord n) := by
  refine congrArg Host.Outcome.next ?_
  simp only [State.atTime_ring', hqueue, State.updRing'_eq]
  exact if_pos (by simp [usSteps, hfree] at hdue ⊢; omega)

end

/-- Settles O56: a fetched descriptor by its ring's mode and its checks, a completed one by where its data went, a stream record by what its
ring holds. -/
theorem descriptors : Obligations.Descriptors := by
  unfold Obligations.Descriptors
  intro t n s hn hlen hhalt s' r recAt
  have hring : n < s'.sl.rings.length := hlen ▸ hn
  refine ⟨fun addr bytes index => ⟨execDescriptorFetched_idle, fun hrunning hfetch hcopy hslot => ⟨fun hgood => ?_, fun status f hwrong => ?_⟩,
      fun hrunning hfetch hstream hfree hgood hqueue => ?_⟩,
    fun d data hdesc hstarted hgoes hin => ?_, fun d data b hdesc hstarted hgoes hout hread => ?_, fun data => execDescriptorComplete_idle,
    fun bytes hstreamOut => ⟨fun hdrop => ?_, fun hstream hwork hqueue hfree => ?_, fun d hstream hwork hqueue hfree hslot => ?_⟩,
    execStreamRecord_none, fun at' bytes q hqueue hfree => ⟨execStreamRecordTimeout_idle hqueue, fun hdue => ?_⟩⟩
  · exact (execDescriptorFetched_copy hhalt hrunning hfetch hcopy).trans
      (congrArg _ (State.fetched_good (s := s') hring hslot hrunning hhalt hgood))
  · obtain ⟨hfails, hafter, hwaits, b, hsent, hb⟩ := State.fetched_wrong (s := s') hring hslot hrunning hhalt hwrong
    refine ⟨_, b, execDescriptorFetched_copy hhalt hrunning hfetch hcopy, congrArg Ring.state hafter, congrArg Ring.lastSt hafter,
      congrArg Ring.records hafter, hsent, hb, hwaits, ?_⟩
    simp [State.putRing]
  · exact (execDescriptorFetched_stream hhalt hrunning hfetch hstream hfree).trans (congrArg _ (State.takeFree_good hring hgood hqueue))
  · have hsl : (s'.writeBytes 2 1 d.dst (swapBytes d.swap d.len (padTo d.len (data.take d.len)))).sl = s.sl := by simp [s']
    have hr : (s'.writeBytes 2 1 d.dst (swapBytes d.swap d.len (padTo d.len (data.take d.len)))).ring' n = r :=
      State.ring'_congr (congrArg Sluice.rings hsl) n
    obtain ⟨hafter, b, hsent, hb, haddr, hsize, hstatus⟩ := State.record_follow_sends (n := n)
      (s := s'.writeBytes 2 1 d.dst (swapBytes d.swap d.len (padTo d.len (data.take d.len)))) (d := d) (by rw [hsl]; exact hring)
    obtain ⟨hrecords, htail, -, -⟩ := Ring.followed_keeps (n := n) (d := d) (r := r.recorded csOk)
    have hcopy : (r.recorded csOk).stream n = false := by simp [Ring.stream, hin]
    rw [hr] at hafter hsent
    refine ⟨_, b, execDescriptorComplete_moved hhalt hdesc hstarted hgoes (State.moveData_in hin d), by simp [s'], hsent, hb, haddr, hsize, hstatus,
      (congrArg Ring.records hafter).trans hrecords, (congrArg Ring.cqTail hafter).trans htail, fun hrunning hlast => ?_,
      fun hrunning hlast hnext => ?_, fun hrunning hlast hnext => ?_, by simp⟩
    · rw [hafter, Ring.followed_last hlast]
      exact ⟨rfl, rfl⟩
    · rw [hafter, Ring.followed_next (r := r.recorded csOk) hrunning hlast hnext hcopy]
      exact ⟨rfl, rfl, rfl⟩
    · rw [hafter, Ring.followed_end (r := r.recorded csOk) hrunning hlast hnext]
      exact ⟨rfl, rfl⟩
  · have hmoved := State.moveData_out (data := data) hout hread
    generalize (cutRanges (d.ranges d.dst) (swapBytes d.swap d.len b)).flatMap (fun p => writeRequests p.1 p.2) = requests at hmoved ⊢
    have hr : ((s'.readBytes 2 d.src d.len).2.sendAll requests).ring' n = r := State.ring'_congr (by simp [s']) n
    obtain ⟨l, hl⟩ := ((s'.readBytes 2 d.src d.len).2.sendAll requests).record_out n d csOk d.len 0
    have hout' : (s'.readBytes 2 d.src d.len).2.out = s'.out := by simp
    rw [hr, State.sendAll_out, hout'] at hl
    exact ⟨_, _, l, execDescriptorComplete_moved hhalt hdesc hstarted hgoes hmoved, by simp, Ring.recordBytes_length .., hl⟩
  · exact ⟨_, (execStreamRecord_one hstreamOut hhalt).trans (congrArg _ (if_pos hdrop)), State.dropRecord_eq ..,
      State.dropRecord_waits (s := s'.streamArrived)⟩
  · refine (execStreamRecord_joins hstreamOut hhalt hstream hwork hqueue).trans (congrArg _ ?_)
    rw [State.updRing'_eq]
    refine (State.pumpStream_none (.inr ?_) 16).trans ?_
    · exact (congrArg Ring.free (State.putRing_ring' (s := s'.streamArrived) hring _)).trans hfree
    · exact congrArg (fun l => s'.streamArrived.putRing n { r with streamQ := l ++ [(s'.now, bytes)] }) hqueue
  · have hput := State.updRing'_ring' (s := s'.streamArrived) hring fun r => { r with streamQ := r.streamQ ++ [(s'.now, bytes)] }
    obtain ⟨hsent, ⟨b, hb⟩, hspec⟩ := State.pumpStream_written (s := s'.streamArrived.updRing' n fun r => { r with streamQ := r.streamQ ++ [(s'.now, bytes)] })
      (n := n) (by rw [State.updRing'_length]; exact hring) hhalt ((congrArg Ring.streamQ hput).trans (congrArg (· ++ [(s'.now, bytes)]) hqueue))
      ((congrArg Ring.free hput).trans hfree) ((congrArg Ring.slotFree hput).trans hslot) 15
    rw [hput] at hb hspec
    exact ⟨_, b, execStreamRecord_joins hstreamOut hhalt hstream hwork hqueue, hsent, hb, hspec⟩
  · have hput := State.putRing_ring' (s := s') hring { r with streamQ := q }
    have hdropped := State.dropRecord_eq n (s'.putRing n { r with streamQ := q })
    refine ⟨_, execStreamRecordTimeout_due hqueue hfree hdue, ?_, congrArg (fun u : State => u.sl.drops) hdropped, ?_⟩
    · rw [State.ring'_congr (congrArg (fun u : State => u.sl.rings) hdropped)]
      exact congrArg Ring.streamQ hput
    · simp [State.putRing, s']

end Sys2Proof.Machine
end

section
/-! PROOFS. 12 R377, R398 to R400 with 13 R405: what a halt of Sluice does to its rings and leaves of the rest, and how it ends. -/

namespace Sys2Proof.Machine
open Sys2Proof

/-! ## What Sluice holds beside the records of the engine's streams -/

/-- Sluice without the engine's records on their way to a ring. -/
def Sluice.still (k : Sluice) : Sluice := { k with streamOut := [] }

/-- Sluice without its rings, and what the work of the rings counts and records. -/
def Sluice.host (k : Sluice) : Sluice := { k.still with rings := [], drops := 0, pba := 0 }

theorem Sluice.host_of_still {k x : Sluice} (h : k.still = x.still) : k.host = x.host :=
  congrArg (fun y : Sluice => { y with rings := [], drops := 0, pba := 0 }) h

theorem Sluice.rings_of_still {k x : Sluice} (h : k.still = x.still) : k.rings = x.rings := show k.still.rings = _ by rw [h]; rfl

section
variable (s : State)

/-- A record may join those on their way. -/
theorem State.streamOut_still (c : Prop) [Decidable c] (l : List (Nat × List Byte)) :
    (if c then { s with sl := { s.sl with streamOut := l } } else s).sl.still = s.sl.still := by
  split <;> rfl

@[simp] theorem State.report_still (stripe band outcome : Nat) (failed : Bool) : (s.report stripe band outcome failed).sl.still = s.sl.still := by
  unfold State.report
  split
  · rfl
  · exact (State.streamOut_still ..).trans (by simp)

@[simp] theorem State.bandFault_still (stripe band : Nat) (failed : Bool) : (s.bandFault stripe band failed).sl.still = s.sl.still := by
  unfold State.bandFault
  dsimp only
  split <;> simp

@[simp] theorem State.renderFailed_still (stripe band : Nat) (failed : Bool) : (s.renderFailed stripe band failed).sl.still = s.sl.still := by
  unfold State.renderFailed
  split
  · rfl
  · split
    · dsimp only
      split <;> simp
    · split <;> simp

@[simp] theorem State.failStream_still (stripe band : Nat) : (s.failStream stripe band).sl.still = s.sl.still := by
  simp [State.failStream]

@[simp] theorem State.cellBad_still (id : Nat) (f : FaultName) : (s.cellBad id f).sl.still = s.sl.still := by
  unfold State.cellBad
  dsimp only
  rw [foldl_keep (fun s => s.sl.still) _ _ _ fun s (b : Band) => s.failStream_still b.stripe b.band]
  simp

theorem State.foldl_cellBad_still (l : List Cell) : (l.foldl (fun s (c : Cell) => s.cellBad c.ent.id .cellBus) s).sl.still = s.sl.still :=
  foldl_keep (fun s => s.sl.still) _ l s fun s c => s.cellBad_still c.ent.id .cellBus

end

/-! ## A ring at the halt (Table HOST-12) -/

/-- A ring that is not at work, and has no records queued. -/
def Ring.quiet (r : Ring) : Prop := (r.state = .idle ∨ r.state = .halted) ∧ r.streamQ = []

/-- What holds of an absent ring and of the updated one, holds of a ring after its update. -/
theorem State.updRing'_makes {P : Ring → Prop} {f : Ring → Ring} {n : Nat} {s : State} (habsent : P {}) (hf : P (f (s.ring' n))) :
    P ((s.updRing' n f).ring' n) := by
  by_cases hn : n < s.sl.rings.length
  · rw [State.updRing'_ring' hn]
    exact hf
  · rw [State.ring', List.getD_eq_default _ _ (by rw [State.updRing'_length]; omega)]
    exact habsent

/-- What an update keeps of a ring, it keeps of each. -/
theorem State.updRing'_preserves {P : Ring → Prop} {f : Ring → Ring} (hf : ∀ r, P r → P (f r)) {n k : Nat} {s : State} (h : P (s.ring' k)) :
    P ((s.updRing' n f).ring' k) := by
  simp only [State.ring', State.updRing'_sl, List.getD_eq_getElem?_getD, listUpd_get?] at h ⊢
  split
  · cases hk : s.sl.rings[k]? <;> simp only [hk, Option.map_none, Option.map_some, Option.getD_none, Option.getD_some] at h ⊢
    · exact h
    · exact hf _ h
  · exact h

/-- The transfer in progress on ring n, which was r, ends without its data: its record goes out while the host can be reached. -/
def State.cutShort (n : Nat) (r : Ring) (own : Bool) (s : State) : State :=
  match r.desc with
  | some d =>
    if r.started then
      let s := s.scramble n d
      if s.sl.bme && s.sl.linkUp then s.record n d (if own then csBusErr else csHalted) 0 0 else s
    else s
  | none => s

/-- The records queued for ring n are dropped. -/
def State.dropQueue (n : Nat) (s : State) : State :=
  ((s.ring' n).streamQ.foldl (fun s _ => s.dropRecord n) s).updRing' n fun r => { r with streamQ := [] }

theorem State.haltRing_eq (n : Nat) (own : Bool) (s : State) : s.haltRing n own =
    if (s.ring' n).state == .idle || (s.ring' n).state == .halted then s.dropQueue n
    else ((s.dropQueue n).cutShort n (s.ring' n) own).updRing' n (·.rest .halted) := rfl

section
variable {n k : Nat} {own : Bool} {r : Ring} {s : State}

theorem State.dropRecord_host : (s.dropRecord n).sl.host = s.sl.host := by
  rw [State.dropRecord_eq]
  rfl

theorem State.dropRecord_ring' : (s.dropRecord n).ring' k = s.ring' k :=
  State.ring'_congr (by rw [State.dropRecord_eq]) k

theorem State.record_host (d : Desc) (status bytes stream : Nat) : (s.record n d status bytes stream).sl.host = s.sl.host := by
  obtain ⟨pba, hsl⟩ := State.record_sl n d status bytes stream s
  rw [hsl]
  rfl

theorem State.dropQueue_host : (s.dropQueue n).sl.host = s.sl.host :=
  foldl_keep (fun s => s.sl.host) _ _ s fun _ _ => State.dropRecord_host

theorem State.foldl_dropRecord_ring' : ((s.ring' n).streamQ.foldl (fun s _ => s.dropRecord n) s).ring' k = s.ring' k :=
  foldl_keep (fun s => s.ring' k) _ _ s fun _ _ => State.dropRecord_ring'

theorem State.dropQueue_empty : ((s.dropQueue n).ring' n).streamQ = [] :=
  State.updRing'_makes (P := fun r => r.streamQ = []) rfl rfl

theorem State.dropQueue_quiet (h : (s.ring' k).quiet) : ((s.dropQueue n).ring' k).quiet :=
  State.updRing'_preserves (fun _ h => ⟨h.1, rfl⟩) (by rw [State.foldl_dropRecord_ring']; exact h)

theorem State.cutShort_host : (s.cutShort n r own).sl.host = s.sl.host := by
  have hscramble (d : Desc) : (s.scramble n d).sl = s.sl := by simp
  unfold State.cutShort
  split
  · split
    · dsimp only
      split
      · rw [State.record_host, hscramble]
      · rw [hscramble]
    · rfl
  · rfl

/-- What a record leaves of a ring, the end of a transfer leaves of each. -/
theorem State.cutShort_keeps {β : Type} {g : Ring → β} (hg : ∀ status r, g (Ring.recorded status r) = g r) :
    g ((s.cutShort n r own).ring' k) = g (s.ring' k) := by
  have hscramble (d : Desc) : (s.scramble n d).ring' k = s.ring' k := State.ring'_congr (by simp) k
  unfold State.cutShort
  split
  · split
    · dsimp only
      split
      · rw [State.ring'_congr (State.record_rings ..), State.updRing'_keeps (hg _), hscramble]
      · rw [hscramble]
    · rfl
  · rfl

theorem State.haltRing_host : (s.haltRing n own).sl.host = s.sl.host := by
  rw [State.haltRing_eq]
  split
  · exact State.dropQueue_host
  · exact State.cutShort_host.trans State.dropQueue_host

theorem State.haltRing_quiet (h : (s.ring' k).quiet) : ((s.haltRing n own).ring' k).quiet := by
  rw [State.haltRing_eq]
  split
  · exact State.dropQueue_quiet h
  · refine State.updRing'_preserves (fun _ h => ⟨.inr rfl, h.2⟩) ?_
    rw [State.cutShort_keeps (g := Ring.quiet) fun _ _ => rfl]
    exact State.dropQueue_quiet h

theorem State.haltRing_quiet_own : ((s.haltRing n own).ring' n).quiet := by
  rw [State.haltRing_eq]
  split
  next hrest =>
    refine State.updRing'_makes ⟨.inl rfl, rfl⟩ ⟨?_, rfl⟩
    rw [State.foldl_dropRecord_ring']
    simpa using hrest
  next =>
    refine State.updRing'_makes ⟨.inl rfl, rfl⟩ ⟨.inr rfl, ?_⟩
    exact (State.cutShort_keeps (g := Ring.streamQ) fun _ _ => rfl).trans State.dropQueue_empty

/-- Rings at the halt, one after another. -/
theorem State.foldl_haltRing (own : Nat → Bool) (l : List Nat) (s : State) : let u := l.foldl (fun s n => s.haltRing n (own n)) s
    u.sl.host = s.sl.host ∧ ∀ k, k ∈ l ∨ (s.ring' k).quiet → (u.ring' k).quiet := by
  induction l generalizing s with
  | nil => exact ⟨rfl, fun k h => h.resolve_left List.not_mem_nil⟩
  | cons n l ih =>
    obtain ⟨hhost, hquiet⟩ := ih (s.haltRing n (own n))
    refine ⟨hhost.trans State.haltRing_host, fun k h => hquiet k ?_⟩
    obtain hk | h := h
    · obtain rfl | hk := List.mem_cons.1 hk
      · exact .inr State.haltRing_quiet_own
      · exact .inl hk
    · exact .inr (State.haltRing_quiet h)

/-! ## A fault that waits goes on to wait -/

theorem State.waits.haltRing {at' addr : Nat} {f : FaultName} (h : s.waits at' f addr) : (s.haltRing n own).waits at' f addr := by
  have hdropped : (s.dropQueue n).waits at' f addr := State.waits.foldl (fun s _ h => h.dropRecord n) _ h
  have hcut : ((s.dropQueue n).cutShort n (s.ring' n) own).waits at' f addr := by
    unfold State.cutShort
    split
    · split
      · dsimp only
        split
        · exact (hdropped.scramble ..).record ..
        · exact hdropped.scramble ..
      · exact hdropped
    · exact hdropped
  rw [State.haltRing_eq]
  split
  · exact hdropped
  · exact hcut

theorem State.waits.cellBad {at' addr : Nat} {f : FaultName} (h : s.waits at' f addr) (id : Nat) (g : FaultName) :
    (s.cellBad id g).waits at' f addr :=
  State.waits.foldl_failStream ((State.waits_congr (by simp)).2 (h.raise g id)) _

theorem State.waits.complete {at' addr : Nat} {f : FaultName} (h : s.waits at' f addr) (r : Request) (audited : Bool) (status : Nat)
    (fault : Option (FaultName × Nat)) (body : List Byte) : (s.complete r audited status fault body).waits at' f addr := by
  have hevent := h.event (.completion r.mb)
  unfold State.complete
  dsimp only
  split
  · exact State.waits.append (s := ((s.event (.completion r.mb)).updMb _ _).updCp _) hevent ..
  · exact hevent

theorem State.waits.haltCopies {at' addr : Nat} {f : FaultName} (h : s.waits at' f addr) (g : FaultName) (a : Nat) :
    (s.haltCopies g a).waits at' f addr := by
  unfold State.haltCopies
  dsimp only
  split
  · split
    · exact h
    · exact State.waits.complete (s := s.updCp _) h ..
  · exact h

end

/-! ## Every channel halts (R398) -/

/-- What a halt leaves: the fault, its cause, address, channel and request, and no ring at work; motion, Hem, the time unit, the lanes and the
job go on. -/
def State.HaltedAs (s : State) (f : FaultName) (cause addr chan req : Nat) (u : State) : Prop :=
  u.sl.halted = true ∧ u.sl.haltCause = cause ∧ u.sl.haltAddr = addr ∧ u.sl.haltChan = chan ∧ u.sl.haltReq = req ∧
    u.waits s.now f (addr % 2 ^ 48) ∧ (∀ n < 32, (u.ring' n).state = .idle ∨ (u.ring' n).state = .halted) ∧ (∀ n < 32, (u.ring' n).streamQ = []) ∧
    u.eng = s.eng ∧ u.br = s.br ∧ u.hem = s.hem ∧ u.feed = s.feed ∧ u.cf = s.cf ∧ u.sh = s.sh ∧ u.tu = s.tu ∧ u.job = s.job

section
variable {s : State} (f : FaultName) (cause addr chan req : Nat)

theorem State.haltAll_host : (s.haltAll f cause addr chan req).sl.host =
    { s.sl.host with halted := true, haltAddr := addr % 2 ^ 64, haltChan := chan % 256, haltReq := req % 16, haltCause := cause % 16 } := by
  unfold State.haltAll
  dsimp only
  simp only [State.bandsOn_frame, State.haltCopies_frame]
  rw [Sluice.host_of_still (State.foldl_cellBad_still ..),
    (State.foldl_haltRing (fun n => chan == n && req == 0) _ _).1]
  rfl

theorem State.haltAll_quiet {n : Nat} (hn : n < 32) : ((s.haltAll f cause addr chan req).ring' n).quiet := by
  have hcells (l : List Cell) (v : State) : (l.foldl (fun s (c : Cell) => s.cellBad c.ent.id .cellBus) v).ring' n = v.ring' n :=
    State.ring'_congr (Sluice.rings_of_still (State.foldl_cellBad_still v l)) n
  have hrest (v : State) : ((v.haltCopies f (addr % 2 ^ 48)).bandsOn).ring' n = v.ring' n := State.ring'_congr (by simp) n
  have hrings (v : State) : (((List.range 32).foldl (fun s n => s.haltRing n (chan == n && req == 0)) v).ring' n).quiet :=
    (State.foldl_haltRing (fun n => chan == n && req == 0) (List.range 32) v).2 n (.inl (List.mem_range.2 hn))
  unfold State.haltAll
  rw [hrest, hcells]
  exact hrings _

theorem State.haltAll_waits : (s.haltAll f cause addr chan req).waits s.now f (addr % 2 ^ 48) := by
  unfold State.haltAll
  dsimp only
  refine State.waits.bandsOn (State.waits.haltCopies ?_ ..)
  refine State.waits.foldl (fun s (c : Cell) h => h.cellBad c.ent.id .cellBus) _ ?_
  exact State.waits.foldl (fun s n h => h.haltRing) _ (s.waits_raise f (addr % 2 ^ 48))

theorem State.haltAll_halts (hcause : cause < 16) (haddr : addr < 2 ^ 64) (hchan : chan < 256) (hreq : req < 16) :
    s.HaltedAs f cause addr chan req (s.haltAll f cause addr chan req) := by
  have hhost := s.haltAll_host f cause addr chan req
  rw [Nat.mod_eq_of_lt hcause, Nat.mod_eq_of_lt haddr, Nat.mod_eq_of_lt hchan, Nat.mod_eq_of_lt hreq] at hhost
  refine ⟨congrArg Sluice.halted hhost, congrArg Sluice.haltCause hhost, congrArg Sluice.haltAddr hhost, congrArg Sluice.haltChan hhost,
    congrArg Sluice.haltReq hhost, s.haltAll_waits f cause addr chan req, fun n hn => (s.haltAll_quiet f cause addr chan req hn).1,
    fun n hn => (s.haltAll_quiet f cause addr chan req hn).2, ?_⟩
  simp

end

/-! ## Mailbox registers (13 R405) -/

/-- A result that is held shows in no register. -/
theorem Mailbox.reg_held (m : Mailbox) (c : Option Completion) (o : Nat) : { m with held := c }.reg o = m.reg o := rfl

theorem State.complete_reg (r : Request) (audited : Bool) (status : Nat) (fault : Option (FaultName × Nat)) (body : List Byte) (n o : Nat) (s : State) :
    ((s.complete r audited status fault body).mb.getD n {}).reg o = (s.mb.getD n {}).reg o := by
  have hmb : ∃ c, (s.complete r audited status fault body).mb = listUpd s.mb r.mb fun m => { m with held := some c } := by
    unfold State.complete
    dsimp only
    split
    · exact ⟨_, by simp only [State.append_frame]; rfl⟩
    · exact ⟨_, rfl⟩
  obtain ⟨c, hmb⟩ := hmb
  rw [hmb, List.getD_eq_getElem?_getD, List.getD_eq_getElem?_getD, listUpd_get?]
  split
  · cases s.mb[n]? with
    | none => rfl
    | some m => exact m.reg_held (some c) o
  · rfl

theorem State.haltAll_reg (f : FaultName) (cause addr chan req n o : Nat) (s : State) :
    ((s.haltAll f cause addr chan req).mb.getD n {}).reg o = (s.mb.getD n {}).reg o := by
  have hcopies (g : FaultName) (a : Nat) (v : State) : ((v.haltCopies g a).mb.getD n {}).reg o = (v.mb.getD n {}).reg o := by
    unfold State.haltCopies
    dsimp only
    split
    · split
      · rfl
      · exact State.complete_reg ..
    · rfl
  have hbands (v : State) : v.bandsOn.mb = v.mb := by simp
  unfold State.haltAll
  rw [hbands, hcopies]
  simp

/-! ## Resets and link events (R377), and the end of a halt (R400) -/

/-- A reset of the ring registers leaves no ring at work either. -/
theorem State.HaltedAs.resetSluice {s u : State} {f : FaultName} {cause addr chan req : Nat} (h : s.HaltedAs f cause addr chan req u) :
    s.HaltedAs f cause addr chan req u.resetSluice := by
  have hrings (n : Nat) (hn : n < 32) : (u.resetSluice.ring' n).quiet := by
    have hreset : (({} : Sluice).rings.getD n {}) = { vector := 8 + n } := by simp [List.getD_eq_getElem?_getD, hn]
    refine (congrArg Ring.quiet (hreset : u.resetSluice.ring' n = _)).mpr ⟨.inl rfl, rfl⟩
  obtain ⟨hhalted, hcause, haddr, hchan, hreq, hwaits, -, -, hkept⟩ := h
  exact ⟨hhalted, hcause, haddr, hchan, hreq, hwaits, fun n hn => (hrings n hn).1, fun n hn => (hrings n hn).2, hkept⟩

theorem State.haltEvent_halts (f : FaultName) {cause : Nat} (hcause : cause < 16) (s : State) : s.HaltedAs f cause 0 0xFF 0xF (s.haltEvent f cause) :=
  s.haltAll_halts f cause 0 0xFF 0xF hcause (by norm_num) (by norm_num) (by norm_num)

theorem State.haltEvent_host (f : FaultName) (cause : Nat) (s : State) : let k := (s.haltEvent f cause).sl
    k.linkUp = s.sl.linkUp ∧ k.bme = s.sl.bme ∧ k.d0 = s.sl.d0 := by
  have hhost := s.haltAll_host f cause 0 0xFF 0xF
  show (s.haltAll f cause 0 0xFF 0xF).sl.host.linkUp = _ ∧ (s.haltAll f cause 0 0xFF 0xF).sl.host.bme = _ ∧ (s.haltAll f cause 0 0xFF 0xF).sl.host.d0 = _
  rw [hhost]
  exact ⟨rfl, rfl, rfl⟩

theorem State.haltEvent_reg (f : FaultName) (cause n o : Nat) (s : State) : ((s.haltEvent f cause).mb.getD n {}).reg o = (s.mb.getD n {}).reg o :=
  State.haltAll_reg f cause 0 0xFF 0xF n o s

theorem State.resetSluice_mb (s : State) : s.resetSluice.mb = s.mb := rfl

theorem State.resetSluice_cleared (s : State) : let k := s.resetSluice.sl
    k.rings = State.reset.sl.rings ∧ k.msix = State.reset.sl.msix ∧ k.pba = 0 ∧ k.bar2Win = 0 ∧ k.bme = false ∧ k.d0 = true :=
  ⟨rfl, rfl, rfl, rfl, rfl, rfl⟩

section
variable {t : Nat} {s : State}

theorem execFnReset_eq : exec (.fnReset t) s = .next ((s.atTime t).haltEvent .fnReset 10).resetSluice := rfl

theorem execLinkDown_eq : exec (.linkDown t) s = .next (((s.atTime t).updSl fun k => { k with linkUp := false }).haltEvent .linkDown 9).resetSluice := rfl

theorem execBmeOff_off : exec (.bmeOff t false) s = .next (((s.atTime t).updSl fun k => { k with bme := false }).haltEvent .bmeOff 7) :=
  congrArg Host.Outcome.next (if_neg Bool.false_ne_true)

theorem execBmeOff_d3hot : exec (.bmeOff t true) s = .next (((s.atTime t).updSl fun k => { k with d0 := false }).haltEvent .bmeOff 8) :=
  congrArg Host.Outcome.next (if_pos rfl)

theorem execBusErr_unexpected (addr chan req : Nat) : exec (.busErr t 6 addr chan req) s = .next ((s.atTime t).haltEvent .busErr 6) :=
  congrArg Host.Outcome.next (if_pos rfl)

theorem execBusErr_request {cause : Nat} (h : cause ≠ 6) (addr chan req : Nat) :
    exec (.busErr t cause addr chan req) s = .next ((s.atTime t).haltAll .busErr cause addr chan req) :=
  congrArg Host.Outcome.next (if_neg h)

theorem execDmaResume_eq : exec (.dmaResume t) s = .next (if s.sl.bme = true ∧ s.sl.linkUp = true ∧ s.sl.d0 = true
    then { s.atTime t with sl := { (s.atTime t).sl with halted := false } } else s.atTime t) := by
  refine congrArg Host.Outcome.next (if_congr ?_ rfl rfl)
  simp [State.linkReady, and_assoc]

end

/-- Settles O53: each event halts every channel as `State.haltAll` does, and a reset clears the registers after that. -/
theorem haltsAndLink : Obligations.HaltsAndLink := by
  unfold Obligations.HaltsAndLink
  intro t s hlen s' halted cleared
  refine ⟨fun u hu n o => ?_, ⟨_, execFnReset_eq, (s'.haltEvent_halts .fnReset (by norm_num)).resetSluice, State.resetSluice_cleared _, ?_⟩,
    ⟨_, execLinkDown_eq, ((s'.updSl fun k => { k with linkUp := false }).haltEvent_halts .linkDown (by norm_num)).resetSluice, State.resetSluice_cleared _, ?_⟩,
    ?_, ?_, fun addr chan req haddr hchan hreq => ⟨fun cause hlow hhigh => ?_, ⟨_, execBusErr_unexpected .., s'.haltEvent_halts .busErr (by norm_num)⟩,
      ⟨_, rfl, s'.haltAll_halts .busErr 5 addr chan req (by norm_num) haddr hchan hreq⟩⟩,
    execDmaResume_eq, rfl, rfl, rfl, rfl⟩
  · obtain hreset | hdown | ⟨d3, hoff⟩ := hu
    · obtain rfl := Host.Outcome.next.inj (execFnReset_eq.symm.trans hreset)
      rw [State.resetSluice_mb]
      exact s'.haltEvent_reg .fnReset 10 n o
    · obtain rfl := Host.Outcome.next.inj (execLinkDown_eq.symm.trans hdown)
      rw [State.resetSluice_mb]
      exact (s'.updSl fun k => { k with linkUp := false }).haltEvent_reg .linkDown 9 n o
    · cases d3
      · obtain rfl := Host.Outcome.next.inj (execBmeOff_off.symm.trans hoff)
        exact (s'.updSl fun k => { k with bme := false }).haltEvent_reg .bmeOff 7 n o
      · obtain rfl := Host.Outcome.next.inj (execBmeOff_d3hot.symm.trans hoff)
        exact (s'.updSl fun k => { k with d0 := false }).haltEvent_reg .bmeOff 8 n o
  · exact (s'.haltEvent_host .fnReset 10).1
  · exact ((s'.updSl fun k => { k with linkUp := false }).haltEvent_host .linkDown 9).1
  · exact ⟨_, execBmeOff_off, (s'.updSl fun k => { k with bme := false }).haltEvent_halts .bmeOff (by norm_num),
      ((s'.updSl fun k => { k with bme := false }).haltEvent_host .bmeOff 7).2.1⟩
  · exact ⟨_, execBmeOff_d3hot, (s'.updSl fun k => { k with d0 := false }).haltEvent_halts .bmeOff (by norm_num),
      ((s'.updSl fun k => { k with d0 := false }).haltEvent_host .bmeOff 8).2.2⟩
  · exact ⟨_, execBusErr_request (by omega) .., s'.haltAll_halts .busErr cause addr chan req (by omega) haddr hchan hreq⟩

end Sys2Proof.Machine
end

section
/-! PROOFS. 12 R379 to R381, R401 and 13 R403: host accesses to BAR0 and BAR2, and the MSI-X messages that a lifted mask sends. -/

namespace Sys2Proof.Machine
open Sys2Proof

/-! ## Where a register is (18 Table REGS-1) -/

theorem regAt_mbCmd {n : Nat} (h : n < 4) : regAt (0x10000 + 0x4000 * n) = .mailbox n 0 := by
  have hnumber : (0x10000 + 0x4000 * n - 0x10000) / 0x4000 = n := by omega
  have hinner : (0x10000 + 0x4000 * n - 0x10000) % 0x4000 = 0 := by omega
  rw [regAt, if_pos (by omega), hnumber, hinner]

theorem regAt_ringHead {n : Nat} (h : n < 32) : regAt (0x20108 + 0x40 * n) = .ring n 8 := by
  have hnumber : (0x20108 + 0x40 * n - 0x20100) / 0x40 = n := by omega
  have hinner : (0x20108 + 0x40 * n - 0x20100) % 0x40 = 8 := by omega
  rw [regAt, if_neg (by omega), if_pos (by omega), hnumber, hinner]

theorem regAt_bar2Win : regAt 0x2001C = .plain 0x2001C := rfl

/-! ## Writes (R379, R401; 13 R403) -/

section
variable {t offset n : Nat} {value : Word} {s : State}

theorem execRegisterWrite_none (h : (s.atTime t).readReg offset = none) :
    exec (.registerWrite t offset value) s = .next ((s.atTime t).raise .barAccess (offset % 2 ^ 40)) :=
  congrArg Host.Outcome.next (if_neg (by simp [h]))

theorem execRegisterWrite_some (h : ((s.atTime t).readReg offset).isSome) :
    exec (.registerWrite t offset value) s = .next ((s.atTime t).writeReg offset value.toNat) :=
  congrArg Host.Outcome.next (if_pos h)

theorem execRegisterWrite_mbCmd (hn : n < 4) : exec (.registerWrite t (0x10000 + 0x4000 * n) value) s =
    .next { s.atTime t with mb := (s.atTime t).mb.set n { (s.atTime t).mb.getD n {} with cmd := value } } := by
  have hcmd (m : Mailbox) : m.write 0 value.toNat = { m with cmd := value } := by simp [Mailbox.write]
  rw [execRegisterWrite_some (by rw [State.readReg, regAt_mbCmd hn]; rfl), State.writeReg, regAt_mbCmd hn]
  dsimp only
  rw [State.updMb, listUpd_eq_set _ n _ {}, hcmd]

/-- A ring's head takes a value while the ring is at rest. -/
theorem Ring.write_head (r : Ring) (n v : Nat) :
    r.write n 8 v = if r.state = .idle ∨ r.state = .halted then { r with head := v / 32 * 32 } else r := by
  unfold Ring.write
  by_cases h : r.state = .idle ∨ r.state = .halted
  · rw [if_pos h, if_neg (by obtain h | h := h <;> simp [h])]
    rfl
  · rw [if_neg h, if_pos (by simpa using h)]

theorem execRegisterWrite_ringHead (hn : n < 32) (hlen : s.sl.rings.length = 32) : exec (.registerWrite t (0x20108 + 0x40 * n) value) s =
    .next (if (s.ring' n).state = .idle ∨ (s.ring' n).state = .halted
      then (s.atTime t).putRing n { s.ring' n with head := value.toNat / 32 * 32 } else s.atTime t) := by
  rw [execRegisterWrite_some (by rw [State.readReg, regAt_ringHead hn]; rfl), State.writeReg, regAt_ringHead hn]
  dsimp only
  rw [State.updRing'_eq, State.atTime_ring', Ring.write_head]
  split
  · rfl
  · exact congrArg Host.Outcome.next (State.putRing_same (s := s.atTime t) (hlen ▸ hn))

theorem execRegisterWrite_bar2Win : exec (.registerWrite t 0x2001C value) s =
    .next ((s.atTime t).updSl fun k => { k with bar2Win := value.toNat % 2 }) := by
  rw [execRegisterWrite_some rfl, State.writeReg, regAt_bar2Win]
  exact congrArg Host.Outcome.next (if_pos rfl)

end

/-! ## Accesses through BAR2 (R380) -/

section
variable {t offset len : Nat} {data : List Byte} {s : State}

/-- The DRAM address of an access through BAR2. -/
def State.bar2Addr (offset : Nat) (s : State) : Nat := s.sl.bar2Win * 2 ^ 36 + offset % 2 ^ 36

theorem execBar2Access_write (h : inTransfer (s.bar2Addr offset) data.length = true) :
    exec (.bar2Access t offset true len data) s = .next ((s.atTime t).writeBytes 3 1 (s.bar2Addr offset) data) :=
  congrArg Host.Outcome.next ((if_pos rfl).trans (if_pos h))

theorem execBar2Access_refused (h : inTransfer (s.bar2Addr offset) data.length = false) :
    exec (.bar2Access t offset true len data) s = .next ((s.atTime t).raise .barAccess (2 * 2 ^ 44 + offset % 2 ^ 40)) :=
  congrArg Host.Outcome.next ((if_pos rfl).trans (if_neg (Bool.eq_false_iff.1 h)))

theorem execBar2Access_read : exec (.bar2Access t offset false len data) s =
    .next (((s.atTime t).readBytes 3 (s.bar2Addr offset) len).2.send (.barRead (s.bar2Addr offset) ((s.atTime t).readBytes 3 (s.bar2Addr offset) len).1)) :=
  congrArg Host.Outcome.next (if_neg Bool.false_ne_true)

end

/-! ## Recorded MSI-X messages (R381) -/

section
variable {s : State}

/-- The recorded message of a vector is sent unless the vector is masked. -/
def State.sendRecorded (s : State) (v : Nat) : State :=
  if s.sl.pba.testBit v && !(s.sl.msix.getD v {}).mask then
    (s.updSl fun k => { k with pba := k.pba ^^^ 2 ^ v }).send (.msix v (s.sl.msix.getD v {}).addr (s.sl.msix.getD v {}).data)
  else s

theorem State.sendPending_eq (h : s.sl.fnMask = false) : s.sendPending = (List.range 64).foldl State.sendRecorded s :=
  if_neg (Bool.eq_false_iff.1 h)

theorem State.foldl_sendRecorded_none (h : s.sl.pba = 0) (l : List Nat) : l.foldl State.sendRecorded s = s := by
  induction l with
  | nil => rfl
  | cons v l ih =>
    have hv : s.sendRecorded v = s := if_neg (by simp [h])
    rw [List.foldl_cons, hv, ih]

/-- The only message that is recorded is sent, and no longer recorded. -/
theorem State.foldl_sendRecorded_one {v : Nat} (hpba : s.sl.pba = 2 ^ v) (hmask : (s.sl.msix.getD v {}).mask = false) (l : List Nat) (hv : v ∈ l) :
    l.foldl State.sendRecorded s =
      { s with sl := { s.sl with pba := 0 }, out := s.out ++ [.msix v (s.sl.msix.getD v {}).addr (s.sl.msix.getD v {}).data] } := by
  induction l with
  | nil => exact absurd hv List.not_mem_nil
  | cons w l ih =>
    rw [List.foldl_cons]
    by_cases hw : w = v
    · have hsent : s.sendRecorded v =
          { s with sl := { s.sl with pba := 0 }, out := s.out ++ [.msix v (s.sl.msix.getD v {}).addr (s.sl.msix.getD v {}).data] } := by
        unfold State.sendRecorded
        rw [if_pos (by rw [hpba, hmask, Nat.testBit_two_pow_self]; rfl), State.updSl, hpba, Nat.xor_self]
        rfl
      rw [hw, hsent, State.foldl_sendRecorded_none rfl]
    · have hnot : s.sendRecorded w = s := if_neg (by simp [hpba, Nat.testBit_two_pow_of_ne (Ne.symm hw)])
      rw [hnot, ih ((List.mem_cons.1 hv).resolve_left (Ne.symm hw))]

/-- The mask of a vector is lifted. -/
def State.unmask (v : Nat) (s : State) : State := s.updSl fun k => { k with msix := listUpd k.msix v fun e => { e with mask := false } }

theorem execMsixVectorUnmask_vector {t v : Nat} (hlen : s.sl.msix.length = 64) (hv : v < 64) (hmask : s.sl.fnMask = false) (hpba : s.sl.pba = 2 ^ v) :
    exec (.msixVectorUnmask t (some v)) s = .next { s.atTime t with
      sl := { (s.atTime t).sl with pba := 0, msix := (s.atTime t).sl.msix.set v { s.sl.msix.getD v {} with mask := false } }
      out := (s.atTime t).out ++ [.msix v (s.sl.msix.getD v {}).addr (s.sl.msix.getD v {}).data] } := by
  have hexec : exec (.msixVectorUnmask t (some v)) s = .next ((s.atTime t).unmask v).sendPending := rfl
  have hsends : ((s.atTime t).unmask v).sl.fnMask = false := hmask
  have hentry : ((s.atTime t).unmask v).sl.msix.getD v {} = { s.sl.msix.getD v {} with mask := false } := listUpd_getD_same (hlen ▸ hv) _ _
  have hset : ((s.atTime t).unmask v).sl.msix = (s.atTime t).sl.msix.set v { s.sl.msix.getD v {} with mask := false } := listUpd_eq_set ..
  rw [hexec, State.sendPending_eq hsends, State.foldl_sendRecorded_one (s := (s.atTime t).unmask v) hpba (congrArg Msix.mask hentry) _ (List.mem_range.2 hv),
    hentry]
  exact congrArg (fun l => Host.Outcome.next ({ s.atTime t with sl := { (s.atTime t).sl with pba := 0, msix := l }, out := _ } : State)) hset

theorem execMsixVectorUnmask_function {t : Nat} (hpba : s.sl.pba = 0) :
    exec (.msixVectorUnmask t none) s = .next ((s.atTime t).updSl fun k => { k with fnMask := false }) := by
  have hexec : exec (.msixVectorUnmask t none) s = .next ((s.atTime t).updSl fun k => { k with fnMask := false }).sendPending := rfl
  rw [hexec, State.sendPending_eq rfl, State.foldl_sendRecorded_none (s := (s.atTime t).updSl fun k => { k with fnMask := false }) hpba]

end

/-- Settles O54, access by access. -/
theorem barAccesses : Obligations.BarAccesses := by
  unfold Obligations.BarAccesses
  intro t offset s hmb hlen hmsix s' refused
  refine ⟨fun bar w => rfl, fun len data => ⟨execBar2Access_write, execBar2Access_refused, _, execBar2Access_read, ?_⟩,
    fun value => ⟨execRegisterWrite_none, fun n hn => execRegisterWrite_mbCmd hn, fun n hn => execRegisterWrite_ringHead hn hlen,
      execRegisterWrite_bar2Win⟩,
    fun v hv hmask hpba => ⟨_, execMsixVectorUnmask_vector hmsix hv hmask hpba, rfl⟩, execMsixVectorUnmask_function⟩
  simp [State.bar2Addr, s']

end Sys2Proof.Machine
end

section
/-! PROOFS. 00 and 95: a step carries the front command of the queue out, every command completes and none touches the queue; and
the state right after reset (18; 13 R403; 14 R440). -/

namespace Sys2Proof.Machine
open Sys2Proof

/-! ## Rows of the command set -/

/-- What holds of the state that a row's checks see, of its refusals there and of its effect holds after its step. -/
theorem CmdSpec.run_keeps {P : State → Prop} {c : CmdSpec} {v : State} {f : Request → List Byte → State → State} (hv : P v)
    (hrefuse : ∀ r st, P (c.refuse r st v)) (hf : ∀ r b, c.refusal r v = none → P (f r b v)) : P (c.run v f) := by
  obtain hidle | ⟨r, st, -, hrefused⟩ | ⟨r, b, hpass, heffect⟩ := c.run_cases v f
  · rwa [hidle]
  · exact hrefused ▸ hrefuse r st
  · exact heffect ▸ hf r b hpass

theorem CmdSpec.run_pending {c : CmdSpec} {s v : State} {f : Request → List Byte → State → State} (hv : v.pending = s.pending)
    (hf : ∀ r b, (f r b v).pending = v.pending) : (c.run v f).pending = s.pending :=
  CmdSpec.run_keeps (P := fun u => u.pending = s.pending) hv (by simp [hv]) fun r b _ => (hf r b).trans hv

theorem CmdSpec.status'_pending {c : CmdSpec} {s v : State} {body : State → List Byte} {clear : State → State}
    (hv : v.pending = s.pending) (hclear : (clear v).pending = v.pending) : (c.status' body clear v).pending = s.pending :=
  CmdSpec.run_pending hv fun _ _ => by
    split <;> simp [hclear]

/-! ## Operations that answer a state among other things -/

/-- Moving a descriptor's data touches neither the queue, nor Dike, nor the mailboxes, nor Polder. -/
theorem State.moveData_keeps {n : Nat} {d : Desc} {data : List Byte} {s u : State} (h : s.moveData n d data = some u) :
    u.pending = s.pending ∧ u.dike = s.dike ∧ u.mb = s.mb ∧ u.pol = s.pol := by
  unfold State.moveData at h
  split at h
  · cases h
    simp
  · split at h
    next v e =>
      cases h
      have hv : (s.readBytes 2 d.src d.len).2 = v := by rw [e]
      simp [← hv]
    next => cases h

theorem decodeBody_state {stored : List Byte} {id n k total : Nat} {sc : RecScan} {s u : State}
    {r : Except FaultName (RecScan × Nat)} (h : decodeBody stored id n k total sc s = (r, u)) :
    u = (decodeBody stored id n k total sc s).2 := by
  rw [h]

theorem State.initDram_pending {memFail : Option (Nat × Nat)} {s u : State} (h : s.initDram memFail = some u) :
    u.pending = s.pending := by
  unfold State.initDram at h
  split at h
  · cases h
  · split at h
    · cases h
    · obtain rfl := Option.some.inj h
      rfl

/-! ## Every command -/

/-- Every command answers a next state. -/
theorem exec_next (c : Instr) (s : State) : ∃ u, exec c s = .next u := by
  cases c <;> exact ⟨_, rfl⟩

/-- The cases, in order: status commands; rows that apply one operation; rows with branches of their own; commands that take
a state from an operation that answers other things too; those with a match of several operations; every other command. -/
theorem exec_pending {c : Instr} {s u : State} (h : exec c s = .next u) : u.pending = s.pending := by
  cases c with
  | timeStatus | configDigest | jobStatus | cacheStats | loomStats | polderStatus | shuttleStatus | hemStatus
    | cuffStatus | slackStatus | braceStatus | calStatus | journalStatus =>
    obtain rfl := Host.Outcome.next.inj h
    exact CmdSpec.status'_pending (by simp) (by simp)
  | reset | roleSwap | faultConfig | cuffRetrain | hemConfig | slackConfig | cacheConfig | feed | jobEnd | clearFault
    | stripePause | stripeAbort | calibrate | stripeResume | bandRetry | axisEnable | axisDisable | stop | probeArm
    | rcClear | calConfig | capture =>
    obtain rfl := Host.Outcome.next.inj h
    exact CmdSpec.run_pending (by simp) (by simp)
  | twinTimeConfig | faultInject | loadTable | loomConfig | polderConfig | shuttleConfig | cuffConfig | dikeLimits
    | jobStart | stripeStart | feedConfig | probeSwitchConfig | servoConfig | probeRead | compareLoad
    | rereference | memFreq | fwLoad | fwSelect | auditRead | captureCancel | sleep =>
    obtain rfl := Host.Outcome.next.inj h
    refine CmdSpec.run_pending (by simp) fun r b => ?_
    dsimp only
    (repeat' split) <;> simp
  | setCellDir =>
    obtain rfl := Host.Outcome.next.inj h
    refine CmdSpec.run_pending (by simp) fun r b => ?_
    (repeat' split) <;> simp
  | move | home =>
    obtain rfl := Host.Outcome.next.inj h
    refine CmdSpec.run_pending (by simp) fun r _ => ?_
    dsimp only
    (repeat' split)
    next => simp
    next => simp
    next e => simp [tryPlan_frame e]
  | descriptorComplete =>
    obtain rfl := Host.Outcome.next.inj h
    (repeat' split)
    next => simp
    next => simp
    next => simp
    next e => simp [State.moveData_keeps e]
    next => simp
  | cellFetchStart =>
    simp only [exec, execCellFetchStart, Host.Outcome.next.injEq] at h
    subst h
    (repeat' split)
    next => simp
    next => simp
    next => simp
    next e => simp [allocCell_frame e]
    next => simp
    next e =>
      obtain ⟨-, -, -, -, -, -, -, -, -, -, -, -, -, -, -, -, -, -, -, -, -, -, -, hpending, -, hr⟩ := pinnedAlloc_frame e
      simp [hr _ rfl, hpending]
    next e => simp [pinnedAlloc_frame e]
    next e => simp [pinnedAlloc_frame e]
  | cellDecodeDone =>
    simp only [exec, execCellDecodeDone, Host.Outcome.next.injEq] at h
    subst h
    (repeat' split)
    next => simp
    next => simp
    next e => simp [decodeBody_state e]
    next e _ => simp [decodeBody_state e]
    next e _ => simp [decodeBody_state e]
  | bootComplete => 
    simp only [exec, execBootComplete, Host.Outcome.next.injEq] at h
    subst h
    split
    · simp
    · split
      · simp
      · split
        next e => simp [State.initDram_pending e]
        next => split <;> simp
  | calAttemptEnd =>
    simp only [exec, execCalAttemptEnd, Host.Outcome.next.injEq] at h
    subst h
    (repeat' split) <;> simp
  | switchEdge | rxHello | rxTelem | rxLane | rxEvent | rxStuckOn | lead | leadTimeout | bar2Access | blockDecoded
    | dramRead | gussetHello | request | order | pairingComplete | powerUp | resetNRelease | resetEntry =>
    simp only [exec, execSwitchEdge, execRxHello, execRxTelem, execRxLane, execRxEvent, execRxStuckOn, execLead,
      execLeadTimeout, execBar2Access, execBlockDecoded, execDramRead, execGussetHello, execRequest, execOrder,
      execPairingComplete, execPowerUp, execResetNRelease, execResetEntry, Host.Outcome.next.injEq] at h
    subst h
    (repeat' split) <;> simp
  | _ =>
    obtain rfl := Host.Outcome.next.inj h
    (repeat' split) <;> simp

/-! ## Steps -/

theorem step_cons (c : Instr) (rest : List Instr) (s : State) :
    step { s with pending := c :: rest } = exec c { s with pending := rest } := rfl

theorem step_nil {s : State} (h : s.pending = []) : step s = .next s := by
  rw [step, h]

theorem step_front {s : State} {c : Instr} {rest : List Instr} (h : s.pending = c :: rest) :
    step s = exec c { s with pending := rest } := by
  rw [step, h]

/-- A step is an idle one on an empty queue, or the front command on the rest of the queue. -/
theorem step_cases {s u : State} (h : step s = .next u) :
    (s.pending = [] ∧ u = s) ∨ ∃ c rest, s.pending = c :: rest ∧ exec c { s with pending := rest } = .next u := by
  cases hp : s.pending with
  | nil => exact .inl ⟨rfl, (Host.Outcome.next.inj (h.symm.trans (step_nil hp)))⟩
  | cons c rest => exact .inr ⟨c, rest, rfl, (step_front hp).symm.trans h⟩

/-- Settles O1: the front command is what the step matches on. -/
theorem stepRunsFront : Obligations.StepRunsFront := by
  intro c rest s
  exact step_cons c rest s

/-- Settles O2, by cases on the queue: every command completes, and none touches the queue that it is given. -/
theorem stepConsumesFront : Obligations.StepConsumesFront := by
  intro s
  refine ⟨fun c => ?_, ?_, step_nil⟩
  · obtain ⟨u, hu⟩ := exec_next c s
    exact ⟨u, hu, exec_pending hu⟩
  · cases hp : s.pending with
    | nil => exact ⟨s, step_nil hp, hp⟩
    | cons c rest =>
      obtain ⟨u, hu⟩ := exec_next c { s with pending := rest }
      exact ⟨u, (step_front hp).trans hu, exec_pending hu⟩

/-! ## Right after reset -/

theorem packFields_zero {l : List (Nat × Nat)} (h : ∀ p ∈ l, p.2 = 0) : packFields l = 0 := by
  induction l with
  | nil => rfl
  | cons p l ih =>
    obtain ⟨n, v⟩ := p
    obtain ⟨hv, hl⟩ := List.forall_mem_cons.1 h
    simp_all [packFields]

/-- Bits none of which is set read as zero. -/
theorem maskOf_none {n : Nat} {p : Nat → Bool} (h : ∀ k < n, p k = false) : maskOf n p = 0 := by
  refine packFields_zero fun q hq => ?_
  obtain ⟨k, hk, rfl⟩ := List.mem_map.1 hq
  simp [h k (List.mem_range.1 hk)]

theorem reset_cuffUp : State.reset.cuffUp = 0 :=
  maskOf_none (by decide)
/-- Settles O3, register by register: those of the rings and vectors once for each. -/
theorem resetRegisters : Obligations.ResetRegisters := by
  unfold Obligations.ResetRegisters
  refine ⟨rfl, rfl, rfl, rfl, rfl, rfl, rfl, rfl, rfl, rfl, rfl, rfl, rfl, rfl, congrArg some reset_cuffUp, rfl, rfl, rfl, ?_, ?_, ?_, rfl⟩
  · decide
  · decide
  · decide

/-- Settles O4: both memories are empty, and so are the four mailboxes. -/
theorem resetInvariants : Obligations.ResetInvariants := by
  unfold Obligations.ResetInvariants
  exact ⟨rfl, rfl⟩

end Sys2Proof.Machine
end

section
/-! PROOFS. 15 R462 and R463: the Dike limit block and the limits in force change only with DIKE_LIMITS, which a DIKE_LOCK_N that
is not qualified high refuses, and on the way through a reset or Boot. Of every operation that writes another part of Dike, or
calls one that does, a lemma says that it keeps the limits. -/

namespace Sys2Proof.Machine
open Sys2Proof

/-! ## The limits, and what keeps them -/

/-- The Dike limit block and the limits in force (15 R462), which the statement about DIKE_LOCK_N names one by one. -/
def Dike.limits (d : Dike) : List Byte × Nat × Nat × Nat × Nat × Nat × List DikeLim :=
  (d.raw, d.fDike, d.doseMax, d.wdMs, d.restFu, d.brakeMs, d.lims)

@[simp] theorem foldl_limits {β : Type} (f : State → β → State) (l : List β) (s : State)
    (h : ∀ s x, (f s x).dike.limits = s.dike.limits) : (l.foldl f s).dike.limits = s.dike.limits :=
  foldl_keep (fun s => s.dike.limits) f l s h

@[simp] theorem foldl_limits₂ {α β : Type} (f : α × State → β → α × State) (l : List β) (s : α × State)
    (h : ∀ s x, (f s x).2.dike.limits = s.2.dike.limits) : (l.foldl f s).2.dike.limits = s.2.dike.limits :=
  foldl_keep₂ (fun s => s.dike.limits) f l s h

@[simp] theorem ite_limits (c : Prop) [Decidable c] (a b : Dike) :
    (if c then a else b).limits = if c then a.limits else b.limits := by
  split <;> rfl

@[simp] theorem Dike.limits_update (d : Dike) (lock : Option Bool) (deadline : Option Nat) (expired : Bool) (axes : List DikeAxis)
    (strobe : Option Nat) (clamps : Nat) (clamped hold : Bool) :
    ({ d with
      lock := lock, wdDeadline := deadline, wdExpired := expired, axes := axes, lastStrobe := strobe, doseClamps := clamps
      doseClampedThisStripe := clamped, peerHold := hold } : Dike).limits = d.limits := rfl

@[simp] theorem State.updDikeAxis_limits (a : Nat) (f : DikeAxis → DikeAxis) (s : State) :
    (s.updDikeAxis a f).dike.limits = s.dike.limits := rfl

@[simp] theorem State.updDike_limits {f : Dike → Dike} (h : ∀ d, (f d).limits = d.limits) (s : State) :
    (s.updDike f).dike.limits = s.dike.limits := h s.dike

@[simp] theorem State.eachAxis_limits {f : Nat → State → State} (h : ∀ a s, (f a s).dike.limits = s.dike.limits) (s : State) :
    (s.eachAxis f).dike.limits = s.dike.limits :=
  foldl_limits _ _ _ fun s a => h a s

@[simp] theorem State.doseClamp_limits (codes : List (List Nat)) (s : State) :
    ((State.doseClamp codes s).2).dike.limits = s.dike.limits := by
  simp [State.doseClamp]

@[simp] theorem State.takeSlot_limits (i : Nat) (s : State) : (State.takeSlot i s).dike.limits = s.dike.limits := by
  unfold State.takeSlot
  dsimp only
  (repeat' split) <;> simp

@[simp] theorem State.takeSlots_limits (fuel : Nat) (s : State) : (State.takeSlots fuel s).dike.limits = s.dike.limits := by
  induction fuel generalizing s with
  | zero => simp [State.takeSlots]
  | succ n ih =>
    unfold State.takeSlots
    (repeat' split) <;> simp [ih]

@[simp] theorem State.pruneFrames_limits (s : State) : (State.pruneFrames s).dike.limits = s.dike.limits := by
  simp [State.pruneFrames]

@[simp] theorem State.lateFrames_limits (f : FlashRec) (tn : Nat) (s : State) :
    (State.lateFrames f tn s).dike.limits = s.dike.limits := by
  simp [State.lateFrames]

@[simp] theorem State.slotDue_limits (flash : Nat) (s : State) : (State.slotDue flash s).dike.limits = s.dike.limits := by
  unfold State.slotDue
  dsimp only
  (repeat' split) <;> simp

@[simp] theorem State.frameDue_limits (flash : Nat) (s : State) : (State.frameDue flash s).dike.limits = s.dike.limits := by
  unfold State.frameDue
  split <;> simp

@[simp] theorem State.cuffWithdraw_limits (first : Nat) (s : State) :
    (State.cuffWithdraw first s).dike.limits = s.dike.limits := by
  simp [State.cuffWithdraw]

@[simp] theorem State.axisOff_limits (a : Nat) (s : State) : (State.axisOff a s).dike.limits = s.dike.limits := by
  simp [State.axisOff]

@[simp] theorem State.axesOff_limits (s : State) : (State.axesOff s).dike.limits = s.dike.limits := by
  simp [State.axesOff]

@[simp] theorem State.dikeCycle_limits (a : Nat) (y : Option Int) (s : State) :
    (State.dikeCycle a y s).dike.limits = s.dike.limits := by
  unfold State.dikeCycle
  dsimp only
  (repeat' split) <;> simp

@[simp] theorem State.brakeTimeout_limits (a : Nat) (s : State) : (State.brakeTimeout a s).dike.limits = s.dike.limits := by
  simp [State.brakeTimeout]

@[simp] theorem State.becomeActive_limits (s : State) : (State.becomeActive s).dike.limits = s.dike.limits := by
  simp [State.becomeActive]

@[simp] theorem State.outputPhase_limits (finished : Bool) (s : State) :
    (State.outputPhase finished s).dike.limits = s.dike.limits := by
  unfold State.outputPhase
  dsimp only
  (repeat' split) <;> simp

@[simp] theorem State.homeReference_limits (a : Nat) (h : Homing) (ph : Int) (s : State) :
    (State.homeReference a h ph s).dike.limits = s.dike.limits := by
  simp [State.homeReference]

@[simp] theorem State.homeIndex_limits (a : Nat) (h : Homing) (far : Bool) (s : State) :
    (State.homeIndex a h far s).dike.limits = s.dike.limits := by
  unfold State.homeIndex
  dsimp only
  (repeat' split) <;> simp

@[simp] theorem State.homeStep_limits (a : Nat) (last : Bool) (s : State) :
    (State.homeStep a last s).dike.limits = s.dike.limits := by
  unfold State.homeStep
  dsimp only
  (repeat' split) <;> simp

@[simp] theorem State.chainCycle_limits (a : Nat) (scan first : Bool) (qref vc : Int) (s : State) :
    (State.chainCycle a scan first qref vc s).dike.limits = s.dike.limits := by
  simp [State.chainCycle]

@[simp] theorem State.shadowCycle_limits (s : State) : (State.shadowCycle s).dike.limits = s.dike.limits := by
  unfold State.shadowCycle
  split <;> simp

@[simp] theorem State.servoMotion_limits (s : State) : (State.servoMotion s).dike.limits = s.dike.limits := by
  simp [State.servoMotion]

@[simp] theorem State.commit_limits (st : Stripe) (m tx : Nat) (s : State) :
    (State.commit st m tx s).dike.limits = s.dike.limits := by
  simp [State.commit]

@[simp] theorem State.commits_limits (st : Stripe) (ts fuel : Nat) (s : State) :
    (State.commits st ts fuel s).dike.limits = s.dike.limits := by
  induction fuel generalizing s with
  | zero => simp [State.commits]
  | succ n ih =>
    unfold State.commits
    (repeat' split) <;> simp [ih]

@[simp] theorem State.withdrawUngated_limits (key : Nat) (s : State) :
    (State.withdrawUngated key s).dike.limits = s.dike.limits := by
  unfold State.withdrawUngated
  dsimp only
  split <;> simp

@[simp] theorem State.exitHeld_limits (s : State) : (State.exitHeld s).dike.limits = s.dike.limits := by
  simp [State.exitHeld]

@[simp] theorem State.heldTests_limits (st : Stripe) (y : Option Int) (s : State) :
    (State.heldTests st y s).dike.limits = s.dike.limits := by
  unfold State.heldTests
  (repeat' split) <;> simp

@[simp] theorem State.hemSample_limits (ts : Nat) (s : State) : (State.hemSample ts s).dike.limits = s.dike.limits := by
  unfold State.hemSample
  dsimp only
  (repeat' split) <;> simp

@[simp] theorem State.hemStop_limits (key : Nat) (s : State) : (State.hemStop key s).dike.limits = s.dike.limits := by
  unfold State.hemStop
  dsimp only
  split <;> simp

@[simp] theorem State.acceptSeam_limits (key : Nat) (c : Cause) (s : State) :
    (State.acceptSeam key c s).dike.limits = s.dike.limits := by
  unfold State.acceptSeam
  dsimp only
  (repeat' split) <;> simp

@[simp] theorem State.flashIssue_limits (s : State) : (State.flashIssue s).dike.limits = s.dike.limits := by
  unfold State.flashIssue
  dsimp only
  (repeat' split) <;> simp

@[simp] theorem State.endWrite_limits (key : Nat) (s : State) : (State.endWrite key s).dike.limits = s.dike.limits := by
  simp [State.endWrite]

@[simp] theorem State.enterFault_limits (key : Nat) (off : Bool) (s : State) :
    (State.enterFault key off s).dike.limits = s.dike.limits := by
  simp [State.enterFault]

@[simp] theorem State.pauseStripe_limits (group : Bool) (s : State) :
    (State.pauseStripe group s).dike.limits = s.dike.limits := by
  simp [State.pauseStripe]

@[simp] theorem State.nmi_limits (s : State) : (State.nmi s).dike.limits = s.dike.limits := by
  simp [State.nmi]

@[simp] theorem State.react_limits (key src : Nat) (f : FaultName) (stage : Nat) (s : State) :
    (State.react key src f stage s).dike.limits = s.dike.limits := by
  unfold State.react
  dsimp only
  split <;> simp

@[simp] theorem State.collect_limits (m : Raised) (s : State) : (State.collect m s).dike.limits = s.dike.limits := by
  simp [State.collect]

@[simp] theorem State.faultAccept_limits (s : State) : (State.faultAccept s).dike.limits = s.dike.limits := by
  unfold State.faultAccept
  split <;> simp

@[simp] theorem State.escalate_limits (src : Nat) (s : State) : (State.escalate src s).dike.limits = s.dike.limits := by
  unfold State.escalate
  dsimp only
  (repeat' split) <;> simp

@[simp] theorem State.watchdog_limits (s : State) : (State.watchdog s).dike.limits = s.dike.limits := by
  unfold State.watchdog
  split <;> simp

@[simp] theorem State.armWatchdog_limits (s : State) : (State.armWatchdog s).dike.limits = s.dike.limits := by
  simp [State.armWatchdog]

@[simp] theorem State.causeAccept_limits (s : State) : (State.causeAccept s).dike.limits = s.dike.limits := by
  unfold State.causeAccept
  (repeat' split) <;> simp

@[simp] theorem State.sampleAll_limits (s : State) : (State.sampleAll s).dike.limits = s.dike.limits := by
  simp [State.sampleAll]

@[simp] theorem State.calFail_limits (o bank : Nat) (s : State) : (State.calFail o bank s).dike.limits = s.dike.limits := by
  simp [State.calFail]

@[simp] theorem State.attemptFailed_limits (o bank : Nat) (s : State) :
    (State.attemptFailed o bank s).dike.limits = s.dike.limits := by
  simp [State.attemptFailed]

@[simp] theorem State.newStripeFlags_limits (s : State) : (State.newStripeFlags s).dike.limits = s.dike.limits := by
  simp [State.newStripeFlags]

@[simp] theorem State.stripeAccepted_limits (st : Stripe) (s : State) :
    (State.stripeAccepted st s).dike.limits = s.dike.limits := by
  simp [State.stripeAccepted]

@[simp] theorem State.groupHold_limits (s : State) : (State.groupHold s).dike.limits = s.dike.limits := by
  simp [State.groupHold]

@[simp] theorem State.act_limits (o : OrderMsg) (s : State) : (State.act o s).dike.limits = s.dike.limits := by
  unfold State.act
  dsimp only
  (repeat' split) <;> simp

@[simp] theorem State.actHeld_limits (fuel : Nat) (s : State) : (State.actHeld fuel s).dike.limits = s.dike.limits := by
  induction fuel generalizing s with
  | zero => simp [State.actHeld]
  | succ n ih =>
    unfold State.actHeld
    (repeat' split) <;> simp [ih]

@[simp] theorem State.takeOrder_limits (o : OrderMsg) (s : State) : (State.takeOrder o s).dike.limits = s.dike.limits := by
  simp [State.takeOrder]

@[simp] theorem State.giveOrder_limits (event member stripe mask at' : Nat) (s : State) :
    (State.giveOrder event member stripe mask at' s).dike.limits = s.dike.limits := by
  simp [State.giveOrder]

@[simp] theorem State.leaderRequest_limits (src event stripe mask asked : Nat) (s : State) :
    (State.leaderRequest src event stripe mask asked s).dike.limits = s.dike.limits := by
  unfold State.leaderRequest
  split <;> simp

@[simp] theorem State.copyState_limits (im : Image) (s : State) : (State.copyState im s).dike.limits = s.dike.limits := by
  simp [State.copyState]

@[simp] theorem State.copyStripe_limits (im : Image) (s : State) : (State.copyStripe im s).dike.limits = s.dike.limits := by
  unfold State.copyStripe
  split <;> simp

@[simp] theorem State.applyImage_limits (im : Image) (cycle : Nat) (s : State) :
    (State.applyImage im cycle s).dike.limits = s.dike.limits := by
  simp [State.applyImage]

@[simp] theorem State.stateEnd_limits (cycle count : Nat) (crc : Word) (im : Image) (s : State) :
    (State.stateEnd cycle count crc im s).dike.limits = s.dike.limits := by
  simp [State.stateEnd]

@[simp] theorem State.peerCommit_limits (r : FlashRec) (tn : Nat) (f : Int) (s : State) :
    (State.peerCommit r tn f s).dike.limits = s.dike.limits := by
  unfold State.peerCommit
  split <;> simp

@[simp] theorem State.peerWithdraw_limits (flash epoch : Nat) (s : State) :
    (State.peerWithdraw flash epoch s).dike.limits = s.dike.limits := by
  simp [State.peerWithdraw]

@[simp] theorem State.peerHello_limits (m : Hello) (s : State) : (State.peerHello m s).dike.limits = s.dike.limits := by
  simp [State.peerHello]

@[simp] theorem State.deliver_limits (m : GMsg) (s : State) : (State.deliver m s).dike.limits = s.dike.limits := by
  unfold State.deliver
  split <;> simp

@[simp] theorem State.deliverHeld_limits (fuel : Nat) (s : State) : (State.deliverHeld fuel s).dike.limits = s.dike.limits := by
  induction fuel generalizing s with
  | zero => simp [State.deliverHeld]
  | succ n ih =>
    unfold State.deliverHeld
    (repeat' split) <;> simp [ih]

@[simp] theorem State.gussetRx_limits (h : MsgHdr) (m : GMsg) (s : State) :
    (State.gussetRx h m s).dike.limits = s.dike.limits := by
  simp [State.gussetRx]

@[simp] theorem State.shiftSteps_limits (d : Int) (s : State) : (State.shiftSteps d s).dike.limits = s.dike.limits := by
  simp [State.shiftSteps]

@[simp] theorem State.takeOver_limits (s : State) : (State.takeOver s).dike.limits = s.dike.limits := by
  simp [State.takeOver]

@[simp] theorem State.peerGone_limits (peerLive : Bool) (s : State) :
    (State.peerGone peerLive s).dike.limits = s.dike.limits := by
  simp [State.peerGone]

@[simp] theorem State.clearFault_limits (s : State) : (State.clearFault s).dike.limits = s.dike.limits := by
  simp [State.clearFault]

@[simp] theorem State.acceptStripe_limits (st : Stripe) (s : State) :
    (State.acceptStripe st s).dike.limits = s.dike.limits := by
  simp [State.acceptStripe]

@[simp] theorem State.abortStripe_limits (s : State) : (State.abortStripe s).dike.limits = s.dike.limits := by
  simp [State.abortStripe]

@[simp] theorem State.axisConfig_limits (a : Nat) (c : AxisCfg) (s : State) :
    (State.axisConfig a c s).dike.limits = s.dike.limits := by
  simp [State.axisConfig]

/-! ## Rows of the command set -/

/-- A request that no check refuses is not of a row that the lock refuses. -/
theorem CmdSpec.unlocked_of_refusal_none {c : CmdSpec} {r : Request} {s : State} (h : c.refusal r s = none) : c.locked s = false := by
  unfold CmdSpec.refusal at h
  split_ifs at h <;> simp_all

theorem CmdSpec.run_limits {c : CmdSpec} {s v : State} {f : Request → List Byte → State → State}
    (hv : v.dike.limits = s.dike.limits) (hf : ∀ r b, c.refusal r v = none → (f r b v).dike.limits = v.dike.limits) :
    (c.run v f).dike.limits = s.dike.limits :=
  CmdSpec.run_keeps (P := fun u => u.dike.limits = s.dike.limits) hv (by simp [hv]) fun r b h => (hf r b h).trans hv

theorem CmdSpec.status'_limits {c : CmdSpec} {s v : State} {body : State → List Byte} {clear : State → State}
    (hv : v.dike.limits = s.dike.limits) (hclear : (clear v).dike.limits = v.dike.limits) :
    (c.status' body clear v).dike.limits = s.dike.limits :=
  CmdSpec.run_limits hv fun _ _ _ => by
    split <;> simp [hclear]

/-- No DIKE_LIMITS passes the checks while DIKE_LOCK_N is not qualified high (R463). -/
theorem specDikeLimits_refused {r : Request} {s : State} (hlock : s.dike.lock ≠ some true) : specDikeLimits.refusal r s ≠ none := by
  intro h
  have hunlocked : (s.dike.lock != some true) = false := CmdSpec.unlocked_of_refusal_none h
  simp_all

/-! ## Every command -/

/-- The cases, in order: the commands that lead through a reset or Boot; status commands; rows that apply one operation; rows
with branches of their own; DIKE_LIMITS, which is refused; commands that take a state from an operation that answers other things
too; those with a match of several operations; every other command. -/
theorem exec_limits {c : Instr} {s u : State} (hc : reloadsLimits c = false) (hlock : s.dike.lock ≠ some true)
    (h : exec c s = .next u) : u.dike.limits = s.dike.limits := by
  cases c with
  | powerUp | resetNAssert | resetNRelease | resetEntry | powerFailDetect | dieTempSample | bootComplete | vstbyLoss | sleep =>
    cases hc
  | timeStatus | configDigest | jobStatus | cacheStats | loomStats | polderStatus | shuttleStatus | hemStatus
    | cuffStatus | slackStatus | braceStatus | calStatus | journalStatus =>
    obtain rfl := Host.Outcome.next.inj h
    exact CmdSpec.status'_limits (by simp) (by simp)
  | reset | roleSwap | faultConfig | cuffRetrain | hemConfig | slackConfig | cacheConfig | feed | jobEnd | clearFault
    | stripePause | stripeAbort | calibrate | stripeResume | bandRetry | axisEnable | axisDisable | stop | probeArm
    | rcClear | calConfig | capture =>
    obtain rfl := Host.Outcome.next.inj h
    exact CmdSpec.run_limits (by simp) (by simp)
  | twinTimeConfig | faultInject | loadTable | loomConfig | polderConfig | shuttleConfig | cuffConfig
    | jobStart | stripeStart | feedConfig | probeSwitchConfig | servoConfig | probeRead | compareLoad
    | rereference | memFreq | fwLoad | fwSelect | auditRead | captureCancel =>
    obtain rfl := Host.Outcome.next.inj h
    refine CmdSpec.run_limits (by simp) fun r b _ => ?_
    dsimp only
    (repeat' split) <;> simp
  | setCellDir =>
    obtain rfl := Host.Outcome.next.inj h
    refine CmdSpec.run_limits (by simp) fun r b _ => ?_
    (repeat' split) <;> simp
  | dikeLimits =>
    obtain rfl := Host.Outcome.next.inj h
    exact CmdSpec.run_limits (by simp) fun r b hpass => absurd hpass (specDikeLimits_refused (by simpa using hlock))
  | move | home =>
    obtain rfl := Host.Outcome.next.inj h
    refine CmdSpec.run_limits (by simp) fun r _ _ => ?_
    dsimp only
    (repeat' split)
    next => simp
    next => simp
    next e => simp [tryPlan_frame e]
  | descriptorComplete =>
    obtain rfl := Host.Outcome.next.inj h
    (repeat' split)
    next => simp
    next => simp
    next => simp
    next e => simp [State.moveData_keeps e]
    next => simp
  | cellFetchStart =>
    simp only [exec, execCellFetchStart, Host.Outcome.next.injEq] at h
    subst h
    (repeat' split)
    next => simp
    next => simp
    next => simp
    next e => simp [allocCell_frame e]
    next => simp
    next e =>
      obtain ⟨-, -, -, -, -, -, hdike, -, -, -, -, -, -, -, -, -, -, -, -, -, -, -, -, -, -, hr⟩ := pinnedAlloc_frame e
      simp [hr _ rfl, hdike]
    next e => simp [pinnedAlloc_frame e]
    next e => simp [pinnedAlloc_frame e]
  | cellDecodeDone =>
    simp only [exec, execCellDecodeDone, Host.Outcome.next.injEq] at h
    subst h
    (repeat' split)
    next => simp
    next => simp
    next e => simp [decodeBody_state e]
    next e _ => simp [decodeBody_state e]
    next e _ => simp [decodeBody_state e]
  | calAttemptEnd =>
    simp only [exec, execCalAttemptEnd, Host.Outcome.next.injEq] at h
    subst h
    (repeat' split) <;> simp
  | switchEdge | rxHello | rxTelem | rxLane | rxEvent | rxStuckOn | lead | leadTimeout | bar2Access | blockDecoded
    | dramRead | gussetHello | request | order | pairingComplete =>
    simp only [exec, execSwitchEdge, execRxHello, execRxTelem, execRxLane, execRxEvent, execRxStuckOn, execLead,
      execLeadTimeout, execBar2Access, execBlockDecoded, execDramRead, execGussetHello, execRequest, execOrder,
      execPairingComplete, Host.Outcome.next.injEq] at h
    subst h
    (repeat' split) <;> simp
  | _ =>
    obtain rfl := Host.Outcome.next.inj h
    (repeat' split) <;> simp

/-- Settles O8: the limits are what every other command keeps, field by field. -/
theorem lockedDikeLimitsStay : Obligations.LockedDikeLimitsStay := by
  intro c s u hc hlock h
  have hlimits := exec_limits hc hlock h
  simpa [Dike.limits] using hlimits

end Sys2Proof.Machine
end

section
/-! PROOFS. 13 R403 and R410: every operation that writes mailboxes keeps them within their registers, four of them, GEN and
DROPS of 16 bits and replay caches of at most 64 results. -/

namespace Sys2Proof.Machine
open Sys2Proof

/-! ## A list of mailboxes within their registers -/

/-- What `State.mbWf` asks of the list of mailboxes. -/
def mbsBounded (l : List Mailbox) : Bool := l.length == 4 && l.all Mailbox.bounded

theorem State.mbWf_eq (s : State) : s.mbWf = mbsBounded s.mb := rfl

theorem mbsBounded_iff {l : List Mailbox} : mbsBounded l = true ↔ l.length = 4 ∧ ∀ m ∈ l, m.bounded = true := by
  simp [mbsBounded]

theorem mbsBounded_fresh : mbsBounded (List.replicate 4 {}) = true := by decide

theorem listUpd_forall {β : Type} {P : β → Prop} {l : List β} {n : Nat} {f : β → β} (h : ∀ x ∈ l, P x)
    (hf : ∀ x, P x → P (f x)) : ∀ x ∈ listUpd l n f, P x := by
  induction l generalizing n with
  | nil => simp [listUpd]
  | cons y l ih =>
    obtain ⟨hy, hl⟩ := List.forall_mem_cons.1 h
    cases n with
    | zero => exact List.forall_mem_cons.2 ⟨hf y hy, hl⟩
    | succ n => exact List.forall_mem_cons.2 ⟨hy, ih hl⟩

theorem mbsBounded_listUpd {l : List Mailbox} (h : mbsBounded l = true) (n : Nat) {f : Mailbox → Mailbox}
    (hf : ∀ m, m.bounded = true → (f m).bounded = true) : mbsBounded (listUpd l n f) = true := by
  rw [mbsBounded_iff] at h ⊢
  exact ⟨(listUpd_length ..).trans h.1, listUpd_forall h.2 hf⟩

theorem cacheAdd_length (l : List CacheEnt) (e : CacheEnt) : (cacheAdd l e).length ≤ 64 := by
  simp only [cacheAdd, List.length_drop, List.length_append, List.length_singleton]
  omega

theorem mergeCache_length (own copied : List CacheEnt) : (mergeCache own copied).length ≤ 64 := by
  simp only [mergeCache, List.length_drop]
  omega

theorem satInc_lt (w n : Nat) : satInc w n < 2 ^ w := by
  have := Nat.two_pow_pos w
  unfold satInc
  split <;> omega

theorem Mailbox.bounded_iff {m : Mailbox} : m.bounded = true ↔ m.cache.length ≤ 64 ∧ m.gen < 2 ^ 16 ∧ m.drops < 2 ^ 16 :=
  ⟨fun h => of_decide_eq_true h, fun h => decide_eq_true h⟩

theorem Mailbox.write_bounded {m : Mailbox} (h : m.bounded = true) (o v : Nat) : (m.write o v).bounded = true := by
  rw [Mailbox.bounded_iff] at h ⊢
  unfold Mailbox.write
  (repeat' split) <;> exact h

/-! ## Operations of the mailboxes -/

theorem State.updMb_mbs {s : State} (h : mbsBounded s.mb = true) (n : Nat) {f : Mailbox → Mailbox}
    (hf : ∀ m, m.bounded = true → (f m).bounded = true) : mbsBounded (s.updMb n f).mb = true :=
  mbsBounded_listUpd h n hf

@[simp] theorem State.auditDone_mbs {s : State} (h : mbsBounded s.mb = true) (mb : Option Nat) (failed : Bool) :
    mbsBounded (s.auditDone mb failed).mb = true := by
  unfold State.auditDone
  split
  · exact h
  · exact mbsBounded_listUpd h _ fun _ hm => hm

@[simp] theorem State.abandonRecord_mbs {s : State} (h : mbsBounded s.mb = true) : mbsBounded s.abandonRecord.mb = true := by
  unfold State.abandonRecord
  split <;> simp [h]

@[simp] theorem State.complete_mbs {s : State} (h : mbsBounded s.mb = true) (r : Request) (audited : Bool) (st : Nat)
    (fault : Option (FaultName × Nat)) (body : List Byte) : mbsBounded (s.complete r audited st fault body).mb = true := by
  have held (c : Completion) : mbsBounded (listUpd s.mb r.mb fun m => { m with held := some c }) = true :=
    mbsBounded_listUpd h _ fun _ hm => hm
  unfold State.complete
  dsimp only
  split <;> simp [held]

@[simp] theorem CmdSpec.done_mbs {s : State} (h : mbsBounded s.mb = true) (c : CmdSpec) (r : Request) (body : List Byte) :
    mbsBounded (c.done r body s).mb = true := by
  simp [CmdSpec.done, h]

@[simp] theorem CmdSpec.checkFail_mbs {s : State} (h : mbsBounded s.mb = true) (c : CmdSpec) (r : Request) (f : FaultName)
    (addr : Nat) : mbsBounded (c.checkFail r f addr s).mb = true := by
  simp [CmdSpec.checkFail, h]

@[simp] theorem CmdSpec.refuse_mbs {s : State} (h : mbsBounded s.mb = true) (c : CmdSpec) (r : Request) (st : Nat) :
    mbsBounded (c.refuse r st s).mb = true := by
  simp [CmdSpec.refuse, h]

@[simp] theorem State.mergeCaches_mbs {s : State} (h : mbsBounded s.mb = true) : mbsBounded s.mergeCaches.mb = true := by
  unfold State.mergeCaches
  split
  · exact h
  · rw [mbsBounded_iff] at h ⊢
    refine ⟨by simpa using h.1, fun m hm => ?_⟩
    obtain ⟨⟨x, k⟩, hx, rfl⟩ := List.mem_map.1 hm
    obtain ⟨-, hgen, hdrops⟩ := Mailbox.bounded_iff.1 (h.2 x (List.fst_mem_of_mem_zipIdx hx))
    exact Mailbox.bounded_iff.2 ⟨mergeCache_length .., hgen, hdrops⟩

@[simp] theorem State.post_mbs {s : State} (h : mbsBounded s.mb = true) (n : Nat) (c : Completion) :
    mbsBounded (s.post n c).mb = true := by
  unfold State.post
  dsimp only
  rw [(State.vector_frame ..).2.2.2.2.2.2.2.2.2.1]
  refine State.updMb_mbs (by split <;> simpa using h) n fun m hm => ?_
  obtain ⟨hcache, -, hdrops⟩ := Mailbox.bounded_iff.1 hm
  refine Mailbox.bounded_iff.2 ⟨?_, Nat.mod_lt _ (by decide), hdrops⟩
  dsimp only
  split
  · exact cacheAdd_length ..
  · exact hcache

/-- What COMMAND_BEGIN and COMMAND_COPY_DONE make of a request only completes it or replays its result. -/
@[simp] theorem State.replay_mbs {s : State} (h : mbsBounded s.mb = true) (r : Request) (e : CacheEnt) :
    mbsBounded (s.replay r e).mb = true :=
  State.updMb_mbs h _ fun _ hm => hm

@[simp] theorem State.takeUp_mbs {s : State} (h : mbsBounded s.mb = true) (r : Request) : mbsBounded (s.takeUp r).mb = true := by
  unfold State.takeUp
  dsimp only
  (repeat' split) <;> simp [h]

@[simp] theorem State.beginRequest_mbs {s : State} (h : mbsBounded s.mb = true) (r : Request) :
    mbsBounded (s.beginRequest r).mb = true := by
  unfold State.beginRequest
  dsimp only
  (repeat' split) <;> simp [h]

@[simp] theorem State.copyDone_mbs {s : State} (h : mbsBounded s.mb = true) (cur : Current) (data : List Byte) :
    mbsBounded (s.copyDone cur data).mb = true := by
  unfold State.copyDone
  split <;> simp [h]

@[simp] theorem State.writeReg_mbs {s : State} (h : mbsBounded s.mb = true) (off v : Nat) : mbsBounded (s.writeReg off v).mb = true := by
  unfold State.writeReg
  split
  · exact State.updMb_mbs h _ fun _ hm => Mailbox.write_bounded hm _ _
  · simpa using h
  · simpa using h
  · simpa using h
  · simpa using h
  · split <;> simpa using h

/-! ## Operations that end a command on their way -/

@[simp] theorem State.decideJob_mbs {s : State} (h : mbsBounded s.mb = true) (r : Request) (j : Job) :
    mbsBounded (s.decideJob r j).mb = true := by
  unfold State.decideJob
  dsimp only
  (repeat' split) <;> simp [h]

@[simp] theorem State.captureEnds_mbs {s : State} (h : mbsBounded s.mb = true) (r : Request) (st : Nat)
    (fault : Option (FaultName × Nat)) (valid first : Nat) : mbsBounded (s.captureEnds r st fault valid first).mb = true := by
  simp [State.captureEnds, h]

@[simp] theorem State.captureWrite_mbs {s : State} (h : mbsBounded s.mb = true) (r : Request) (c : Capture) (data : List Byte) :
    mbsBounded (s.captureWrite r c data).mb = true := by
  unfold State.captureWrite
  dsimp only
  split <;> simp [h]

@[simp] theorem State.captureEnd_mbs {s : State} (h : mbsBounded s.mb = true) (r : Request) (c : Capture) (sweep : List Byte) :
    mbsBounded (s.captureEnd r c sweep).mb = true := by
  have hmb : (s.captureContent c sweep).2.mb = s.mb := by simp
  unfold State.captureEnd
  (repeat' split) <;> simp_all

@[simp] theorem State.fwDone_mbs {s : State} (h : mbsBounded s.mb = true) (r : Request) (slot len addr : Nat) :
    mbsBounded (s.fwDone r slot len addr).mb = true := by
  have hmb : (s.readBytes 3 addr len).2.mb = s.mb := by simp
  unfold State.fwDone
  dsimp only
  (repeat' split) <;> simp_all

@[simp] theorem State.haltCopies_mbs {s : State} (h : mbsBounded s.mb = true) (f : FaultName) (addr : Nat) :
    mbsBounded (s.haltCopies f addr).mb = true := by
  unfold State.haltCopies
  dsimp only
  (repeat' split) <;> simp [h]

@[simp] theorem State.haltAll_mbs {s : State} (h : mbsBounded s.mb = true) (f : FaultName) (cause addr chan req : Nat) :
    mbsBounded (s.haltAll f cause addr chan req).mb = true := by
  simp [State.haltAll, h]

@[simp] theorem State.haltEvent_mbs {s : State} (h : mbsBounded s.mb = true) (f : FaultName) (cause : Nat) :
    mbsBounded (s.haltEvent f cause).mb = true := by
  simp [State.haltEvent, h]

@[simp] theorem State.dataTrap_mbs {s : State} (h : mbsBounded s.mb = true) (moved : Bool) : mbsBounded (s.dataTrap moved).mb = true := by
  unfold State.dataTrap
  (repeat' split) <;> simp [h]

@[simp] theorem State.sluiceUe_mbs {s : State} (h : mbsBounded s.mb = true) (who : Nat) : mbsBounded (s.sluiceUe who).mb = true := by
  unfold State.sluiceUe
  (repeat' split) <;> simp [h]

@[simp] theorem State.readFailed_mbs {s : State} (h : mbsBounded s.mb = true) (requester who1 who2 block : Nat) :
    mbsBounded (s.readFailed requester who1 who2 block).mb = true := by
  unfold State.readFailed
  split <;> simp [h]

/-! ## The pair -/

@[simp] theorem State.becomeActive_mbs {s : State} (h : mbsBounded s.mb = true) : mbsBounded s.becomeActive.mb = true := by
  unfold State.becomeActive
  dsimp only
  split <;> simp [h]

@[simp] theorem State.outputPhase_mbs {s : State} (h : mbsBounded s.mb = true) (finished : Bool) :
    mbsBounded (s.outputPhase finished).mb = true := by
  unfold State.outputPhase
  dsimp only
  (repeat' split) <;> simp [h]

@[simp] theorem State.takeOver_mbs {s : State} (h : mbsBounded s.mb = true) : mbsBounded s.takeOver.mb = true := by
  simp [State.takeOver, h]

@[simp] theorem State.peerGone_mbs {s : State} (h : mbsBounded s.mb = true) (peerLive : Bool) :
    mbsBounded (s.peerGone peerLive).mb = true := by
  unfold State.peerGone
  (repeat' split) <;> simp [h]

/-! ## Reset -/

theorem State.leaveReset_mb (c : ResetCause) (w b : Bool) (k : Nat) (s : State) :
    (s.leaveReset c w b k).mb = List.replicate 4 {} := by
  cases w <;> rfl

theorem State.loadShed_mbs {s : State} (h : mbsBounded s.mb = true) (kind : Nat) : mbsBounded (s.loadShed kind).mb = true := by
  unfold State.loadShed
  dsimp only
  split
  · simpa using h
  · split
    · simpa using h
    · exact mbsBounded_fresh

end Sys2Proof.Machine
end

section
/-! PROOFS. Every command keeps the two memories in their canonical form and the mailboxes within their registers, and with it
every step (13 R403, R410; 14 R440; 05 R136). -/

namespace Sys2Proof.Machine
open Sys2Proof

/-- Both memories and the mailboxes are at their reset contents. -/
def State.cleared (u : State) : Prop := u.dram = {} ∧ u.pol.sram = [] ∧ u.mb = List.replicate 4 {}

/-- Both memories and the mailboxes are those of another state, or at their reset contents. -/
def State.keptOrCleared (s u : State) : Prop := (u.dram = s.dram ∧ u.pol.sram = s.pol.sram ∧ u.mb = s.mb) ∨ u.cleared

theorem State.enterSleep_cleared (s : State) : s.enterSleep.cleared := ⟨rfl, rfl, rfl⟩
theorem State.enterBoot_cleared (c : ResetCause) (b : Bool) (k : Nat) (s : State) : (s.enterBoot c b k).cleared := ⟨rfl, rfl, rfl⟩
theorem State.leaveReset_cleared (c : ResetCause) (w b : Bool) (k : Nat) (s : State) : (s.leaveReset c w b k).cleared := by
  cases w <;> exact ⟨rfl, rfl, rfl⟩

theorem State.holdReset_cleared (s : State) : s.holdReset.cleared := ⟨rfl, rfl, rfl⟩

theorem State.loadShed_keptOrCleared {s v : State} (h : v.dram = s.dram ∧ v.pol.sram = s.pol.sram ∧ v.mb = s.mb) (kind : Nat) :
    s.keptOrCleared (v.loadShed kind) := by
  unfold State.loadShed
  dsimp only
  split
  · exact .inl (by simpa using h)
  · split
    · exact .inl (by simpa using h)
    · exact .inr ⟨rfl, rfl, rfl⟩

def powerCommand : Instr → Bool
  | .powerUp .. => true
  | .resetNAssert .. => true
  | .resetNRelease .. => true
  | .resetEntry .. => true
  | .powerFailDetect .. => true
  | .dieTempSample .. => true
  | .vstbyLoss .. => true
  | _ => false

theorem exec_power_contents {c : Instr} {s u : State} (hc : powerCommand c = true) (h : exec c s = .next u) : s.keptOrCleared u := by
  cases c with
  | powerUp =>
    simp only [exec, execPowerUp, Host.Outcome.next.injEq] at h
    subst h
    (repeat' split)
    next => exact .inl (by simp)
    next => exact .inr ⟨rfl, rfl, rfl⟩
    next => exact .inr ⟨rfl, rfl, rfl⟩
    next => exact .inr ⟨rfl, rfl, rfl⟩
    next => exact .inl (by simp)
  | resetNAssert =>
    obtain rfl := Host.Outcome.next.inj h
    split
    · exact .inl (by simp)
    · exact .inr (State.holdReset_cleared _)
  | resetNRelease =>
    simp only [exec, execResetNRelease, Host.Outcome.next.injEq] at h
    subst h
    (repeat' split)
    · exact .inl (by simp)
    · exact .inl (by simp)
    · exact .inr (State.leaveReset_cleared ..)
  | resetEntry =>
    obtain rfl := Host.Outcome.next.inj h
    (repeat' split)
    · exact .inl (by simp)
    · exact .inl (by simp)
    · exact .inr (State.leaveReset_cleared ..)
  | powerFailDetect =>
    obtain rfl := Host.Outcome.next.inj h
    split
    · exact .inl (by simp)
    · exact State.loadShed_keptOrCleared (by simp) _
  | dieTempSample =>
    simp only [exec, execDieTempSample, Host.Outcome.next.injEq] at h
    subst h
    split
    · exact .inl (by simp)
    · split
      · exact State.loadShed_keptOrCleared (by split <;> simp) _
      · exact .inl (by split <;> simp)
  | vstbyLoss =>
    obtain rfl := Host.Outcome.next.inj h
    exact .inr ⟨rfl, rfl, rfl⟩
  | _ => cases hc

/-! ## The three bounds together -/

/-- A second state meets what the first meets of: the mailboxes within their registers, each memory in its canonical form. -/
def State.keepsBounds (s u : State) : Prop :=
  (mbsBounded s.mb = true → mbsBounded u.mb = true) ∧ (sramWf s.pol.sram = true → sramWf u.pol.sram = true) ∧
  (s.dram.wf = true → u.dram.wf = true)

theorem State.cleared_keepsBounds {u : State} (h : u.cleared) (s : State) : s.keepsBounds u := by
  obtain ⟨hdram, hsram, hmb⟩ := h
  refine ⟨fun _ => ?_, fun _ => ?_, fun _ => ?_⟩
  · rw [hmb]
    exact mbsBounded_fresh
  · rw [hsram]
    rfl
  · rw [hdram]
    rfl

theorem State.keptOrCleared_keepsBounds {s u : State} (h : s.keptOrCleared u) : s.keepsBounds u := by
  obtain ⟨hdram, hsram, hmb⟩ | h := h
  · simp [State.keepsBounds, hdram, hsram, hmb]
  · exact State.cleared_keepsBounds h s

theorem State.atTime_keepsBounds (s : State) (t : Nat) : s.keepsBounds (s.atTime t) := by
  simp [State.keepsBounds]

theorem State.keepsBounds_trans {s v u : State} (hv : s.keepsBounds v) (hu : v.keepsBounds u) : s.keepsBounds u := by
  obtain ⟨hm, hs, hd⟩ := hv
  obtain ⟨hm', hs', hd'⟩ := hu
  exact ⟨hm' ∘ hm, hs' ∘ hs, hd' ∘ hd⟩

theorem CmdSpec.done_keepsBounds {s v : State} (h : s.keepsBounds v) (c : CmdSpec) (r : Request) (body : List Byte) :
    s.keepsBounds (c.done r body v) :=
  State.keepsBounds_trans h (by simp +contextual [State.keepsBounds])

theorem CmdSpec.checkFail_keepsBounds {s v : State} (h : s.keepsBounds v) (c : CmdSpec) (r : Request) (f : FaultName)
    (payload : Nat) : s.keepsBounds (c.checkFail r f payload v) :=
  State.keepsBounds_trans h (by simp +contextual [State.keepsBounds])

theorem CmdSpec.run_keepsBounds {c : CmdSpec} {v : State} {f : Request → List Byte → State → State}
    (hf : ∀ r b, v.keepsBounds (f r b v)) : v.keepsBounds (c.run v f) :=
  CmdSpec.run_keeps ⟨id, id, id⟩ (fun r st => by simp +contextual [State.keepsBounds]) fun r b _ => hf r b

theorem CmdSpec.status'_keepsBounds {c : CmdSpec} {v : State} {body : State → List Byte} {clear : State → State}
    (hmb : (clear v).mb = v.mb) (hsram : (clear v).pol.sram = v.pol.sram) (hdram : (clear v).dram = v.dram) :
    v.keepsBounds (c.status' body clear v) := by
  refine CmdSpec.run_keepsBounds fun _ _ => ?_
  split <;> simp +contextual [State.keepsBounds, hmb, hsram, hdram]

/-! ## The mailboxes -/

/-- MB_DOORBELL counts a drop, or starts the request slot's command. -/
theorem execMbDoorbell_mbs {t n : Nat} {s u : State} (hw : mbsBounded s.mb = true) (h : exec (.mbDoorbell t n) s = .next u) :
    mbsBounded u.mb = true := by
  obtain rfl := Host.Outcome.next.inj h
  have hw' : mbsBounded (s.atTime t).mb = true := by simpa using hw
  split
  · exact hw'
  · split
    · exact State.updMb_mbs hw' n fun _ hm => hm
    · refine State.updMb_mbs hw' n fun m hm => ?_
      obtain ⟨hcache, hgen, -⟩ := Mailbox.bounded_iff.1 hm
      exact Mailbox.bounded_iff.2 ⟨hcache, hgen, satInc_lt ..⟩

theorem execMbAck_mbs {t n gen : Nat} {s u : State} (hw : mbsBounded s.mb = true) (h : exec (.mbAck t n gen) s = .next u) :
    mbsBounded u.mb = true := by
  obtain rfl := Host.Outcome.next.inj h
  refine State.updMb_mbs (by simpa using hw) n fun m hm => ?_
  split
  · exact hm
  · exact hm

/-! ## The memory controller and Boot -/

/-- The canonical form speaks of the contents only. -/
theorem Dram.wf_other (d : Dram) (merge : List Merge) (sub : List SubCh) (rate : Nat) (delays : List Byte) (forcedRaised : Bool)
    (fetchFaults : List Nat) :
    Dram.wf ⟨d.blocks, d.valid, d.filled, d.mapCheck, merge, sub, rate, delays, forcedRaised, fetchFaults⟩ = d.wf := rfl

theorem State.haltEvent_dram_wf {s : State} (h : s.dram.wf = true) (f : FaultName) (cause : Nat) :
    (s.haltEvent f cause).dram.wf = true := State.haltAll_dram_wf h ..

theorem State.initDram_mb_sram {memFail : Option (Nat × Nat)} {s u : State} (h : s.initDram memFail = some u) :
    u.mb = s.mb ∧ u.pol.sram = s.pol.sram := by
  unfold State.initDram at h
  split at h
  · cases h
  · split at h
    · cases h
    · obtain rfl := Option.some.inj h
      exact ⟨rfl, rfl⟩

/-! ## Every command and every step -/

theorem execCacheConfig_keepsBounds {t : Nat} {s u : State} (h : exec (.cacheConfig t) s = .next u) : s.keepsBounds u := by
  obtain rfl := Host.Outcome.next.inj h
  refine State.keepsBounds_trans (State.atTime_keepsBounds s t) (CmdSpec.run_keepsBounds fun r b => ?_)
  by_cases hfit : regionsFit (fld r.params 0 1) 0 (s.atTime t).cc.dirEntries
  · rw [if_pos hfit]
    exact CmdSpec.done_keepsBounds (by simp [State.keepsBounds]) ..
  · rw [if_neg hfit]
    exact CmdSpec.checkFail_keepsBounds (by simp [State.keepsBounds]) ..

theorem execSleep_keepsBounds {t : Nat} {wakeN : Bool} {s u : State} (h : exec (.sleep t wakeN) s = .next u) : s.keepsBounds u := by
  obtain rfl := Host.Outcome.next.inj h
  refine State.keepsBounds_trans (v := (s.atTime t).updEng fun e => { e with wakeN := wakeN }) (by simp [State.keepsBounds]) ?_
  exact CmdSpec.run_keepsBounds fun r b => State.cleared_keepsBounds (State.enterSleep_cleared _) _

theorem execMove_keepsBounds {t : Nat} {s u : State} (h : exec (.move t) s = .next u) : s.keepsBounds u := by
  obtain rfl := Host.Outcome.next.inj h
  refine State.keepsBounds_trans (State.atTime_keepsBounds s _) (CmdSpec.run_keepsBounds fun r _ => ?_)
  dsimp only
  (repeat' split)
  next => simp +contextual [State.keepsBounds]
  next => simp +contextual [State.keepsBounds]
  next e => simp +contextual [State.keepsBounds, tryPlan_frame e]

theorem execHome_keepsBounds {t : Nat} {s u : State} (h : exec (.home t) s = .next u) : s.keepsBounds u := by
  obtain rfl := Host.Outcome.next.inj h
  refine State.keepsBounds_trans (State.atTime_keepsBounds s _) (CmdSpec.run_keepsBounds fun r _ => ?_)
  dsimp only
  (repeat' split)
  next => simp +contextual [State.keepsBounds]
  next => simp +contextual [State.keepsBounds]
  next e => simp +contextual [State.keepsBounds, tryPlan_frame e]

/-- The rows of the command set: those that write a configuration or open an operation after its checks, those that answer a
status, and SLEEP, after which the memories are empty. -/
theorem exec_row_keepsBounds {c : Instr} {s u : State} (hr : (mailboxRow c s).isSome) (h : exec c s = .next u) :
    s.keepsBounds u := by
  cases c with
  | timeStatus | configDigest | jobStatus | cacheStats | loomStats | polderStatus | shuttleStatus | hemStatus
    | cuffStatus | slackStatus | braceStatus | calStatus | journalStatus =>
    obtain rfl := Host.Outcome.next.inj h
    exact State.keepsBounds_trans (State.atTime_keepsBounds s _) (CmdSpec.status'_keepsBounds (by simp) (by simp) (by simp))
  | reset | roleSwap | faultConfig | cuffRetrain | hemConfig | slackConfig | feed | jobEnd | clearFault
    | stripePause | stripeAbort | calibrate | stripeResume | bandRetry | axisEnable | axisDisable | stop | probeArm
    | rcClear | calConfig | capture | setCellDir =>
    obtain rfl := Host.Outcome.next.inj h
    refine State.keepsBounds_trans (State.atTime_keepsBounds s _) (CmdSpec.run_keepsBounds fun r b => ?_)
    (repeat' split) <;> simp +contextual [State.keepsBounds]
  | dikeLimits | twinTimeConfig | faultInject | loadTable | loomConfig | polderConfig
    | shuttleConfig | cuffConfig | jobStart | stripeStart | feedConfig | probeSwitchConfig | servoConfig | probeRead | compareLoad
    | rereference | memFreq | fwLoad | fwSelect | auditRead | captureCancel =>
    obtain rfl := Host.Outcome.next.inj h
    refine State.keepsBounds_trans (State.atTime_keepsBounds s _) (CmdSpec.run_keepsBounds fun r b => ?_)
    dsimp only
    (repeat' split) <;> simp +contextual [State.keepsBounds, Dram.wf_other]
  | cacheConfig => exact execCacheConfig_keepsBounds h
  | sleep => exact execSleep_keepsBounds h
  | move => exact execMove_keepsBounds h
  | home => exact execHome_keepsBounds h
  | _ => cases hr

theorem execMbDoorbell_keepsBounds {t n : Nat} {s u : State} (h : exec (.mbDoorbell t n) s = .next u) : s.keepsBounds u := by
  refine ⟨fun hm => execMbDoorbell_mbs hm h, ?_⟩
  obtain rfl := Host.Outcome.next.inj h
  (repeat' split) <;> simp

theorem execMbAck_keepsBounds {t n gen : Nat} {s u : State} (h : exec (.mbAck t n gen) s = .next u) : s.keepsBounds u := by
  refine ⟨fun hm => execMbAck_mbs hm h, ?_⟩
  obtain rfl := Host.Outcome.next.inj h
  simp

theorem execDescriptorComplete_keepsBounds {t n : Nat} {data : List Byte} {s u : State} (h : exec (.descriptorComplete t n data) s = .next u) : s.keepsBounds u := by
  obtain rfl := Host.Outcome.next.inj h
  (repeat' split)
  next => simp +contextual [State.keepsBounds]
  next => simp +contextual [State.keepsBounds]
  next => simp +contextual [State.keepsBounds, State.scramble_dram_wf]
  next e =>
    simp +contextual [State.keepsBounds, State.moveData_keeps e, State.moveData_dram_wf (s := s.atTime _) (e := e)]
  next => simp +contextual [State.keepsBounds, State.failDesc_dram_wf, State.readBytes_dram_wf]

theorem execCellFetchStart_keepsBounds {t : Nat} {s u : State} (h : exec (.cellFetchStart t) s = .next u) : s.keepsBounds u := by
  simp only [exec, execCellFetchStart, Host.Outcome.next.injEq] at h
  subst h
  (repeat' split)
  next => simp +contextual [State.keepsBounds]
  next => simp +contextual [State.keepsBounds]
  next => simp +contextual [State.keepsBounds]
  next e => simp +contextual [State.keepsBounds, allocCell_frame e]
  next => simp +contextual [State.keepsBounds]
  next e =>
    obtain ⟨-, -, -, -, -, -, -, -, -, -, hmb, -, -, hdram, -, -, -, -, -, -, hpol, -, -, -, -, hr⟩ := pinnedAlloc_frame e
    simp +contextual [State.keepsBounds, hr _ rfl, hmb, hdram, hpol]
  next e => simp +contextual [State.keepsBounds, pinnedAlloc_frame e]
  next e => simp +contextual [State.keepsBounds, pinnedAlloc_frame e]

theorem execCellDecodeDone_keepsBounds {t cell : Nat} {s u : State} (h : exec (.cellDecodeDone t cell) s = .next u) : s.keepsBounds u := by
  simp only [exec, execCellDecodeDone, Host.Outcome.next.injEq] at h
  subst h
  (repeat' split)
  next => simp +contextual [State.keepsBounds]
  next => simp +contextual [State.keepsBounds]
  next e => simp +contextual [State.keepsBounds, decodeBody_state e]
  next e _ => simp +contextual [State.keepsBounds, decodeBody_state e]
  next e _ => simp +contextual [State.keepsBounds, decodeBody_state e]

theorem execBootComplete_keepsBounds {t : Nat} {memFail : Option (Nat × Nat)} {s u : State} (h : exec (.bootComplete t memFail) s = .next u) : s.keepsBounds u := by
  simp only [exec, execBootComplete, Host.Outcome.next.injEq] at h
  subst h
  split
  · simp +contextual [State.keepsBounds]
  · split
    · simp +contextual [State.keepsBounds]
    · split
      next e => simp +contextual [State.keepsBounds, State.initDram_mb_sram e, State.initDram_dram_wf _ e]
      next => split <;> simp +contextual [State.keepsBounds]

theorem execCalAttemptEnd_keepsBounds {t output bank : Nat} {n1 n2 : List Nat} {tAvg : Int} {s u : State}
    (h : exec (.calAttemptEnd t output bank n1 n2 tAvg) s = .next u) : s.keepsBounds u := by
  simp only [exec, execCalAttemptEnd, Host.Outcome.next.injEq] at h
  subst h
  (repeat' split) <;> simp +contextual [State.keepsBounds]

/-- The commands that read or write DRAM or Polder's SRAM, queue pieces of transfers, or halt the transfers. -/
def memoryCommand : Instr → Bool
  | .fnReset .. => true
  | .linkDown .. => true
  | .bmeOff .. => true
  | .busErr .. => true
  | .completionTimeout .. => true
  | .descriptorFetched .. => true
  | .fwLoadDone .. => true
  | .captureEnd .. => true
  | .tileWritten .. => true
  | .owedRefresh .. => true
  | .memTempRead .. => true
  | .requestPromotion .. => true
  | .dramRead .. => true
  | .dramWrite .. => true
  | .mergeFlush .. => true
  | .scrubRead .. => true
  | .pieceComplete .. => true
  | .bar2Access .. => true
  | _ => false

theorem exec_memory_keepsBounds {c : Instr} {s u : State} (hc : memoryCommand c = true) (h : exec c s = .next u) :
    s.keepsBounds u := by
  cases c with
  | fnReset | linkDown | bmeOff | busErr | completionTimeout =>
    obtain rfl := Host.Outcome.next.inj h
    (repeat' split) <;> simp +contextual [State.keepsBounds, State.haltAll_dram_wf, State.haltEvent_dram_wf]
  | owedRefresh | memTempRead | requestPromotion | pieceComplete =>
    obtain rfl := Host.Outcome.next.inj h
    simp [State.keepsBounds, Dram.wf_other]
  | tileWritten =>
    obtain rfl := Host.Outcome.next.inj h
    simp +contextual [State.keepsBounds, State.tileWritten_sram_wf]
  | bar2Access | dramRead =>
    simp only [exec, execBar2Access, execDramRead, Host.Outcome.next.injEq] at h
    subst h
    (repeat' split) <;> simp +contextual [State.keepsBounds, State.writeBytes_dram_wf, State.readBytes_dram_wf,
      State.readBlock_dram_wf, State.readFailed_dram_wf]
  | dramWrite | mergeFlush | scrubRead =>
    obtain rfl := Host.Outcome.next.inj h
    (repeat' split) <;> simp +contextual [State.keepsBounds, State.writeRange_dram_wf, State.flushEntry_dram_wf,
      State.readBlock_dram_wf]
  | descriptorFetched | fwLoadDone | captureEnd =>
    obtain rfl := Host.Outcome.next.inj h
    (repeat' split) <;> simp +contextual [State.keepsBounds, State.startDesc_dram_wf, State.takeFree_dram_wf, State.fwDone_dram_wf,
      State.captureEnd_dram_wf]
  | _ => cases hc

/-- The messages of the lanes and of Gusset, and the instants that go with them. -/
def linkCommand : Instr → Bool
  | .trainTimeout .. => true
  | .alignTimeout .. => true
  | .lostRetrain .. => true
  | .rxHello .. => true
  | .rxTelem .. => true
  | .rxLane .. => true
  | .rxEvent .. => true
  | .rxStuckOn .. => true
  | .retCrc .. => true
  | .retLost .. => true
  | .gussetHello .. => true
  | .pairingComplete .. => true
  | .heartbeatSlot .. => true
  | .heartbeat .. => true
  | .liveLost .. => true
  | .state .. => true
  | .stateEnd .. => true
  | .setpoint .. => true
  | .commit .. => true
  | .withdraw .. => true
  | .band .. => true
  | .digest .. => true
  | .digestTimeout .. => true
  | .check .. => true
  | .time .. => true
  | .timeBroadcast .. => true
  | .gussetTakeover .. => true
  | .gusGap .. => true
  | .lead .. => true
  | .leadTimeout .. => true
  | .request .. => true
  | .order .. => true
  | .helloTimeout .. => true
  | .helloBroadcast .. => true
  | .leadBroadcast .. => true
  | _ => false

theorem exec_link_keepsBounds {c : Instr} {s u : State} (hc : linkCommand c = true) (h : exec c s = .next u) : s.keepsBounds u := by
  cases c with
  | rxHello | rxTelem | rxLane | rxEvent | rxStuckOn | lead | leadTimeout | gussetHello | request | order
    | pairingComplete | heartbeatSlot =>
    simp only [exec, execRxHello, execRxTelem, execRxLane, execRxEvent, execRxStuckOn, execLead,
      execLeadTimeout, execGussetHello, execRequest, execOrder, execPairingComplete, execHeartbeatSlot,
      Host.Outcome.next.injEq] at h
    subst h
    (repeat' split) <;> simp +contextual [State.keepsBounds]
  | trainTimeout | alignTimeout | lostRetrain | retCrc | retLost | heartbeat | liveLost | state | stateEnd | setpoint
    | commit | withdraw | band | digest | digestTimeout | check | time | timeBroadcast | gussetTakeover | gusGap
    | helloTimeout | helloBroadcast | leadBroadcast =>
    obtain rfl := Host.Outcome.next.inj h
    (repeat' split) <;> simp +contextual [State.keepsBounds]
  | _ => cases hc

/-- In order: rows of the command set; those that can end in a reset or Sleep; those of the memories and
of the links; the mailboxes' doorbells;
commands that take a state from an operation that answers other things too; those with a match of several operations; every other. -/
theorem exec_keepsBounds {c : Instr} {s u : State} (h : exec c s = .next u) : s.keepsBounds u := by
  cases c with
  | timeStatus | configDigest | jobStatus | cacheStats | loomStats | polderStatus | shuttleStatus | hemStatus
    | cuffStatus | slackStatus | braceStatus | calStatus | journalStatus | cacheConfig | reset | roleSwap | faultConfig | cuffRetrain
    | hemConfig | slackConfig | feed | jobEnd | clearFault | stripePause | stripeAbort | calibrate | stripeResume | bandRetry
    | axisEnable | axisDisable | stop | probeArm | rcClear | calConfig | capture | setCellDir | dikeLimits | twinTimeConfig
    | faultInject | loadTable | loomConfig | polderConfig | shuttleConfig | cuffConfig | jobStart | stripeStart | feedConfig
    | probeSwitchConfig | servoConfig | probeRead | compareLoad | rereference | memFreq | fwLoad | fwSelect | auditRead
    | captureCancel | sleep | move | home =>
    exact exec_row_keepsBounds rfl h
  | powerUp | resetNAssert | resetNRelease | resetEntry | powerFailDetect | dieTempSample | vstbyLoss =>
    exact State.keptOrCleared_keepsBounds (exec_power_contents rfl h)
  | fnReset | linkDown | bmeOff | busErr | completionTimeout | descriptorFetched | fwLoadDone | captureEnd | tileWritten
    | owedRefresh | memTempRead | requestPromotion | dramRead | dramWrite | mergeFlush | scrubRead | pieceComplete | bar2Access =>
    exact exec_memory_keepsBounds rfl h
  | mbDoorbell => exact execMbDoorbell_keepsBounds h
  | mbAck => exact execMbAck_keepsBounds h
  | descriptorComplete => exact execDescriptorComplete_keepsBounds h
  | cellFetchStart => exact execCellFetchStart_keepsBounds h
  | cellDecodeDone => exact execCellDecodeDone_keepsBounds h
  | bootComplete => exact execBootComplete_keepsBounds h
  | calAttemptEnd => exact execCalAttemptEnd_keepsBounds h
  | trainTimeout | alignTimeout | lostRetrain | rxHello | rxTelem | rxLane | rxEvent | rxStuckOn | retCrc | retLost
    | gussetHello | pairingComplete | heartbeatSlot | heartbeat | liveLost | state | stateEnd | setpoint | commit
    | withdraw | band | digest | digestTimeout | check | time | timeBroadcast | gussetTakeover | gusGap | lead
    | leadTimeout | request | order | helloTimeout | helloBroadcast | leadBroadcast =>
    exact exec_link_keepsBounds rfl h
  | commandBegin | cqHeadWrite | cellFetchDone | streamRecord | switchEdge | blockDecoded =>
    simp only [exec, execCommandBegin, execCqHeadWrite, execCellFetchDone, execStreamRecord, execSwitchEdge,
      execBlockDecoded, Host.Outcome.next.injEq] at h
    subst h
    (repeat' split) <;> simp +contextual [State.keepsBounds, State.startDesc_dram_wf]
  | _ =>
    obtain rfl := Host.Outcome.next.inj h
    (repeat' split) <;> simp +contextual [State.keepsBounds]

/-- Settles O5: each command keeps the three bounds, and taking it off the queue leaves them alone. -/
theorem stepKeepsInvariants : Obligations.StepKeepsInvariants := by
  intro s u h
  obtain ⟨-, rfl⟩ | ⟨c, rest, -, hc⟩ := step_cases h
  · exact ⟨id, id⟩
  · obtain ⟨hmb, hsram, hdram⟩ := exec_keepsBounds hc
    refine ⟨fun hw => ?_, hmb⟩
    obtain ⟨hd, hs⟩ := Bool.and_eq_true_iff.1 hw
    exact Bool.and_eq_true_iff.2 ⟨hdram hd, hsram hs⟩

end Sys2Proof.Machine
end

section
/-! PROOFS. The bytes of a result: a field of bytes put one behind the other, of a number, of counters in a row; and the status
blocks of the engine and of the stores (13 R417, Tables MBOX-4 to MBOX-6; 03 R109; 05 R156; 16 Tables STORE-3 and STORE-7). -/

namespace Sys2Proof.Machine
open Sys2Proof

/-! ## Fields of bytes put together (00 R10) -/

theorem fld_append_left {a : List Byte} {off n : Nat} (h : off + n ≤ a.length) (b : List Byte) :
    fld (a ++ b) off n = fld a off n := by
  rw [fld, fld, List.drop_append_of_le_length (by omega), List.take_append_of_le_length (by rw [List.length_drop]; omega)]

theorem fld_append_right {a : List Byte} {off : Nat} (h : a.length ≤ off) (b : List Byte) (n : Nat) :
    fld (a ++ b) off n = fld b (off - a.length) n := by
  rw [fld, fld, List.drop_append, List.drop_eq_nil_of_le h, List.nil_append]

theorem fld_cons_later {off : Nat} (h : 0 < off) (x : Byte) (b : List Byte) (n : Nat) : fld (x :: b) off n = fld b (off - 1) n :=
  fld_append_right (a := [x]) h b n

@[simp] theorem fld_byte (x : Byte) (b : List Byte) : fld (x :: b) 0 1 = x.toNat := by
  simp [fld, leNat]

@[simp] theorem byteOf_toNat (v : Nat) : (byteOf v).toNat = v % 256 := by
  rw [byteOf, BitVec.toNat_ofNat]

@[simp] theorem fld_leBytes (n v : Nat) : fld (leBytes n v) 0 n = v % 256 ^ n := by
  rw [fld, List.drop_zero, List.take_of_length_le (leBytes_length n v).le, leNat_leBytes]

@[simp] theorem leNat_replicate_zero (m : Nat) : leNat (List.replicate m 0#8) = 0 := by
  induction m with
  | zero => rfl
  | succ m ih => rw [List.replicate_succ, leNat, ih]; rfl

@[simp] theorem fld_zeros (m off n : Nat) : fld (List.replicate m 0#8) off n = 0 := by
  rw [fld, List.drop_replicate, List.take_replicate, leNat_replicate_zero]

/-- A field within one of several parts of one width. -/
theorem fld_flatMap {α : Type} {f : α → List Byte} {w : Nat} (hw : ∀ x, (f x).length = w) {l : List α} {k : Nat} {x : α}
    (hx : l[k]? = some x) {off n : Nat} (h : off + n ≤ w) : fld (l.flatMap f) (w * k + off) n = fld (f x) off n := by
  induction l generalizing k with
  | nil => cases hx
  | cons y l ih =>
    rw [List.flatMap_cons]
    cases k with
    | zero =>
      obtain rfl : y = x := by simpa using hx
      rw [Nat.mul_zero, Nat.zero_add, fld_append_left (by rw [hw]; exact h)]
    | succ k =>
      rw [fld_append_right (by rw [hw, Nat.mul_succ]; omega), hw, ← ih (by simpa using hx)]
      congr 1
      rw [Nat.mul_succ]
      omega

theorem flatMap_length {α : Type} {f : α → List Byte} {w : Nat} (hw : ∀ x, (f x).length = w) (l : List α) :
    (l.flatMap f).length = w * l.length := by
  induction l with
  | nil => rfl
  | cons y l ih => rw [List.flatMap_cons, List.length_append, hw, ih, List.length_cons, Nat.mul_succ, Nat.add_comm]

/-! ## Signed fields -/

@[simp] theorem leSigned_length (n : Nat) (x : Int) : (leSigned n x).length = n := leBytes_length ..

theorem toBits_lt (n : Nat) (x : Int) : toBits n x < 2 ^ n := by
  have hpos : (0 : Int) < 2 ^ n := by positivity
  have hlt := Int.emod_lt_of_pos x hpos
  have hle := Int.emod_nonneg x hpos.ne'
  have hcast : ((toBits n x : Nat) : Int) = x % 2 ^ n := Int.toNat_of_nonneg hle
  zify
  rwa [hcast]

@[simp] theorem fld_leSigned (n : Nat) (x : Int) : fld (leSigned n x) 0 n = (x % 2 ^ (8 * n)).toNat := by
  have hlt := toBits_lt (8 * n) x
  rw [leSigned, fld_leBytes, Nat.mod_eq_of_lt (by rwa [pow_mul] at hlt)]
  rfl

/-- A number within the range of n bytes comes back as it went in. -/
theorem wrapS_toBits {n : Nat} (hn : 0 < n) {x : Int} (hlo : -2 ^ (n - 1) ≤ x) (hhi : x < 2 ^ (n - 1)) :
    wrapS n (Int.ofNat (x % 2 ^ n).toNat) = x := by
  obtain ⟨m, rfl⟩ : ∃ m, n = m + 1 := ⟨n - 1, by omega⟩
  simp only [Nat.add_sub_cancel] at hlo hhi
  have hpow : (2 : Int) ^ (m + 1) = 2 * 2 ^ m := pow_succ' 2 m
  have hpos : (0 : Int) < 2 ^ m := by positivity
  have hmod : (Int.ofNat (x % 2 ^ (m + 1)).toNat).emod (2 ^ (m + 1)) = x % 2 ^ (m + 1) := by
    rw [Int.ofNat_eq_natCast, Int.toNat_of_nonneg (Int.emod_nonneg x (by positivity))]
    exact Int.emod_emod_of_dvd x (dvd_refl _)
  simp only [wrapS, hmod, Nat.add_sub_cancel]
  rcases lt_or_ge x 0 with hneg | hpos'
  · have hx : x % 2 ^ (m + 1) = x + 2 ^ (m + 1) := by
      rw [← Int.add_emod_right, Int.emod_eq_of_lt (by omega) (by omega)]
    rw [hx, if_neg (by omega)]
    omega
  · rw [Int.emod_eq_of_lt hpos' (by omega), if_pos hhi]

/-! ## The configuration's check value -/

theorem crc64Bit_lt {q : Nat} (v : Bool) : crc64Bit q v < 2 ^ 64 := by
  unfold crc64Bit
  dsimp only
  split
  · exact Nat.xor_lt_two_pow (Nat.mod_lt _ (by positivity)) (by norm_num)
  · exact Nat.mod_lt _ (by positivity)

/-- The check value of any bytes is one of 64 bits. -/
theorem crc64_lt {q : Nat} (h : q < 2 ^ 64) (d : List Byte) : crc64 q d < 2 ^ 64 :=
  List.foldlRecOn (motive := (· < 2 ^ 64)) d _ h fun _ hq b _ =>
    List.foldlRecOn (motive := (· < 2 ^ 64)) (msbBits 8 b.toNat) _ hq fun _ _ v _ => crc64Bit_lt v

/-! ## Counters in a row -/

@[simp] theorem u64s_length (l : List Nat) : (u64s l).length = 8 * l.length := flatMap_length (fun _ => leBytes_length ..) l

/-- Each is a u64 that saturates. -/
theorem fld_u64s {l : List Nat} {k : Nat} (h : k < l.length) : fld (u64s l) (8 * k) 8 = min (l.getD k 0) (2 ^ 64 - 1) := by
  rw [u64s, ← Nat.add_zero (8 * k), fld_flatMap (fun _ => leBytes_length ..) (List.getElem?_eq_getElem h) (le_refl 8), fld_leBytes,
    Nat.mod_eq_of_lt (by omega), List.getD_eq_getElem _ _ h]

/-- The first of the counters that are left once some are behind it. -/
theorem fld_u64s_head (x : Nat) (l : List Nat) : fld (u64s (x :: l)) 0 8 = min x (2 ^ 64 - 1) :=
  fld_u64s (l := x :: l) (k := 0) (Nat.succ_pos _)

theorem fld_u64s_later {off : Nat} (h : 8 ≤ off) (x : Nat) (l : List Nat) (n : Nat) :
    fld (u64s (x :: l)) off n = fld (u64s l) (off - 8) n := by
  have hlen : (leBytes 8 (min x (2 ^ 64 - 1))).length = 8 := leBytes_length ..
  rw [u64s, List.flatMap_cons, fld_append_right (by rw [hlen]; exact h), hlen]
  rfl

/-! ## The status commands (13 R417) -/

/-- The body is of the state that the checks see; bit 0 of the block says whether the counters are cleared behind it. -/
theorem CmdSpec.status'_passes {c : CmdSpec} {cur : Current} {s : State} (h : c.Passes cur s) (body : State → List Byte)
    (clear : State → State) :
    c.status' body clear s = c.done cur.req (body s) (if fld cur.req.params 0 1 = 1 then clear s else s) := by
  rw [CmdSpec.status', CmdSpec.run_passes h]
  by_cases hclear : fld cur.req.params 0 1 = 1 <;> simp [clearBit, hclear]

/-- Settles O15: each body is its table's row of counters, which the clear does not reach. -/
theorem statusCounters : Obligations.StatusCounters := by
  intro t cur s
  refine ⟨fun h => ⟨_, congrArg Host.Outcome.next (CmdSpec.status'_passes h ..), u64s_length _, fun k hk => fld_u64s hk⟩, fun h => ?_,
    fun h => ⟨_, congrArg Host.Outcome.next (CmdSpec.status'_passes h ..), u64s_length _, fun k hk => fld_u64s hk⟩,
    fun h => ⟨_, congrArg Host.Outcome.next (CmdSpec.status'_passes h ..), u64s_length _, fun k hk => fld_u64s hk⟩,
    fun h => ⟨_, congrArg Host.Outcome.next (CmdSpec.status'_passes h ..), u64s_length _, fun k hk => fld_u64s hk⟩⟩
  refine ⟨_, congrArg Host.Outcome.next (CmdSpec.status'_passes h ..), by simp, ?_, fun k hk => ?_⟩
  · rw [fld_append_right (by simp)]
    simp [Nat.mod_eq_of_lt (s.loom.inService.isLt)]
  · rw [fld_append_left (by simp; omega)]
    exact fld_u64s hk

/-! ## The bodies of status commands -/

/-- The bytes of LEAD_MIN in the body of POLDER_STATUS. -/
def leadBytes : Option Int → List Byte
  | some d => leSigned 8 d
  | none => List.replicate 8 255

theorem leadBytes_length (x : Option Int) : (leadBytes x).length = 8 := by
  cases x with
  | none => rfl
  | some d => exact leSigned_length ..

theorem sfld_leSigned {d : Int} (hlo : -2 ^ 63 ≤ d) (hhi : d < 2 ^ 63) : sfld (leSigned 8 d) 0 8 = d := by
  rw [sfld, fld_leSigned]
  exact wrapS_toBits (by norm_num) hlo hhi

theorem polderBody_fields {l : List Nat} (hl : l.length = 7) (x : Option Int) (n : Nat) :
    let body := u64s l ++ leadBytes x ++ u64s [n]
    body.length = 72 ∧ (∀ k < 7, fld body (8 * k) 8 = min (l.getD k 0) (2 ^ 64 - 1)) ∧ (x = none → fld body 56 8 = 2 ^ 64 - 1) ∧
    (∀ d : Int, x = some d → -2 ^ 63 ≤ d → d < 2 ^ 63 → sfld body 56 8 = d) ∧ fld body 64 8 = min n (2 ^ 64 - 1) := by
  have hx := leadBytes_length x
  have hmid : fld (u64s l ++ leadBytes x ++ u64s [n]) 56 8 = fld (leadBytes x) 0 8 := by
    rw [fld_append_left (by simp [hl, hx]), fld_append_right (by simp [hl])]
    simp [hl]
  refine ⟨by simp [hl, hx], fun k hk => ?_, ?_, ?_, ?_⟩
  · rw [fld_append_left (by simp [hl, hx]; omega), fld_append_left (by simp [hl]; omega)]
    exact fld_u64s (by omega)
  · rintro rfl
    rw [hmid]
    rfl
  · rintro d rfl hlo hhi
    rw [sfld, hmid]
    exact sfld_leSigned hlo hhi
  · rw [fld_append_right (by simp [hl, hx])]
    simp [hl, hx, fld_u64s_head]

theorem State.timeSource_standby {s : State} (h : s.twin.active = false) : s.timeSource = 2 := by
  simp [State.timeSource, State.standby, h]

theorem State.timeSource_follower {s : State} (h : s.twin.active = true) {l : Nat} (hl : s.ring.leader = some l)
    (hpair : l / 2 ≠ s.eng.pairId) : s.timeSource = 1 := by
  simp [State.timeSource, State.standby, State.timeFollower, h, hl, hpair]

/-- A command that clears nothing: the state behind its result is the one its checks saw. -/
theorem CmdSpec.status'_id {c : CmdSpec} {cur : Current} {s : State} (h : c.Passes cur s) (body : State → List Byte) :
    c.status' body id s = c.done cur.req (body s) s := by
  rw [CmdSpec.status'_passes h, id, ite_self]

/-- The block of an axis in the body of BRACE_STATUS, with its velocity. -/
def axisBlock (v : Axis → Int) (x : Axis) : List Byte :=
  leSigned 8 x.e ++ leSigned 4 x.out ++ leBytes 4 0 ++ leSigned 8 (v x) ++ leBytes 4 x.misses ++ leBytes 4 x.ferrEvents

theorem axisBlock_length (v : Axis → Int) (x : Axis) : (axisBlock v x).length = 32 := by
  simp [axisBlock]

theorem axisBlock_fields (v : Axis → Int) (x : Axis) :
    fld (axisBlock v x) 0 8 = (x.e % 2 ^ 64).toNat ∧ fld (axisBlock v x) 8 4 = (x.out % 2 ^ 32).toNat ∧ fld (axisBlock v x) 12 4 = 0 ∧
    fld (axisBlock v x) 24 4 = x.misses % 2 ^ 32 ∧ fld (axisBlock v x) 28 4 = x.ferrEvents % 2 ^ 32 := by
  simp (disch := simp) [axisBlock, fld_append_left, fld_append_right]

theorem braceBody_fields (v : Axis → Int) {l : List Axis} {a : Nat} {x : Axis} (hx : l[a]? = some x) :
    let body := l.flatMap (axisBlock v)
    fld body (32 * a) 8 = (x.e % 2 ^ 64).toNat ∧ fld body (32 * a + 8) 4 = (x.out % 2 ^ 32).toNat ∧ fld body (32 * a + 12) 4 = 0 ∧
    fld body (32 * a + 24) 4 = x.misses % 2 ^ 32 ∧ fld body (32 * a + 28) 4 = x.ferrEvents % 2 ^ 32 := by
  have hpart {off n : Nat} (h : off + n ≤ 32) := fld_flatMap (axisBlock_length v) hx h
  obtain ⟨he, hout, hzero, hmiss, hferr⟩ := axisBlock_fields v x
  exact ⟨(hpart (off := 0) (by norm_num)).trans he, (hpart (by norm_num)).trans hout, (hpart (by norm_num)).trans hzero,
    (hpart (by norm_num)).trans hmiss, (hpart (by norm_num)).trans hferr⟩

/-- Settles O16: each body is that of its table, put together from fields; POLDER_STATUS and BRACE_STATUS clear counters behind it. -/
theorem statusValues : Obligations.StatusValues := by
  intro t cur s
  refine ⟨fun h => ?_, fun h => ?_, fun h => ?_, fun h => ?_, fun h => ?_, fun h => ?_⟩
  · obtain ⟨hlen, hrow, hnone, hsome, hready⟩ := polderBody_fields (l := [s.pol.stats.releases, s.pol.stats.reweaves,
      s.pol.stats.bandFaults, s.pol.stats.eccCorrected, s.pol.stats.eccUncorrectable, s.pol.stats.voidFlashes,
      s.pol.stats.reportsDropped]) rfl s.pol.stats.leadMin (s.atTime t).bandsReady
    exact ⟨_, congrArg Host.Outcome.next (CmdSpec.status'_passes h ..), hlen, hrow, hnone, hsome,
      hready.trans (congrArg (min · _) List.countP_eq_length_filter.symm)⟩
  · refine ⟨_, congrArg Host.Outcome.next (CmdSpec.status'_id h _), ?_⟩
    simp (disch := simp) [fld_append_left, fld_append_right, fld_cons_later, -List.reduceReplicate]
    refine ⟨fun hactive => ?_, fun hactive l hl hpair => ?_⟩
    · rw [State.timeSource_standby (s := s.atTime t) hactive]
    · rw [State.timeSource_follower (s := s.atTime t) hactive hl hpair]
  · refine ⟨_, congrArg Host.Outcome.next (CmdSpec.status'_id h _), ?_⟩
    have hd : (s.atTime t).configDigest < 2 ^ 64 := crc64_lt (by norm_num) _
    have hpeer : (s.atTime t).twin.peerDigest = s.twin.peerDigest := rfl
    refine ⟨by simp, ?_, fun w hw => ?_, fun hnone => ?_⟩
    · rw [fld_append_left (by simp), fld_leBytes]
      exact Nat.mod_eq_of_lt hd
    · rw [fld_append_right (by simp), hpeer, hw]
      simpa using Nat.mod_eq_of_lt w.isLt
    · rw [fld_append_right (by simp), hpeer, hnone]
      simp
  · refine ⟨_, congrArg Host.Outcome.next (CmdSpec.status'_id h _), ?_⟩
    simp (disch := simp) [fld_append_left, fld_append_right, fld_cons_later]
    rfl
  · refine ⟨_, congrArg Host.Outcome.next (CmdSpec.status'_id h _), ?_⟩
    cases hj : s.job with
    | none =>
      simp +contextual (disch := simp) [hj, fld_append_left, fld_append_right, fld_cons_later, -List.reduceReplicate]
      rfl
    | some j =>
      simp +contextual (disch := simp) [hj, fld_append_left, fld_append_right, fld_cons_later, fld_u64s_head,
        fld_u64s_later, -List.reduceReplicate]
  · exact ⟨_, congrArg Host.Outcome.next (CmdSpec.status'_passes h ..), flatMap_length (axisBlock_length _) _,
      fun a x hx => braceBody_fields _ hx⟩

/-- One output's block in the body of CAL_STATUS. -/
theorem Output.bytes_fields (o : Output) {state : Nat} (hstate : state < 256) :
    let b := o.banks.getD o.active {}
    (o.bytes state).length = 32 ∧ fld (o.bytes state) 0 1 = o.active % 256 ∧ fld (o.bytes state) 1 1 = state ∧
    fld (o.bytes state) 2 2 = (b.tCal % 2 ^ 16).toNat ∧ fld (o.bytes state) 4 2 = b.errMax % 2 ^ 16 ∧ fld (o.bytes state) 6 2 = 0 ∧
    fld (o.bytes state) 8 8 = min o.swaps (2 ^ 64 - 1) ∧ fld (o.bytes state) 16 8 = min o.failures (2 ^ 64 - 1) ∧
    fld (o.bytes state) 24 8 = min b.selected (2 ^ 64 - 1) := by
  simp (disch := simp) [Output.bytes, Output.bank, fld_append_left, fld_append_right, fld_cons_later, fld_u64s_head, fld_u64s_later,
    Nat.mod_eq_of_lt hstate]
  rfl

theorem calBody_fields (s : State) {state : Nat} (hstate : state < 256) :
    let body := (s.output 0).bytes state ++ (s.output 1).bytes state ++ leSigned 2 s.eng.tCore ++ List.replicate 6 0
    body.length = 72 ∧ fld body 64 2 = (s.eng.tCore % 2 ^ 16).toNat ∧ fld body 66 6 = 0 ∧
    ∀ n < 2, ∀ off k, off + k ≤ 32 → fld body (32 * n + off) k = fld ((s.output n).bytes state) off k := by
  have hlen (o : Output) : (o.bytes state).length = 32 := by
    obtain ⟨h, -⟩ := Output.bytes_fields o hstate
    exact h
  refine ⟨by simp [hlen], ?_, ?_, fun n hn off k hk => ?_⟩
  · simp (disch := simp [hlen]) [hlen, fld_append_left, fld_append_right]
  · simp (disch := simp [hlen]) [hlen, fld_append_right, -List.reduceReplicate]
  · have hblocks : (s.output 0).bytes state ++ (s.output 1).bytes state = [s.output 0, s.output 1].flatMap fun o => o.bytes state := by
      simp
    have hn' : [s.output 0, s.output 1][n]? = some (s.output n) := by
      interval_cases n <;> rfl
    rw [fld_append_left (by simp [hlen]; omega), fld_append_left (by simp [hlen]; omega), hblocks, fld_flatMap hlen hn' hk]

/-- Settles O17: each body is that of its table, and the clear of its two counters follows it. -/
theorem storeStatus : Obligations.StoreStatus := by
  refine ⟨rfl, rfl, rfl, rfl, rfl, rfl, fun t cur s => ⟨fun h => ?_, fun h => ?_⟩⟩
  · refine ⟨_, congrArg Host.Outcome.next (CmdSpec.status'_passes h ..), ?_⟩
    dsimp only
    have hstate : (if (s.atTime t).cal.mode != .none then 1 else if (s.atTime t).cal.swapReady then 2 else 0) < 256 := by
      split_ifs <;> norm_num
    obtain ⟨hlen, hcore, hzero, hblock⟩ := calBody_fields (s.atTime t) hstate
    refine ⟨hlen, hcore, hzero, fun n hn => ?_⟩
    obtain ⟨-, hactive, hst, htcal, herr, hres, hswaps, hfail, hsel⟩ := Output.bytes_fields ((s.atTime t).output n) hstate
    refine ⟨(hblock n hn 0 1 (by norm_num)).trans hactive, (hblock n hn 1 1 (by norm_num)).trans (hst.trans ?_),
      (hblock n hn 2 2 (by norm_num)).trans htcal, (hblock n hn 4 2 (by norm_num)).trans herr, (hblock n hn 6 2 (by norm_num)).trans hres,
      (hblock n hn 8 8 (by norm_num)).trans hswaps, (hblock n hn 16 8 (by norm_num)).trans hfail,
      (hblock n hn 24 8 (by norm_num)).trans hsel⟩
    simp
  · refine ⟨_, congrArg Host.Outcome.next (CmdSpec.status'_passes h ..), ?_⟩
    have hvalid : (s.jr.slotValid 0).toNat + 2 * (s.jr.slotValid 1).toNat < 256 := by
      cases s.jr.slotValid 0 <;> cases s.jr.slotValid 1 <;> norm_num
    simp (disch := simp) [fld_append_left, fld_append_right, fld_cons_later, fld_u64s_head, fld_u64s_later,
      List.countP_eq_length_filter, hvalid]
    intro k hk
    interval_cases k <;> simp (disch := simp) [fld_append_right, fld_append_left]

end Sys2Proof.Machine
end

section
/-! PROOFS. 13 R403 to R406, R410 to R415, R531: a request from its doorbell to its result and its record, and the checks
that refuse it. -/

namespace Sys2Proof.Machine
open Sys2Proof

/-! ## Accepted requests and their parameters (R403, R404, R412) -/

theorem queueRequest_last {r : Request} {l : List Request} (h : ∀ x ∈ l, x.at' = r.at' → x.mb ≤ r.mb) :
    queueRequest r l = l ++ [r] := by
  have hall : ∀ x ∈ l, (!(x.at' == r.at' && decide (r.mb < x.mb))) = true := fun x hx => by
    have := h x hx
    by_cases hat : x.at' = r.at' <;> simp_all
  rw [queueRequest, List.takeWhile_eq_self_iff.2 hall, List.dropWhile_eq_nil_iff.2 hall]

/-- The requests of other instants keep their places. -/
theorem filter_queueRequest (r : Request) (l : List Request) :
    ((queueRequest r l).filter fun x => x.at' != r.at') = l.filter fun x => x.at' != r.at' := by
  have hself : (r.at' != r.at') = false := by simp
  rw [queueRequest, List.filter_append, List.filter_cons_of_neg (by simp), ← List.filter_append, List.takeWhile_append_dropWhile]

theorem leBytes_getElem? {n k : Nat} (h : k < n) (v : Nat) : (leBytes n v)[k]? = some (BitVec.ofNat 8 (v / 2 ^ (8 * k))) := by
  induction n generalizing k v with
  | zero => omega
  | succ n ih =>
    cases k with
    | zero => simp [leBytes, byteOf]
    | succ k =>
      have hpow : 256 * 2 ^ (8 * k) = 2 ^ (8 * (k + 1)) := by rw [Nat.mul_succ, pow_add]; ring
      rw [leBytes, List.getElem?_cons_succ, ih (by omega), Nat.div_div_eq_div_mul, hpow]

theorem flatMap_getElem? {α β : Type} {f : α → List β} {w : Nat} (hw : ∀ x, (f x).length = w) {l : List α} {i j : Nat} {x : α}
    (hx : l[i]? = some x) (hj : j < w) : (l.flatMap f)[w * i + j]? = (f x)[j]? := by
  induction l generalizing i with
  | nil => cases hx
  | cons y l ih =>
    rw [List.flatMap_cons]
    cases i with
    | zero =>
      obtain rfl : y = x := by simpa using hx
      rw [Nat.mul_zero, Nat.zero_add, List.getElem?_append_left (by rw [hw]; exact hj)]
    | succ i =>
      rw [List.getElem?_append_right (by rw [hw, Nat.mul_succ]; omega), hw, ← ih (by simpa using hx)]
      congr 1
      rw [Nat.mul_succ]
      omega

/-- Byte k of the parameters is byte k mod 8 of parameter word k / 8. -/
theorem Mailbox.inline_getElem? (m : Mailbox) {n k : Nat} (h : k < n) :
    (m.inline n)[k]? = some (BitVec.ofNat 8 ((sparseGet 0#64 m.params (k / 8)).toNat / 2 ^ (8 * (k % 8)))) := by
  have hword : (List.range ((n + 7) / 8))[k / 8]? = some (k / 8) := List.getElem?_range (by omega)
  have hmod : k % 8 < 8 := Nat.mod_lt _ (by norm_num)
  have hk : k = 8 * (k / 8) + k % 8 := (Nat.div_add_mod k 8).symm
  rw [Mailbox.inline, List.getElem?_take_of_lt h]
  conv_lhs => rw [hk]
  rw [flatMap_getElem? (fun _ => leBytes_length ..) hword hmod, leBytes_getElem? hmod]

theorem Mailbox.request_params {m : Mailbox} (h : m.arg.toNat.testBit 31 = false) (n : Nat) :
    (m.request n).params = m.inline (m.arg.toNat % 2 ^ 17) := by
  simp [Mailbox.request, h, bitsOf]

theorem satInc_eq_min (w n : Nat) : satInc w n = min (n + 1) (2 ^ w - 1) := by
  unfold satInc
  split <;> omega

/-! ## The doorbell and the acknowledge (R404 to R406) -/

theorem State.updMb_eq_set {s : State} {n : Nat} {m : Mailbox} (hm : s.mb[n]? = some m) (f : Mailbox → Mailbox) :
    s.updMb n f = { s with mb := s.mb.set n (f m) } := by
  rw [State.updMb, listUpd_eq_set_of_get? hm]

section
variable {t n : Nat} {m : Mailbox} {s : State} (hm : s.mb[n]? = some m)
include hm

theorem execMbDoorbell_free (hfree : m.state = .free) :
    exec (.mbDoorbell t n) s = .next { (s.atTime t).event (.request n) with
      mb := s.mb.set n { m with
        state := .executing, rtag := (m.request n).tag, seq := (m.request n).seq, status := 1, replay := false, result := [] }
      cp := { s.cp with accepted := queueRequest { m.request n with at' := (s.atTime t).now } s.cp.accepted } } := by
  have hget : (s.atTime t).mb[n]? = some m := hm
  refine congrArg Host.Outcome.next ?_
  simp only [hget, hfree, if_true]
  rw [State.updMb_eq_set (s := (s.atTime t).event _) hm]
  rfl

theorem execMbDoorbell_busy (hbusy : m.state ≠ .free) :
    exec (.mbDoorbell t n) s = .next { s.atTime t with
      mb := s.mb.set n { m with drops := min (m.drops + 1) 0xFFFF }
      arb := { s.arb with faultQ := s.arb.faultQ ++ [{ at' := (s.atTime t).now, name := .mbDrop, addr := n * 2 ^ 40 % 2 ^ 48 }] } } := by
  have hget : (s.atTime t).mb[n]? = some m := hm
  refine congrArg Host.Outcome.next ?_
  simp only [hget, hbusy, if_false]
  rw [State.updMb_eq_set (s := s.atTime t) hm, satInc_eq_min]
  rfl

theorem execMbAck_eq {gen : Nat} (hgen : gen < 2 ^ 16) : exec (.mbAck t n gen) s = .next
    (if m.state = .posted ∧ m.gen = gen then { s.atTime t with mb := s.mb.set n { m with state := .free } } else s.atTime t) := by
  have hcond : (decide (m.state = .posted) && m.gen == gen % 2 ^ 16) = decide (m.state = .posted ∧ m.gen = gen) := by
    rw [Nat.mod_eq_of_lt hgen, Bool.decide_and]
    rfl
  refine congrArg Host.Outcome.next ?_
  rw [State.updMb_eq_set (s := s.atTime t) hm, hcond]
  by_cases hack : m.state = .posted ∧ m.gen = gen
  · rw [if_pos hack, if_pos (decide_eq_true hack)]
    rfl
  · have hsame : s.mb.set n m = s.mb := by
      obtain ⟨hlt, rfl⟩ := List.getElem?_eq_some_iff.1 hm
      exact List.set_getElem_self hlt
    rw [if_neg hack, if_neg (by simpa using hack), show (s.atTime t).mb = s.mb from rfl, hsame]
    rfl

end

/-- Settles O9: a doorbell puts a Free mailbox's request in its place among the accepted ones, and counts a drop at any other; an
acknowledge looks at the state and GEN alone. -/
theorem doorbellAndAck : Obligations.DoorbellAndAck := by
  intro t n m s hm
  refine ⟨fun hfree => execMbDoorbell_free hm hfree, fun h => queueRequest_last h, filter_queueRequest,
    fun hbusy => execMbDoorbell_busy hm hbusy, ⟨?_, ?_, rfl, fun hdirect k hk => ?_⟩, fun gen hgen => execMbAck_eq hm hgen⟩
  · simp [Mailbox.request, bitsOf]
  · simp [Mailbox.request, bitsOf]
  · rw [Mailbox.request_params hdirect, Mailbox.inline_getElem? m hk]

/-! ## Results (R405, R406, R349) -/

theorem State.mayPost_iff {c : Completion} {s : State} : s.mayPost c = true ↔ c.audit ≠ some false ∧
    (c.replay = true ∨ ¬(s.twin.pair = .paired ∧ s.twin.active = true) ∨ ∃ k, s.twin.applied = some k ∧ c.cycle ≤ k) := by
  cases happ : s.twin.applied <;> simp [State.mayPost, State.paired, happ, or_assoc, imp_iff_not_or]

theorem State.post_eq {n : Nat} {m : Mailbox} {c : Completion} {s : State} (hm : s.mb[n]? = some m) (haudit : c.auditFailed = false) :
    s.post n c = State.vector (1 + n) { s with mb := s.mb.set n { m with
      state := .posted, status := c.status, replay := c.replay, seq := c.req.seq, rtag := c.req.tag, gen := (m.gen + 1) % 2 ^ 16
      result := c.head ++ c.body, held := none
      cache := if c.replay = true ∨ c.status = 5 ∨ c.status = 9 ∨ c.status = 8 then m.cache
        else (m.cache ++ [c.entry]).drop (m.cache.length + 1 - 64) } } := by
  have hfinal : c.final = c.status := by simp [Completion.final, haudit]
  have hcached : (cachedStatus c.status && !c.replay) = true ↔ ¬(c.replay = true ∨ c.status = 5 ∨ c.status = 9 ∨ c.status = 8) := by
    simp [cachedStatus, stNotActive, stSeqConflict, stBusErr]
    tauto
  rw [State.post, haudit]
  simp only [Bool.false_eq_true, if_false, State.updMb_eq_set hm, hfinal, hcached, ite_not]
  rfl

/-- Settles O10: the posting writes one mailbox, and nothing happens while the result may not be posted. -/
theorem resultPosts : Obligations.ResultPosts := by
  intro t n m c s hm hheld hexec haudit
  refine ⟨State.mayPost_iff, fun hmay => ?_, fun hmay => ?_⟩
  · rw [← State.post_eq (s := s.atTime t) hm haudit]
    refine congrArg Host.Outcome.next ?_
    simp [hm, hheld, hmay, hexec]
  · refine congrArg Host.Outcome.next ?_
    simp [hm, hheld, hmay]

/-! ## Requests at work (R406, R410, R531) -/

/-- Settles O11: a request goes to the checks at once or behind its copy, and each check that ends it does so on the spot. -/
theorem commandsAreTakenUp : Obligations.CommandsAreTakenUp := by
  refine ⟨fun t r rest s hacc hhalt hcur hreset hsleep hboot hfw => ?_, fun t data cur s hcur hsl hhalt => ?_, fun r s => ?_⟩
  · have hfree : (s.atTime t).cpFree = true := by simp [State.cpFree, hhalt, hcur, hreset, hsleep, hfw]
    have hbegin : exec (.commandBegin t) s =
        .next (((s.atTime t).updCp fun cp => { cp with accepted := rest }).beginRequest r) := by
      simp [exec, execCommandBegin, hacc, hboot, hfree]
    refine ⟨fun hdirect => ?_, fun hind hsl => ?_⟩
    · rw [hbegin, State.beginRequest, hdirect]
      rfl
    · rw [hbegin, State.beginRequest, hind]
      simp [hsl, State.setCurrent, State.updCp]
  · refine ⟨fun hphase => ?_, fun hphase => ?_⟩
    · simp [exec, execCommandCopyDone, hcur, hsl, hhalt, State.copyDone, hphase]
    · simp [exec, execCommandCopyDone, hcur, hsl, hhalt, State.copyDone, hphase, State.setCurrent, State.updCp]
  · have hcached : (s.setCurrent { req := r, phase := .ready }).cached r = s.cached r := rfl
    refine ⟨fun e he hop hdig => ?_, fun e he hne => ?_, fun hnone hspec => ?_, fun c st hnone hspec hbad => ?_,
      fun c hnone hspec hok hcopies => ?_⟩
    · simp only [State.takeUp, hcached, he]
      exact if_pos ⟨hop, hdig⟩
    · simp only [State.takeUp, hcached, he]
      exact if_neg hne
    · simp only [State.takeUp, hcached, hnone, hspec]
      rfl
    · simp only [State.takeUp, hcached, hnone, hspec, hbad]
      rfl
    · simp [State.takeUp, hcached, hnone, hspec, hok, hcopies]

/-- The checks behind that of the role. -/
theorem CmdSpec.refusal_served {c : CmdSpec} {r : Request} {s : State} (h : (s.standby && !(c.standby || c.status)) = false) :
    c.refusal r s =
      if r.plen ≠ c.plen then some stBadParam
      else if (c.status = false ∨ s.eng.state = .sleep) ∧ (groupServed s.eng.state (c.opcode / 256) = false ∨ c.stateOk r s = false) then
        some stBadState
      else if c.locked s = true then some stLocked
      else if (if c.status = true then clearBlockOk r.params else c.fieldsOk r s) = false then some stBadParam
      else if c.busy r s = true then some stBusy
      else none := by
  rw [CmdSpec.refusal, h]
  simp

/-- Settles O12: the checks stand in the order of R531. -/
theorem refusalOrder : Obligations.RefusalOrder := by
  intro c r s
  refine ⟨fun hs hc hst => by simp [CmdSpec.refusal, hs, hc, hst, stNotActive], fun hactive => ?_⟩
  have hserved : (s.standby && !(c.standby || c.status)) = false := by
    obtain h | h | h := hactive <;> simp [h]
  have hrest := CmdSpec.refusal_served (r := r) hserved
  clear hactive hserved
  refine ⟨fun hlen => by rw [hrest]; simp [hlen, stBadParam], fun hlen => ⟨fun hst h => ?_, fun hst hgroup hstate => ?_,
    fun hst hsleep hlock hbusy => ?_⟩⟩
  · obtain h | h := h <;> simp [hrest, hlen, hst, h, stBadState]
  · refine ⟨fun hlock => ?_, fun hlock hf => ?_, fun hlock hf hb => ?_, fun hlock hf hb => ?_⟩
    · simp [hrest, hlen, hst, hgroup, hstate, hlock, stLocked]
    · simp [hrest, hlen, hst, hgroup, hstate, hlock, hf, stBadParam]
    · simp [hrest, hlen, hst, hgroup, hstate, hlock, hf, hb, stBusy]
    · simp [hrest, hlen, hst, hgroup, hstate, hlock, hf, hb]
  · have heq : c.refusal r s = if fld r.params 0 8 ≤ 1 then none else some 3 := by
      by_cases hclear : fld r.params 0 8 ≤ 1 <;>
        simp [hrest, hlen, hst, hsleep, hlock, hbusy, clearBlockOk, hclear, stBadParam]
    rw [heq]
    by_cases hclear : fld r.params 0 8 ≤ 1
    · simp [hclear]
    · simp [hclear]

/-! ## Rows of the command set -/

/-- The step of a row is its run on the state that its checks see. -/
theorem exec_eq_run {i : Instr} {c : CmdSpec} {s v : State} (h : mailboxRow i s = some (c, v)) : ∃ f, exec i s = .next (c.run v f) := by
  cases i with
  | reset | sleep | clearFault | roleSwap | twinTimeConfig | timeStatus | faultConfig | faultInject | cuffRetrain
    | loadTable | loomConfig | polderConfig | shuttleConfig | hemConfig | cuffConfig | cacheConfig | slackConfig
    | dikeLimits | configDigest | setCellDir | jobStart | feed | jobStatus | jobEnd | stripeStart | stripePause
    | stripeResume | stripeAbort | bandRetry | cacheStats | loomStats | polderStatus | shuttleStatus | hemStatus
    | cuffStatus | slackStatus | feedConfig | probeSwitchConfig | servoConfig | axisEnable | axisDisable | move | home
    | stop | probeArm | probeRead | compareLoad | rereference | rcClear | braceStatus | calibrate | calConfig | calStatus
    | memFreq | fwLoad | fwSelect | auditRead | journalStatus | capture | captureCancel =>
    obtain ⟨rfl, rfl⟩ := Prod.mk.inj (Option.some.inj h)
    exact ⟨_, rfl⟩
  | _ => cases h

theorem CmdSpec.run_idle {c : CmdSpec} {s : State} (h : ∀ cur, ¬c.AtWork cur s) (f : Request → List Byte → State → State) :
    c.run s f = s := by
  unfold CmdSpec.run
  split
  next cur hcur =>
    split_ifs with hhalt hwork
    · rfl
    · obtain ⟨hop, hphase⟩ := by simpa using hwork
      exact absurd ⟨by simpa using hhalt, hcur, hop, hphase⟩ (h cur)
    · rfl
  next => rfl

/-- Settles O13: every row runs behind the same checks. -/
theorem refusedCommandsOnlyReport : Obligations.RefusedCommandsOnlyReport := by
  intro i c s v cur hrow
  obtain ⟨f, hf⟩ := exec_eq_run hrow
  refine ⟨fun st ⟨hhalt, hcur, hop, hphase⟩ hbad => ?_, fun hidle => ?_⟩
  · rw [hf, CmdSpec.run_refused _ _ _ hhalt hcur hop hphase hbad]
    rfl
  · rw [hf, CmdSpec.run_idle hidle]

/-! ## Records of commands (R415) -/

theorem leNat_lt (l : List Byte) : leNat l < 256 ^ l.length := by
  induction l with
  | nil => exact Nat.one_pos
  | cons b l ih =>
    have := b.isLt
    rw [leNat, List.length_cons, pow_succ]
    omega

theorem fld_lt (b : List Byte) (off n : Nat) : fld b off n < 256 ^ n :=
  (leNat_lt _).trans_le (Nat.pow_le_pow_right (by norm_num) (List.length_take_le ..))

/-- A request whose opcode is wider than the 16 bits of MBn_CMD, without parameters: the digest is the opcode itself. -/
def wideRequest : Request :=
  { mb := 0, tag := 0, seq := 0, opcode := 2 ^ 64, oper := 0, plen := 0, indirect := false, paddr := 0, params := [] }

/-- Refutes O14: the digest of `wideRequest` is 2^64, which the eight bytes of the record do not hold. -/
theorem not_completionRecord : ¬ Obligations.CompletionRecord := by
  intro h
  obtain ⟨-, -, -, -, -, -, hrec, -⟩ := h wideRequest true 0 none [] {}
  obtain ⟨-, rec, -, -, -, -, -, -, -, hdigest⟩ := hrec rfl rfl
  have hlt := fld_lt rec 40 8
  have hwide : wideRequest.digest = 2 ^ 64 := rfl
  omega

end Sys2Proof.Machine
end

section
/-! PROOFS. 15 R460; 13 R419, R420, R531; 07 R205, R209; 08 R248; 17 R509: FAULT_CONFIG with a message in transmission, and the system
and stripe commands. -/

namespace Sys2Proof.Machine
open Sys2Proof

/-! ## FAULT_CONFIG, while a message waits for Gusset -/

/-- A FAULT_CONFIG block that gives source 0x02 an escalation time. -/
def escalatingBlock : List Byte := List.replicate 10 0 ++ [1] ++ List.replicate 245 0

/-- The request is at work while a message waits for Gusset whose transmission uses an injected error up (15 R458). -/
def injectedSender : State :=
  { eng := { state := .ready }
    cp := { current := some { phase := .ready, req :=
      { mb := 0, tag := 0, seq := 0, opcode := 0x0107, oper := 0, plen := 256, indirect := true, paddr := 0, params := escalatingBlock } } }
    twin := { txQ := [.slack 0] }
    fc := { inject := listUpd ({} : State).fc.inject 12 fun _ => { count := 1 } } }

theorem injectedSender_used : ((injectedSender.transmit.fc.inject.getD 12 {}).count) ≠ (injectedSender.fc.inject.getD 12 {}).count := by
  decide

/-- Refutes O20: the message that waits is transmitted on the way to the command's instant and takes one of the counted operations
of its checker with it (15 R460), so that the collector is not the one before the refused command. -/
theorem not_faultAndTimeConfigs : ¬ Obligations.FaultAndTimeConfigs := by
  intro h
  obtain ⟨-, hrefused, -⟩ := h 0 _ injectedSender
  obtain ⟨-, hfc⟩ := hrefused ⟨rfl, rfl, rfl, rfl⟩ rfl (by decide) (.inl (by decide))
  have hused : injectedSender.transmit.fc = injectedSender.fc := by simpa using hfc
  exact injectedSender_used (by rw [hused])

/-! ## CUFF_RETRAIN (08 R248) -/

/-- A lane as it enters Train (08 R262). -/
def State.trained (k : Nat) (s : State) : Lane :=
  { state := .train, since := s.now, precode := s.cf.precode.getLsbD k, ffe := (s.cf.ffePre, s.cf.ffeMain, s.cf.ffePost) }

/-- The retraining of one lane. -/
def State.retrainLane (s : State) (k : Nat) : State := if (s.lane k).state == .up then s else s.trainLane k

/-- The lanes once the first n of them have been retrained. -/
structure State.Retrained (s : State) (n : Nat) (u : State) : Prop where
  same : u = { s with cf := { s.cf with lanes := u.cf.lanes } }
  length : u.cf.lanes.length = s.cf.lanes.length
  lane : ∀ k < s.cf.lanes.length, u.lane k = if k < n ∧ (s.lane k).state ≠ .up then s.trained k else s.lane k

theorem State.putLane_lane {s : State} {k : Nat} (hk : k < s.cf.lanes.length) (l : Lane) (j : Nat) :
    (s.putLane k l).lane j = if k = j then l else s.lane j := by
  simp only [State.lane, State.putLane, State.updCf, List.getD_eq_getElem?_getD, List.getElem?_set, hk, if_true]
  split <;> rfl

theorem State.Retrained.step {s u : State} {n : Nat} (h : s.Retrained n u) (hn : n < s.cf.lanes.length) :
    s.Retrained (n + 1) (u.retrainLane n) := by
  obtain ⟨hsame, hlen, hlane⟩ := h
  have hown : u.lane n = s.lane n := by
    rw [hlane n hn, if_neg (by simp)]
  unfold State.retrainLane
  rw [hown]
  by_cases hup : (s.lane n).state = .up
  · rw [if_pos (by simpa using hup)]
    refine ⟨hsame, hlen, fun k hk => (hlane k hk).trans (if_congr ?_ rfl rfl)⟩
    constructor
    · rintro ⟨hkn, hne⟩
      exact ⟨by omega, hne⟩
    · rintro ⟨hkn, hne⟩
      refine ⟨Nat.lt_of_le_of_ne (by omega) ?_, hne⟩
      rintro rfl
      exact hne hup
  · rw [if_neg (by simpa using hup), State.trainLane_eq]
    refine ⟨?_, ?_, fun k hk => ?_⟩
    · rw [State.putLane, State.updCf, hsame]
    · rw [State.putLane, State.updCf, List.length_set, hlen]
    · rw [State.putLane_lane (by rwa [hlen])]
      by_cases hkn : n = k
      · subst hkn
        rw [if_pos rfl, if_pos ⟨by omega, hup⟩, hsame]
        rfl
      · rw [if_neg hkn, hlane k hk]
        exact if_congr (and_congr_left fun _ => by omega) rfl rfl

theorem State.retrained (s : State) {n : Nat} (hn : n ≤ s.cf.lanes.length) :
    s.Retrained n ((List.range n).foldl State.retrainLane s) := by
  induction n with
  | zero => exact ⟨rfl, rfl, fun k _ => by rw [if_neg (by simp)]; rfl⟩
  | succ n ih =>
    rw [List.range_succ, List.foldl_append]
    exact (ih (by omega)).step (by omega)

theorem State.restoreMap_eq (s : State) : ∃ m d, s.restoreMap = { s with cf := { s.cf with map := m, restoreDue := d } } := by
  unfold State.restoreMap
  split
  · exact ⟨_, _, rfl⟩
  · exact ⟨s.cf.map, s.cf.restoreDue, rfl⟩

theorem State.remap_lane (s : State) (m : List (Option Nat)) (d : Bool) (k : Nat) :
    ({ s with cf := { s.cf with map := m, restoreDue := d } } : State).lane k = s.lane k := rfl

theorem State.cuffRetrain_eq {s : State} (hlen : s.cf.lanes.length = 68) : let u := s.cuffRetrain
    u = { s with cf := { s.cf with lanes := u.cf.lanes, map := u.cf.map, restoreDue := u.cf.restoreDue, silent := [] } } ∧
    ∀ k < 68, u.lane k = if (s.lane k).state ≠ .up then s.trained k else s.lane k := by
  obtain ⟨hsame, -, hlane⟩ := State.retrained (s.updCf fun c => { c with restoreDue := true, silent := [] }) (n := 68) hlen.ge
  obtain ⟨m, d, hmap⟩ := State.restoreMap_eq ((List.range 68).foldl State.retrainLane (s.updCf fun c => { c with restoreDue := true, silent := [] }))
  have heq : s.cuffRetrain = _ := hmap
  refine ⟨?_, fun k hk => ?_⟩
  · rw [heq]
    generalize ((List.range 68).foldl State.retrainLane (s.updCf fun c => { c with restoreDue := true, silent := [] })) = v at *
    rw [hsame]
    rfl
  · rw [heq]
    have hk' : k < (s.updCf fun c => { c with restoreDue := true, silent := [] }).cf.lanes.length := by
      rw [← hlen] at hk
      exact hk
    rw [State.remap_lane, hlane k hk']
    exact if_congr (and_iff_right hk) rfl rfl

/-! ## CLEAR_FAULT -/

theorem State.enterReady_tgood {s : State} (hneeds : s.eng.tgoodNeedsCal = false) (hwd : s.dike.wdExpired = false)
    (href : s.eng.trefLost = false) : s.enterReady.eng.tgood = true := by
  simp [State.enterReady, State.tgoodUp, hneeds, hwd, href]

theorem State.cuffStatus_srcs (s : State) : s.cuffStatus.fc.srcs = s.fc.srcs := by
  unfold State.cuffStatus
  split
  · exact foldl_keep (fun s => s.fc.srcs) _ _ _ fun s k => rfl
  · rfl

theorem State.enterReady_srcs (s : State) : s.enterReady.fc.srcs = s.fc.srcs := by
  rw [State.enterReady, State.cuffStatus_srcs]
  simp

/-- Dike's watchdog runs again where it had expired. -/
def State.rearmed (s : State) : State :=
  if s.dike.wdExpired then (s.updDike fun k => { k with wdExpired := false }).armWatchdog else s

theorem State.rearmed_spec (s : State) : let v := s.rearmed
    v.eng = s.eng ∧ v.fc = s.fc ∧ v.dike.wdExpired = false ∧
    (s.dike.wdExpired = true → v.dike.wdDeadline = some (s.now + s.dike.wdMs * 1000 * 12800)) := by
  cases h : s.dike.wdExpired <;> simp [State.rearmed, h, State.armWatchdog, usSteps]

theorem State.clearFault_eq (s : State) : s.clearFault = s.rearmed.enterReady.pairUp.updRet fun r => { r with stuck := false } := rfl

theorem State.clearFault_spec (s : State) : let u := s.clearFault
    u.eng.state = .ready ∧ u.dike.wdExpired = false ∧
    (s.eng.tgoodNeedsCal = false → s.eng.trefLost = false → u.eng.tgood = true) ∧
    (s.dike.wdExpired = true → u.dike.wdDeadline = some (s.now + s.dike.wdMs * 1000 * 12800)) ∧ u.fc.srcs = s.fc.srcs := by
  obtain ⟨heng, hfc, hwd, harm⟩ := s.rearmed_spec
  have hkeep : s.clearFault.eng = s.rearmed.enterReady.eng ∧ s.clearFault.dike = s.rearmed.dike ∧
      s.clearFault.fc = s.rearmed.enterReady.fc := by
    rw [State.clearFault_eq]
    exact ⟨by simp, by simp, by simp⟩
  obtain ⟨hkeng, hkdike, hkfc⟩ := hkeep
  dsimp only
  rw [hkeng, hkdike, hkfc]
  exact ⟨State.enterReady_engState _, hwd, fun hneeds href => State.enterReady_tgood (by rw [heng, hneeds]) hwd (by rw [heng, href]),
    harm, by rw [State.enterReady_srcs, hfc]⟩

/-! ## SLEEP -/

theorem State.enterSleep_spec (s : State) : let u := s.enterSleep
    u.eng.state = .sleep ∧ u.eng.tgood = false ∧ u.eng.railsUp = false ∧ u.cp.accepted = [] ∧ u.cp.current = none ∧ u.jr.queue = [] ∧
    u.dike.lock = none ∧ u.now = s.now ∧ u.pending = s.pending :=
  ⟨rfl, rfl, rfl, rfl, rfl, rfl, rfl, by simp, by simp⟩

/-- Settles O23: the state that each command leaves, from the operations that it is made of. -/
theorem systemCommands : Obligations.SystemCommands := by
  intro t cur s
  refine ⟨fun h => ?_, fun h => ?_, fun h hlen => ?_, fun h => ?_, fun wakeN h => ?_⟩
  · exact congrArg Host.Outcome.next (CmdSpec.run_passes h _)
  · exact congrArg Host.Outcome.next (CmdSpec.run_passes h _)
  · obtain ⟨hsame, hlane⟩ := State.cuffRetrain_eq (s := s.atTime t) hlen
    refine ⟨_, congrArg Host.Outcome.next (CmdSpec.run_passes h _), hsame, fun k hk => ?_⟩
    rw [hlane k hk]
    by_cases hup : (s.lane k).state = .up
    · exact .inl ⟨hup, if_neg (not_not_intro hup)⟩
    · exact .inr ⟨hup, if_pos hup⟩
  · obtain ⟨hstate, hwd, htgood, harm, hsrcs⟩ := State.clearFault_spec (s.atTime t)
    exact ⟨_, congrArg Host.Outcome.next (CmdSpec.run_passes h _), hstate, hwd, htgood, harm, by simp, by simp, by simp, hsrcs, by simp,
      by simp, by simp, by simp⟩
  · refine ⟨_, congrArg Host.Outcome.next (CmdSpec.run_passes h _), ?_⟩
    obtain ⟨hstate, htgood, hrails, hacc, hcur, hqueue, hlock, hnow, hpending⟩ := State.enterSleep_spec _
    refine ⟨hstate, htgood, hrails, hacc, hcur, hqueue, hlock, hnow.trans ?_, hpending.trans ?_⟩
    · split <;> simp
    · split <;> simp

/-! ## STRIPE_START -/

theorem State.fCeil_congr {s u : State} (hdike : u.dike.fDike = s.dike.fDike) (hslack : u.slack = s.slack)
    (hpair : u.twin.pair = s.twin.pair) (href : u.eng.trefLost = s.eng.trefLost) : u.fCeil = s.fCeil := by
  simp only [State.fCeil, State.fPair, State.ownSlack, hdike, hslack, hpair, href]

theorem State.acceptStripe_hem (st : Stripe) (s : State) : (s.acceptStripe st).hem = { s.newStripeFlags.hem with
    stripe := some st, begun := false, state := .idle, fRun := min st.fPlan s.fCeil, mNext := 0, closed := false, tPrev := 0
    endPrev := 0, issuedAt := 0, issuedEnd := 0, mHw := none, armed := true, resync := true, seamStep := 0, causes := []
    runs := 0, stopped := false, settled := false, shadow := [], shadowNext := 0, commitSince := false } := by
  have hceil : (s.newStripeFlags.skipTo st.stripe).fCeil = s.fCeil :=
    State.fCeil_congr (by simp [State.newStripeFlags]) (by simp) (by rw [(State.skipTo_onlyTells ..).pair]; simp)
      (by simp [State.newStripeFlags])
  unfold State.acceptStripe State.stripeAccepted
  dsimp only
  split <;> simp [State.updHem, hceil]

theorem parseStripe_fPlan (p : List Byte) : (parseStripe p).fPlan = fld p 12 4 := by rw [parseStripe]

theorem State.acceptStripe_segment (st : Stripe) (s : State) : (s.acceptStripe st).br.segment = .approach := by
  unfold State.acceptStripe
  dsimp only
  split <;> simp [State.approach]

/-! ## STRIPE_PAUSE -/

theorem State.withdrawUngated_stripe (key : Nat) (s : State) : (s.withdrawUngated key).hem.stripe = s.hem.stripe := by
  unfold State.withdrawUngated
  dsimp only
  split <;> simp

/-- The causes of a Seam once another has joined them. -/
theorem mem_addCause (c : Cause) (l : List Cause) : c ∈ (if l.contains c then l else l ++ [c]) := by
  split
  next h => exact List.contains_iff_mem.1 h
  next => exact List.mem_append_right _ (List.mem_singleton_self c)

/-- A pause is no cause that the release of a band clears. -/
theorem State.pause_mem_clearBandCauses {s : State} {g : Bool} (h : .pause g ∈ s.hem.causes) : .pause g ∈ s.clearBandCauses.hem.causes :=
  List.mem_filter.2 ⟨h, rfl⟩

theorem State.countRun_spec (s : State) : let u := s.countRun
    u.eng = s.eng ∧ u.hem.stripe = s.hem.stripe ∧ u.hem.state = s.hem.state ∧ ∀ c ∈ s.hem.causes, c ∈ u.hem.causes := by
  unfold State.countRun
  dsimp only
  split
  · exact ⟨by simp, by simp, by simp, fun c hc => List.mem_append_left _ hc⟩
  · exact ⟨by simp, by simp, by simp, fun c hc => hc⟩

theorem State.acceptSeam_pause {s : State} (hst : s.hem.stripe ≠ none) (hhem : s.hem.state ≠ .idle) (key : Nat) (g : Bool) :
    let u := s.acceptSeam key (.pause g)
    (s.hem.state ≠ .seamStop → s.hem.state ≠ .seamRun → u.eng.state = .seam) ∧ u.hem.stripe = s.hem.stripe ∧
    u.hem.state = .seamStop ∧ .pause g ∈ u.hem.causes := by
  obtain ⟨st, hst⟩ := Option.ne_none_iff_exists'.1 hst
  have hadd (v : State) : .pause g ∈ ((v.updHem fun h => { h with
      causes := if h.causes.contains (.pause g) then h.causes else h.causes ++ [.pause g] }).clearBandCauses).hem.causes :=
    State.pause_mem_clearBandCauses (mem_addCause ..)
  unfold State.acceptSeam
  rw [hst]
  dsimp only
  split
  next h => exact absurd h hhem
  next h =>
    rw [if_neg (by simp [Cause.stopClears])]
    exact ⟨fun hne => absurd h hne, hst, h, hadd s⟩
  next h =>
    obtain ⟨-, hstripe, hstate, hcauses⟩ := State.countRun_spec _
    refine ⟨fun _ hne => absurd h hne, hstripe.trans ?_, hstate.trans ?_, hcauses _ ?_⟩
    · simp [State.seamStop, State.clearBandCauses, State.withdrawUngated_stripe, hst]
    · simp [State.seamStop]
    · simpa [State.seamStop] using hadd (s.withdrawUngated key)
  next =>
    set v := (((((s.withdrawUngated key).dropCause .reversal).updHem fun h => { h with
      causes := if h.causes.contains (.pause g) then h.causes else h.causes ++ [.pause g] }).clearBandCauses).seamStop st) with hv
    have hvh : v.hem.stripe = some st ∧ v.hem.state = .seamStop ∧ .pause g ∈ v.hem.causes := by
      refine ⟨?_, ?_, ?_⟩
      · simp [hv, State.seamStop, State.clearBandCauses, State.withdrawUngated_stripe, hst]
      · simp [hv, State.seamStop]
      · simpa [hv, State.seamStop] using hadd ((s.withdrawUngated key).dropCause .reversal)
    obtain ⟨hstripe, hstate, hcause⟩ := hvh
    have hu : let w := ((v.hemStats fun t => { t with seams := sat64 (t.seams + 1) }).enter .seam).cuffStatus
        (s.hem.state ≠ .seamStop → s.hem.state ≠ .seamRun → w.eng.state = .seam) ∧ w.hem.stripe = some st ∧
        w.hem.state = .seamStop ∧ .pause g ∈ w.hem.causes := by
      refine ⟨fun _ _ => by simp, ?_, ?_, ?_⟩
      · simpa using hstripe
      · simpa using hstate
      · simpa using hcause
    split
    · split
      · simpa using hu
      · exact hu
    · exact hu

theorem State.pauseStripe_of_mayStop {s : State} (hactive : s.twin.active = true) (h : s.mayStop = true) :
    s.pauseStripe false = s.acceptSeam (s.slot 12) (.pause false) := by
  obtain ⟨⟨hopen, hrun⟩, hlast⟩ : (s.stripeOpen = true ∧ s.running = true) ∧ s.lastGatePassed = false := by simpa [State.mayStop] using h
  simp [State.pauseStripe, State.standby, hactive, hopen, hrun, hlast]

theorem State.pauseStripe_idle {s : State} (h : s.hem.state = .idle) (g : Bool) : s.pauseStripe g = s := by
  unfold State.pauseStripe State.acceptSeam
  rw [h]
  split
  · rfl
  · split <;> rfl

theorem CmdSpec.stateOk_of_passes {c : CmdSpec} {cur : Current} {s : State} (hc : c.status = false) (h : c.Passes cur s) :
    c.stateOk cur.req s = true := by
  obtain ⟨-, hok⟩ := h
  unfold CmdSpec.refusal at hok
  split_ifs at hok <;> simp_all

theorem State.clearPause_false (s : State) : s.clearPause false =
    { s with hem := { s.hem with causes := s.hem.causes.filter fun c => c ≠ .pause false ∧ c ≠ .resumeHold, runs := 0 } } := by
  have hfilter : (s.hem.causes.filter fun c => c != .pause false && c != .resumeHold) =
      s.hem.causes.filter fun c => c ≠ .pause false ∧ c ≠ .resumeHold := List.filter_congr fun c _ => by
      rw [Bool.eq_iff_iff]
      simp
  rw [State.clearPause, State.updHem, hfilter]

/-! ## STRIPE_ABORT -/

theorem State.storeTrim_unstagedJob (s : State) : s.storeTrim.unstagedJob = s.unstagedJob := State.unstagedJob_congr (by simp)

/-- What of the job an end of the stripe decides: the next stripe, and those skipped. -/
theorem State.endStripe_unstagedJob {s : State} {st : Stripe} (hst : s.hem.stripe = some st) : (s.endStripe true).unstagedJob =
    (s.job.map fun (j : Job) => { j with next := st.stripe + 1, skipped := j.skipped ++ [st.stripe] }).map Job.unstaged := by
  have hdrop (l : List Band) (v : State) : (l.foldl (fun s b => s.dropBand b.stripe b.band) v).unstagedJob = v.unstagedJob :=
    foldl_keep State.unstagedJob _ l v fun s b => s.dropBand_unstagedJob b.stripe b.band
  have hclear (v : State) : v.shClear.endCapture.unstagedJob = v.unstagedJob := State.unstagedJob_congr (by simp)
  unfold State.endStripe
  rw [hst]
  dsimp only
  rw [State.storeTrim_unstagedJob, State.bandsOn_unstagedJob, State.passAll, State.passEmpties_unstagedJob,
    State.restartRing_unstagedJob, if_pos rfl, hclear]
  exact hdrop _ _

theorem State.endStripe_closed {s : State} {st : Stripe} (hst : s.hem.stripe = some st) : let u := s.endStripe true
    u.hem.stripe = none ∧ u.hem.begun = false ∧ u.hem.state = .idle ∧ u.hem.causes = [] := by
  unfold State.endStripe
  rw [hst]
  exact ⟨by simp, by simp, by simp, by simp⟩

/-- The open stripe and the job are those of another state. -/
def State.sameWork (s u : State) : Prop := u.hem.stripe = s.hem.stripe ∧ u.job = s.job

theorem State.runOut_endStripe {s v : State} {st : Stripe} (hst : s.hem.stripe = some st) (hsame : s.sameWork v) :
    let u := v.runOut.endStripe true
    u.hem.stripe = none ∧ u.hem.begun = false ∧ u.hem.state = .idle ∧ u.hem.causes = [] ∧
    ∀ j, s.job = some j → ∃ j', u.job = some j' ∧ j'.next = st.stripe + 1 ∧ st.stripe ∈ j'.skipped := by
  obtain ⟨hstripe, hjob⟩ := hsame
  have hopen : v.runOut.hem.stripe = some st := by simpa [hstripe] using hst
  obtain ⟨hnone, hbegun, hstate, hcauses⟩ := State.endStripe_closed hopen
  refine ⟨hnone, hbegun, hstate, hcauses, fun j hj => ?_⟩
  have hout := State.endStripe_unstagedJob hopen
  rw [show v.runOut.job = s.job by simp [hjob], hj] at hout
  obtain ⟨j', hj', hsame⟩ := Option.map_eq_some_iff.1 hout
  have same {β : Type} (f : Job → β) : f j'.unstaged = f _ := congrArg f hsame
  refine ⟨j', hj', same Job.next, ?_⟩
  have hskip : j'.skipped = j.skipped ++ [st.stripe] := same Job.skipped
  rw [hskip]
  exact List.mem_append_right _ (List.mem_singleton_self _)

theorem State.withdrawUngated_sameWork (key : Nat) (s : State) : s.sameWork (s.withdrawUngated key) :=
  ⟨s.withdrawUngated_stripe key, by simp⟩

theorem State.pauseStripe_sameWork (s : State) : s.sameWork (s.pauseStripe false) := by
  by_cases hidle : s.hem.state = .idle
  · rw [State.pauseStripe_idle hidle]
    exact ⟨rfl, rfl⟩
  · unfold State.pauseStripe
    split
    next => exact ⟨rfl, rfl⟩
    next h =>
      have hopen : s.hem.stripe ≠ none := by
        rintro hnone
        simp [State.stripeOpen, hnone] at h
      obtain ⟨-, hstripe, -⟩ := State.acceptSeam_pause hopen hidle (s.slot 12) false
      exact ⟨hstripe, by simp⟩

theorem State.abortStripe_spec {s : State} {st : Stripe} (hst : s.hem.stripe = some st) : let u := s.abortStripe
    u.eng.state = .ready ∧ u.hem.stripe = none ∧ u.hem.begun = false ∧ u.hem.state = .idle ∧ u.hem.causes = [] ∧
    ∀ j, s.job = some j → ∃ j', u.job = some j' ∧ j'.next = st.stripe + 1 ∧ st.stripe ∈ j'.skipped := by
  unfold State.abortStripe
  split
  next hready =>
    have hstate : s.eng.state = .ready := by simpa [State.isReady] using hready
    exact ⟨by simpa using hstate, State.runOut_endStripe hst ⟨rfl, rfl⟩⟩
  next =>
    have hsame : s.sameWork (if s.eng.state == .seam then s.withdrawUngated (s.slot 12) else s.pauseStripe false) := by
      split
      · exact s.withdrawUngated_sameWork _
      · exact s.pauseStripe_sameWork
    obtain ⟨hnone, hbegun, hidle, hcauses, hjob⟩ := State.runOut_endStripe hst hsame
    refine ⟨State.enterReady_engState _, ?_, ?_, ?_, ?_, ?_⟩
    · simpa using hnone
    · simpa using hbegun
    · simpa using hidle
    · simpa using hcauses
    · simpa using hjob

/-- Settles O26: a start writes the stripe anew, a pause joins or starts the Seam, a resume clears its cause, and an abort ends the
stripe behind the pause or the withdrawal that it needs. -/
theorem stripeCommands : Obligations.StripeCommands := by
  intro t cur s
  refine ⟨fun h => ⟨fun f addr hbad => ?_, fun hgood => ?_⟩, fun h hactive hhem => ?_, fun h hhem => ?_, fun h => ⟨fun hheld => ?_, fun o hheld hsync => ?_⟩,
    fun h => ?_⟩
  · refine (congrArg Host.Outcome.next (CmdSpec.run_passes h _)).trans ?_
    simp only [hbad]
    rfl
  · have hhem := (s.atTime t).acceptStripe_hem (parseStripe cur.req.params)
    refine ⟨(s.atTime t).acceptStripe (parseStripe cur.req.params), ?_, ?_⟩
    · refine (congrArg Host.Outcome.next (CmdSpec.run_passes h _)).trans ?_
      simp only [hgood]
    · rw [hhem, parseStripe_fPlan]
      exact ⟨rfl, rfl, rfl, rfl, rfl, rfl, rfl, State.acceptStripe_segment .., by simp, by simp, by simp⟩
  · have hstop : (s.atTime t).mayStop = true := CmdSpec.stateOk_of_passes rfl h
    have hopen : s.hem.stripe ≠ none := by
      intro hnone
      simp [State.mayStop, State.stripeOpen, hnone] at hstop
    obtain ⟨hseam, hstripe, hstate, hcause⟩ := State.acceptSeam_pause (s := s.atTime t) hopen hhem ((s.atTime t).slot 12) false
    refine ⟨(s.atTime t).acceptSeam ((s.atTime t).slot 12) (.pause false), ?_, hseam, hstripe, hstate, hcause, by simp, by simp⟩
    rw [← State.pauseStripe_of_mayStop (s := s.atTime t) hactive hstop]
    exact congrArg Host.Outcome.next (CmdSpec.run_passes h _)
  · refine (congrArg Host.Outcome.next (CmdSpec.run_passes h _)).trans ?_
    rw [State.pauseStripe_idle (s := s.atTime t) hhem]
  · refine (congrArg Host.Outcome.next (CmdSpec.run_passes h _)).trans ?_
    rw [State.resumeStripe, if_neg (by simp [hheld])]
    rw [State.clearPause_false]
    rfl
  · refine (congrArg Host.Outcome.next (CmdSpec.run_passes h _)).trans ?_
    rw [State.resumeStripe, if_pos (by simpa using hheld)]
    simp [hsync]
  · have hopen : s.hem.stripe ≠ none := by
      intro hnone
      have hok := CmdSpec.stateOk_of_passes rfl h
      simp [specStripeAbort, State.mayStop, State.stripeOpen, hnone] at hok
    obtain ⟨st, hst⟩ := Option.ne_none_iff_exists'.1 hopen
    obtain ⟨hready, hnone, hbegun, hidle, hcauses, hjob⟩ := State.abortStripe_spec (s := s.atTime t) hst
    refine ⟨_, congrArg Host.Outcome.next (CmdSpec.run_passes h _), hready, hnone, hbegun, hidle, hcauses, fun j st' hj hst' => ?_⟩
    obtain rfl : st' = st := Option.some.inj (hst'.symm.trans hst)
    exact hjob j hj

end Sys2Proof.Machine
end

section
/-! PROOFS. Power, resets, references and die temperatures (O32, O33; 17 R502 to R518, 18 R526 to R528). -/

namespace Sys2Proof.Machine
open Sys2Proof

/-! ## Boot, Sleep and the held reset (01 R35; 17 R509, R510; 18 R526) -/

/-- The fields of a state that Boot has taken up: those at their reset values, those kept, and the cause that
RESET_CAUSE names. -/
structure State.Booted (s u : State) (c : ResetCause) (twinB : Bool) (pid : Nat) (jr : Journal) : Prop where
  eq : u = { State.reset with now := 0, out := u.out, pending := s.pending, free := s.free, jr := jr, eng := u.eng }
  state : u.eng.state = .boot
  rails : u.eng.railsUp = true
  inReset : u.eng.inReset = false
  due : u.eng.resetDue = none
  twin : u.eng.twinB = twinB
  pair : u.eng.pairId = pid % 4
  cause : u.eng.resetCause = (s.eng.endCause.getD (c, 0)).1
  kind : u.eng.shedKind = (s.eng.endCause.getD (c, 0)).2
  noted : u.eng.endCause = none

theorem State.enterBoot_booted (c : ResetCause) (twinB : Bool) (pid : Nat) (s : State) :
    s.Booted (s.enterBoot c twinB pid) c twinB pid s.jr.cutShort :=
  ⟨rfl, rfl, rfl, rfl, rfl, rfl, rfl, rfl, rfl, rfl⟩

/-- Boot looks only at the queue, the counter and the cause noted of the state it takes up. -/
theorem State.Booted.congr {s v u : State} {c : ResetCause} {twinB : Bool} {pid : Nat} {jr : Journal} (h : v.Booted u c twinB pid jr)
    (hp : v.pending = s.pending) (hf : v.free = s.free) (he : v.eng.endCause.getD (c, 0) = s.eng.endCause.getD (c, 0)) :
    s.Booted u c twinB pid jr :=
  { h with
    eq := hp ▸ hf ▸ h.eq
    cause := h.cause.trans (congrArg Prod.fst he)
    kind := h.kind.trans (congrArg Prod.snd he) }

/-- The fields of a state that has entered Sleep, and the cause that RESET_CAUSE names. -/
structure State.Asleep (s u : State) (c : ResetCause) : Prop where
  state : u.eng.state = .sleep
  rails : u.eng.railsUp = false
  inReset : u.eng.inReset = false
  cause : u.eng.resetCause = (s.eng.endCause.getD (c, 0)).1
  noted : u.eng.endCause = none
  job : u.job = none
  bands : u.bands = []
  queue : u.jr.queue = []
  pending : u.pending = s.pending

theorem State.enterSleep_asleep (c : ResetCause) (s : State) : s.Asleep ((s.enterSleep).recordCause c) c := by
  have heng : s.commitOpen.recordSleep.eng = s.eng := by simp
  refine ⟨rfl, rfl, rfl, ?_, rfl, rfl, rfl, rfl, ?_⟩
  · show ((s.commitOpen.recordSleep).eng.endCause.getD (c, 0)).1 = _
    rw [heng]
  · simp

theorem State.Asleep.congr {s v u : State} {c : ResetCause} (h : v.Asleep u c) (hp : v.pending = s.pending)
    (he : v.eng.endCause.getD (c, 0) = s.eng.endCause.getD (c, 0)) : s.Asleep u c :=
  { h with pending := h.pending.trans hp, cause := h.cause.trans (congrArg Prod.fst he) }

/-- A held reset keeps the clock, the queue, the collector and the faults still to be accepted. -/
theorem State.holdReset_eq (s : State) : s.holdReset =
    { State.reset with
      now := s.now, out := s.holdReset.out, pending := s.pending, free := s.free, jr := s.holdReset.jr, eng := s.holdReset.eng
      fc := s.fc, arb := { State.reset.arb with faultQ := s.arb.faultQ } } := by
  ext1 <;> simp [State.holdReset, State.fresh]

theorem State.holdReset_inReset (s : State) : s.holdReset.eng.inReset = true := rfl

theorem State.holdReset_pins (s : State) : s.holdReset.eng.resetN = s.eng.resetN ∧ s.holdReset.eng.endCause = s.eng.endCause := by
  constructor <;> simp [State.holdReset, State.fresh, State.updEng]

theorem State.holdReset_queue (s : State) : s.holdReset.jr.queue = [] := rfl

theorem State.holdReset_collector (s : State) : s.holdReset.fc = s.fc ∧ s.holdReset.arb.faultQ = s.arb.faultQ := by
  rw [State.holdReset_eq]
  exact ⟨rfl, rfl⟩

theorem State.holdReset_job (s : State) : s.holdReset.job = none ∧ s.holdReset.bands = [] := by
  rw [State.holdReset_eq]
  exact ⟨rfl, rfl⟩

theorem State.leaveReset_boots (c : ResetCause) (twinB : Bool) (pid : Nat) (s : State) :
    s.Booted (s.leaveReset c false twinB pid) c twinB pid s.jr.cutShort :=
  (State.enterBoot_booted ..).congr rfl rfl rfl

theorem State.leaveReset_sleeps (c : ResetCause) (twinB : Bool) (pid : Nat) (s : State) :
    s.Asleep (s.leaveReset c true twinB pid) c :=
  (State.enterSleep_asleep c (s.updEng fun e => { e with wakeN := true })).congr rfl rfl

section
variable (t pid : Nat) (twinB : Bool) (s : State)

/-- RESET_N_ASSERT notes its cause, unless one is noted, and finds the pin low. -/
def State.resetNLow : State :=
  { s.atTime t with
    eng := { (s.atTime t).eng with endCause := some (s.eng.endCause.getD (.resetN, 0)), resetN := false } }

theorem execResetNAssert_idle (h : s.eng.state = .sleep ∨ s.eng.inReset = true) :
    execResetNAssert t s = .next (s.resetNLow t) := by
  have hif : ((s.resetNLow t).eng.state == .sleep || (s.resetNLow t).eng.inReset) = true := by
    simpa [State.resetNLow] using h
  exact congrArg Host.Outcome.next (if_pos hif)

theorem execResetNAssert_holds (hst : s.eng.state ≠ .sleep) (hr : s.eng.inReset = false) :
    execResetNAssert t s = .next (s.resetNLow t).holdReset := by
  have hif : ¬((s.resetNLow t).eng.state == .sleep || (s.resetNLow t).eng.inReset) = true := by
    simpa [State.resetNLow, hr] using hst
  exact congrArg Host.Outcome.next (if_neg hif)

/-- The supplies and the pins of a POWER_UP. -/
def State.supplied (wakeN : Bool) : State :=
  { s.atTime t with
    eng := { (s.atTime t).eng with vinOk := true, pwrGood := true, resetN := true, shedding := false, wakeN := wakeN } }

theorem execPowerUp_boots (hv : s.eng.vstby = true) (h : s.eng.state = .sleep ∨ s.eng.shedding = true) :
    execPowerUp t false twinB pid s =
      .next ((s.supplied t false).enterBoot (if s.eng.state = .sleep then .endOfSleep else .powerUp) twinB pid) := by
  have hif : ((s.atTime t).eng.vstby && ((s.atTime t).eng.state == .sleep || (s.atTime t).eng.shedding)) = true := by
    simp [hv, h]
  refine congrArg Host.Outcome.next ((if_pos hif).trans ?_)
  simp [State.supplied, State.updEng]

theorem execPowerUp_stays (hv : s.eng.vstby = true) (h : s.eng.state = .sleep) :
    execPowerUp t true twinB pid s = .next (s.supplied t true) := by
  simp [execPowerUp, State.supplied, State.updEng, hv, h]

theorem execPowerUp_sleeps (hv : s.eng.vstby = true) (hst : s.eng.state ≠ .sleep) (h : s.eng.shedding = true) :
    execPowerUp t true twinB pid s = .next (((s.supplied t true).enterSleep).recordCause .powerUp) := by
  simp [execPowerUp, State.supplied, State.updEng, hv, hst, h]

theorem execPowerUp_idle (wakeN : Bool) (h : s.eng.vstby = false ∨ (s.eng.state ≠ .sleep ∧ s.eng.shedding = false)) :
    execPowerUp t wakeN twinB pid s = .next (s.atTime t) := by
  refine congrArg Host.Outcome.next (if_neg ?_)
  obtain h | ⟨h, h'⟩ := h <;> simp [*]

theorem execResetNRelease_leaves (wakeN : Bool) (hn : s.eng.resetN = false) (hst : s.eng.state ≠ .sleep)
    (hs : s.eng.shedding = false) (hp : s.eng.pwrGood = true) : execResetNRelease t wakeN twinB pid s =
      .next (State.leaveReset .resetN wakeN twinB pid { s.atTime t with eng := { (s.atTime t).eng with resetN := true } }) := by
  simp [execResetNRelease, State.updEng, hn, hst, hs, hp]

theorem execResetNRelease_waits (wakeN : Bool) (hn : s.eng.resetN = false)
    (h : s.eng.state = .sleep ∨ s.eng.shedding = true ∨ s.eng.pwrGood = false) : execResetNRelease t wakeN twinB pid s =
      .next { s.atTime t with eng := { (s.atTime t).eng with resetN := true } } := by
  have hif : (s.eng.state == .sleep || s.eng.shedding || !s.eng.pwrGood) = true := by simpa [or_assoc] using h
  simp [execResetNRelease, State.updEng, hn, hif]

theorem execResetNRelease_idle (wakeN : Bool) (hn : s.eng.resetN = true) :
    execResetNRelease t wakeN twinB pid s = .next (s.atTime t) := by
  simp [execResetNRelease, hn]

/-- The module held in a reset that the model itself began. -/
def State.heldFor (c : ResetCause) : State := ((s.atTime t).noteCause c 0).holdReset

theorem execResetEntry_leaves (wakeN : Bool) {c : ResetCause} (hd : s.eng.resetDue = some c) (hr : s.eng.inReset = false)
    (hst : s.eng.state ≠ .sleep) : execResetEntry t wakeN twinB pid s = .next ((s.heldFor t c).leaveReset c wakeN twinB pid) := by
  simp [execResetEntry, State.heldFor, hd, hr, hst]

theorem execResetEntry_idle (wakeN : Bool) (h : s.eng.resetDue = none ∨ s.eng.inReset = true ∨ s.eng.state = .sleep) :
    execResetEntry t wakeN twinB pid s = .next (s.atTime t) := by
  replace h : (s.atTime t).eng.resetDue = none ∨ (s.atTime t).eng.inReset = true ∨ (s.atTime t).eng.state = .sleep := h
  unfold execResetEntry
  dsimp only
  refine congrArg Host.Outcome.next ?_
  split
  · rfl
  next c hd =>
    rw [hd] at h
    exact if_pos (by simpa using h)

theorem State.heldFor_kept (c : ResetCause) : (s.heldFor t c).pending = s.pending ∧ (s.heldFor t c).free = s.free ∧
    (s.heldFor t c).eng.endCause.getD (c, 0) = s.eng.endCause.getD (c, 0) := by
  refine ⟨?_, ?_, ?_⟩
  · rw [State.heldFor, State.holdReset_eq]; simp
  · rw [State.heldFor, State.holdReset_eq]; simp
  · rw [State.heldFor, (State.holdReset_pins _).2]
    simp [State.noteCause, State.updEng]

theorem execResetEntry_boots {c : ResetCause} (hd : s.eng.resetDue = some c) (hr : s.eng.inReset = false)
    (hst : s.eng.state ≠ .sleep) : ∃ u, execResetEntry t false twinB pid s = .next u ∧ s.Booted u c twinB pid u.jr ∧ u.jr.queue = [] := by
  obtain ⟨hp, hf, he⟩ := s.heldFor_kept t c
  exact ⟨_, execResetEntry_leaves t pid twinB s false hd hr hst, (State.leaveReset_boots ..).congr hp hf he, rfl⟩

theorem execResetEntry_sleeps {c : ResetCause} (hd : s.eng.resetDue = some c) (hr : s.eng.inReset = false)
    (hst : s.eng.state ≠ .sleep) : ∃ u, execResetEntry t true twinB pid s = .next u ∧ s.Asleep u c := by
  obtain ⟨hp, -, he⟩ := s.heldFor_kept t c
  exact ⟨_, execResetEntry_leaves t pid twinB s true hd hr hst, (State.leaveReset_sleeps ..).congr hp he⟩

end

theorem State.Booted.spec {s u : State} {c : ResetCause} {twinB : Bool} {pid : Nat} {jr : Journal} (h : s.Booted u c twinB pid jr) :
    u = { State.reset with now := 0, out := u.out, pending := s.pending, free := s.free, jr := jr, eng := u.eng } ∧
    u.eng.state = .boot ∧ u.eng.railsUp = true ∧ u.eng.inReset = false ∧ u.eng.resetDue = none ∧ u.eng.twinB = twinB ∧
    u.eng.pairId = pid % 4 ∧ u.eng.resetCause = (s.eng.endCause.getD (c, 0)).1 ∧
    u.eng.shedKind = (s.eng.endCause.getD (c, 0)).2 ∧ u.eng.endCause = none :=
  ⟨h.eq, h.state, h.rails, h.inReset, h.due, h.twin, h.pair, h.cause, h.kind, h.noted⟩

theorem State.Asleep.spec {s u : State} {c : ResetCause} (h : s.Asleep u c) :
    u.eng.state = .sleep ∧ u.eng.railsUp = false ∧ u.eng.inReset = false ∧
    u.eng.resetCause = (s.eng.endCause.getD (c, 0)).1 ∧ u.eng.endCause = none ∧ u.job = none ∧ u.bands = [] ∧
    u.jr.queue = [] ∧ u.pending = s.pending :=
  ⟨h.state, h.rails, h.inReset, h.cause, h.noted, h.job, h.bands, h.queue, h.pending⟩

/-- Settles O32: a command that leads to Boot or to Sleep ends in `State.Booted` or `State.Asleep` of the state before it,
and the rest only move pins. -/
theorem powerAndResets : Obligations.PowerAndResets := by
  intro t pid twinB s
  dsimp only
  refine ⟨fun hv => ⟨fun hst => ?_, fun hst hs => ?_, fun hst => ?_, fun hst hs => ?_⟩,
    fun h wakeN => execPowerUp_idle t pid twinB s wakeN h, rfl, fun hst hr => ?_, fun h => execResetNAssert_idle t s h,
    fun hn hst hs hp => ⟨?_, ?_⟩,
    fun wakeN => ⟨execResetNRelease_idle t pid twinB s wakeN, execResetNRelease_waits t pid twinB s wakeN⟩,
    fun c hd hr hst => ⟨?_, ?_⟩, fun h wakeN => execResetEntry_idle t pid twinB s wakeN h, fun hv => ?_, fun hv => ?_, ?_⟩
  · refine ⟨_, execPowerUp_boots t pid twinB s hv (.inl hst), ?_⟩
    rw [if_pos hst]
    exact ⟨((State.enterBoot_booted ..).congr (s := s) (by simp [State.supplied]) (by simp [State.supplied])
      (by simp [State.supplied])).spec, rfl⟩
  · refine ⟨_, execPowerUp_boots t pid twinB s hv (.inr hs), ?_⟩
    rw [if_neg hst]
    exact ⟨((State.enterBoot_booted ..).congr (s := s) (by simp [State.supplied]) (by simp [State.supplied])
      (by simp [State.supplied])).spec, rfl⟩
  · exact execPowerUp_stays t pid twinB s hv hst
  · exact ⟨_, execPowerUp_sleeps t pid twinB s hv hst hs,
      ((State.enterSleep_asleep ..).congr (by simp [State.supplied]) (by simp [State.supplied])).spec, rfl⟩
  · refine ⟨_, execResetNAssert_holds t s hst hr, ?_, rfl, ?_, ?_, rfl⟩
    · exact (State.holdReset_eq _).trans (by simp [State.resetNLow])
    · exact (State.holdReset_pins _).1
    · exact (State.holdReset_pins _).2
  · exact ⟨_, execResetNRelease_leaves t pid twinB s false hn hst hs hp,
      ((State.leaveReset_boots ..).congr (by simp) (by simp) (by simp)).spec⟩
  · exact ⟨_, execResetNRelease_leaves t pid twinB s true hn hst hs hp,
      ((State.leaveReset_sleeps ..).congr (by simp) (by simp)).spec⟩
  · obtain ⟨u, hu, hb, hq⟩ := execResetEntry_boots t pid twinB s hd hr hst
    exact ⟨u, hu, hb.spec, hq⟩
  · obtain ⟨u, hu, ha⟩ := execResetEntry_sleeps t pid twinB s hd hr hst
    exact ⟨u, hu, ha.spec⟩
  · simp [exec, execVstbyPowerUp, State.updEng, hv]
  · simp [exec, execVstbyPowerUp, hv]
  · exact ⟨_, rfl, by simp [State.updEng, State.fresh], rfl, rfl, rfl, rfl, rfl⟩

/-! ## The load shed (17 R505, R508) -/

/-- A load shed of a module that runs keeps the collector and the faults still to be accepted. -/
theorem State.loadShed_spec (kind : Nat) {s : State} (hst : s.eng.state ≠ .sleep) (hr : s.eng.inReset = false) :
    let u := s.loadShed kind
    u.eng.shedding = true ∧ u.eng.inReset = true ∧ u.jr.powerFail = true ∧
      u.eng.endCause = some (s.eng.endCause.getD (.loadShed, kind)) ∧ u.job = none ∧ u.bands = [] ∧ u.fc = s.fc ∧
      u.arb.faultQ = s.arb.faultQ := by
  obtain ⟨hfc, hq⟩ := State.holdReset_collector (s.noteCause .loadShed kind)
  obtain ⟨hjob, hbands⟩ := State.holdReset_job (s.noteCause .loadShed kind)
  have hend := (State.holdReset_pins (s.noteCause .loadShed kind)).2
  have hheld := State.holdReset_inReset (s.noteCause .loadShed kind)
  have heq : s.loadShed kind = (((s.noteCause .loadShed kind).holdReset).updEng fun e => { e with shedding := true }).updJr
      fun j => { j with powerFail := true } := by
    simp [State.loadShed, State.noteCause, State.updEng, hst, hr]
  rw [heq]
  generalize (s.noteCause .loadShed kind).holdReset = v at hfc hq hjob hbands hend hheld ⊢
  exact ⟨rfl, hheld, rfl, hend, hjob, hbands, hfc.trans (by simp), hq.trans (by simp)⟩

theorem execPowerFailDetect_sheds (t : Nat) {kind : Nat} (addr : Nat) {f : FaultName} {s : State} (hf : powerFail kind = some f)
    (hst : s.eng.state ≠ .sleep) (hr : s.eng.inReset = false) :
    ∃ u, execPowerFailDetect t kind addr s = .next u ∧ u.eng.shedding = true ∧ u.eng.inReset = true ∧ u.jr.powerFail = true ∧
      u.eng.endCause = some (s.eng.endCause.getD (.loadShed, kind)) ∧ u.job = none ∧ u.bands = [] ∧ u.fc = (s.atTime t).fc ∧
      u.arb.faultQ = s.arb.faultQ ++
        [{ at' := (s.atTime t).now, name := f, addr := (if kind = 3 then 0 else addr) % 2 ^ 48 }] := by
  unfold execPowerFailDetect
  dsimp only
  rw [hf]
  exact ⟨_, rfl, State.loadShed_spec kind (s := ((s.atTime t).updEng _).raise f _) hst hr⟩

/-! ## The references (17 R514) -/

theorem State.setTgood_eq (b : Bool) (s : State) : s.setTgood b = { s with eng := (s.setTgood b).eng, arb := (s.setTgood b).arb } := by
  ext1 <;> simp

theorem State.tgoodUp_eq (s : State) : s.tgoodUp = { s with eng := s.tgoodUp.eng, arb := s.tgoodUp.arb } := by
  ext1 <;> simp

theorem execRefLost_tref (t : Nat) (s : State) :
    ∃ u, execRefLost t false s = .next u ∧ u = { s.atTime t with eng := u.eng, arb := u.arb } ∧
      u.eng.trefLost = true ∧ u.eng.tgoodNeedsCal = true ∧ u.eng.tgood = false ∧ u.eng.state = s.eng.state ∧
      (s.eng.state ≠ .sleep → u.waits (s.atTime t).now .refLost 0) := by
  have hst' : (s.atTime t).eng.state = s.eng.state := rfl
  unfold execRefLost
  dsimp only
  rw [if_neg Bool.false_ne_true, hst']
  generalize hv : (if (s.eng.state == .sleep) = true then s.atTime t else (s.atTime t).raise .refLost false.toNat) = v
  have hveq : v = { s.atTime t with arb := v.arb } := by
    subst hv
    split <;> rfl
  have hwaits : s.eng.state ≠ .sleep → v.waits (s.atTime t).now .refLost 0 := fun hst => by
    rw [← hv, if_neg (by simpa using hst)]
    exact State.waits_raise ..
  clear hv
  generalize hw : v.updEng (fun e => { e with trefLost := true, tgoodNeedsCal := true }) = w
  have hweng : w.eng = { (s.atTime t).eng with trefLost := true, tgoodNeedsCal := true } := by rw [← hw, hveq]; rfl
  have hweq : w = { s.atTime t with eng := w.eng, arb := w.arb } := by rw [← hw, hveq]; rfl
  have hwwaits : s.eng.state ≠ .sleep → w.waits (s.atTime t).now .refLost 0 := fun hst => hw ▸ hwaits hst
  refine ⟨_, rfl, ?_, ?_, ?_, ?_, ?_, fun hst => (hwwaits hst).setTgood false⟩
  · rw [State.setTgood_eq, hweq]
  all_goals simp [hweng]

theorem execRefReturn_tref (t : Nat) (s : State) :
    ∃ u, execRefReturn t false s = .next u ∧ u = { s.atTime t with eng := u.eng, arb := u.arb } ∧ u.eng.trefLost = false ∧
      (s.eng.tgoodNeedsCal = true → u.eng.tgood = s.eng.tgood) := by
  refine ⟨((s.atTime t).updEng fun e => { e with trefLost := false }).tgoodUp, rfl, ?_, ?_, fun h => ?_⟩
  · exact State.tgoodUp_eq _
  · unfold State.tgoodUp
    split <;> simp [State.updEng]
  · simp [State.tgoodUp, State.updEng, h]

/-- The state of a lane that the loss of the Cuff reference leaves. -/
def LaneState.dropped : LaneState → LaneState
  | .train => .lost
  | .align => .lost
  | .up => .lost
  | st => st

theorem State.dropLane_laneStates (s : State) (k : Nat) : (s.dropLane k).laneStates = s.laneStates.set k (s.lane k).state.dropped := by
  have hself := s.laneStates_set_self k
  unfold State.dropLane
  cases hst : (s.lane k).state <;> rw [hst] at hself <;> simp [LaneState.dropped, hself]

/-- No lane below n is in Train, Align or Up. -/
def Down (n : Nat) (l : List LaneState) : Prop := ∀ k < n, (l.getD k .off).dropped = l.getD k .off

theorem Down.set_lost {n : Nat} {l : List LaneState} (h : Down n l) (j : Nat) : Down n (l.set j .lost) := by
  intro k hk
  rw [List.getD_eq_getElem?_getD, List.getElem?_set]
  split
  · split <;> rfl
  · exact h k hk

theorem down_loseLanes (s : State) : Down 68 s.loseLanes.laneStates := by
  have hdrop : ∀ n, Down n ((List.range n).foldl State.dropLane s).laneStates := by
    intro n
    induction n with
    | zero => exact fun k hk => absurd hk (Nat.not_lt_zero k)
    | succ n ih =>
      rw [List.range_succ, List.foldl_append, List.foldl_cons, List.foldl_nil, State.dropLane_laneStates]
      generalize (List.range n).foldl State.dropLane s = v at ih ⊢
      intro k hk
      rw [List.getD_eq_getElem?_getD, List.getElem?_set, State.lane_state]
      split
      next hnk =>
        subst hnk
        split
        · cases v.laneStates.getD n .off <;> rfl
        · rfl
      next hnk => exact ih k (by omega)
  refine foldl_preserves (P := fun u : State => Down 68 u.laneStates) _ (hdrop 68) fun u k hu => ?_
  rw [State.loseLane_laneStates]
  exact hu.set_lost k

/-! ## A sample of the die temperatures (17 R518) -/

theorem eight_elements {α : Type} {l : List α} (h : l.length = 8) : ∃ a b c d e f g i, l = [a, b, c, d, e, f, g, i] := by
  match l, h with
  | [a, b, c, d, e, f, g, i], _ => exact ⟨a, b, c, d, e, f, g, i, rfl⟩

theorem hotDie_eq_none {temps : List Int} (hlen : temps.length = 8) (lim : Int) : hotDie temps lim = none ↔ ∀ x ∈ temps, x ≤ lim := by
  obtain ⟨a, b, c, d, e, f, g, i, rfl⟩ := eight_elements hlen
  have hr : List.range 8 = [0, 1, 2, 3, 4, 5, 6, 7] := rfl
  simp [hotDie, hr]

theorem map_getD_of_eight {l : List Int} (h : l.length = 8) : (List.range 8).map (fun k => l.getD k 0) = l := by
  obtain ⟨a, b, c, d, e, f, g, i, rfl⟩ := eight_elements h
  rfl

theorem le_foldl_max {a x : Int} {l : List Int} (h : x ≤ a ∨ x ∈ l) : x ≤ l.foldl max a := by
  induction l generalizing a with
  | nil => simpa using h
  | cons y l ih =>
    refine ih ?_
    obtain h | h := h
    · exact .inl (h.trans (le_max_left a y))
    · obtain rfl | h := List.mem_cons.1 h
      · exact .inl (le_max_right a x)
      · exact .inr h

theorem getD_le_foldl_max (l : List Int) {k : Nat} (h1 : 1 ≤ k) (h8 : k < 8) :
    l.getD k 0 ≤ ((List.range 6).map fun j => l.getD (j + 2) 0).foldl max (l.getD 1 0) := by
  apply le_foldl_max
  obtain rfl | h2 := Nat.eq_or_lt_of_le h1
  · exact .inl le_rfl
  · exact .inr (List.mem_map.2 ⟨k - 2, List.mem_range.2 (by omega), by rw [Nat.sub_add_cancel h2]⟩)

/-- The eight temperatures as DIE_TEMP_SAMPLE keeps them. -/
def State.sampled (t : Nat) (temps : List Int) (s : State) : State := (s.atTime t).updEng fun e => { e with
  dieTemps := (List.range 8).map fun k => temps.getD k 0
  tCore := temps.getD 0 0, tMax := ((List.range 6).map fun k => temps.getD (k + 2) 0).foldl max (temps.getD 1 0) }

/-- What a sample of the dies has left before the trip: a warning above 115 °C, and the calibrations that look at it. -/
def State.warmed (t : Nat) (temps : List Int) (s : State) : State :=
  match hotDie temps (115 * 64) with
  | some a => ((s.sampled t temps).raiseUnless s.eng.thermWarned .thermWarn a).updEng fun e => { e with thermWarned := true }
  | none => s.sampled t temps

/-- The calibrations look at a sample: attempts count it, a stale one warns, a background one begins. -/
def State.calSample (s : State) : State := ((s.noteTemp).testStale).startBackground

theorem execDieTempSample_awake (t : Nat) (temps : List Int) {s : State} (hst : s.eng.state ≠ .sleep) (hr : s.eng.inReset = false) :
    execDieTempSample t temps s = .next (match hotDie temps (125 * 64) with
      | some a => ((s.warmed t temps).calSample.raise .thermTrip a).loadShed 6
      | none => (s.warmed t temps).calSample) := by
  have hif : ¬((s.atTime t).eng.state == .sleep || (s.atTime t).eng.inReset) = true := by simp [hst, hr]
  unfold execDieTempSample
  dsimp only
  rw [if_neg hif]
  unfold State.warmed State.sampled State.calSample
  generalize hotDie temps (115 * 64) = warn
  cases warn <;> rfl

theorem State.calSample_eq (s : State) : s.calSample = { s with arb := s.calSample.arb, cal := s.calSample.cal } := by
  ext1 <;> simp [State.calSample]

theorem State.waits.calSample {at' addr : Nat} {f : FaultName} {s : State} (h : s.waits at' f addr) : s.calSample.waits at' f addr := by
  have hnote : s.noteTemp.arb = s.arb := by simp
  have hback : s.noteTemp.testStale.startBackground.arb = s.noteTemp.testStale.arb := by simp
  refine (State.waits_congr hback).2 ?_
  have hn := (State.waits_congr hnote).2 h
  unfold State.testStale
  dsimp only
  split
  · exact hn.raise _ _
  · exact hn

theorem State.warmed_eq (t : Nat) (temps : List Int) (s : State) :
    s.warmed t temps = { s.atTime t with eng := (s.warmed t temps).eng, arb := (s.warmed t temps).arb } := by
  unfold State.warmed
  split
  · cases s.eng.thermWarned <;> rfl
  · rfl

theorem State.warmed_eng (t : Nat) (temps : List Int) (s : State) :
    (s.warmed t temps).eng = { (s.sampled t temps).eng with thermWarned := (s.warmed t temps).eng.thermWarned } := by
  unfold State.warmed
  split
  · cases s.eng.thermWarned <;> rfl
  · rfl

theorem State.warmed_waits (t : Nat) {temps : List Int} {s : State} (hlen : temps.length = 8) (hhot : ∃ x ∈ temps, 115 * 64 < x)
    (hw : s.eng.thermWarned = false) : ∃ a, (s.warmed t temps).waits (s.atTime t).now .thermWarn a := by
  unfold State.warmed
  cases hd : hotDie temps (115 * 64) with
  | none =>
    obtain ⟨x, hx, hlt⟩ := hhot
    exact absurd ((hotDie_eq_none hlen _).1 hd x hx) (Int.not_le.2 hlt)
  | some a =>
    dsimp only
    rw [hw]
    exact ⟨a, (State.waits_congr rfl).2 (State.waits_raise .thermWarn a (s.sampled t temps))⟩

theorem execDieTempSample_keeps (t : Nat) {temps : List Int} {s : State} (hlen : temps.length = 8) (hcool : ∀ x ∈ temps, x ≤ 125 * 64)
    (hst : s.eng.state ≠ .sleep) (hr : s.eng.inReset = false) : ∃ u, execDieTempSample t temps s = .next u ∧
      u = { s.atTime t with eng := u.eng, arb := u.arb, cal := u.cal } ∧
      u.eng.dieTemps = temps ∧ u.eng.tCore = temps.getD 0 0 ∧ u.eng.state = s.eng.state ∧
      (∀ k, 1 ≤ k → k < 8 → temps.getD k 0 ≤ u.eng.tMax) ∧
      ((∃ x ∈ temps, 115 * 64 < x) → s.eng.thermWarned = false → ∃ a, u.waits (s.atTime t).now .thermWarn a) := by
  have heng : (s.warmed t temps).calSample.eng = { (s.sampled t temps).eng with thermWarned := (s.warmed t temps).eng.thermWarned } :=
    (congrArg State.eng (State.calSample_eq _)).trans (s.warmed_eng t temps)
  refine ⟨(s.warmed t temps).calSample, ?_, ?_, ?_, ?_, ?_, ?_, fun hhot hw => ?_⟩
  · rw [execDieTempSample_awake t temps hst hr, (hotDie_eq_none hlen _).2 hcool]
  · rw [State.calSample_eq, State.warmed_eq]
  · rw [heng]; exact map_getD_of_eight hlen
  · rw [heng]; rfl
  · rw [heng]; rfl
  · rw [heng]; exact fun k h1 h8 => getD_le_foldl_max temps h1 h8
  · obtain ⟨a, ha⟩ := State.warmed_waits t hlen hhot hw
    exact ⟨a, ha.calSample⟩

theorem execDieTempSample_trips (t : Nat) {temps : List Int} {s : State} (hlen : temps.length = 8) (hhot : ∃ x ∈ temps, 125 * 64 < x)
    (hst : s.eng.state ≠ .sleep) (hr : s.eng.inReset = false) : ∃ u, execDieTempSample t temps s = .next u ∧
      u.eng.inReset = true ∧ u.eng.endCause = some (s.eng.endCause.getD (.loadShed, 6)) := by
  have heng : (s.warmed t temps).calSample.eng = { (s.sampled t temps).eng with thermWarned := (s.warmed t temps).eng.thermWarned } :=
    (congrArg State.eng (State.calSample_eq _)).trans (s.warmed_eng t temps)
  rw [execDieTempSample_awake t temps hst hr]
  cases hd : hotDie temps (125 * 64) with
  | none =>
    obtain ⟨x, hx, hlt⟩ := hhot
    exact absurd ((hotDie_eq_none hlen _).1 hd x hx) (Int.not_le.2 hlt)
  | some a =>
    dsimp only
    generalize hv : (s.warmed t temps).calSample.raise .thermTrip a = v
    have hveng : v.eng = { (s.sampled t temps).eng with thermWarned := (s.warmed t temps).eng.thermWarned } := by rw [← hv]; exact heng
    obtain ⟨-, hheld, -, hend, -⟩ := State.loadShed_spec 6 (s := v) (by rw [hveng]; exact hst) (by rw [hveng]; exact hr)
    exact ⟨v.loadShed 6, rfl, hheld, by rw [hend, hveng]; rfl⟩

/-- Settles O33: each detect, reference and sample by the lemma of its command; Boot and the held reset as in O32. -/
theorem powerFailAndReferences : Obligations.PowerFailAndReferences := by
  intro t s
  dsimp only
  refine ⟨fun kind addr f hf hst hr => execPowerFailDetect_sheds t addr hf hst hr,
    fun twinB pid => ⟨fun hv hst => ?_, fun hn hst hs hp => ?_, fun c hd hr hst => ?_⟩, rfl, fun hst hr => ?_, fun hv => ?_, ?_,
    execRefLost_tref t s, fun hlen => ?_, rfl, execRefReturn_tref t s,
    fun temps hlen hcool hst hr => execDieTempSample_keeps t hlen hcool hst hr,
    fun temps hlen hhot hst hr => execDieTempSample_trips t hlen hhot hst hr⟩
  · exact ⟨_, execPowerUp_boots t pid twinB s hv (.inl hst), rfl, rfl, rfl⟩
  · exact ⟨_, execResetNRelease_leaves t pid twinB s false hn hst hs hp, rfl, rfl, rfl⟩
  · obtain ⟨u, hu, hb, -⟩ := execResetEntry_boots t pid twinB s hd hr hst
    exact ⟨u, hu, hb.state, hb.due, by rw [hb.eq]; rfl⟩
  · exact ⟨_, execResetNAssert_holds t s hst hr, rfl, (State.holdReset_pins _).1, (State.holdReset_job _).1⟩
  · refine ⟨_, (by simp only [exec, execVstbyPowerUp]; exact congrArg Host.Outcome.next (if_neg (by simpa using hv))), rfl, rfl, rfl⟩
  · exact ⟨_, rfl, rfl, rfl, rfl, rfl⟩
  · refine ⟨_, rfl, ?_, fun k hk => ?_⟩
    · simp [State.updEng]
    · have hdown := down_loseLanes ((((if ((s.atTime t).eng.state == .sleep) = true then s.atTime t
        else (s.atTime t).raise .refLost true.toNat)).updEng fun e => { e with cuffRefLost := true })) k hk
      rw [← State.lane_state] at hdown
      refine ⟨fun hst => ?_, fun hst => ?_, fun hst => ?_⟩ <;> cases hdown.symm.trans (congrArg LaneState.dropped hst) ▸ hst

end Sys2Proof.Machine
end

section
/-! PROOFS. The first-fault latch, the watchdog, the lock pin and the brake (O36, O38; 15 R450, R463, R465, R469). -/

namespace Sys2Proof.Machine
open Sys2Proof

/-! ## What reactions leave of the collector: all but the timers and the injected errors -/

/-- The collector without its escalation timers and the injected errors left. -/
def Fc.record (c : Fc) : Fc := { c with inject := [], srcs := c.srcs.map fun (x : FcSrc) => { x with deadline := none } }

@[simp] theorem foldl_fcRecord {β : Type} (f : State → β → State) (l : List β) (s : State)
    (h : ∀ s x, (f s x).fc.record = s.fc.record) : (l.foldl f s).fc.record = s.fc.record :=
  foldl_keep (fun s => s.fc.record) f l s h

@[simp] theorem State.inject_fcRecord (checker unit : Nat) (s : State) : (s.inject checker unit).2.fc.record = s.fc.record := rfl

@[simp] theorem State.endEscalation_fcRecord (s : State) : s.endEscalation.fc.record = s.fc.record := by
  simp [State.endEscalation, State.updFc, Fc.record]

@[simp] theorem State.sendControl_fcRecord (phys kind epoch seq stripe band flags : Nat) (tail : List Byte) (s : State) :
    (s.sendControl phys kind epoch seq stripe band flags tail).fc.record = s.fc.record := by
  simp [State.sendControl]

@[simp] theorem State.sendStitch_fcRecord (m : SMsg) (s : State) : (s.sendStitch m).fc.record = s.fc.record := by
  simp [State.sendStitch]

@[simp] theorem State.sendStatus_fcRecord (s : State) : s.sendStatus.fc.record = s.fc.record := by
  simp [State.sendStatus]

@[simp] theorem State.cuffStatus_fcRecord (s : State) : s.cuffStatus.fc.record = s.fc.record := by
  unfold State.cuffStatus
  split <;> simp

@[simp] theorem State.cuffWithdraw_fcRecord (first : Nat) (s : State) : (s.cuffWithdraw first).fc.record = s.fc.record := by
  simp [State.cuffWithdraw]

@[simp] theorem State.withdrawUngated_fcRecord (key : Nat) (s : State) : (s.withdrawUngated key).fc.record = s.fc.record := by
  unfold State.withdrawUngated
  dsimp only
  split <;> simp

@[simp] theorem State.hemStop_fcRecord (key : Nat) (s : State) : (s.hemStop key).fc.record = s.fc.record := by
  unfold State.hemStop
  dsimp only
  split <;> simp

@[simp] theorem State.acceptSeam_fcRecord (key : Nat) (c : Cause) (s : State) : (s.acceptSeam key c).fc.record = s.fc.record := by
  unfold State.acceptSeam
  dsimp only
  (repeat' split) <;> simp

@[simp] theorem State.endWrite_fcRecord (key : Nat) (s : State) : (s.endWrite key).fc.record = s.fc.record := by
  unfold State.endWrite
  split <;> simp

@[simp] theorem State.enterFault_fcRecord (key : Nat) (off : Bool) (s : State) : (s.enterFault key off).fc.record = s.fc.record := by
  unfold State.enterFault
  dsimp only
  (repeat' split) <;> simp

@[simp] theorem State.pauseStripe_fcRecord (group : Bool) (s : State) : (s.pauseStripe group).fc.record = s.fc.record := by
  unfold State.pauseStripe
  split <;> simp

@[simp] theorem State.nmi_fcRecord (s : State) : s.nmi.fc.record = s.fc.record := by
  unfold State.nmi
  split <;> simp

@[simp] theorem State.react_fcRecord (key src : Nat) (f : FaultName) (stage : Nat) (s : State) :
    (s.react key src f stage).fc.record = s.fc.record := by
  unfold State.react
  dsimp only
  split <;> simp

/-! ## The collector takes a fault (15 R450, R453) -/

/-- The first-fault latch. -/
def Fc.latch (c : Fc) : Bool × Bool × Nat × Nat × Nat := (c.valid, c.overflow, c.first, c.firstSeq, c.firstFlash)

/-- The last fault of a source, and how many it has had. -/
def FcSrc.log (x : FcSrc) : Nat × Nat × Nat := (x.lastKind, x.lastAddr, x.cnt)

theorem Fc.latch_record (c : Fc) : c.record.latch = c.latch := rfl

theorem fcSrc_log_of_record {s u : State} (h : u.fc.record = s.fc.record) (k : Nat) : (u.fcSrc k).log = (s.fcSrc k).log := by
  have hlog : ∀ v : State, (v.fcSrc k).log = (v.fc.record.srcs.getD (k - 1) {}).log := fun v => by
    simp only [State.fcSrc, Fc.record, List.getD_eq_getElem?_getD, List.getElem?_map]
    cases v.fc.srcs[k - 1]? <;> rfl
  rw [hlog, hlog, h]

theorem FaultName.source_range (f : FaultName) : 1 ≤ f.source ∧ f.source ≤ 16 := by
  cases f <;> decide

theorem State.updFcSrc_fcSrc {src k : Nat} {s : State} (hlen : s.fc.srcs.length = 16) (hs : 1 ≤ src ∧ src ≤ 16) (hk : 1 ≤ k)
    (f : FcSrc → FcSrc) : (s.updFcSrc src f).fcSrc k = if k = src then f (s.fcSrc k) else s.fcSrc k := by
  have hi : src - 1 = k - 1 ↔ k = src := by omega
  simp only [State.fcSrc, State.updFcSrc, State.updFc, listUpd_getD _ _ _ _ _ (show src - 1 < s.fc.srcs.length by omega), hi]

theorem State.updFcSrc_log {f : FcSrc → FcSrc} (hf : ∀ x, (f x).log = x.log) (src k : Nat) (s : State) :
    ((s.updFcSrc src f).fcSrc k).log = (s.fcSrc k).log := by
  simp only [State.fcSrc, State.updFcSrc, State.updFc, List.getD_eq_getElem?_getD, listUpd_get?]
  split
  · cases s.fc.srcs[k - 1]? <;> simp [hf]
  · rfl

/-- The latch takes the first fault, and marks the ones after it. -/
def State.latched (m : Raised) (s : State) : State :=
  if s.fc.valid then s.updFc fun c => { c with overflow := true }
  else s.updFc fun c => { c with
    valid := true, first := faultMessage m.name m.addr, firstSeq := m.seq.getD s.arb.seq, firstFlash := s.eng.lastFlash }

/-- What the collector notes of every fault, before a reaction to it. -/
def State.noted (m : Raised) (s : State) : State :=
  ((((s.latched m).faultEvent m).updFcSrc m.name.source fun x =>
    { x with lastKind := m.name.kind, lastAddr := m.addr, cnt := satInc 32 x.cnt }).captureFault m.name)

/-- The state in which the reaction to a fault is chosen, but for the instant of the pending bit. -/
def State.marked (m : Raised) (s : State) : State :=
  (s.noted m).updFcSrc m.name.source fun x =>
    { x with setAt := if 0 < (s.noted m).initialReaction m.name then some (s.noted m).now else x.setAt }

/-- The collector starts the reaction to a fault. -/
def State.reacted (m : Raised) (s : State) : State :=
  ((s.marked m).updFcSrc m.name.source fun x => { x with
    pending := true, stage := (s.noted m).initialReaction m.name
    escalated := x.pending && x.escalated
    deadline := (s.marked m).escDeadline m.name.source }).react m.key m.name.source m.name ((s.noted m).initialReaction m.name)

theorem State.collect_eq (m : Raised) (s : State) : s.collect m =
    if (!((s.noted m).fcSrc m.name.source).pending && decide (0 < (s.noted m).initialReaction m.name)) ||
      (((s.noted m).fcSrc m.name.source).pending && decide (((s.noted m).fcSrc m.name.source).stage < (s.noted m).initialReaction m.name))
    then s.reacted m else s.marked m := rfl

theorem State.noted_latch (m : Raised) (s : State) : (s.noted m).fc.latch = (s.latched m).fc.latch := rfl

theorem fc_latch_of_record {s u : State} (h : u.fc.record = s.fc.record) : u.fc.latch = s.fc.latch := by
  rw [← Fc.latch_record, h, Fc.latch_record]

theorem State.updFcSrc_latch (src : Nat) (f : FcSrc → FcSrc) (s : State) : (s.updFcSrc src f).fc.latch = s.fc.latch := rfl

theorem State.collect_latch (m : Raised) (s : State) : (s.collect m).fc.latch = (s.latched m).fc.latch := by
  rw [State.collect_eq]
  split
  · rw [State.reacted, fc_latch_of_record (State.react_fcRecord ..), State.updFcSrc_latch, State.marked, State.updFcSrc_latch,
      State.noted_latch]
  · rw [State.marked, State.updFcSrc_latch, State.noted_latch]

theorem State.marked_log (m : Raised) (s : State) (k : Nat) : ((s.marked m).fcSrc k).log = ((s.noted m).fcSrc k).log := by
  rw [State.marked, State.updFcSrc_log]
  exact fun _ => rfl

theorem State.collect_log (m : Raised) (s : State) (k : Nat) : ((s.collect m).fcSrc k).log = ((s.noted m).fcSrc k).log := by
  rw [State.collect_eq]
  split
  · rw [State.reacted, fcSrc_log_of_record (State.react_fcRecord ..), State.updFcSrc_log, State.marked_log]
    exact fun _ => rfl
  · exact s.marked_log m k

theorem State.latched_srcs (m : Raised) (s : State) : (s.latched m).fc.srcs = s.fc.srcs := by
  unfold State.latched
  split <;> rfl

theorem State.noted_fcSrc {m : Raised} {s : State} {k : Nat} (hlen : s.fc.srcs.length = 16) (hk : 1 ≤ k) :
    (s.noted m).fcSrc k = if k = m.name.source then
      { s.fcSrc k with lastKind := m.name.kind, lastAddr := m.addr, cnt := satInc 32 (s.fcSrc k).cnt } else s.fcSrc k := by
  have hsame : ((s.latched m).faultEvent m).fcSrc k = s.fcSrc k := by simp [State.fcSrc, State.faultEvent, State.latched_srcs]
  have hupd := State.updFcSrc_fcSrc (s := (s.latched m).faultEvent m) ((congrArg List.length (s.latched_srcs m)).trans hlen)
    m.name.source_range hk fun x => { x with lastKind := m.name.kind, lastAddr := m.addr, cnt := satInc 32 x.cnt }
  rwa [hsame] at hupd

theorem State.noted_eq (m : Raised) (s : State) : s.noted m =
    { s with fc := (s.noted m).fc, cp := (s.noted m).cp, arb := (s.faultEvent m).arb } := by
  unfold State.noted State.latched
  split <;> rfl

theorem State.noted_arb (m : Raised) (s : State) : (s.noted m).arb = (s.faultEvent m).arb := by
  rw [State.noted_eq]

theorem State.noted_reaction (m : Raised) (f : FaultName) (s : State) : (s.noted m).initialReaction f = s.initialReaction f := by
  unfold State.noted State.latched
  split <;> rfl

/-- The state that a fault which the arbiter takes next is taken in. -/
def State.dequeued (t : Nat) (r : Raised) (s : State) : State :=
  { s.atTime t with arb := { s.arb with faultQ := dropFirst r s.arb.faultQ } }

theorem execFaultAccept_takes (t : Nat) {r : Raised} {s : State} (h : s.arb.nextFault = some r) :
    execFaultAccept t s = .next ((s.dequeued t r).collect r) := by
  refine congrArg Host.Outcome.next ?_
  have harb : (s.atTime t).arb = s.arb := by simp
  unfold State.faultAccept
  rw [harb, h]
  rfl

/-- Settles O36: the latch and the record of the source are noted before any reaction, which keeps them. -/
theorem firstFaultLatch : Obligations.FirstFaultLatch := by
  intro t r s hnext hlen
  dsimp only
  have hd : (s.dequeued t r).fc.srcs.length = 16 := hlen
  have hlatch := State.collect_latch r (s.dequeued t r)
  have hlog : ∀ k, 1 ≤ k → (((s.dequeued t r).collect r).fcSrc k).log = if k = r.name.source then
      (r.name.kind, r.addr, satInc 32 (s.fcSrc k).cnt) else (s.fcSrc k).log := fun k hk => by
    rw [State.collect_log, State.noted_fcSrc hd hk, apply_ite FcSrc.log]
    rfl
  have hsrc := r.name.source_range
  have hvalid : (s.dequeued t r).fc.valid = s.fc.valid := rfl
  refine ⟨_, execFaultAccept_takes t hnext, fun hv => ?_, fun hv => ?_, ?_, ?_, ?_, fun k h1 h16 hne => ?_, fun hp hr => ?_⟩
  · rw [State.latched, if_neg (by rw [hvalid, hv]; exact Bool.false_ne_true)] at hlatch
    simp only [Fc.latch, Prod.mk.injEq] at hlatch
    obtain ⟨hval, hover, hfirst, hseq, hflash⟩ := hlatch
    exact ⟨hval, hfirst, hseq, hflash, hover⟩
  · rw [State.latched, if_pos (by rw [hvalid, hv])] at hlatch
    simp only [Fc.latch, Prod.mk.injEq] at hlatch
    obtain ⟨hval, hover, hfirst, hseq, hflash⟩ := hlatch
    exact ⟨hval.trans hv, hfirst, hseq, hflash, hover⟩
  · have h := hlog _ hsrc.1
    rw [if_pos rfl] at h
    exact congrArg Prod.fst h
  · have h := hlog _ hsrc.1
    rw [if_pos rfl] at h
    exact congrArg (fun p => p.2.1) h
  · have h := hlog _ hsrc.1
    rw [if_pos rfl, satInc_eq_min] at h
    exact congrArg (fun p => p.2.2) h
  · have h := hlog _ h1
    rw [if_neg hne] at h
    simpa [FcSrc.log] using h
  · have hreact : (s.dequeued t r).initialReaction r.name = 0 := hr
    have hmarked : (s.dequeued t r).collect r = (s.dequeued t r).marked r := by
      rw [State.collect_eq, State.noted_reaction, hreact, State.noted_fcSrc hd hsrc.1, if_pos rfl]
      refine if_neg ?_
      have hpend : ((s.dequeued t r).fcSrc r.name.source).pending = false := hp
      simp [hpend]
    have harb : ((s.dequeued t r).marked r).arb = ((s.dequeued t r).faultEvent r).arb := by
      rw [State.marked, State.updFcSrc, State.updFc]
      exact State.noted_arb r _
    rw [hmarked]
    refine ⟨?_, ?_, ?_, ?_, ?_⟩
    · rw [State.marked, State.updFcSrc, State.updFc, State.noted_eq]
      rfl
    · rw [harb]; rfl
    · rw [harb]; rfl
    · rw [harb]; rfl
    · rw [harb]
      exact ⟨_, rfl, rfl, rfl⟩

/-! ## What Fault leaves of the watchdog (15 R469) -/

/-- The watchdog: when it expires, and whether it has. -/
def Dike.watch (d : Dike) : Option Nat × Bool := (d.wdDeadline, d.wdExpired)

@[simp] theorem State.updDikeAxis_watch (a : Nat) (f : DikeAxis → DikeAxis) (s : State) :
    (s.updDikeAxis a f).dike.watch = s.dike.watch := rfl

@[simp] theorem State.doseClamp_watch (codes : List (List Nat)) (s : State) : (s.doseClamp codes).2.dike.watch = s.dike.watch := by
  simp [State.doseClamp, Dike.watch, apply_ite Dike.wdDeadline, apply_ite Dike.wdExpired]

@[simp] theorem State.takeSlot_watch (i : Nat) (s : State) : (s.takeSlot i).dike.watch = s.dike.watch := by
  unfold State.takeSlot
  dsimp only
  (repeat' split) <;> simp

@[simp] theorem State.takeSlots_watch (n : Nat) (s : State) : (State.takeSlots n s).dike.watch = s.dike.watch := by
  induction n generalizing s with
  | zero => rfl
  | succ n ih =>
    unfold State.takeSlots
    (repeat' split) <;> simp [ih]

@[simp] theorem State.cuffWithdraw_watch (first : Nat) (s : State) : (s.cuffWithdraw first).dike.watch = s.dike.watch := by
  simp [State.cuffWithdraw]

@[simp] theorem State.withdrawUngated_watch (key : Nat) (s : State) : (s.withdrawUngated key).dike.watch = s.dike.watch := by
  unfold State.withdrawUngated
  dsimp only
  split <;> simp

@[simp] theorem State.hemStop_watch (key : Nat) (s : State) : (s.hemStop key).dike.watch = s.dike.watch := by
  unfold State.hemStop
  dsimp only
  split <;> simp

@[simp] theorem State.endWrite_watch (key : Nat) (s : State) : (s.endWrite key).dike.watch = s.dike.watch := by
  unfold State.endWrite
  split <;> simp

@[simp] theorem State.axesOff_watch (s : State) : s.axesOff.dike.watch = s.dike.watch := by
  refine foldl_keep (fun s => s.dike.watch) _ _ _ fun s a => ?_
  simp [State.axisOff, Dike.watch]

@[simp] theorem State.enterFault_watch (key : Nat) (off : Bool) (s : State) : (s.enterFault key off).dike.watch = s.dike.watch := by
  unfold State.enterFault
  dsimp only
  (repeat' split) <;> simp

theorem State.enterFault_tgood {s : State} (hsleep : s.eng.state ≠ .sleep) (hreset : s.eng.inReset = false) (hfault : s.eng.state ≠ .fault)
    (key : Nat) (off : Bool) : (s.enterFault key off).eng.tgood = false := by
  unfold State.enterFault
  simp [hsleep, hreset, hfault]

/-! ## The watchdog, the lock pin and the brake -/

theorem State.watchdog_early {s : State} {d : Nat} (h : s.dike.wdDeadline = some d) (hnow : s.now < d) : s.watchdog = s := by
  simp [State.watchdog, h, hnow]

theorem State.watchdog_expires {s : State} {d : Nat} (h : s.dike.wdDeadline = some d) (hx : s.dike.wdExpired = false) (hnow : d ≤ s.now) :
    s.watchdog = ((s.updDike fun k => { k with wdExpired := true, wdDeadline := none }).raise .watchdog 0).enterFault (s.slot 1) false := by
  simp [State.watchdog, h, hx, Nat.not_lt.2 hnow]

theorem execWatchdog_expires {t d : Nat} {s : State} (h : s.dike.wdDeadline = some d) (hx : s.dike.wdExpired = false)
    (hnow : d ≤ (s.atTime t).now) (hst : s.eng.state ≠ .sleep) (hr : s.eng.inReset = false) : ∃ u, execWatchdog t s = .next u ∧
      u.eng.state = .fault ∧ (s.eng.state ≠ .fault → u.eng.tgood = false) ∧ u.dike.wdExpired = true ∧ u.dike.wdDeadline = none ∧
      u.waits (s.atTime t).now .watchdog 0 ∧ u.feed = s.feed ∧ u.mb = s.mb ∧ u.dram = s.dram ∧ u.pending = s.pending := by
  have hw := State.watchdog_expires (s := s.atTime t) h hx hnow
  generalize hv : ((s.atTime t).updDike fun k => { k with wdExpired := true, wdDeadline := none }).raise .watchdog 0 = v at hw
  have heng : v.eng = s.eng := by rw [← hv]; rfl
  have hvw : v.waits (s.atTime t).now .watchdog 0 := by rw [← hv]; exact State.waits_raise ..
  have hdike : v.dike.watch = (none, true) := by rw [← hv]; rfl
  obtain ⟨htell, hfault⟩ := State.enterFault_onlyTells (s := v) (by rwa [heng]) (by rwa [heng]) ((s.atTime t).slot 1) false
  have hwatch := (State.enterFault_watch ((s.atTime t).slot 1) false v).trans hdike
  simp only [Dike.watch, Prod.mk.injEq] at hwatch
  refine ⟨_, congrArg Host.Outcome.next hw, hfault, fun hne => ?_, hwatch.2, hwatch.1, htell.waits hvw, ?_, ?_, ?_, ?_⟩
  · exact State.enterFault_tgood (by rwa [heng]) (by rwa [heng]) (by rwa [heng]) _ _
  all_goals rw [← hv]; simp

theorem execBrakeTimeout_eq (t : Nat) {a : Nat} {s : State} (ho : (s.dikeAxis a).ovr = true)
    (hb : (s.dikeAxis a).brake = true) : execBrakeTimeout t a s = .next
      (if 100 ≤ (s.dikeAxis a).restCount ∨ (s.dikeAxis a).brakeStart + s.dike.brakeMs * 12800000 ≤ (s.atTime t).now then
        { s.atTime t with dike := { (s.atTime t).dike with axes := (s.atTime t).dike.axes.set a { s.dikeAxis a with brake := false } } }
      else s.atTime t) := by
  have hax : (s.atTime t).dikeAxis a = s.dikeAxis a := rfl
  unfold execBrakeTimeout State.brakeTimeout
  dsimp only
  refine congrArg Host.Outcome.next (if_congr (by simp [hax, ho, hb]) ?_ rfl)
  rw [State.updDikeAxis, State.updDike, listUpd_eq_set _ _ _ {}]
  rfl

/-- Settles O38: Fault keeps the watchdog as it expired, and the other commands of Dike write the fields that they name. -/
theorem dikeEvents : Obligations.DikeEvents := by
  intro t s
  dsimp only
  refine ⟨fun d hd hx => ⟨fun hnow => ?_, fun hnow hst hr => execWatchdog_expires hd hx hnow hst hr⟩, ?_, fun high => ⟨rfl, fun h => ?_, fun h => ?_⟩,
    fun a _ ho hb => execBrakeTimeout_eq t ho hb⟩
  · exact congrArg Host.Outcome.next (State.watchdog_early (s := s.atTime t) hd hnow)
  · simp [exec, execWatchdogRestart, State.armWatchdog, State.updDike, usSteps]
  · obtain h | h := h <;> simp [exec, execLockEdge, h]
  · cases high <;> simp [exec, execLockEdge, h, State.raise, State.updDike]

end Sys2Proof.Machine
end

section
/-! PROOFS. Boot, calibration, Ready and the swap of the banks (O34; 16 R472 to R482). -/

namespace Sys2Proof.Machine
open Sys2Proof

/-! ## Sequence numbers only grow (01 R37) -/

theorem Arb.seq_le_number (order now : Nat) (a : Arb) : a.seq ≤ (a.number order now).seq := Nat.le_add_right ..

theorem State.event_seq_lt (e : EventName) (s : State) : s.seqFor e.order < (s.event e).arb.seq := Nat.lt_succ_self _

theorem State.event_seq_le (e : EventName) (s : State) : s.arb.seq ≤ (s.event e).arb.seq :=
  (Arb.seq_le_number e.order s.now s.arb).trans (Nat.le_succ _)

theorem State.append_seq_le (type key : Nat) (body : List Byte) (mb : Option Nat) (s : State) :
    s.arb.seq ≤ (s.append type key body mb).arb.seq := by
  unfold State.append
  split
  · exact le_rfl
  · exact State.event_seq_le (s := s.updJr _) _

theorem State.le_appendCal_seq {n : Nat} {s : State} (h : n ≤ s.arb.seq) : n ≤ s.appendCal.arb.seq :=
  foldl_preserves (P := fun u : State => n ≤ u.arb.seq) _ h fun _ _ h => h.trans (State.append_seq_le ..)

theorem State.le_tgoodUp_seq {n : Nat} {s : State} (h : n ≤ s.arb.seq) : n ≤ s.tgoodUp.arb.seq := by
  unfold State.tgoodUp State.setTgood
  split
  · split
    · exact h
    · exact h.trans (State.event_seq_le (s := { s with eng := { s.eng with tgood := true } }) _)
  · exact h

/-! ## The outputs and their banks -/

theorem State.updOutput_output {o : Nat} {s : State} (ho : o < s.cal.outs.length) (f : Output → Output) (k : Nat) :
    (s.updOutput o f).output k = if o = k then f (s.output k) else s.output k :=
  listUpd_getD _ _ _ _ _ ho

theorem State.updOutput_outs (o : Nat) (f : Output → Output) (s : State) : (s.updOutput o f).cal.outs.length = s.cal.outs.length :=
  listUpd_length ..

/-- The banks and the failures of an output, which the end of a calibration keeps. -/
def Output.kept (x : Output) : List VBank × Nat := (x.banks, x.failures)

theorem output_map_kept {f : Output → Output} (hf : ∀ x, (f x).kept = x.kept) (l : List Output) (k : Nat) :
    ((l.map f).getD k {}).kept = (l.getD k {}).kept := by
  rw [List.getD_eq_getElem?_getD, List.getD_eq_getElem?_getD, List.getElem?_map]
  cases l[k]?
  · rfl
  · exact hf _

theorem State.abandonCal_kept (s : State) (k : Nat) : (s.abandonCal.output k).kept = (s.output k).kept :=
  output_map_kept (f := fun o => { o with attempts := [0, 0], passed := [false, false], temps := [(0, 0), (0, 0)] }) (fun _ => rfl)
    s.cal.outs k

theorem State.enterFault_cal (key : Nat) (off : Bool) (s : State) :
    (s.enterFault key off).cal = s.cal ∨ (s.enterFault key off).cal = s.abandonCal.cal := by
  unfold State.enterFault
  dsimp only
  split
  · exact .inl rfl
  · split
    · exact .inl rfl
    · right
      (repeat' split) <;> simp [State.abandonCal]

theorem State.waits.enterFault {at' addr : Nat} {f : FaultName} {s : State} (h : s.waits at' f addr) (key : Nat) (off : Bool) :
    (s.enterFault key off).waits at' f addr := by
  by_cases hst : s.eng.state = .sleep
  · rwa [State.enterFault, if_pos (by simp [hst])]
  · cases hr : s.eng.inReset
    · exact (State.enterFault_onlyTells hst hr key off).1.waits h
    · rwa [State.enterFault, if_pos (by simp [hr])]

/-! ## A failed attempt (16 R476, R478, R479) -/

/-- An attempt's line: the output is there, and so are its attempts. -/
structure State.Line (o bank : Nat) (s : State) : Prop where
  out : o < s.cal.outs.length
  attempts : bank < (s.output o).attempts.length

theorem State.calFail_spec {o bank : Nat} {s : State} (ho : o < s.cal.outs.length) :
    let u := s.calFail o bank
    (u.output o).banks = (s.output o).banks ∧ (u.output o).failures = (s.output o).failures + 1 ∧ u.cal.mode = .none ∧
      u.waits s.now .calFail (o * 2 ^ 40 + bank * 2 ^ 32) ∧
      ∀ at' f addr, s.waits at' f addr → u.waits at' f addr := by
  dsimp only
  generalize hv : (s.updOutput o fun x => { x with failures := x.failures + 1 }).raise .calFail (o * 2 ^ 40 + bank * 2 ^ 32) = v
  have hkept : (v.output o).kept = ((s.output o).banks, (s.output o).failures + 1) := by
    rw [← hv]
    have h := State.updOutput_output ho (fun x => { x with failures := x.failures + 1 }) o
    rw [if_pos rfl] at h
    exact congrArg Output.kept h
  have hw : v.waits s.now .calFail (o * 2 ^ 40 + bank * 2 ^ 32) := by rw [← hv]; exact State.waits_raise ..
  have hkeep : ∀ at' f addr, s.waits at' f addr → v.waits at' f addr := fun at' f addr h => by
    rw [← hv]; exact State.waits.raise (s := s.updOutput o _) h _ _
  have hgoal : ∀ u : State, (u.output o).kept = (v.output o).kept → (u.output o).banks = (s.output o).banks ∧
      (u.output o).failures = (s.output o).failures + 1 := fun u h => by
    rw [hkept] at h
    exact ⟨congrArg Prod.fst h, congrArg Prod.snd h⟩
  have hmode : s.calFail o bank = if v.cal.mode == .calibrate then
      (v.updCal fun c => { c with mode := .none }).enterFault (v.slot 13) false
      else v.updCal fun c => { c with mode := .none, bgRef := some v.eng.tCore } := by rw [← hv]; rfl
  rw [hmode]
  split
  · generalize hx : v.updCal (fun c => { c with mode := .none }) = x
    have hxm : x.cal.mode = .none := by rw [← hx]; rfl
    have hxo : (x.output o).kept = (v.output o).kept := by rw [← hx]; rfl
    have hxw : ∀ at' f addr, v.waits at' f addr → x.waits at' f addr := fun _ _ _ h => by rw [← hx]; exact h
    have hcal := State.enterFault_cal (v.slot 13) false x
    have hfo : ((x.enterFault (v.slot 13) false).output o).kept = (x.output o).kept := by
      obtain h | h := hcal
      · rw [State.output, h, State.output]
      · rw [State.output, h]
        exact x.abandonCal_kept o
    obtain ⟨hb, hf⟩ := hgoal _ (hfo.trans hxo)
    refine ⟨hb, hf, ?_, (hxw _ _ _ hw).enterFault .., fun at' f addr h => (hxw _ _ _ (hkeep _ _ _ h)).enterFault ..⟩
    obtain h | h := hcal
    · rw [h, hxm]
    · rw [h]; rfl
  · obtain ⟨hb, hf⟩ := hgoal (v.updCal fun c => { c with mode := .none, bgRef := some v.eng.tCore }) rfl
    exact ⟨hb, hf, rfl, hw, hkeep⟩

theorem State.attemptFailed_spec {o bank : Nat} {s : State} (h : s.Line o bank) :
    let u := s.attemptFailed o bank
    let n := (s.output o).attempts.getD bank 0
    (u.output o).banks = (s.output o).banks ∧
      (n ≠ 3 → (u.output o).attempts.getD bank 0 = n + 1 ∧ u.eng.state = s.eng.state) ∧
      (n = 3 → (u.output o).failures = (s.output o).failures + 1 ∧ u.cal.mode = .none ∧
        u.waits s.now .calFail (o * 2 ^ 40 + bank * 2 ^ 32)) ∧
      ∀ at' f addr, s.waits at' f addr → u.waits at' f addr := by
  dsimp only
  generalize hv : (s.updOutput o fun x => { x with
    attempts := listUpd x.attempts bank fun _ => (s.output o).attempts.getD bank 0 + 1
    temps := listUpd x.temps bank fun _ => (0, 0) }) = v
  have heq : s.attemptFailed o bank = if (s.output o).attempts.getD bank 0 + 1 = 4 then v.calFail o bank else v := by rw [← hv]; rfl
  have hvo : v.output o = { s.output o with
      attempts := listUpd (s.output o).attempts bank fun _ => (s.output o).attempts.getD bank 0 + 1
      temps := listUpd (s.output o).temps bank fun _ => (0, 0) } := by
    rw [← hv, State.updOutput_output h.out, if_pos rfl]
  have hvw : ∀ at' f addr, s.waits at' f addr → v.waits at' f addr := fun _ _ _ h => by rw [← hv]; exact h
  have hnow : v.now = s.now := by rw [← hv]; rfl
  have heng : v.eng = s.eng := by rw [← hv]; rfl
  have hlen : o < v.cal.outs.length := by rw [← hv, State.updOutput_outs]; exact h.out
  rw [heq]
  split
  next h4 =>
    obtain ⟨hb, hf, hm, hw, hk⟩ := State.calFail_spec (bank := bank) hlen
    rw [hvo] at hb hf
    refine ⟨hb, fun hn => absurd h4 (by omega), fun _ => ⟨hf, hm, hnow ▸ hw⟩, fun at' f addr ha => hk _ _ _ (hvw _ _ _ ha)⟩
  next h4 =>
    refine ⟨by rw [hvo], fun _ => ⟨?_, by rw [heng]⟩, fun hn => absurd hn (by omega), hvw⟩
    rw [hvo]
    exact listUpd_getD_same h.attempts _ _

/-! ## The trim before an attempt (16 R473) -/

/-- The trim leaves all but the banks, and the counter of free values. -/
structure State.Trimmed (s v : State) : Prop where
  eq : v = { s with cal := { s.cal with outs := v.cal.outs }, free := v.free }
  outs : v.cal.outs.length = s.cal.outs.length
  output : ∀ k, v.output k = { s.output k with banks := (v.output k).banks }
  banks : ∀ k, (v.output k).banks.length = (s.output k).banks.length

theorem State.trimLaunch_reference {s : State} (h : s.cal.mode = .calibrate) (o : Nat) : s.trimLaunch o 0 = s := by
  simp [State.trimLaunch, h]

/-- What the trim makes of a bank. -/
def VBank.trim (k : Nat) (b : VBank) : VBank :=
  { b with launch := b.launch - Config.launchSkew k + ((Config.trimRest k).val - 16), offset := (Config.trimRest k).val - 16 }

theorem State.trimLaunch_trims {o bank : Nat} {s : State} (h : ¬(s.cal.mode = .calibrate ∧ bank = 0)) : s.trimLaunch o bank =
    { s with free := s.free + 1 }.updOutput o fun x => { x with banks := listUpd x.banks bank (VBank.trim s.free) } := by
  have hif : ¬(s.cal.mode == .calibrate && bank == 0) = true := by simpa using h
  exact if_neg hif

theorem State.trimLaunch_output {o bank : Nat} {s : State} (h : ¬(s.cal.mode = .calibrate ∧ bank = 0)) (ho : o < s.cal.outs.length) (k : Nat) :
    (s.trimLaunch o bank).output k =
      if o = k then { s.output k with banks := listUpd (s.output k).banks bank (VBank.trim s.free) } else s.output k := by
  rw [State.trimLaunch_trims h]
  exact State.updOutput_output (s := { s with free := s.free + 1 }) ho _ k

theorem State.trimLaunch_trimmed {o bank : Nat} {s : State} (ho : o < s.cal.outs.length) : s.Trimmed (s.trimLaunch o bank) := by
  by_cases h : s.cal.mode = .calibrate ∧ bank = 0
  · rw [h.2, State.trimLaunch_reference h.1]
    exact ⟨rfl, rfl, fun _ => rfl, fun _ => rfl⟩
  · refine ⟨?_, ?_, fun k => ?_, fun k => ?_⟩
    · rw [State.trimLaunch_trims h]; rfl
    · rw [State.trimLaunch_trims h]; exact State.updOutput_outs (s := { s with free := s.free + 1 }) ..
    · rw [State.trimLaunch_output h ho]
      split <;> rfl
    · rw [State.trimLaunch_output h ho]
      split
      · exact listUpd_length ..
      · rfl

theorem State.trimLaunch_bank {o bank : Nat} {s : State} (h : ¬(s.cal.mode = .calibrate ∧ bank = 0)) (ho : o < s.cal.outs.length)
    (hb : bank < (s.output o).banks.length) :
    ((s.trimLaunch o bank).output o).bank bank = ((s.output o).bank bank).trim s.free := by
  rw [State.trimLaunch_output h ho, if_pos rfl]
  exact listUpd_getD_same hb _ _

theorem State.trimLaunch_other {o bank : Nat} {s : State} (h : ¬(s.cal.mode = .calibrate ∧ bank = 0)) (ho : o < s.cal.outs.length)
    {k b : Nat} (hne : k ≠ o ∨ b ≠ bank) : ((s.trimLaunch o bank).output k).bank b = (s.output k).bank b := by
  rw [State.trimLaunch_output h ho]
  split
  next hk =>
    obtain hk' | hb := hne
    · exact absurd hk.symm hk'
    · exact listUpd_getD_other hb ..
  next => rfl

/-! ## An attempt that passes (16 R475, R478) -/

/-- The selection of an attempt that passes. -/
def State.selects (o bank : Nat) (taps : List Nat) (err : Nat) (tAvg : Int) (s : State) : State :=
  (s.event (.bankPassed o)).updOutput o fun x => { x with
    passed := listUpd x.passed bank fun _ => true
    temps := listUpd x.temps bank fun _ => (0, 0)
    banks := listUpd x.banks bank fun b => { b with tCal := tAvg, errMax := err, taps := taps, selected := s.seqFor 13 } }

theorem State.attemptPassed_eq (o bank : Nat) (taps : List Nat) (err : Nat) (tAvg : Int) (s : State) :
    let v := (s.selects o bank taps err tAvg).updEng fun e => { e with tgoodNeedsCal := false }
    s.attemptPassed o bank taps err tAvg = if !(s.selects o bank taps err tAvg).calDone then s.selects o bank taps err tAvg
      else if v.cal.mode == .background then
        (v.updCal fun c => { c with mode := .none, swapReady := true, swapAfter := v.hem.issuedEnd }).tgoodUp
      else (v.updCal fun c => { c with
        mode := .none, passed := true, outs := c.outs.map fun (x : Output) => { x with active := 0 } }).appendCal.tgoodUp := rfl

/-- What the end of a calibration that passed leaves as it is. -/
structure State.Completes (s u : State) : Prop where
  kept : ∀ k, (u.output k).kept = (s.output k).kept
  seq : s.arb.seq ≤ u.arb.seq
  hem : u.hem = s.hem
  br : u.br = s.br
  cf : u.cf = s.cf
  fc : u.fc = s.fc

theorem State.attemptPassed_completes (o bank : Nat) (taps : List Nat) (err : Nat) (tAvg : Int) (s : State) :
    (s.selects o bank taps err tAvg).Completes (s.attemptPassed o bank taps err tAvg) := by
  have heq := s.attemptPassed_eq o bank taps err tAvg
  dsimp only at heq
  rw [heq]
  generalize s.selects o bank taps err tAvg = w
  split
  · exact ⟨fun _ => rfl, le_rfl, rfl, rfl, rfl, rfl⟩
  · split
    · refine ⟨fun k => ?_, ?_, by simp [State.updCal], by simp [State.updCal], by simp [State.updCal], by simp [State.updCal]⟩
      · simp [State.output, State.updCal, State.updEng]
      · exact State.le_tgoodUp_seq le_rfl
    · refine ⟨fun k => ?_, ?_, by simp [State.updCal], by simp [State.updCal], by simp [State.updCal], by simp [State.updCal]⟩
      · simp only [State.output, State.tgoodUp_frame, State.appendCal_frame]
        exact output_map_kept (f := fun x => { x with active := 0 }) (fun _ => rfl) w.cal.outs k
      · exact State.le_tgoodUp_seq (State.le_appendCal_seq le_rfl)

/-! ## CAL_ATTEMPT_END (16 R473 to R477) -/

theorem State.measuring_range {o bank : Nat} {s : State} (h : s.measuring o bank = true) : o < 2 ∧ bank < 2 := by
  simp only [State.measuring, Bool.and_eq_true, decide_eq_true_eq] at h
  exact h.1.1.1

/-- The length of a run, by which the counts are scaled. -/
def Cal.runLength (c : Cal) : Nat := if c.mode = .calibrate ∧ c.cold = true then 2 ^ 18 else 2 ^ 16

/-- The two selections of an attempt judge the bank. -/
def State.judged (o bank : Nat) (n1 n2 : List Nat) (tAvg : Int) (s : State) : State :=
  match calRun s.cal.runLength s.cal.tol n1, calRun s.cal.runLength s.cal.tol n2 with
  | .error e, _ => (s.raise .calRange (o * 2 ^ 40 + bank * 2 ^ 32 + e % 65536)).attemptFailed o bank
  | _, .error e => (s.raise .calRange (o * 2 ^ 40 + bank * 2 ^ 32 + e % 65536)).attemptFailed o bank
  | .ok (t1, _), .ok (t2, err) =>
    match firstDiff t1 t2 with
    | some k => (s.raise .calDisagree (o * 2 ^ 40 + bank * 2 ^ 32 + k)).attemptFailed o bank
    | none => s.attemptPassed o bank t2 err ((s.output o).average bank tAvg)

theorem execCalAttemptEnd_idle (t : Nat) {o bank : Nat} {s : State} (h : (s.atTime t).measuring o bank = false) (n1 n2 : List Nat) (tAvg : Int) :
    execCalAttemptEnd t o bank n1 n2 tAvg s = .next (s.atTime t) :=
  congrArg Host.Outcome.next (if_pos (by rw [h]; rfl))

theorem execCalAttemptEnd_measures (t : Nat) {o bank : Nat} {s : State} (h : (s.atTime t).measuring o bank = true) (n1 n2 : List Nat) (tAvg : Int) :
    execCalAttemptEnd t o bank n1 n2 tAvg s = .next (((s.atTime t).trimLaunch o bank).judged o bank n1 n2 tAvg) := by
  have hw : (if (((s.atTime t).trimLaunch o bank).cal.mode == .calibrate && ((s.atTime t).trimLaunch o bank).cal.cold) = true then 2 ^ 18 else 2 ^ 16) =
      ((s.atTime t).trimLaunch o bank).cal.runLength := if_congr (by simp) rfl rfl
  unfold execCalAttemptEnd
  dsimp only
  rw [if_neg (by rw [h]; exact Bool.false_ne_true), hw]
  generalize (s.atTime t).trimLaunch o bank = v
  unfold State.judged
  generalize calRun v.cal.runLength v.cal.tol n1 = r1
  generalize calRun v.cal.runLength v.cal.tol n2 = r2
  rcases r1 with e | ⟨t1, e1⟩ <;> rcases r2 with e' | ⟨t2, e2⟩ <;> rfl

section
variable {t o bank : Nat} {s : State}

/-- The trimmed state of an attempt on a line that is there. -/
structure State.Attempt (o bank : Nat) (s v : State) : Prop extends s.Trimmed v where
  line : v.Line o bank
  bank : bank < (v.output o).banks.length

theorem State.trimLaunch_attempt (h : s.measuring o bank = true) (hlen : s.cal.outs.length = 2)
    (hshape : ∀ x ∈ s.cal.outs, x.banks.length = 2 ∧ x.attempts.length = 2 ∧ x.passed.length = 2) :
    s.Attempt o bank (s.trimLaunch o bank) := by
  obtain ⟨ho, hb⟩ := State.measuring_range h
  have hout : o < s.cal.outs.length := by omega
  have htrim := State.trimLaunch_trimmed (bank := bank) hout
  have hmem : s.output o ∈ s.cal.outs := by
    rw [State.output, List.getD_eq_getElem _ _ hout]
    exact List.getElem_mem hout
  obtain ⟨hbanks, hattempts, -⟩ := hshape _ hmem
  exact { htrim with
    line := ⟨htrim.outs ▸ hout, by rw [htrim.output]; exact hattempts ▸ hb⟩
    bank := by rw [htrim.banks]; omega }

/-- The end of an attempt that failed, against the state after its trim. -/
def State.FailedFrom (o bank : Nat) (v u : State) : Prop :=
  (u.output o).banks = (v.output o).banks ∧
    ((v.output o).attempts.getD bank 0 ≠ 3 →
      (u.output o).attempts.getD bank 0 = (v.output o).attempts.getD bank 0 + 1 ∧ u.eng.state = v.eng.state) ∧
    ((v.output o).attempts.getD bank 0 = 3 → (u.output o).failures = (v.output o).failures + 1 ∧ u.cal.mode = .none ∧
      u.waits v.now .calFail (o * 2 ^ 40 + bank * 2 ^ 32))

theorem State.attemptFailed_raised {v : State} (h : v.Line o bank) (f : FaultName) (addr : Nat) :
    v.FailedFrom o bank ((v.raise f addr).attemptFailed o bank) ∧ ((v.raise f addr).attemptFailed o bank).waits v.now f addr := by
  obtain ⟨hb, hn, h3, hw⟩ := State.attemptFailed_spec (s := v.raise f addr) (o := o) (bank := bank) ⟨h.out, h.attempts⟩
  exact ⟨⟨hb, hn, h3⟩, hw _ _ _ (State.waits_raise f addr v)⟩

theorem State.judged_range {v : State} {n1 n2 : List Nat} {tAvg : Int} {e : Nat}
    (h : calRun v.cal.runLength v.cal.tol n1 = .error e ∨
      ((∃ r, calRun v.cal.runLength v.cal.tol n1 = .ok r) ∧ calRun v.cal.runLength v.cal.tol n2 = .error e)) :
    v.judged o bank n1 n2 tAvg = (v.raise .calRange (o * 2 ^ 40 + bank * 2 ^ 32 + e % 65536)).attemptFailed o bank := by
  unfold State.judged
  obtain h | ⟨⟨r, hr⟩, h⟩ := h
  · rw [h]
  · rw [hr, h]

theorem State.judged_disagree {v : State} {n1 n2 t1 t2 : List Nat} {tAvg : Int} {e1 e2 k : Nat}
    (h1 : calRun v.cal.runLength v.cal.tol n1 = .ok (t1, e1)) (h2 : calRun v.cal.runLength v.cal.tol n2 = .ok (t2, e2))
    (hk : firstDiff t1 t2 = some k) :
    v.judged o bank n1 n2 tAvg = (v.raise .calDisagree (o * 2 ^ 40 + bank * 2 ^ 32 + k)).attemptFailed o bank := by
  unfold State.judged
  rw [h1, h2]
  dsimp only
  rw [hk]

theorem State.judged_passes {v : State} {n1 n2 t1 t2 : List Nat} {tAvg : Int} {e1 e2 : Nat}
    (h1 : calRun v.cal.runLength v.cal.tol n1 = .ok (t1, e1)) (h2 : calRun v.cal.runLength v.cal.tol n2 = .ok (t2, e2))
    (hk : firstDiff t1 t2 = none) :
    v.judged o bank n1 n2 tAvg = v.attemptPassed o bank t2 e2 ((v.output o).average bank tAvg) := by
  unfold State.judged
  rw [h1, h2]
  dsimp only
  rw [hk]

theorem State.attemptPassed_bank {v : State} (ho : o < v.cal.outs.length) (hb : bank < (v.output o).banks.length) (taps : List Nat) (err : Nat)
    (tAvg : Int) : ((v.attemptPassed o bank taps err tAvg).output o).bank bank =
      { (v.output o).bank bank with tCal := tAvg, errMax := err, taps := taps, selected := v.seqFor 13 } := by
  have hkept := (v.attemptPassed_completes o bank taps err tAvg).kept o
  have hsel : (v.selects o bank taps err tAvg).output o = { v.output o with
      passed := listUpd (v.output o).passed bank fun _ => true
      temps := listUpd (v.output o).temps bank fun _ => (0, 0)
      banks := listUpd (v.output o).banks bank fun b => { b with tCal := tAvg, errMax := err, taps := taps, selected := v.seqFor 13 } } := by
    have h := State.updOutput_output (s := v.event (.bankPassed o)) ho (fun x => { x with
      passed := listUpd x.passed bank fun _ => true
      temps := listUpd x.temps bank fun _ => (0, 0)
      banks := listUpd x.banks bank fun b => { b with tCal := tAvg, errMax := err, taps := taps, selected := v.seqFor 13 } }) o
    rwa [if_pos rfl] at h
  have hbanks : ((v.attemptPassed o bank taps err tAvg).output o).banks = _ := (congrArg Prod.fst hkept).trans (congrArg Output.banks hsel)
  rw [Output.bank, hbanks]
  exact listUpd_getD_same hb _ _

theorem State.attemptPassed_seq (v : State) (taps : List Nat) (err : Nat) (tAvg : Int) :
    v.arb.seq ≤ v.seqFor 13 ∧ v.seqFor 13 < (v.attemptPassed o bank taps err tAvg).arb.seq :=
  ⟨Arb.seq_le_number .., Nat.lt_of_lt_of_le (State.event_seq_lt (.bankPassed o) v) (v.attemptPassed_completes o bank taps err tAvg).seq⟩

end

/-! ## BOOT_COMPLETE, READY_ENTRY and BANK_SWAP (16 R478, R480; 17 R446) -/

section
variable {t : Nat} {s : State}

/-- Boot is under way. -/
def State.Booting (s : State) : Prop := s.eng.state = .boot ∧ s.eng.inReset = false ∧ s.eng.bootStuck = false

theorem State.Booting.acts (h : s.Booting) : ¬((s.atTime t).eng.state != .boot || (s.atTime t).eng.inReset || (s.atTime t).eng.bootStuck) = true := by
  obtain ⟨hst, hr, hb⟩ := h
  simp [hst, hr, hb]

theorem execBootComplete_memory (h : s.Booting) (hrel : (s.atTime t).bootRom.eng.relMajor ≠ 0) {memFail : Option (Nat × Nat)} {v : State}
    (hv : ((s.atTime t).bootRom.loadConfig).initDram memFail = some v) :
    execBootComplete t memFail s = .next v.armWatchdog.enterCalibrate := by
  unfold execBootComplete
  dsimp only
  rw [if_neg h.acts, if_neg hrel, hv]

theorem execBootComplete_noMemory (h : s.Booting) (hrel : (s.atTime t).bootRom.eng.relMajor ≠ 0) (sub bank : Nat) :
    let v := (s.atTime t).bootRom.loadConfig
    execBootComplete t (some (sub, bank)) s = .next
      (((if v.jr.hasDelay v.dram.rate then v else v.raise .memNotrain v.dram.rate).raise .memInit (sub * 2 ^ 44 + bank * 2 ^ 35)).updEng fun e =>
        { e with bootStuck := true }) := by
  have hnone : ((s.atTime t).bootRom.loadConfig).initDram (some (sub, bank)) = none := by
    unfold State.initDram
    split <;> rfl
  unfold execBootComplete
  dsimp only
  rw [if_neg h.acts, if_neg hrel, hnone]

end

theorem State.enterCalibrate_spec (s : State) : s.enterCalibrate.eng.state = .calibrate ∧ s.enterCalibrate.cal.mode = .calibrate ∧
    s.enterCalibrate.eng.tgood = false := by
  refine ⟨?_, ?_, ?_⟩
  · simp [State.enterCalibrate]
  · simp [State.enterCalibrate, State.startCal, State.updCal]
  · simp [State.enterCalibrate]

theorem execReadyEntry_ready (t : Nat) {s : State} (hst : s.eng.state = .calibrate) (hp : s.cal.passed = true) (hs : (s.atTime t).ownSlack ≠ 0) :
    execReadyEntry t s = .next (s.atTime t).enterReady.pairUp := by
  refine congrArg Host.Outcome.next (if_pos ?_)
  simp [hst, hp, hs]

theorem execReadyEntry_waits (t : Nat) {s : State} (h : s.cal.passed = false ∨ (s.atTime t).ownSlack = 0) :
    execReadyEntry t s = .next (s.atTime t) := by
  refine congrArg Host.Outcome.next (if_neg ?_)
  obtain h | h := h <;> simp [h]

/-- The outputs swap their banks. -/
def State.swapped (s : State) : State := s.updCal fun c => { c with
  swapReady := false, bgRef := none
  outs := c.outs.map fun (x : Output) => { x with
    active := 1 - x.active, swaps := x.swaps + 1, attempts := [0, 0], passed := [false, false], temps := [(0, 0), (0, 0)] } }

theorem execBankSwap_swaps (t : Nat) {s : State} (hr : s.cal.swapReady = true) (ha : s.cal.swapAfter ≤ (s.atTime t).now) :
    execBankSwap t s = .next (s.atTime t).swapped.appendCal.startBackground := by
  refine congrArg Host.Outcome.next (if_pos ?_)
  simpa [hr] using ha

theorem execBankSwap_waits (t : Nat) {s : State} (h : s.cal.swapReady = false ∨ (s.atTime t).now < s.cal.swapAfter) :
    execBankSwap t s = .next (s.atTime t) := by
  refine congrArg Host.Outcome.next (if_neg ?_)
  obtain h | h := h
  · simp [h]
  · simpa using fun _ => h

/-- A background calibration starts with no attempt made, and is all that starts. -/
theorem State.startBackground_outs (s : State) : s.startBackground.cal.swapReady = s.cal.swapReady ∧
    (s.startBackground.cal.outs = s.cal.outs ∨ s.startBackground.cal.outs = s.clearAttempts.cal.outs) := by
  unfold State.startBackground
  split
  · exact ⟨rfl, .inr rfl⟩
  · exact ⟨rfl, .inl rfl⟩

theorem State.waits_mod {s : State} {at' addr : Nat} {f : FaultName} : s.waits at' f (addr % 2 ^ 48) ↔ s.waits at' f addr := by
  simp only [State.waits, Nat.mod_mod]

section
variable {t : Nat} {s : State}

theorem bootComplete_calibrates (hst : s.eng.state = .boot) (hr : s.eng.inReset = false) (hb : s.eng.bootStuck = false)
    (hrel : (s.atTime t).bootRom.eng.relMajor ≠ 0)
    (hd : ((s.atTime t).bootRom.loadConfig).jr.hasDelay ((s.atTime t).bootRom.loadConfig).dram.rate = true) :
    ∃ u, exec (.bootComplete t none) s = .next u ∧ u.eng.state = .calibrate ∧ u.cal.mode = .calibrate ∧ u.eng.tgood = false ∧
      u.dram.valid = [] ∧ u.dram.blocks = [] ∧
      u.dike.wdDeadline = some ((s.atTime t).now + ((s.atTime t).bootRom.loadConfig).dike.wdMs * 1000 * 12800) := by
  have hrun := fun v => execBootComplete_memory (memFail := none) (v := v) ⟨hst, hr, hb⟩ hrel
  have hnow : ((s.atTime t).bootRom.loadConfig).now = (s.atTime t).now := by simp
  generalize (s.atTime t).bootRom.loadConfig = v at hrun hd hnow ⊢
  obtain ⟨x, hinit, hxd, hxdike, hxnow⟩ : ∃ x, v.initDram none = some x ∧ (x.dram.valid = [] ∧ x.dram.blocks = []) ∧
      x.dike = v.dike ∧ x.now = v.now := by
    refine ⟨{ v with dram := { v.dram with
      delays := v.jr.delaySet v.dram.rate, valid := [], filled := [], blocks := [], mapCheck := [] } }, ?_, ⟨rfl, rfl⟩, rfl, rfl⟩
    simp [State.initDram, hd]
  obtain ⟨h1, h2, h3⟩ := x.armWatchdog.enterCalibrate_spec
  refine ⟨x.armWatchdog.enterCalibrate, hrun x hinit, h1, h2, h3, ?_, ?_, ?_⟩
  · simp [hxd.1]
  · simp [hxd.2]
  · simp [State.armWatchdog, State.updDike, hnow, hxnow, hxdike, usSteps]

theorem bootComplete_stuck (hst : s.eng.state = .boot) (hr : s.eng.inReset = false) (hb : s.eng.bootStuck = false)
    (hrel : (s.atTime t).bootRom.eng.relMajor ≠ 0) (sub bank : Nat) :
    ∃ u, exec (.bootComplete t (some (sub, bank))) s = .next u ∧ u.eng.state = .boot ∧ u.eng.bootStuck = true ∧
      ∃ a, u.waits (s.atTime t).now .memInit a := by
  have hrun := execBootComplete_noMemory ⟨hst, hr, hb⟩ hrel sub bank
  dsimp only at hrun
  have hnow : ((s.atTime t).bootRom.loadConfig).now = (s.atTime t).now := by simp
  have hboot : ((s.atTime t).bootRom.loadConfig).eng.state = .boot := by simp [State.bootRom_engState, hst]
  generalize (s.atTime t).bootRom.loadConfig = v at hrun hnow hboot
  generalize hw : (if v.jr.hasDelay v.dram.rate = true then v else v.raise .memNotrain v.dram.rate) = w at hrun
  have hweng : w.eng = v.eng := by rw [← hw]; split <;> rfl
  have hwnow : w.now = v.now := by rw [← hw]; split <;> rfl
  refine ⟨_, hrun, (congrArg Eng.state hweng).trans hboot, rfl, sub * 2 ^ 44 + bank * 2 ^ 35, ?_⟩
  rw [← hnow, ← hwnow]
  exact State.waits_raise ..

theorem State.FailedFrom.of_attempt {o bank : Nat} {v u : State} (h : v.FailedFrom o bank u) (hv : (s.atTime t).Attempt o bank v) :
    (u.output o).banks = (v.output o).banks ∧
      ((s.output o).attempts.getD bank 0 ≠ 3 →
        (u.output o).attempts.getD bank 0 = (s.output o).attempts.getD bank 0 + 1 ∧ u.eng.state = s.eng.state) ∧
      ((s.output o).attempts.getD bank 0 = 3 → (u.output o).failures = (s.output o).failures + 1 ∧ u.cal.mode = .none ∧
        u.waits (s.atTime t).now .calFail ((o * 2 ^ 40 + bank * 2 ^ 32) % 2 ^ 48)) := by
  have hatt : (v.output o).attempts = (s.output o).attempts := by rw [hv.output]; rfl
  have hfail : (v.output o).failures = (s.output o).failures := by rw [hv.output]; rfl
  have heng : v.eng = s.eng := by rw [hv.eq]; rfl
  have hnow : v.now = (s.atTime t).now := by rw [hv.eq]
  obtain ⟨hb, hn, h3⟩ := h
  rw [hatt, heng] at hn
  rw [hatt, hfail, hnow] at h3
  refine ⟨hb, hn, fun h => ?_⟩
  obtain ⟨hf, hm, hw⟩ := h3 h
  exact ⟨hf, hm, State.waits_mod.2 hw⟩

theorem readyEntry_ready (hst : s.eng.state = .calibrate) (hp : s.cal.passed = true) (hs : (s.atTime t).ownSlack ≠ 0) :
    ∃ u, exec (.readyEntry t) s = .next u ∧ u.eng.state = .ready ∧
      u.cal = s.cal ∧ u.slack = s.slack ∧ u.br = s.br ∧ u.hem = s.hem ∧ u.feed = s.feed ∧ u.mb = s.mb := by
  refine ⟨_, execReadyEntry_ready t hst hp hs, ?_, by simp, by simp, by simp, by simp, by simp, by simp⟩
  simp [State.enterReady_engState]

theorem bankSwap_swaps (hr : s.cal.swapReady = true) (ha : s.cal.swapAfter ≤ (s.atTime t).now) :
    ∃ u, exec (.bankSwap t) s = .next u ∧ u = { s.atTime t with cal := u.cal, jr := u.jr, arb := u.arb } ∧
      u.cal.swapReady = false ∧ u.cal.outs.map (·.active) = s.cal.outs.map (1 - ·.active) ∧
      u.cal.outs.map (·.swaps) = s.cal.outs.map (·.swaps + 1) ∧ u.cal.outs.map (·.banks) = s.cal.outs.map (·.banks) := by
  obtain ⟨hready, houts⟩ := (s.atTime t).swapped.appendCal.startBackground_outs
  have hcal : (s.atTime t).swapped.appendCal.cal = (s.atTime t).swapped.cal := by simp
  refine ⟨_, execBankSwap_swaps t hr ha, ?_, ?_, ?_, ?_, ?_⟩
  · ext1 <;> simp [State.swapped, State.updCal]
  · rw [hready, hcal]; rfl
  all_goals
    obtain h | h := houts <;> rw [h] <;>
      simp [State.clearAttempts, State.swapped, State.updCal, Function.comp_def]

theorem calAttemptEnd_passes {o bank : Nat} {n1 n2 t1 t2 : List Nat} {e1 e2 : Nat} {tAvg : Int} {v : State}
    (hmeas : (s.atTime t).measuring o bank = true) (hveq : (s.atTime t).trimLaunch o bank = v) (hv : (s.atTime t).Attempt o bank v)
    (h1 : calRun v.cal.runLength v.cal.tol n1 = .ok (t1, e1)) (h2 : calRun v.cal.runLength v.cal.tol n2 = .ok (t2, e2))
    (hk : firstDiff t1 t2 = none) : ∃ u, exec (.calAttemptEnd t o bank n1 n2 tAvg) s = .next u ∧
      (∀ sum k, (s.output o).temps.getD bank (0, 0) = (sum, k) → (u.output o).bank bank = { (v.output o).bank bank with
        tCal := if k = 0 then tAvg else roundHalfUp sum k, errMax := e2, taps := t2, selected := (s.atTime t).seqFor 13 }) ∧
      s.arb.seq ≤ (s.atTime t).seqFor 13 ∧ (s.atTime t).seqFor 13 < u.arb.seq ∧
      u.hem = s.hem ∧ u.br = s.br ∧ u.cf = s.cf ∧ u.fc = (s.atTime t).fc := by
  have hseq : v.seqFor 13 = (s.atTime t).seqFor 13 := by rw [hv.eq]; rfl
  have harb : v.arb.seq = s.arb.seq := by rw [hv.eq]; rfl
  have htemps : (v.output o).temps = (s.output o).temps := by rw [hv.output]; rfl
  have hcomp := v.attemptPassed_completes o bank t2 e2 ((v.output o).average bank tAvg)
  obtain ⟨hle, hlt⟩ := v.attemptPassed_seq (o := o) (bank := bank) t2 e2 ((v.output o).average bank tAvg)
  refine ⟨v.attemptPassed o bank t2 e2 ((v.output o).average bank tAvg), ?_, fun sum k hsum => ?_, ?_, ?_, ?_, ?_, ?_, ?_⟩
  · rw [← State.judged_passes h1 h2 hk, ← hveq]
    exact execCalAttemptEnd_measures t hmeas n1 n2 tAvg
  · have havg : (v.output o).average bank tAvg = if k = 0 then tAvg else roundHalfUp sum k := by
      simp only [Output.average, htemps, hsum]
    rw [State.attemptPassed_bank hv.line.out hv.bank, havg, hseq]
  · rwa [harb, hseq] at hle
  · rwa [hseq] at hlt
  · rw [hcomp.hem, State.selects, State.updOutput, State.updCal, hv.eq]; simp
  · rw [hcomp.br, State.selects, State.updOutput, State.updCal, hv.eq]; simp
  · rw [hcomp.cf, State.selects, State.updOutput, State.updCal, hv.eq]; simp
  · rw [hcomp.fc, State.selects, State.updOutput, State.updCal, hv.eq]; simp

end

/-- Settles O34: an attempt is judged in the state after its trim, and what follows keeps its bank and its failures. -/
theorem bootAndCalibration : Obligations.BootAndCalibration := by
  intro t s
  dsimp only
  refine ⟨fun hst hr hb hrel hd => ⟨bootComplete_calibrates hst hr hb hrel hd, bootComplete_stuck hst hr hb hrel⟩,
    fun o bank n1 n2 tAvg => ⟨fun h => execCalAttemptEnd_idle t h n1 n2 tAvg, fun hmeas hlen hshape => ?_⟩,
    readyEntry_ready, fun _ h => execReadyEntry_waits t h, rfl, bankSwap_swaps, execBankSwap_waits t⟩
  have hv := State.trimLaunch_attempt (s := s.atTime t) hmeas hlen hshape
  have hout : o < (s.atTime t).cal.outs.length := hv.outs ▸ hv.line.out
  have hbank : bank < ((s.atTime t).output o).banks.length := hv.banks o ▸ hv.bank
  have hexec := execCalAttemptEnd_measures t hmeas n1 n2 tAvg
  generalize hveq : (s.atTime t).trimLaunch o bank = v at hv hexec ⊢
  have hnow : v.now = (s.atTime t).now := by rw [hv.eq]
  have htol : v.cal.tol = s.cal.tol := by rw [hv.eq]; rfl
  have hlength : v.cal.runLength = if s.cal.mode = .calibrate ∧ s.cal.cold = true then 2 ^ 18 else 2 ^ 16 := by rw [hv.eq]; rfl
  rw [← htol, ← hlength]
  refine ⟨fun hm h0 => ?_, fun hne => ?_, fun t1 e1 t2 e2 h1 h2 => ⟨fun hk => calAttemptEnd_passes hmeas hveq hv h1 h2 hk, fun k hk => ?_⟩,
    fun e he => ?_⟩
  · rw [← hveq, h0]
    exact State.trimLaunch_reference (s := s.atTime t) hm o
  · refine ⟨(Config.trimRest (s.atTime t).free).val - 16, by omega, by have := (Config.trimRest (s.atTime t).free).isLt; omega, ?_, ?_, ?_⟩
    · rw [← hveq, State.trimLaunch_bank (s := s.atTime t) hne hout hbank]
      rfl
    · rw [← hveq, State.trimLaunch_trims (s := s.atTime t) hne]
      rfl
    · intro k b hkb
      rw [← hveq]
      exact State.trimLaunch_other (s := s.atTime t) hne hout hkb
  · obtain ⟨hfailed, hw⟩ := State.attemptFailed_raised (bank := bank) hv.line .calDisagree (o * 2 ^ 40 + bank * 2 ^ 32 + k)
    rw [State.judged_disagree h1 h2 hk] at hexec
    exact ⟨_, hexec, hfailed.of_attempt hv, State.waits_mod.2 (hnow ▸ hw)⟩
  · obtain ⟨hfailed, hw⟩ := State.attemptFailed_raised (bank := bank) hv.line .calRange (o * 2 ^ 40 + bank * 2 ^ 32 + e % 65536)
    rw [State.judged_range he] at hexec
    exact ⟨_, hexec, hfailed.of_attempt hv, hnow ▸ hw⟩

end Sys2Proof.Machine
end

section
/-! PROOFS. 13 R420, R421 and 16 R492: AUDIT_READ, and a capture from its start to its end or cancel (O31). -/

namespace Sys2Proof.Machine
open Sys2Proof

section
variable {t : Nat} {cur : Current} {s : State}

/-! ## AUDIT_READ -/

/-- The records that an AUDIT_READ returns: from its cursor on, as many as were asked for and as the buffer takes. -/
def auditRecords (p : List Byte) (s : State) : List JRec :=
  (s.jr.audits.filter fun x => decide (fld p 0 8 ≤ x.jseq)).take (min (fld p 8 4) (fld p 24 8 / 48))

theorem execAuditRead_none (h : specAuditRead.Passes cur (s.atTime t)) (hl : auditRecords cur.req.params s = []) :
    exec (.auditRead t) s =
      .next (specAuditRead.done cur.req (leBytes 8 0 ++ leBytes 8 (fld cur.req.params 0 8)) (s.atTime t)) := by
  refine congrArg Host.Outcome.next ((CmdSpec.run_passes h _).trans ?_)
  have hnone : (auditRecords cur.req.params s).getLast? = none := by rw [hl]; rfl
  unfold auditRecords at hnone
  simp only [State.atTime_frame, hnone]

theorem execAuditRead_some (h : specAuditRead.Passes cur (s.atTime t)) {last : JRec}
    (hl : (auditRecords cur.req.params s).getLast? = some last) (hp : s.jr.powerFail = false) :
    exec (.auditRead t) s = .next (specAuditRead.done cur.req
      (leBytes 4 (auditRecords cur.req.params s).length ++ leBytes 4 0 ++ leBytes 8 (last.jseq + 1))
      { s.atTime t with
        out := (s.atTime t).out ++ writeRequests (fld cur.req.params 16 8) ((auditRecords cur.req.params s).flatMap (·.body))
        jr := { (s.atTime t).jr with
          queue := (s.atTime t).jr.queue ++ [{ type := 5, key := 0, body := leBytes 8 (max s.jr.mark last.jseq) }] }
        arb := ((s.atTime t).event (.append 5 0)).arb }) := by
  refine congrArg Host.Outcome.next ((CmdSpec.run_passes h _).trans ?_)
  have hp' : ∀ l : List Out, ((s.atTime t).sendAll l).jr.powerFail = false := fun _ => hp
  unfold auditRecords at hl ⊢
  simp only [State.atTime_frame, hl]
  rw [State.append, if_neg (by rw [hp']; exact Bool.false_ne_true)]
  rfl

/-! ## A capture starts, ends and is cancelled -/

theorem execCaptureEnd_runs {c : Capture} {r : Request} (hc : s.cp.capture = some c) (hr : s.background 0x0701 = some r)
    (hh : s.cp.halted = false) (content : List Byte) :
    exec (.captureEnd t content) s = .next ((s.atTime t).captureEnd r c content) := by
  have hc' : (s.atTime t).cp.capture = some c := hc
  have hr' : (s.atTime t).background 0x0701 = some r := hr
  have hh' : (s.atTime t).cp.halted = false := hh
  simp only [exec, execCaptureEnd, hc', hr', hh', Bool.false_eq_true, if_false]

theorem State.captureEnd_goesOn {r : Request} {c : Capture} (hk : c.kind ≤ 2) (he : c.ended = 0) (hn : c.entries < c.count)
    (ho : c.outgrown = none) (sweep : List Byte) : s.captureEnd r c sweep = s := by
  simp [State.captureEnd, Capture.running, hk, he, hn, ho]

theorem State.captureEnd_outgrown {r : Request} {c : Capture} (hk : c.kind ≤ 2) (he : c.ended = 0) (hn : c.entries < c.count) {off : Nat}
    (ho : c.outgrown = some off) (sweep : List Byte) :
    s.captureEnd r c sweep = (s.raise .defExhaust off).captureEnds r stCheckFail (some (.defExhaust, off)) 0 0 := by
  simp [State.captureEnd, Capture.running, hk, he, hn, ho]

/-- A capture of trace or frames that has ended, or has its entries, is written. -/
theorem State.captureEnd_ended {r : Request} {c : Capture} (hk : c.kind ≤ 2)
    (he : c.ended = 1 ∨ c.ended = 2 ∨ c.ended = 4 ∨ (c.ended = 0 ∧ c.count ≤ c.entries)) (h0 : c.kind ≠ 0) (sweep : List Byte) :
    s.captureEnd r c sweep = s.captureWrite r c c.raw := by
  have h3 : c.ended ≠ 3 := by omega
  have hrun : c.running = false := by
    simp only [Capture.running, Bool.and_eq_false_iff, decide_eq_false_iff_not, beq_eq_false_iff_ne]
    omega
  have hkind : c.kind = 1 ∨ c.kind = 2 := by omega
  unfold State.captureEnd
  rw [if_neg h3, hrun, if_neg Bool.false_ne_true, if_neg (by simp; omega)]
  obtain h | h := hkind <;> simp [State.captureContent, h]

theorem State.captureWrite_fits {r : Request} {c : Capture} {data : List Byte}
    (h : overflowAt c.effort c.bufSize (data.length / 262144 + 1) 0 0 data = none) :
    s.captureWrite r c data = (s.sendAll (writeRequests c.bufAddr (captureStream c.effort (data.length / 262144 + 1) 0 data))).captureEnds r stOk
      none (captureStream c.effort (data.length / 262144 + 1) 0 data).length c.firstFlash := by
  unfold State.captureWrite
  dsimp only
  rw [h]

theorem execCaptureCancel_cancels {r : Request} (h : specCaptureCancel.Passes cur (s.atTime t)) (hr : s.background 0x0701 = some r) :
    exec (.captureCancel t) s = .next (specCaptureCancel.done cur.req []
      ((s.atTime t).captureEnds r stCancelled none 0 0)) := by
  refine congrArg Host.Outcome.next ((CmdSpec.run_passes h _).trans ?_)
  have hr' : (s.atTime t).background 0x0701 = some r := hr
  simp only [hr']

end

/-- Settles O31: the rows of AUDIT_READ and CAPTURE whose checks pass, and the ends of a capture one by one. -/
theorem auditAndCapture : Obligations.AuditAndCapture := by
  intro t cur s
  dsimp only
  refine ⟨fun h => ⟨execAuditRead_none h, fun last hl hp => execAuditRead_some h hl hp⟩, fun h => ?_,
    fun c r content hc hr hh => ?_, fun c r h _ hr => execCaptureCancel_cancels h hr⟩
  · exact ⟨parseCapture cur.req.params, congrArg Host.Outcome.next (CmdSpec.run_passes h _), rfl, rfl, rfl, rfl, rfl, rfl, rfl, rfl, rfl⟩
  · rw [execCaptureEnd_runs hc hr hh]
    refine ⟨fun hk he hn ho => ?_, fun off hk he hn ho => ?_, fun hk he h0 hfit => ?_⟩
    · rw [State.captureEnd_goesOn hk he hn ho]
    · rw [State.captureEnd_outgrown hk he hn ho]
      rfl
    · rw [State.captureEnd_ended hk he h0, State.captureWrite_fits hfit]
      rfl

end Sys2Proof.Machine
end

section
/-! PROOFS. 14 R423, R431, R432: the block code of the DRAM, through the operators of its field (O59). -/

namespace Sys2Proof.Machine
open Sys2Proof

/-! ## The field: operators that add and commute with α (14 R431) -/

theorem gfX_xor (a b : Word) : gfX (a ^^^ b) = gfX a ^^^ gfX b := by
  have hmsb : (if (a ^^^ b).msb then 0x1B#64 else 0#64) =
      (if a.msb then 0x1B#64 else 0#64) ^^^ (if b.msb then 0x1B#64 else 0#64) := by
    rw [BitVec.msb_xor]
    cases a.msb <;> cases b.msb <;> rfl
  simp only [gfX, hmsb, BitVec.shiftLeft_xor_distrib]
  ac_rfl

theorem gfX_zero : gfX 0#64 = 0#64 := by decide

/-- An operator of the field: it adds, and multiplying by α commutes with it. -/
structure FieldOp (f : Word → Word) : Prop where
  xor : ∀ a b, f (a ^^^ b) = f a ^^^ f b
  comm : ∀ a, f (gfX a) = gfX (f a)

theorem FieldOp.zero {f : Word → Word} (h : FieldOp f) : f 0#64 = 0#64 := by
  have := h.xor 0#64 0#64
  rwa [BitVec.xor_self, BitVec.xor_self] at this

theorem FieldOp.id : FieldOp fun a => a := ⟨fun _ _ => rfl, fun _ => rfl⟩

theorem FieldOp.comp {f g : Word → Word} (hf : FieldOp f) (hg : FieldOp g) : FieldOp fun a => f (g a) :=
  ⟨fun a b => by rw [hg.xor, hf.xor], fun a => by rw [hg.comm, hf.comm]⟩

theorem FieldOp.add {f g : Word → Word} (hf : FieldOp f) (hg : FieldOp g) : FieldOp fun a => f a ^^^ g a :=
  ⟨fun a b => by rw [hf.xor, hg.xor]; ac_rfl, fun a => by rw [hf.comm, hg.comm, gfX_xor]⟩

theorem fieldOp_gfX : FieldOp gfX := ⟨gfX_xor, fun _ => rfl⟩

theorem fieldOp_gfAlpha (n : Nat) : FieldOp (gfAlpha n) := by
  induction n with
  | zero => exact FieldOp.id
  | succ n ih => exact fieldOp_gfX.comp ih

/-- Horner's sum over a list of exponents, by which gmul multiplies. -/
def hornerMul (b : Word) (l : List Nat) (a : Word) : Word := l.foldr (fun i acc => gfX acc ^^^ (if b.getLsbD i then a else 0#64)) 0#64

theorem fieldOp_hornerMul (b : Word) (l : List Nat) : FieldOp (hornerMul b l) := by
  induction l with
  | nil => exact ⟨fun _ _ => (BitVec.xor_self).symm, fun _ => gfX_zero.symm⟩
  | cons i l ih =>
    have hbit : FieldOp fun a => if b.getLsbD i then a else 0#64 := by
      cases b.getLsbD i
      · exact ⟨fun _ _ => (BitVec.xor_self).symm, fun _ => gfX_zero.symm⟩
      · exact FieldOp.id
    exact (fieldOp_gfX.comp ih).add hbit

theorem fieldOp_gmul (b : Word) : FieldOp fun a => gmul a b := fieldOp_hornerMul b _

/-- An operator of the field is the multiplication of its value at 1. -/
theorem FieldOp.hornerMul {f : Word → Word} (hf : FieldOp f) (b : Word) (l : List Nat) (a : Word) :
    f (hornerMul b l a) = hornerMul b l (f a) := by
  induction l with
  | nil => exact hf.zero
  | cons i l ih =>
    have hbit : f (if b.getLsbD i then a else 0#64) = if b.getLsbD i then f a else 0#64 := by
      cases b.getLsbD i
      · exact hf.zero
      · rfl
    show f (gfX _ ^^^ _) = gfX _ ^^^ _
    rw [hf.xor, hf.comm, hbit]
    exact congrArg (fun x => gfX x ^^^ _) ih

theorem gfX_shiftRight (b : Word) (i : Nat) : gfX (b >>> (i + 1)) ^^^ (if b.getLsbD i then 1#64 else 0#64) = b >>> i := by
  have hmsb : (b >>> (i + 1)).msb = false := by
    rw [BitVec.msb_eq_getLsbD_last, BitVec.getLsbD_ushiftRight]
    exact BitVec.getLsbD_of_ge _ _ (by omega)
  rw [gfX, hmsb, if_neg Bool.false_ne_true, BitVec.xor_zero]
  apply BitVec.eq_of_getLsbD_eq
  intro j hj
  cases j with
  | zero => cases h : b.getLsbD i <;> simp [h]
  | succ j =>
    have hone : ∀ c : Bool, (if c = true then 1#64 else 0#64)[j + 1] = false := fun c => by
      cases c <;> simp [BitVec.getElem_one]
    simp [hone, hj, show i + 1 + j = i + (j + 1) by omega]

/-- The last n terms of Horner's sum give the high n bits. -/
theorem hornerMul_one (b : Word) (n : Nat) (h : n ≤ 64) : hornerMul b (List.range' (64 - n) n) 1#64 = b >>> (64 - n) := by
  induction n with
  | zero => exact (BitVec.ushiftRight_eq_zero (le_refl 64)).symm
  | succ n ih =>
    have hn : 64 - n = 64 - (n + 1) + 1 := by omega
    rw [List.range'_succ, ← hn]
    show gfX (hornerMul b (List.range' (64 - n) n) 1#64) ^^^ _ = _
    rw [ih (by omega), hn]
    exact gfX_shiftRight b _

theorem gmul_one (b : Word) : gmul 1#64 b = b := by
  have h := hornerMul_one b 64 le_rfl
  rwa [Nat.sub_self, BitVec.ushiftRight_zero, ← List.range_eq_range'] at h

theorem FieldOp.ext {f g : Word → Word} (hf : FieldOp f) (hg : FieldOp g) (h : f 1#64 = g 1#64) (a : Word) : f a = g a := by
  have hmul : ∀ {k : Word → Word}, FieldOp k → k a = gmul (k 1#64) a := fun hk => by
    conv_lhs => rw [← gmul_one a]
    exact hk.hornerMul a _ _
  rw [hmul hf, hmul hg, h]

/-- The inverses of α^k + 1, k from 1 to 10. -/
def gfInverses : List Word := [0xfffffffffffffff6#64, 0x5555555555555552#64, 0x9249249249249245#64, 0xbbbbbbbbbbbbbbb4#64, 0x739ce739ce739ce3#64,
  0xcb2cb2cb2cb2cb27#64, 0x7af5ebd7af5ebd7e#64, 0xf4f4f4f4f4f4f4fd#64, 0x47a3d1e8f47a3d18#64, 0x9725c9725c9725c5#64]

theorem gfInverses_inverse : ∀ k < 10, gmul (gfAlpha (k + 1) 1#64 ^^^ 1#64) (gfInverses.getD k 0) = 1#64 := by decide +kernel

/-- α^k + 1 is not zero for the exponents that the code uses. -/
theorem gfAlpha_ne_self {k : Nat} (h1 : 1 ≤ k) (h10 : k ≤ 10) {y : Word} (hy : y ≠ 0#64) : gfAlpha k y ≠ y := by
  intro h
  obtain ⟨k, rfl⟩ : ∃ j, k = j + 1 := ⟨k - 1, by omega⟩
  have hop := (fieldOp_gmul (gfInverses.getD k 0)).comp ((fieldOp_gfAlpha (k + 1)).add FieldOp.id)
  have hself := hop.ext FieldOp.id (gfInverses_inverse k (by omega)) y
  rw [h, BitVec.xor_self, (fieldOp_gmul _).zero] at hself
  exact hy hself.symm

theorem gfAlpha_add (m n : Nat) (a : Word) : gfAlpha (m + n) a = gfAlpha m (gfAlpha n a) := by
  induction m with
  | zero => rw [Nat.zero_add]; rfl
  | succ m ih => rw [Nat.succ_add]; exact congrArg gfX ih

theorem gfX_eq_zero {a : Word} (h : gfX a = 0#64) : a = 0#64 := by
  have hmsb : a.msb = false := by
    cases hm : a.msb
    · rfl
    · have hbit := congrArg (fun w : Word => w.getLsbD 0) h
      simp [gfX, hm] at hbit
  rw [gfX, hmsb, if_neg Bool.false_ne_true, BitVec.xor_zero] at h
  apply BitVec.eq_of_getLsbD_eq
  intro j hj
  rw [BitVec.getLsbD_zero]
  by_cases hlast : j = 63
  · rw [hlast, ← hmsb, BitVec.msb_eq_getLsbD_last]
  · have hbit := congrArg (fun w : Word => w.getLsbD (j + 1)) h
    rw [BitVec.getLsbD_eq_getElem hj]
    simpa [BitVec.getLsbD_shiftLeft, show j + 1 < 64 by omega] using hbit

theorem gfAlpha_eq_zero {n : Nat} {a : Word} (h : gfAlpha n a = 0#64) : a = 0#64 := by
  induction n with
  | zero => exact h
  | succ n ih => exact ih (gfX_eq_zero h)

/-- The multiples of a symbol by the powers of α are different. -/
theorem gfAlpha_inj {i j : Nat} (hi : i ≤ 10) (hj : j ≤ 10) {y : Word} (hy : y ≠ 0#64) (h : gfAlpha i y = gfAlpha j y) : i = j := by
  have hlt : ∀ {i j : Nat}, i < j → j ≤ 10 → gfAlpha i y ≠ gfAlpha j y := fun {i j} hij hj h => by
    rw [← Nat.add_sub_cancel' hij.le, gfAlpha_add] at h
    have hz : gfAlpha i (gfAlpha (j - i) y ^^^ y) = 0#64 := by rw [(fieldOp_gfAlpha i).xor, ← h, BitVec.xor_self]
    exact gfAlpha_ne_self (by omega) (by omega) hy (BitVec.xor_eq_zero_iff.1 (gfAlpha_eq_zero hz))
  obtain h' | h' | h' := Nat.lt_trichotomy i j
  · exact absurd h (hlt h' hj)
  · exact h'
  · exact absurd h.symm (hlt h' hi)

theorem gfInv89_inverse (y : Word) : gfAlpha 8 (gmul y gfInv89) ^^^ gfAlpha 9 (gmul y gfInv89) = y :=
  (((fieldOp_gfAlpha 8).add (fieldOp_gfAlpha 9)).comp (fieldOp_gmul gfInv89)).ext FieldOp.id (by decide +kernel) y

/-! ## The two sums of a block, and one device in error -/

theorem foldl_xor (f : α → Word) (l : List α) (a : Word) :
    l.foldl (fun acc x => acc ^^^ f x) a = a ^^^ l.foldl (fun acc x => acc ^^^ f x) 0#64 := by
  induction l generalizing a with
  | nil => exact (BitVec.xor_zero).symm
  | cons x l ih => rw [List.foldl_cons, List.foldl_cons, ih, ih (0#64 ^^^ f x), BitVec.zero_xor, BitVec.xor_assoc]

theorem xorAll_cons (x : Word) (l : List Word) : xorAll (x :: l) = x ^^^ xorAll l := by
  have h := foldl_xor (fun y => y) l (0#64 ^^^ x)
  simpa [xorAll] using h

theorem xorAll_append (l : List Word) (x y : Word) : xorAll (l ++ [x, y]) = xorAll l ^^^ x ^^^ y := by
  simp [xorAll]

theorem syndrome1_append (l : List Word) (x y : Word) :
    syndrome1 (l ++ [x, y]) = syndrome1 l ^^^ gfAlpha l.length x ^^^ gfAlpha (l.length + 1) y := by
  simp [syndrome1, List.zipIdx_append]

theorem xorAll_listUpd {l : List Word} {d : Nat} (h : d < l.length) (e : Word) : xorAll (listUpd l d (· ^^^ e)) = xorAll l ^^^ e := by
  induction l generalizing d with
  | nil => cases h
  | cons x l ih =>
    cases d with
    | zero => rw [listUpd, xorAll_cons, xorAll_cons]; ac_rfl
    | succ d => rw [listUpd, xorAll_cons, xorAll_cons, ih (Nat.lt_of_succ_lt_succ h)]; ac_rfl

/-- The second sum from a place on. -/
def syndromeFrom (k : Nat) (l : List Word) : Word := (l.zipIdx k).foldl (fun acc p => acc ^^^ gfAlpha p.2 p.1) 0#64

theorem syndromeFrom_cons (k : Nat) (x : Word) (l : List Word) : syndromeFrom k (x :: l) = gfAlpha k x ^^^ syndromeFrom (k + 1) l := by
  rw [syndromeFrom, List.zipIdx_cons, List.foldl_cons, foldl_xor (fun p : Word × Nat => gfAlpha p.2 p.1), BitVec.zero_xor]
  rfl

theorem syndromeFrom_listUpd {l : List Word} {d : Nat} (h : d < l.length) (e : Word) (k : Nat) :
    syndromeFrom k (listUpd l d (· ^^^ e)) = syndromeFrom k l ^^^ gfAlpha (k + d) e := by
  induction l generalizing d k with
  | nil => cases h
  | cons x l ih =>
    cases d with
    | zero => rw [listUpd, syndromeFrom_cons, syndromeFrom_cons, (fieldOp_gfAlpha k).xor, Nat.add_zero]; ac_rfl
    | succ d =>
      rw [listUpd, syndromeFrom_cons, syndromeFrom_cons, ih (Nat.lt_of_succ_lt_succ h), Nat.succ_add_eq_add_succ]
      ac_rfl

/-- One device in error changes its symbol. -/
theorem xorSyms_device {l : List Word} {d : Nat} (h : d < l.length) (e : Word) :
    xorSyms l (List.replicate d 0 ++ [e]) = listUpd l d (· ^^^ e) := by
  apply List.ext_getElem?
  intro i
  rw [xorSyms, List.getElem?_map, List.getElem?_zipIdx, listUpd_get?, Option.map_map]
  cases hi : l[i]? with
  | none => split <;> rfl
  | some x =>
    simp only [Option.map_some, Function.comp_apply, Nat.zero_add, List.getD_eq_getElem?_getD]
    split
    next hdi =>
      subst hdi
      simp
    next hdi =>
      obtain hlt | hgt := Nat.lt_or_gt_of_ne hdi
      · rw [List.getElem?_eq_none (by simp; omega)]
        simp
      · rw [List.getElem?_append_left (by simpa using hgt), List.getElem?_replicate, if_pos hgt]
        simp

/-! ## Encoding and decoding -/

theorem dataSymbols_length (data : List Byte) : (dataSymbols data).length = 8 := by simp [dataSymbols]

theorem encodeBlock_length (a : Word) (data : List Byte) : (encodeBlock a data).length = 10 := by simp [encodeBlock, dataSymbols_length]

theorem xorAll_encodeBlock (a : Word) (data : List Byte) : xorAll (encodeBlock a data) = a := by
  rw [encodeBlock, xorAll_append]
  generalize gmul _ _ = s8
  have : ∀ x y z : Word, x ^^^ y ^^^ (x ^^^ z ^^^ y) = z := fun x y z => by
    rw [show x ^^^ y ^^^ (x ^^^ z ^^^ y) = (x ^^^ x) ^^^ (y ^^^ y) ^^^ z by ac_rfl]; simp
  exact this _ _ _

theorem syndrome1_encodeBlock (a : Word) (data : List Byte) : syndrome1 (encodeBlock a data) = gfAlpha 10 a := by
  rw [encodeBlock, syndrome1_append, dataSymbols_length]
  generalize hs8 : gmul _ gfInv89 = s8
  have hinv := gfInv89_inverse (syndrome1 (dataSymbols data) ^^^ gfAlpha 10 a ^^^ gfAlpha 9 (xorAll (dataSymbols data) ^^^ a))
  rw [hs8] at hinv
  rw [(fieldOp_gfAlpha (8 + 1)).xor]
  show syndrome1 (dataSymbols data) ^^^ gfAlpha 8 s8 ^^^ (gfAlpha 9 (xorAll (dataSymbols data) ^^^ a) ^^^ gfAlpha 9 s8) = _
  generalize syndrome1 (dataSymbols data) = t1 at hinv ⊢
  generalize gfAlpha 9 (xorAll (dataSymbols data) ^^^ a) = t0 at hinv ⊢
  rw [show t1 ^^^ gfAlpha 8 s8 ^^^ (t0 ^^^ gfAlpha 9 s8) = t1 ^^^ t0 ^^^ (gfAlpha 8 s8 ^^^ gfAlpha 9 s8) by ac_rfl, hinv,
    show t1 ^^^ t0 ^^^ (t1 ^^^ gfAlpha 10 a ^^^ t0) = (t1 ^^^ t1) ^^^ (t0 ^^^ t0) ^^^ gfAlpha 10 a by ac_rfl]
  simp

/-- The decoder looks only at the two sums. -/
theorem decodeBlock_clean {block : Nat} {r : List Word} (h0 : xorAll r = addrSymbol block)
    (h1 : syndrome1 r = gfAlpha 10 (addrSymbol block)) : decodeBlock block r = .clean := by
  simp [decodeBlock, h0, h1]

theorem decodeBlock_device {block d : Nat} {r : List Word} {y : Word} (hy : y ≠ 0#64) (hd : d < 10)
    (h0 : xorAll r ^^^ addrSymbol block = y) (h1 : syndrome1 r ^^^ gfAlpha 10 (addrSymbol block) = gfAlpha d y) :
    decodeBlock block r = .corrected d := by
  have hfind : (List.range 10).find? (fun i => decide (gfAlpha d y = gfAlpha i y)) = some d := by
    rw [List.find?_range_eq_some]
    refine ⟨by simp, by simpa using hd, fun j hj => ?_⟩
    have hne : gfAlpha d y ≠ gfAlpha j y := fun h => absurd (gfAlpha_inj (by omega) (by omega) hy h) (by omega)
    simp [hne]
  unfold decodeBlock
  dsimp only
  rw [h0, h1, if_neg hy, hfind]

theorem decodeBlock_address {block : Nat} {r : List Word} {y : Word} (hy : y ≠ 0#64)
    (h0 : xorAll r ^^^ addrSymbol block = y) (h1 : syndrome1 r ^^^ gfAlpha 10 (addrSymbol block) = gfAlpha 10 y) :
    decodeBlock block r = if y = poisonBit then .poison else .misdirect := by
  have hfind : (List.range 10).find? (fun i => decide (gfAlpha 10 y = gfAlpha i y)) = none := by
    rw [List.find?_eq_none]
    intro i hi h
    have hi := List.mem_range.1 hi
    exact absurd (gfAlpha_inj le_rfl (by omega) hy (of_decide_eq_true h)) (by omega)
  unfold decodeBlock
  dsimp only
  rw [h0, h1, if_neg hy, hfind, if_pos rfl]

theorem decodeBlock_encodeBlock_other {block : Nat} {a : Word} (h : a ^^^ addrSymbol block ≠ 0#64) (data : List Byte) :
    decodeBlock block (encodeBlock a data) = if a ^^^ addrSymbol block = poisonBit then .poison else .misdirect :=
  decodeBlock_address h (by rw [xorAll_encodeBlock]) (by rw [syndrome1_encodeBlock, (fieldOp_gfAlpha 10).xor])

/-! ## The symbols hold the data, a digit of four bits for each beat (14 R423) -/

/-- The symbol whose digits of four bits, from the lowest, are given. -/
def nibbleWord (f : Nat → Nat) (n : Nat) : Word := (List.range n).foldl (fun acc b => acc ||| BitVec.ofNat 64 (f b * 2 ^ (4 * b))) 0#64

theorem nibbleWord_succ (f : Nat → Nat) (n : Nat) : nibbleWord f (n + 1) = nibbleWord f n ||| BitVec.ofNat 64 (f n * 2 ^ (4 * n)) := by
  rw [nibbleWord, List.range_succ, List.foldl_append]
  rfl

theorem nibbleWord_digits {f : Nat → Nat} (hf : ∀ b, f b < 16) {n : Nat} (hn : n ≤ 16) :
    (nibbleWord f n).toNat < 2 ^ (4 * n) ∧ ∀ q < n, (nibbleWord f n).toNat / 2 ^ (4 * q) % 16 = f q := by
  induction n with
  | zero => exact ⟨Nat.one_pos, fun q hq => absurd hq (Nat.not_lt_zero q)⟩
  | succ n ih =>
    obtain ⟨hlt, hdig⟩ := ih (by omega)
    have hpow : 2 ^ (4 * (n + 1)) = 16 * 2 ^ (4 * n) := by rw [Nat.mul_succ, pow_add]; ring
    have hfn := hf n
    have htop : f n * 2 ^ (4 * n) + 2 ^ (4 * n) ≤ 16 * 2 ^ (4 * n) := by
      rw [← Nat.succ_mul]; exact Nat.mul_le_mul_right _ hfn
    have h64 : 16 * 2 ^ (4 * n) ≤ 2 ^ 64 := by rw [← hpow]; exact Nat.pow_le_pow_right (by norm_num) (by omega)
    have hval : (nibbleWord f (n + 1)).toNat = f n * 2 ^ (4 * n) + (nibbleWord f n).toNat := by
      have hpos : 0 < 2 ^ (4 * n) := by positivity
      rw [nibbleWord_succ, BitVec.toNat_or, BitVec.toNat_ofNat, Nat.mod_eq_of_lt (by omega), Nat.or_comm, ← Nat.shiftLeft_eq,
        Nat.shiftLeft_add_eq_or_of_lt hlt]
    rw [hval, hpow]
    refine ⟨by omega, fun q hq => ?_⟩
    obtain rfl | hqn := Nat.eq_or_lt_of_le (Nat.le_of_lt_succ hq)
    · rw [Nat.mul_comm, Nat.mul_add_div (by positivity), Nat.div_eq_of_lt hlt, Nat.add_zero, Nat.mod_eq_of_lt hfn]
    · have hsplit : f n * 2 ^ (4 * n) = 2 ^ (4 * q) * (16 * (f n * 2 ^ (4 * (n - q - 1)))) := by
        rw [show 4 * n = 4 * q + 4 + 4 * (n - q - 1) by omega, pow_add, pow_add]
        ring
      rw [hsplit, Nat.mul_add_div (by positivity), Nat.mul_add_mod, hdig q hqn]

/-- The digit that device d takes of beat b. -/
def dataNibble (data : List Byte) (d b : Nat) : Nat :=
  if d % 2 = 0 then (data.getD (4 * b + d / 2) 0).toNat % 16 else (data.getD (4 * b + d / 2) 0).toNat / 16

theorem dataNibble_lt (data : List Byte) (d b : Nat) : dataNibble data d b < 16 := by
  have := (data.getD (4 * b + d / 2) 0).isLt
  unfold dataNibble
  split <;> omega

theorem dataSymbols_getD (data : List Byte) {d : Nat} (h : d < 8) : (dataSymbols data).getD d 0#64 = nibbleWord (dataNibble data d) 16 := by
  rw [List.getD_eq_getElem?_getD, dataSymbols, List.getElem?_map, List.getElem?_range h]
  rfl

theorem encodeBlock_getD (a : Word) (data : List Byte) {d : Nat} (h : d < 8) :
    (encodeBlock a data).getD d 0#64 = nibbleWord (dataNibble data d) 16 := by
  rw [← dataSymbols_getD data h, encodeBlock, List.getD_eq_getElem?_getD, List.getElem?_append_left (by rwa [dataSymbols_length]),
    List.getD_eq_getElem?_getD]

theorem symbolBytes_encodeBlock (a : Word) {data : List Byte} (h : data.length = 64) : symbolBytes (encodeBlock a data) = data := by
  apply List.ext_getElem?
  intro j
  rw [symbolBytes, List.getElem?_map]
  obtain hj | hj := Nat.lt_or_ge j 64
  · have hnib : ∀ d < 8, ((encodeBlock a data).getD d 0#64).toNat / 2 ^ (4 * (j / 4)) % 16 = dataNibble data d (j / 4) := fun d hd => by
      rw [encodeBlock_getD a data hd]
      exact (nibbleWord_digits (dataNibble_lt data d) le_rfl).2 _ (by omega)
    have hlow : dataNibble data (2 * (j % 4)) (j / 4) = (data.getD j 0).toNat % 16 := by
      rw [dataNibble, if_pos (by omega), show 4 * (j / 4) + 2 * (j % 4) / 2 = j by omega]
    have hhigh : dataNibble data (2 * (j % 4) + 1) (j / 4) = (data.getD j 0).toNat / 16 := by
      rw [dataNibble, if_neg (by omega), show 4 * (j / 4) + (2 * (j % 4) + 1) / 2 = j by omega]
    rw [List.getElem?_range hj, Option.map_some]
    dsimp only
    rw [hnib _ (by omega), hnib _ (by omega), hlow, hhigh, Nat.mod_add_div,
      List.getD_eq_getElem _ _ (by omega), List.getElem?_eq_getElem (by omega)]
    simp [byteOf]
  · rw [List.getElem?_eq_none (by simpa using hj), List.getElem?_eq_none (by omega)]
    rfl

theorem listUpd_self {β : Type} (l : List β) (i : Nat) : listUpd l i (fun x => x) = l := by
  apply List.ext_getElem?
  intro j
  rw [listUpd_get?]
  split
  · exact Option.map_id'
  · rfl

/-- Settles O59: the two sums of a block are its address symbol and α^10 times it, and the multiples of an error by the powers of
α up to the tenth are different. -/
theorem blockCode : Obligations.BlockCode := by
  intro block data hblock hlen
  dsimp only
  have h0 := xorAll_encodeBlock (addrSymbol block) data
  have h1 := syndrome1_encodeBlock (addrSymbol block) data
  have hl := encodeBlock_length (addrSymbol block) data
  refine ⟨hl, decodeBlock_clean h0 h1, symbolBytes_encodeBlock _ hlen, fun d hd e he => ?_, fun other hother hne => ?_, ?_⟩
  · rw [xorSyms_device (hl ▸ hd)]
    have hx : xorAll (listUpd (encodeBlock (addrSymbol block) data) d (· ^^^ e)) ^^^ addrSymbol block = e := by
      rw [xorAll_listUpd (hl ▸ hd), h0, BitVec.xor_comm (addrSymbol block), BitVec.xor_assoc, BitVec.xor_self, BitVec.xor_zero]
    refine ⟨decodeBlock_device he hd hx ?_, ?_⟩
    · have hs : syndrome1 (listUpd (encodeBlock (addrSymbol block) data) d (· ^^^ e)) = _ := syndromeFrom_listUpd (hl ▸ hd) e 0
      rw [hs, show syndromeFrom 0 (encodeBlock (addrSymbol block) data) = gfAlpha 10 (addrSymbol block) from h1, Nat.zero_add,
        BitVec.xor_comm (gfAlpha 10 _), BitVec.xor_assoc, BitVec.xor_self, BitVec.xor_zero]
    · rw [correctBlock, hx, listUpd_listUpd]
      simp only [BitVec.xor_assoc, BitVec.xor_self, BitVec.xor_zero]
      exact listUpd_self ..
  · have hsym : addrSymbol block ^^^ addrSymbol other ≠ 0#64 := fun h => by
      have h := congrArg BitVec.toNat (BitVec.xor_eq_zero_iff.1 h)
      simp only [addrSymbol, BitVec.toNat_ofNat] at h
      omega
    rw [decodeBlock_encodeBlock_other hsym, if_neg]
    intro h
    have hlt : (addrSymbol block ^^^ addrSymbol other).toNat < 2 ^ 31 := by
      rw [BitVec.toNat_xor]
      refine Nat.xor_lt_two_pow ?_ ?_ <;> simp only [addrSymbol, BitVec.toNat_ofNat] <;> omega
    rw [h] at hlt
    exact absurd hlt (by decide)
  · have hp : addrSymbol block ^^^ poisonBit ^^^ addrSymbol block = poisonBit := by
      rw [BitVec.xor_comm (addrSymbol block), BitVec.xor_assoc, BitVec.xor_self, BitVec.xor_zero]
    rw [decodeBlock_encodeBlock_other (by rw [hp]; decide), if_pos hp]

end Sys2Proof.Machine
end

section
/-! PROOFS. 14 R425 to R442, 16 R486 to R491: reads, writes and queues of the DRAM, and the journal store (O60). -/

namespace Sys2Proof.Machine
open Sys2Proof

/-! ## One sub-channel: refreshes, temperatures, promotion, the end of a piece (14 R425 to R430) -/

/-- Sub-channel k replaced. -/
def State.putSub (k : Nat) (c : SubCh) (s : State) : State := { s with dram := { s.dram with sub := s.dram.sub.set k c } }

theorem State.updSub_eq (k : Nat) (f : SubCh → SubCh) (s : State) : s.updSub k f = s.putSub k (f (s.dram.sub.getD k {})) := by
  rw [State.updSub, State.putSub, listUpd_eq_set _ _ _ {}]

theorem State.putSub_same {k : Nat} {s : State} (h : k < s.dram.sub.length) : s.putSub k (s.dram.sub.getD k {}) = s := by
  rw [State.putSub, List.getD_eq_getElem _ _ h, List.set_getElem_self]

theorem SubCh.rtQueued_iff (c : SubCh) : c.rtQueued = true ↔ ∃ r ∈ c.queue, r.cls = 0 := by
  simp [SubCh.rtQueued]

theorem SubCh.rtQueued_eq_false (c : SubCh) : c.rtQueued = false ↔ ∀ r ∈ c.queue, r.cls ≠ 0 := by
  simp [SubCh.rtQueued]

section
variable {t k : Nat} {s : State}

theorem execRefreshDue_free (h : (s.dram.sub.getD k {}).rtQueued = false) :
    execRefreshDue t k s = .next ((s.atTime t).putSub k (s.dram.sub.getD k {}).refresh) := by
  have h' : ((s.atTime t).dram.sub.getD k {}).rtQueued = false := h
  rw [execRefreshDue, State.refreshDue, h', if_neg Bool.false_ne_true, State.updSub_eq]
  rfl

theorem execRefreshDue_owes (h : (s.dram.sub.getD k {}).rtQueued = true) (ho : (s.dram.sub.getD k {}).owed < 4) :
    execRefreshDue t k s = .next ((s.atTime t).putSub k
      { s.dram.sub.getD k {} with owed := (s.dram.sub.getD k {}).owed + 1 }) := by
  have h' : ((s.atTime t).dram.sub.getD k {}).rtQueued = true := h
  have ho' : ((s.atTime t).dram.sub.getD k {}).owed < 4 := ho
  rw [execRefreshDue, State.refreshDue, h', if_pos rfl, if_pos ho', State.updSub_eq]
  rfl

theorem execRefreshDue_forced (h : (s.dram.sub.getD k {}).rtQueued = true) (ho : 4 ≤ (s.dram.sub.getD k {}).owed) :
    execRefreshDue t k s = .next (((s.atTime t).putSub k (s.dram.sub.getD k {}).refresh).noteForced k) := by
  have h' : ((s.atTime t).dram.sub.getD k {}).rtQueued = true := h
  have ho' : ¬((s.atTime t).dram.sub.getD k {}).owed < 4 := Nat.not_lt.2 ho
  rw [execRefreshDue, State.refreshDue, h', if_pos rfl, if_neg ho', State.updSub_eq]
  rfl

theorem State.noteForced_eq (sub : Nat) (s : State) : s.noteForced sub = if s.hem.stripe = none then s else
    { s with
      dram := { s.dram with forcedRaised := true }
      arb := { s.arb with faultQ := s.arb.faultQ ++ (if s.dram.forcedRaised then [] else
        [{ at' := s.now, name := .refreshForced, addr := sub * 2 ^ 44 % 2 ^ 48 }]) } } := by
  have hopen : s.stripeOpen = !decide (s.hem.stripe = none) := by
    unfold State.stripeOpen
    cases s.hem.stripe <;> rfl
  unfold State.noteForced
  rw [hopen, Bool.not_not]
  by_cases hst : s.hem.stripe = none
  · rw [if_pos (decide_eq_true hst), if_pos hst]
  · rw [if_neg (by simpa using hst), if_neg hst]
    cases hf : s.dram.forcedRaised
    · rfl
    · simp

theorem execOwedRefresh_eq (hk : k < s.dram.sub.length) : execOwedRefresh t k s =
    .next (if (s.dram.sub.getD k {}).rtQueued = true ∨ (s.dram.sub.getD k {}).owed = 0 then s.atTime t
      else (s.atTime t).putSub k { (s.dram.sub.getD k {}).refresh with owed := (s.dram.sub.getD k {}).owed - 1 }) := by
  have hc : (s.atTime t).dram.sub.getD k {} = s.dram.sub.getD k {} := rfl
  refine congrArg Host.Outcome.next ?_
  rw [State.updSub_eq, hc]
  split
  next h =>
    rw [if_pos (by simpa using h)]
    exact State.putSub_same (s := s.atTime t) hk
  next h => rw [if_neg (by simpa using h)]

/-- The devices above 95 °C are reported, each with its place. -/
theorem foldl_memHot (sub : Nat) (l : List (Int × Nat)) (s : State) :
    l.foldl (fun s p => if 95 < p.1 then s.raise .memHot (sub * 2 ^ 44 + p.2 * 2 ^ 40) else s) s =
      { s with arb := { s.arb with faultQ := s.arb.faultQ ++ (l.filter fun p => decide (95 < p.1)).map fun p =>
        ({ at' := s.now, name := .memHot, addr := (sub * 2 ^ 44 + p.2 * 2 ^ 40) % 2 ^ 48 } : Raised) } } := by
  induction l generalizing s with
  | nil => simp
  | cons p l ih =>
    rw [List.foldl_cons, ih]
    by_cases h : 95 < p.1
    · rw [if_pos h, List.filter_cons_of_pos (by simpa using h)]
      simp [State.raise]
    · rw [if_neg h, List.filter_cons_of_neg (by simpa using h)]

theorem execMemTempRead_eq (temps : List Int) : execMemTempRead t k temps s =
    .next { (s.atTime t).putSub k { s.dram.sub.getD k {} with hot := temps.any fun x => decide (85 < x) } with
      arb := { (s.atTime t).arb with faultQ := (s.atTime t).arb.faultQ ++ ((temps.zipIdx).filter fun p => decide (95 < p.1)).map fun p =>
        ({ at' := (s.atTime t).now, name := .memHot, addr := (k * 2 ^ 44 + p.2 * 2 ^ 40) % 2 ^ 48 } : Raised) } } := by
  rw [execMemTempRead, foldl_memHot, State.updSub_eq]
  rfl

theorem findIdx_append_cons {α : Type} {p : α → Bool} {l m : List α} {a : α} (hl : ∀ x ∈ l, p x = false) (ha : p a = true) :
    (l ++ a :: m).findIdx p = l.length := by
  induction l with
  | nil => simp [List.findIdx_cons, ha]
  | cons x l ih =>
    rw [List.cons_append, List.findIdx_cons, hl x List.mem_cons_self, ih fun y hy => hl y (List.mem_cons_of_mem _ hy)]
    rfl

theorem listUpd_append_cons {α : Type} (l m : List α) (a : α) (f : α → α) : listUpd (l ++ a :: m) l.length f = l ++ f a :: m := by
  induction l with
  | nil => rfl
  | cons x l ih => rw [List.cons_append, List.length_cons, listUpd, ih, List.cons_append]

theorem execRequestPromotion_first {before after : List Req} {r : Req} (hq : (s.dram.sub.getD k {}).queue = before ++ r :: after)
    (hb : ∀ x ∈ before, x.promoted = true ∨ (s.atTime t).now < x.arrived + 2 * 12800) (hp : r.promoted = false)
    (hr : r.arrived + 2 * 12800 ≤ (s.atTime t).now) : execRequestPromotion t k s =
      .next ((s.atTime t).putSub k { s.dram.sub.getD k {} with queue := before ++ { r with promoted := true } :: after }) := by
  have hc : (s.atTime t).dram.sub.getD k {} = s.dram.sub.getD k {} := rfl
  have hidx : (before ++ r :: after).findIdx (fun r => !r.promoted && decide (r.arrived + 2 * usSteps ≤ (s.atTime t).now)) = before.length :=
    findIdx_append_cons (fun x hx => (hb x hx).elim (fun h => by rw [h]; rfl)
      fun h => (congrArg _ (decide_eq_false (Nat.not_le.2 h))).trans (Bool.and_false _)) (by rw [hp]; exact decide_eq_true hr)
  refine congrArg Host.Outcome.next ?_
  rw [State.updSub_eq, hc]
  dsimp only
  rw [hq, hidx, listUpd_append_cons]

theorem SubCh.start_idle {c : SubCh} (h : c.queue = []) (rowFirst : Bool) (now : Nat) : c.start rowFirst now = c := by
  unfold SubCh.start SubCh.pick
  rw [h]
  split <;> rfl

theorem SubCh.complete_eq {c : SubCh} {bank : Nat} (row : Nat) : c.complete bank row =
    let b := c.banks.getD bank {}
    let pred := if b.lastRow = none then b.pred else if b.lastRow = some row then min 3 (b.pred + 1) else b.pred - 1
    { c with
      active := none
      banks := c.banks.set bank { pred := pred, lastRow := some row, open' := c.queue.any (fun x => bankOf x.block == bank) || decide (2 ≤ pred) } } := by
  unfold SubCh.complete
  rw [listUpd_eq_set _ _ _ {}]
  dsimp only
  generalize c.banks.getD bank {} = b
  obtain ⟨pred, last, opened⟩ := b
  cases last with
  | none => rfl
  | some r => by_cases h : r = row <;> simp [h]

theorem execPieceComplete_other (hk : k < s.dram.sub.length) {bank row : Nat}
    (h : ∀ r, (s.dram.sub.getD k {}).active = some r → ¬(bankOf r.block = bank ∧ rowOf r.block = row)) :
    execPieceComplete t k bank row s = .next (s.atTime t) := by
  have hc : (s.atTime t).dram.sub.getD k {} = s.dram.sub.getD k {} := rfl
  refine congrArg Host.Outcome.next ?_
  rw [State.updSub_eq, hc, if_neg]
  · exact State.putSub_same (s := s.atTime t) hk
  · cases ha : (s.dram.sub.getD k {}).active with
    | none => simp
    | some r => simpa using h r ha

theorem execPieceComplete_ends {bank row : Nat} {r : Req} (ha : (s.dram.sub.getD k {}).active = some r) (hb : bankOf r.block = bank)
    (hr : rowOf r.block = row) : execPieceComplete t k bank row s = .next ((s.atTime t).putSub k
      (((s.dram.sub.getD k {}).complete bank row).start (Config.rowFirst k (s.atTime t).now) (s.atTime t).now)) := by
  have hc : (s.atTime t).dram.sub.getD k {} = s.dram.sub.getD k {} := rfl
  refine congrArg Host.Outcome.next ?_
  rw [State.updSub_eq, hc, if_pos]
  rw [ha, ← hb, ← hr]
  simp

end

/-! ## What a block reads as (14 R440, R441) -/

theorem sparseGet_sparseSet_other {β : Type} {d v : β} {k k' : Nat} {drop : Bool} (h : k' ≠ k) (l : List (Nat × β)) :
    sparseGet d (sparseSet l k v drop) k' = sparseGet d l k' := by
  induction l with
  | nil => cases drop <;> simp [sparseSet, sparseGet, h.symm]
  | cons q l ih =>
    obtain ⟨a, w⟩ := q
    unfold sparseSet
    split
    · cases drop <;> simp [sparseGet, h.symm]
    · split
      next hka =>
        subst hka
        cases drop <;> simp [sparseGet, h.symm]
      next => simp only [sparseGet, ih]

theorem sparseGet_filter {β : Type} {d : β} {p : Nat × β → Bool} {k : Nat} (h : ∀ v, p (k, v) = true) (l : List (Nat × β)) :
    sparseGet d (l.filter p) k = sparseGet d l k := by
  induction l with
  | nil => rfl
  | cons q l ih =>
    obtain ⟨a, w⟩ := q
    rw [List.filter_cons]
    split
    · simp only [sparseGet, ih]
    next hp =>
      have hak : a ≠ k := fun hak => hp (hak ▸ h w)
      rw [ih, sparseGet, if_neg hak]

theorem Dram.put_symbols_other (d : Dram) {block b : Nat} (h : b ≠ block) (syms : List Word) : (d.put block syms).symbols b = d.symbols b :=
  sparseGet_sparseSet_other h d.blocks

theorem Dram.put_symbols_self {d : Dram} (h : d.wf = true) (block : Nat) (syms : List Word) : (d.put block syms).symbols block = syms := by
  obtain ⟨hrising, -⟩ := (Dram.wf_iff d).1 h
  have hget := sparseGet_sparseSet (d := d.blank block) (v := syms) hrising (k := block) (drop := decide (syms = d.blank block))
    (fun h => of_decide_eq_true h) block
  rwa [if_pos rfl] at hget

theorem contains_insertNat (l : List Nat) (k x : Nat) : (insertNat l k).contains x = (x == k || l.contains x) := by
  rw [Bool.eq_iff_iff]
  simp [mem_insertNat]

theorem Dram.fill_symbols_other (d : Dram) {page b : Nat} (h : b / 64 ≠ page) : (d.fill page).symbols b = d.symbols b := by
  have hblank : (d.fill page).blank b = d.blank b := by
    simp only [Dram.blank, Dram.fill, contains_insertNat, beq_eq_false_iff_ne.2 h, Bool.false_or]
  rw [Dram.symbols, hblank]
  exact sparseGet_filter (fun v => by simpa using h) d.blocks

/-- A written page's block goes on to be one, with its symbols and its place in the merge buffer. -/
structure Dram.Keeps (b : Nat) (d d' : Dram) : Prop where
  written : d'.written (b / 64) = true
  symbols : d'.symbols b = d.symbols b
  entry : d'.entry b = d.entry b

theorem Dram.Keeps.trans {b : Nat} {d d' d'' : Dram} (h : d.Keeps b d') (h' : d'.Keeps b d'') : d.Keeps b d'' :=
  ⟨h'.written, h'.symbols.trans h.symbols, h'.entry.trans h.entry⟩

/-- The contents do not depend on the queues. -/
theorem Dram.Keeps.of_sub {b : Nat} {d : Dram} (h : d.written (b / 64) = true) (sub : List SubCh) : d.Keeps b { d with sub := sub } :=
  ⟨h, rfl, rfl⟩

theorem State.enqueue_dram (block blocks cls : Nat) (write : Bool) (s : State) :
    (s.enqueue block blocks cls write).dram = { s.dram with sub := (s.enqueue block blocks cls write).dram.sub } := rfl

theorem State.enqueueAll_dram (cls : Nat) (write : Bool) (fuel block blocks : Nat) (s : State) :
    (s.enqueueAll cls write fuel block blocks).dram = { s.dram with sub := (s.enqueueAll cls write fuel block blocks).dram.sub } := by
  induction fuel generalizing block blocks s with
  | zero => rfl
  | succ fuel ih =>
    unfold State.enqueueAll
    split
    · rfl
    · exact ih ..

theorem State.countCe_dram (sub device : Nat) (s : State) :
    (s.countCe sub device).dram = { s.dram with sub := (s.countCe sub device).dram.sub } := by
  unfold State.countCe
  dsimp only
  split <;> rfl

/-! ## A block is stored (14 R434, R440; 15 R460) -/

/-- The first write to a page fills it. -/
def State.paged (page : Nat) (s : State) : State :=
  if s.dram.written page then s else
    { (s.inject 6 0).2 with dram := { (s.inject 6 0).2.dram.fill page with
      mapCheck := sparseSet ((s.inject 6 0).2.dram.fill page).mapCheck (page / 64) ((s.inject 6 0).1 % 256) ((s.inject 6 0).1 % 256 == 0) } }

/-- The symbols as they go to the devices. -/
def State.sentSyms (block : Nat) (syms err : List Word) (s : State) : List Word :=
  xorSyms (xorSyms syms err) (List.replicate 8 0#64 ++
    [BitVec.ofNat 64 (s.inject 5 (subOf block)).1, BitVec.ofNat 64 ((s.inject 5 (subOf block)).1 / 2 ^ 64)])

theorem State.storeBlock_eq (block : Nat) (syms err : List Word) (s : State) : s.storeBlock block syms err =
    { ((s.paged (block / 64)).inject 5 (subOf block)).2 with
      dram := (s.paged (block / 64)).dram.put block ((s.paged (block / 64)).sentSyms block syms err) } := rfl

theorem State.storeBlock_dram (block : Nat) (syms err : List Word) (s : State) : (s.storeBlock block syms err).dram =
    (s.paged (block / 64)).dram.put block ((s.paged (block / 64)).sentSyms block syms err) := by
  rw [State.storeBlock_eq]

theorem State.paged_written (page : Nat) (s : State) : (s.paged page).dram.written page = true := by
  unfold State.paged
  split
  · assumption
  · show (insertNat _ page).contains page = true
    rw [contains_insertNat, beq_self_eq_true, Bool.true_or]

theorem State.paged_kept {page b : Nat} {s : State} (h : s.dram.written (b / 64) = true) : s.dram.Keeps b (s.paged page).dram := by
  unfold State.paged
  split
  · exact ⟨h, rfl, rfl⟩
  next hpage =>
    have hne : b / 64 ≠ page := fun he => hpage (he ▸ h)
    refine ⟨?_, s.dram.fill_symbols_other hne, rfl⟩
    show (insertNat s.dram.valid page).contains (b / 64) = true
    rw [contains_insertNat, show s.dram.valid.contains (b / 64) = true from h, Bool.or_true]

theorem State.storeBlock_keeps {block b : Nat} {s : State} (h : s.dram.written (b / 64) = true) (hne : b ≠ block) (syms err : List Word) :
    s.dram.Keeps b (s.storeBlock block syms err).dram := by
  rw [State.storeBlock_dram]
  have hp := State.paged_kept (page := block / 64) h
  exact hp.trans ⟨hp.written, Dram.put_symbols_other _ hne _, rfl⟩

theorem State.paged_merge (page : Nat) (s : State) : (s.paged page).dram.merge = s.dram.merge := by
  unfold State.paged
  split <;> rfl

theorem State.storeBlock_entry (block b : Nat) (syms err : List Word) (s : State) : (s.storeBlock block syms err).dram.entry b = s.dram.entry b := by
  rw [State.storeBlock_dram]
  exact congrArg (List.find? _) (State.paged_merge ..)

theorem State.storeBlock_written (block : Nat) (syms err : List Word) (s : State) : (s.storeBlock block syms err).dram.written (block / 64) = true := by
  rw [State.storeBlock_dram]
  exact State.paged_written ..

theorem xorSyms_zero {e : List Word} (h : ∀ x ∈ e, x = 0#64) (r : List Word) : xorSyms r e = r := by
  have hzero : ∀ i, e.getD i 0#64 = 0#64 := fun i => by
    rw [List.getD_eq_getElem?_getD]
    cases hi : e[i]? with
    | none => rfl
    | some x => exact h x (List.mem_of_getElem? hi)
  simp only [xorSyms, hzero, BitVec.xor_zero]
  exact List.zipIdx_map_fst 0 r

/-- No checker has an error left to inject. -/
def State.NoInjection (s : State) : Prop := ∀ j ∈ s.fc.inject, j.count = 0

theorem State.NoInjection.idle {s : State} (h : s.NoInjection) (checker unit : Nat) : s.inject checker unit = (0, s) := by
  refine State.inject_idle ?_ unit
  rw [List.getD_eq_getElem?_getD]
  cases hj : s.fc.inject[checker - 1]? with
  | none => rfl
  | some j => exact h j (List.mem_of_getElem? hj)

theorem State.paged_idle {s : State} (h : s.NoInjection) (page : Nat) : s.paged page = { s with dram := (s.paged page).dram } := by
  unfold State.paged
  rw [h.idle]
  split <;> rfl

theorem State.paged_wf {s : State} (h : s.dram.wf = true) (page : Nat) : (s.paged page).dram.wf = true := by
  unfold State.paged
  split
  · exact h
  · exact Dram.setCheck_wf (Dram.fill_wf (by simpa using h) _) _ _ _ fun e => by simpa using e

/-- With nothing injected a block is stored as it was encoded, and only DRAM has changed. -/
theorem State.storeBlock_idle {s : State} (h : s.NoInjection) (hwf : s.dram.wf = true) (block : Nat) (syms : List Word) :
    let u := s.storeBlock block syms []
    u = { s with dram := u.dram } ∧ u.dram.symbols block = syms := by
  have hp := State.paged_idle h (block / 64)
  have hn : (s.paged (block / 64)).NoInjection := by rw [hp]; exact h
  have hsent : (s.paged (block / 64)).sentSyms block syms [] = syms := by
    rw [State.sentSyms, hn.idle, xorSyms_zero (e := []) (by simp), xorSyms_zero]
    simp
  dsimp only
  refine ⟨?_, ?_⟩
  · have hd : ∀ d, { s.paged (block / 64) with dram := d } = { s with dram := d } := fun d => by rw [hp]
    rw [State.storeBlock_eq, hn.idle]
    exact hd _
  · rw [State.storeBlock_dram, hsent]
    exact Dram.put_symbols_self (State.paged_wf hwf _) ..

theorem State.storeBlock_symbols_other {block b : Nat} {s : State} (h : s.dram.written (block / 64) = true) (hne : b ≠ block) (syms err : List Word) :
    (s.storeBlock block syms err).dram.symbols b = s.dram.symbols b := by
  have hp : s.paged (block / 64) = s := if_pos h
  rw [State.storeBlock_dram, hp]
  exact Dram.put_symbols_other _ hne _

/-! ## Reads of a block (14 R431, R433, R435, R442) -/

/-- The outcome code of a read that cannot be corrected. -/
def BlockRead.Fails (got : BlockRead) (n : Nat) : Prop := got = .poison ∧ n = 1 ∨ got = .misdirect ∧ n = 2 ∨ got = .uncorrectable ∧ n = 3

/-- What a read of a block finds. -/
def State.found (block : Nat) (err : List Word) (s : State) : BlockRead := decodeBlock block (xorSyms (s.dram.symbols block) err)

theorem State.mapRead_clean {page : Nat} {s : State} (h : sparseGet 0 s.dram.mapCheck (page / 64) = 0) : s.mapRead page 0 = s := by
  have hclean : eccDecode 64 8 ((Nat.xor 0 (0 / 2 ^ 64 % 256)).xor (checkBits 64 8 (0 % 2 ^ 64))) = .clean := by decide +kernel
  unfold State.mapRead
  dsimp only
  rw [h, hclean]
  rfl

section
variable {requester block : Nat} {err : List Word} {s : State}

theorem State.readRaw_unwritten (h : s.dram.written (block / 64) = false) :
    s.readRaw requester block err = (some (List.replicate 64 0), s) := by
  rw [State.readRaw, h]
  rfl

theorem State.readRaw_clean (h : s.dram.written (block / 64) = true) (hf : s.found block err = .clean) :
    s.readRaw requester block err = (some (symbolBytes (xorSyms (s.dram.symbols block) err)), s) := by
  rw [State.found] at hf
  rw [State.readRaw, h, Bool.not_true, if_neg Bool.false_ne_true]
  dsimp only
  rw [hf]

theorem State.readRaw_corrected {d : Nat} (h : s.dram.written (block / 64) = true) (hf : s.found block err = .corrected d) :
    s.readRaw requester block err = (some (symbolBytes (correctBlock block (xorSyms (s.dram.symbols block) err) d)),
      ((s.storeBlock block (correctBlock block (xorSyms (s.dram.symbols block) err) d) []).enqueue block 1 1 true).countCe (subOf block) d) := by
  rw [State.found] at hf
  rw [State.readRaw, h, Bool.not_true, if_neg Bool.false_ne_true]
  dsimp only
  rw [hf]

theorem State.readRaw_fails {n : Nat} (h : s.dram.written (block / 64) = true) (hf : (s.found block err).Fails n) :
    s.readRaw requester block err = (none, s.memUe requester n block) := by
  unfold State.found at hf
  rw [State.readRaw, h, Bool.not_true, if_neg Bool.false_ne_true]
  dsimp only
  obtain ⟨hf, rfl⟩ | ⟨hf, rfl⟩ | ⟨hf, rfl⟩ := hf <;> rw [hf]

theorem State.readRaw_keeps {b : Nat} (h : s.dram.written (b / 64) = true) (hne : b ≠ block) (requester : Nat) (err : List Word) :
    s.dram.Keeps b (s.readRaw requester block err).2.dram := by
  have hsame : s.dram.Keeps b s.dram := ⟨h, rfl, rfl⟩
  unfold State.readRaw
  split
  · exact hsame
  · dsimp only
    split
    · exact hsame
    next d _ =>
      generalize correctBlock _ _ d = c
      have hstore := State.storeBlock_keeps h hne c []
      have hqueue := hstore.trans (.of_sub hstore.written ((s.storeBlock block c []).enqueue block 1 1 true).dram.sub)
      dsimp only
      rw [State.countCe_dram, State.enqueue_dram]
      exact hqueue.trans (.of_sub hqueue.written _)
    all_goals exact hsame

theorem State.readRaw_entry (b : Nat) (requester : Nat) (err : List Word) : (s.readRaw requester block err).2.dram.entry b = s.dram.entry b := by
  unfold State.readRaw
  split
  · rfl
  · dsimp only
    split
    · rfl
    next d _ =>
      generalize correctBlock _ _ d = c
      dsimp only
      rw [State.countCe_dram, State.enqueue_dram]
      exact s.storeBlock_entry block b c []
    all_goals rfl

/-- A block read with the map word in order, but for its overlay. -/
theorem State.readBlock_clean (h : sparseGet 0 s.dram.mapCheck (block / 64 / 64) = 0) :
    ((s.readBlock requester block err 0).1.isSome = (s.readRaw requester block err).1.isSome) ∧
      (s.readBlock requester block err 0).2 = (s.readRaw requester block err).2 := by
  unfold State.readBlock
  rw [State.mapRead_clean h]
  exact ⟨Option.isSome_map, rfl⟩

end

theorem State.waits.rewriteCode {at' addr : Nat} {f : FaultName} {s : State} (h : s.waits at' f addr) (region : Nat) (code : List Byte) :
    (s.rewriteCode region code).waits at' f addr :=
  (State.waits_congr rfl).2 (h.writeBytes 0 2 (region * 65536) code)

theorem State.waits.readFailed {at' addr : Nat} {f : FaultName} {s : State} (h : s.waits at' f addr) (requester w1 w2 block : Nat) :
    (s.readFailed requester w1 w2 block).waits at' f addr := by
  have hue : ∀ n, (s.ringUe n).waits at' f addr := fun n => by
    unfold State.ringUe
    split
    next d _ =>
      split
      · exact ((h.raise _ _).scramble n d).record n d _ 0 0
      · exact h
    · exact h
  have hstop : ∀ who, (s.sluiceUe who).waits at' f addr := fun who => by
    unfold State.sluiceUe
    split
    · split
      · exact State.waits.complete (s := s.updCp _) h ..
      · exact h
    · split
      · split
        · exact State.waits.complete (s := s.endLoad) h ..
        · exact h
      · exact h
  have htrap : ∀ moved, (s.dataTrap moved).waits at' f addr := fun moved => by
    unfold State.dataTrap
    split
    · split
      · exact h.complete ..
      · exact h
    · exact h
  have hfetch : (s.fetchTrap block).waits at' f addr := by
    unfold State.fetchTrap
    dsimp only
    split
    · exact h
    · exact h.rewriteCode ..
  unfold State.readFailed
  split
  · exact hfetch
  · exact htrap _
  · exact hue _
  · exact hstop _
  · exact (State.waits.failStream (s := s.updBand w1 w2 _) h ..).bandsOn
  · exact (h.cellBad ..).bandsOn
  · exact (h.failStream ..).bandsOn
  · exact h

section
variable {t requester w1 w2 block : Nat} {err : List Word} {s : State}

/-- The class of a DRAM_READ's piece. -/
def State.readClass (requester w1 : Nat) (s : State) : Nat :=
  requesterClass requester (s.pinnedCells.contains w1 || (s.cell w1).any fun (c : Cell) => c.state == .resident)

/-- The read is queued where its page is written. -/
def State.queueRead (cls block : Nat) (s : State) : State := if s.dram.written (block / 64) then s.enqueue block 1 cls false else s

theorem execDramRead_eq (hr : requester < 8) (hb : block < 2 ^ 31) (hm : sparseGet 0 s.dram.mapCheck (block / 64 / 64) = 0) :
    execDramRead t requester w1 w2 block err 0 s = .next
      (let v := ((s.atTime t).readRaw requester block err).2.queueRead ((s.atTime t).readClass requester w1) block
      if ((s.atTime t).readRaw requester block err).1.isSome then v else v.readFailed requester w1 w2 block) := by
  obtain ⟨hsome, hstate⟩ := State.readBlock_clean (requester := requester) (err := err) (s := s.atTime t) hm
  have hb' : block % blockCount = block := Nat.mod_eq_of_lt hb
  unfold execDramRead
  dsimp only
  rw [Nat.mod_eq_of_lt hr, hb', hsome, hstate]
  rfl

theorem execDramRead_unwritten (hr : requester < 8) (hb : block < 2 ^ 31) (hm : sparseGet 0 s.dram.mapCheck (block / 64 / 64) = 0)
    (hw : s.dram.written (block / 64) = false) : execDramRead t requester w1 w2 block err 0 s = .next (s.atTime t) := by
  rw [execDramRead_eq hr hb hm, State.readRaw_unwritten (s := s.atTime t) hw]
  refine congrArg Host.Outcome.next ?_
  dsimp only
  rw [if_pos Option.isSome_some]
  exact if_neg (by rw [show (s.atTime t).dram.written (block / 64) = false from hw]; exact Bool.false_ne_true)

theorem execDramRead_clean (hr : requester < 8) (hb : block < 2 ^ 31) (hm : sparseGet 0 s.dram.mapCheck (block / 64 / 64) = 0)
    (hw : s.dram.written (block / 64) = true) (hf : s.found block err = .clean) :
    execDramRead t requester w1 w2 block err 0 s =
      .next ((s.atTime t).enqueue block 1 ((s.atTime t).readClass requester w1) false) := by
  rw [execDramRead_eq hr hb hm, State.readRaw_clean (s := s.atTime t) hw hf]
  refine congrArg Host.Outcome.next ?_
  dsimp only
  rw [if_pos Option.isSome_some]
  exact if_pos hw

theorem execScrubRead_idle (h : s.dram.written (block / 64) = false ∨ (s.dram.sub.getD (subOf block) {}).queue ≠ []) :
    execScrubRead t block err s = .next (s.atTime t) := by
  have hw : (s.atTime t).dram = s.dram := rfl
  refine congrArg Host.Outcome.next (if_neg ?_)
  rw [hw, Bool.and_eq_true, List.isEmpty_iff]
  rintro ⟨h1, h2⟩
  obtain h | h := h
  · exact Bool.false_ne_true (h ▸ h1)
  · exact h h2

theorem execScrubRead_clean (hm : sparseGet 0 s.dram.mapCheck (block / 64 / 64) = 0)
    (hw : s.dram.written (block / 64) = true) (hf : s.found block err = .clean) :
    ∃ u, execScrubRead t block err s = .next u ∧ u = { s.atTime t with dram := { (s.atTime t).dram with sub := u.dram.sub } } := by
  by_cases hq : (s.dram.sub.getD (subOf block) {}).queue = []
  · refine ⟨(s.atTime t).enqueue block 1 1 false, congrArg Host.Outcome.next ?_, rfl⟩
    have hif : ((s.atTime t).dram.written (block / 64) && ((s.atTime t).dram.sub.getD (subOf block) {}).queue.isEmpty) = true := by
      rw [Bool.and_eq_true, List.isEmpty_iff]
      exact ⟨hw, hq⟩
    have hraw := State.readRaw_clean (requester := 7) (s := (s.atTime t).enqueue block 1 1 false) (block := block) (err := err) hw hf
    obtain ⟨-, hstate⟩ := State.readBlock_clean (requester := 7) (err := err) (s := (s.atTime t).enqueue block 1 1 false) (block := block) hm
    exact (if_pos hif).trans (hstate.trans (congrArg Prod.snd hraw))
  · exact ⟨_, execScrubRead_idle (.inr hq), rfl⟩

theorem execDramRead_corrected (hr : requester < 8) (hb : block < 2 ^ 31) (hm : sparseGet 0 s.dram.mapCheck (block / 64 / 64) = 0) {d : Nat}
    (hw : s.dram.written (block / 64) = true) (hf : s.found block err = .corrected d) (hwf : s.dram.wf = true) (hn : (s.atTime t).NoInjection) :
    ∃ u, execDramRead t requester w1 w2 block err 0 s = .next u ∧ u = { s.atTime t with dram := u.dram, arb := u.arb } ∧
      u.dram.symbols block = correctBlock block (xorSyms (s.dram.symbols block) err) d ∧
      ∀ b, b ≠ block → u.dram.symbols b = s.dram.symbols b := by
  rw [execDramRead_eq hr hb hm, State.readRaw_corrected (s := s.atTime t) hw hf]
  dsimp only
  rw [if_pos Option.isSome_some]
  generalize hc : correctBlock block (xorSyms ((s.atTime t).dram.symbols block) err) d = c
  obtain ⟨hstored, hself⟩ := State.storeBlock_idle hn hwf block c
  have hother : ∀ b, b ≠ block → ((s.atTime t).storeBlock block c []).dram.symbols b = s.dram.symbols b := fun b hne =>
    State.storeBlock_symbols_other (s := s.atTime t) hw hne c []
  have hwx := (s.atTime t).storeBlock_written block c []
  generalize (s.atTime t).storeBlock block c [] = x at hstored hself hother hwx ⊢
  have hv : ((x.enqueue block 1 1 true).countCe (subOf block) d).dram =
      { x.dram with sub := ((x.enqueue block 1 1 true).countCe (subOf block) d).dram.sub } := by
    rw [State.countCe_dram, State.enqueue_dram]
  have hveq : (x.enqueue block 1 1 true).countCe (subOf block) d = { s.atTime t with
      dram := ((x.enqueue block 1 1 true).countCe (subOf block) d).dram, arb := ((x.enqueue block 1 1 true).countCe (subOf block) d).arb } := by
    rw [hstored]
    ext1 <;> simp
  generalize (x.enqueue block 1 1 true).countCe (subOf block) d = v at hv hveq ⊢
  have hsyms : ∀ b, (v.enqueue block 1 ((s.atTime t).readClass requester w1) false).dram.symbols b = x.dram.symbols b := fun b => by
    rw [State.enqueue_dram, hv]
    rfl
  refine ⟨v.enqueue block 1 ((s.atTime t).readClass requester w1) false, congrArg Host.Outcome.next (if_pos ?_), ?_, ?_, fun b hne => ?_⟩
  · rw [hv]
    exact hwx
  · rw [hveq]
    rfl
  · rw [hsyms, hself, ← hc]
    rfl
  · rw [hsyms, hother b hne]

theorem execDramRead_fails (hr : requester < 8) (hb : block < 2 ^ 31) (hm : sparseGet 0 s.dram.mapCheck (block / 64 / 64) = 0) {n : Nat}
    (hw : s.dram.written (block / 64) = true) (hf : (s.found block err).Fails n) : execDramRead t requester w1 w2 block err 0 s = .next
      ((((s.atTime t).memUe requester n block).enqueue block 1 ((s.atTime t).readClass requester w1) false).readFailed requester w1 w2 block) := by
  rw [execDramRead_eq hr hb hm, State.readRaw_fails (s := s.atTime t) hw hf]
  refine congrArg Host.Outcome.next ?_
  dsimp only
  rw [if_neg (by simp)]
  exact congrArg (State.readFailed requester w1 w2 block) (if_pos hw)

end

/-! ## Writes of the control processor (14 R425, R437, R440) -/

section
variable {b : Nat} {s : State}

theorem Dram.entry_dropEntry (block : Nat) (hne : b ≠ block) (s : State) : (s.dropEntry block).dram.entry b = s.dram.entry b := by
  show List.find? _ (List.filter _ _) = _
  rw [List.find?_filter]
  refine List.find?_congr fun m _ => ?_
  by_cases hm : m.block = b
  · simp [hm, hne]
  · simp [hm]

theorem State.dropEntry_entry (block : Nat) (s : State) : (s.dropEntry block).dram.entry block = none := by
  show List.find? _ (List.filter _ _) = none
  rw [List.find?_filter, List.find?_eq_none]
  simp

theorem State.dropEntry_keeps {block : Nat} (h : s.dram.written (b / 64) = true) (hne : b ≠ block) : s.dram.Keeps b (s.dropEntry block).dram :=
  ⟨h, rfl, Dram.entry_dropEntry block hne s⟩

theorem State.modifyBlock_keeps {block : Nat} (h : s.dram.written (b / 64) = true) (hne : b ≠ block) (who off : Nat) (data : List Byte)
    (err : List Word) : s.dram.Keeps b (s.modifyBlock who block off data err).dram := by
  have hdrop := State.dropEntry_keeps h hne
  have hread := hdrop.trans (State.readRaw_keeps hdrop.written hne who [])
  unfold State.modifyBlock
  dsimp only
  generalize (s.dropEntry block).readRaw who block [] = r at hread ⊢
  obtain ⟨data', v⟩ := r
  cases data' with
  | none => exact hread.trans (State.storeBlock_keeps hread.written hne _ _)
  | some d => exact hread.trans (State.storeBlock_keeps hread.written hne _ _)

theorem State.writePart_keeps {block : Nat} (h : s.dram.written (b / 64) = true) (hne : b ≠ block) (who off : Nat) (data : List Byte)
    (err : List Word) : s.dram.Keeps b (s.writePart who 2 block off data err).dram := by
  unfold State.writePart
  split
  · have hdrop := State.dropEntry_keeps h hne
    exact hdrop.trans (State.storeBlock_keeps hdrop.written hne _ _)
  · exact State.modifyBlock_keeps h hne ..

/-- A block outside the bytes written keeps its symbols. -/
theorem State.writeRange_keeps (who : Nat) (err : List Word) (fuel : Nat) {addr : Nat} {data : List Byte}
    (h : s.dram.written (b / 64) = true) (hout : b < addr / 64 ∨ addr + data.length ≤ b * 64) :
    s.dram.Keeps b (s.writeRange who 2 err fuel addr data).dram := by
  induction fuel generalizing addr data s with
  | zero => exact ⟨h, rfl, rfl⟩
  | succ fuel ih =>
    unfold State.writeRange
    split
    · exact ⟨h, rfl, rfl⟩
    next hdata =>
      have hpos : 0 < data.length := List.length_pos_iff.2 fun he => hdata (by rw [he]; rfl)
      dsimp only
      generalize hn : min data.length (64 - addr % 64) = n
      have hpart := State.writePart_keeps h (show b ≠ addr / 64 by omega) who (addr % 64) (data.take n) err
      refine hpart.trans (ih hpart.written ?_)
      rw [List.length_drop]
      omega

end

section
variable {t requester who addr : Nat} {data : List Byte} {err : List Word} {s : State}

/-- The queue's part of a write leaves the contents as they are. -/
theorem execDramWrite_cp (hr : requester ≤ 1) : ∃ u, execDramWrite t requester who addr data err s = .next u ∧
    u = { (s.atTime t).writeRange requester 2 err (data.length / 64 + 2) addr data with dram := u.dram } ∧
    u.dram = { ((s.atTime t).writeRange requester 2 err (data.length / 64 + 2) addr data).dram with sub := u.dram.sub } := by
  have hcls : (s.atTime t).writeClass requester who = 2 := by
    obtain rfl | rfl : requester = 0 ∨ requester = 1 := by omega
    · rfl
    · rfl
  unfold execDramWrite
  dsimp only
  rw [Nat.mod_eq_of_lt (show requester < 8 by omega), hcls]
  refine ⟨_, rfl, ?_, State.enqueueAll_dram ..⟩
  ext1 <;> simp

theorem State.writeRange_block {block : Nat} (hlen : data.length = 64) : s.writeRange requester 2 err 3 (block * 64) data =
    (s.dropEntry block).storeBlock block (encodeBlock (addrSymbol block) data) err := by
  have hne : ¬data.isEmpty = true := fun h => by
    rw [List.isEmpty_iff.1 h] at hlen
    exact absurd hlen (by decide)
  have hdrop : data.drop 64 = [] := List.drop_eq_nil_of_le hlen.le
  have htake : data.take 64 = data := List.take_of_length_le hlen.le
  unfold State.writeRange
  rw [if_neg hne]
  dsimp only
  rw [Nat.mul_mod_left, Nat.sub_zero, hlen, Nat.min_self, hdrop, htake, Nat.mul_div_cancel _ (by decide)]
  show State.writePart requester 2 block 0 data err s = _
  rw [State.writePart, if_pos (by simp [hlen])]

theorem dramWrite_spec (hr : requester ≤ 1) (hwf : s.memWf = true) : ∃ u, exec (.dramWrite t requester who addr data []) s = .next u ∧
    u = { s.atTime t with dram := u.dram, arb := u.arb, fc := u.fc } ∧
    (∀ b, s.dram.written (b / 64) = true → (b < addr / 64 ∨ addr + data.length ≤ b * 64) →
      u.dram.symbols b = s.dram.symbols b ∧ u.dram.entry b = s.dram.entry b) ∧
    (addr % 64 = 0 → data.length = 64 → (∀ j ∈ (s.atTime t).fc.inject, j.count = 0) →
      u.dram.symbols (addr / 64) = encodeBlock (addrSymbol (addr / 64)) data ∧
      u.dram.written (addr / 64 / 64) = true ∧ u.dram.entry (addr / 64) = none ∧ u.arb = s.arb) := by
  obtain ⟨u, hexec, hu, hdram⟩ := execDramWrite_cp (t := t) (who := who) (addr := addr) (data := data) (err := []) (s := s) hr
  have hframe : (s.atTime t).writeRange requester 2 [] (data.length / 64 + 2) addr data = { s.atTime t with
      dram := ((s.atTime t).writeRange requester 2 [] (data.length / 64 + 2) addr data).dram
      arb := ((s.atTime t).writeRange requester 2 [] (data.length / 64 + 2) addr data).arb
      fc := ((s.atTime t).writeRange requester 2 [] (data.length / 64 + 2) addr data).fc } := by
    ext1 <;> simp
  refine ⟨u, hexec, ?_, fun b hb hout => ?_, fun ha hlen hn => ?_⟩
  · rw [hu, hframe]
  · have hk := State.writeRange_keeps (s := s.atTime t) requester [] (data.length / 64 + 2) hb hout
    rw [hdram]
    exact ⟨hk.symbols, hk.entry⟩
  · obtain ⟨block, rfl⟩ : ∃ block, addr = block * 64 := ⟨addr / 64, by omega⟩
    have hdwf : ((s.atTime t).dropEntry block).dram.wf = true := by
      rw [State.memWf, Bool.and_eq_true] at hwf
      simpa using hwf.1
    have hidle : ((s.atTime t).dropEntry block).NoInjection := hn
    obtain ⟨hstate, hsyms⟩ := State.storeBlock_idle hidle hdwf block (encodeBlock (addrSymbol block) data)
    have hwritten := ((s.atTime t).dropEntry block).storeBlock_written block (encodeBlock (addrSymbol block) data) []
    have hentry := (((s.atTime t).dropEntry block).storeBlock_entry block block (encodeBlock (addrSymbol block) data) []).trans
      (State.dropEntry_entry block _)
    have hrange : data.length / 64 + 2 = 3 := by rw [hlen]
    rw [hrange, State.writeRange_block hlen] at hu hdram
    generalize ((s.atTime t).dropEntry block).storeBlock block (encodeBlock (addrSymbol block) data) [] = x at hstate hsyms hwritten hentry hu hdram
    rw [Nat.mul_div_cancel _ (by decide), hdram]
    refine ⟨hsyms, hwritten, hentry, ?_⟩
    rw [hu, hstate]
    rfl

/-! ## MERGE_FLUSH (14 R436) -/

theorem Dram.entry_block {d : Dram} {block : Nat} {m : Merge} (h : d.entry block = some m) : m.block = block := by
  simpa using List.find?_some h

theorem State.flushEntry_entry (m : Merge) (err : List Word) (s : State) : (s.flushEntry m err).dram.entry m.block = none := by
  have hdrop : ((s.dropEntry m.block).enqueue m.block 1 m.cls true).dram.entry m.block = none := State.dropEntry_entry m.block s
  have hread := (State.readRaw_entry (s := (s.dropEntry m.block).enqueue m.block 1 m.cls true) (block := m.block) m.block m.who err).trans hdrop
  unfold State.flushEntry
  dsimp only
  split
  · exact (State.storeBlock_entry ..).trans hdrop
  · generalize ((s.dropEntry m.block).enqueue m.block 1 m.cls true).readRaw m.who m.block err = r at hread ⊢
    obtain ⟨d, v⟩ := r
    cases d with
    | none => exact (State.storeBlock_entry ..).trans hread
    | some d => exact (State.storeBlock_entry ..).trans hread

theorem execMergeFlush_none {block : Nat} (h : s.dram.entry block = none) : execMergeFlush t block err s = .next (s.atTime t) := by
  have h' : (s.atTime t).dram.entry block = none := h
  rw [execMergeFlush, h']

theorem execMergeFlush_young {block : Nat} {m : Merge} (h : s.dram.entry block = some m) (hnow : (s.atTime t).now < m.lastWrite + 12800) :
    execMergeFlush t block err s = .next (s.atTime t) := by
  have h' : (s.atTime t).dram.entry block = some m := h
  rw [execMergeFlush, h']
  exact congrArg Host.Outcome.next (if_neg (Nat.not_le.2 hnow))

theorem execMergeFlush_flushes {block : Nat} {m : Merge} (h : s.dram.entry block = some m) (hnow : m.lastWrite + 12800 ≤ (s.atTime t).now) :
    ∃ u, execMergeFlush t block err s = .next u ∧ u = { s.atTime t with dram := u.dram, arb := u.arb, fc := u.fc } ∧
      u.dram.entry block = none ∧ (m.bytes.length = 64 → (∀ j ∈ (s.atTime t).fc.inject, j.count = 0) → s.memWf = true →
        u.dram.symbols block = encodeBlock (addrSymbol block) (overlay (List.replicate 64 0) m.bytes)) := by
  have h' : (s.atTime t).dram.entry block = some m := h
  obtain rfl := Dram.entry_block h
  refine ⟨(s.atTime t).flushEntry m err, ?_, by ext1 <;> simp, State.flushEntry_entry .., fun hlen hn hwf => ?_⟩
  · rw [execMergeFlush, h']
    exact congrArg Host.Outcome.next (if_pos hnow)
  · have hidle : (((s.atTime t).dropEntry m.block).enqueue m.block 1 m.cls true).NoInjection := hn
    have hdwf : (((s.atTime t).dropEntry m.block).enqueue m.block 1 m.cls true).dram.wf = true := by
      rw [State.memWf, Bool.and_eq_true] at hwf
      simpa using hwf.1
    unfold State.flushEntry
    dsimp only
    rw [if_pos hlen]
    exact (State.storeBlock_idle hidle hdwf ..).2

end

/-! ## The journal store (16 R486, R490, R491) -/

section
variable {t : Nat} {s : State}

/-- The open record is gone, uncommitted, with J_PROGRAM. -/
def State.Abandons (rest : List JWait) (s u : State) : Prop :=
  u = { s with jr := u.jr, mb := u.mb, arb := u.arb } ∧ u.jr.queue = rest ∧ u.jr.jseq = s.jr.jseq ∧ u.jr.errors = s.jr.errors + 1 ∧
    ∃ a, u.arb.faultQ = s.arb.faultQ ++ [{ at' := s.now, name := .jProgram, addr := a }]

theorem State.abandonRecord_abandons {w : JWait} {rest : List JWait} (h : s.jr.queue = w :: rest) : s.Abandons rest s.abandonRecord := by
  refine ⟨by ext1 <;> simp, ?_, ?_, ?_, (basinBase s.jr.active + s.jr.activeBasin.append) % 2 ^ 48, ?_⟩ <;>
    rw [State.abandonRecord, h] <;> simp [State.updJr, Journal.store, h]

theorem State.abandonRecord_none (h : s.jr.queue = []) : s.abandonRecord = s := by
  rw [State.abandonRecord, h]

theorem State.maybeCompact_keeps (s : State) : s.maybeCompact.jr.queue = s.jr.queue ∧ s.maybeCompact.jr.jseq = s.jr.jseq := by
  unfold State.maybeCompact State.compact
  dsimp only
  split
  · split <;> exact ⟨rfl, rfl⟩
  · exact ⟨rfl, rfl⟩

/-- The record that the open one becomes. -/
def Journal.nextRecord (j : Journal) (w : JWait) : JRec :=
  { offset := j.activeBasin.append, raw := recordBytes w.type w.key (j.jseq + 1) w.body true }

theorem Journal.store_basin {j : Journal} (h : j.active < j.basins.length) (w : JWait) : (j.store w true).basin j.active =
    { j.activeBasin with
      records := j.activeBasin.records ++ [j.nextRecord w], append := j.activeBasin.append + recLength w.body.length } :=
  listUpd_getD_same h _ _

theorem State.maybeCompact_roomy (hn : s.jr.needCompact = false) (hroom : s.jr.activeBasin.append + 16 * 2 ^ 20 ≤ basinSize) :
    s.maybeCompact = s := by
  have hdue : (s.jr.needCompact || decide (basinSize < s.jr.activeBasin.append + 16 * 2 ^ 20)) = false := by
    rw [hn, decide_eq_false (Nat.not_lt.2 hroom)]
    rfl
  unfold State.maybeCompact
  dsimp only
  rw [hdue, if_neg (by simp)]

theorem execJournalCommit_verified {w : JWait} {rest : List JWait} (h : s.jr.queue = w :: rest) :
    ∃ u, execJournalCommit t true s = .next u ∧ u = { s.atTime t with jr := u.jr, mb := u.mb, arb := u.arb } ∧ u.jr.jseq = s.jr.jseq + 1 ∧
      u.jr.queue = rest ∧ (s.jr.active < s.jr.basins.length → s.jr.needCompact = false →
        s.jr.activeBasin.append + recLength w.body.length + 16 * 2 ^ 20 ≤ basinSize →
        (u.jr.basin s.jr.active).records = s.jr.activeBasin.records ++ [s.jr.nextRecord w]) := by
  have hq : (s.atTime t).jr.queue = w :: rest := h
  generalize hv : ((s.atTime t).updJr fun j => j.store w true).auditDone w.mb false = v
  have hjr : v.jr = s.jr.store w true := by rw [← hv]; simp [State.updJr]
  have hveq : v = { s.atTime t with jr := v.jr, mb := v.mb } := by rw [← hv]; ext1 <;> simp [State.updJr]
  obtain ⟨hqueue, hjseq⟩ := v.maybeCompact_keeps
  refine ⟨v.maybeCompact, ?_, ?_, ?_, ?_, fun ha hn hroom => ?_⟩
  · simp only [execJournalCommit, hq, if_true, hv]
  · have hframe : v.maybeCompact = { v with jr := v.maybeCompact.jr, arb := v.maybeCompact.arb } := by ext1 <;> simp
    rw [hframe, hveq]
  · rw [hjseq, hjr]
    rfl
  · rw [hqueue, hjr]
    exact congrArg (List.drop 1) h
  · have hbasin := Journal.store_basin ha w
    rw [State.maybeCompact_roomy (by rw [hjr]; exact hn), hjr, hbasin]
    rw [hjr]
    exact (congrArg (fun b : Basin => b.append + 16 * 2 ^ 20) hbasin).trans_le hroom

theorem execSectorErase_idle (h : s.jr.powerFail = true ∨ s.jr.eraseLeft = 0) : execSectorEraseComplete t s = .next (s.atTime t) := by
  refine congrArg Host.Outcome.next (if_pos ?_)
  simpa using h

theorem execSectorErase_erases (hp : s.jr.powerFail = false) (he : s.jr.eraseLeft ≠ 0) : ∃ u, execSectorEraseComplete t s = .next u ∧
    u = { s.atTime t with jr := u.jr, arb := u.arb } ∧
    (1 < s.jr.eraseLeft → u = { s.atTime t with jr := { (s.atTime t).jr with eraseLeft := s.jr.eraseLeft - 1 } }) := by
  generalize hv : (s.atTime t).updJr (fun j => { j with
    eraseLeft := j.eraseLeft - 1
    basins := if j.eraseLeft = 1 then listUpd j.basins (1 - j.active) fun _ => {} else j.basins }) = v
  have hframe : v.maybeCompact = { v with jr := v.maybeCompact.jr, arb := v.maybeCompact.arb } := by ext1 <;> simp
  have hveq : v = { s.atTime t with jr := v.jr } := by rw [← hv]; rfl
  refine ⟨v.maybeCompact, ?_, ?_, fun h1 => ?_⟩
  · rw [← hv]
    exact congrArg Host.Outcome.next (if_neg (by simp [hp, he]))
  · rw [hframe, hveq]
  · have hleft : (v.jr.eraseLeft == 0) = false := by
      rw [← hv]
      exact beq_eq_false_iff_ne.2 (show s.jr.eraseLeft - 1 ≠ 0 by omega)
    have hsame : v.maybeCompact = v := by
      unfold State.maybeCompact
      dsimp only
      rw [hleft, if_neg (by simp)]
    rw [hsame, ← hv, State.updJr]
    dsimp only
    rw [if_neg (show (s.atTime t).jr.eraseLeft ≠ 1 from Nat.ne_of_gt h1)]
    rfl

end

/-! ## The statement, a part at a time -/

section
variable {t : Nat} {s : State}

theorem refreshes_spec {k : Nat} (hk : k < s.dram.sub.length) :
    let c := s.dram.sub.getD k {}
    ((∀ r ∈ c.queue, r.cls ≠ 0) → exec (.refreshDue t k) s = .next ((s.atTime t).putSub k c.refresh) ∧
      exec (.owedRefresh t k) s = .next (if c.owed = 0 then s.atTime t else (s.atTime t).putSub k { c.refresh with owed := c.owed - 1 })) ∧
    ((∃ r ∈ c.queue, r.cls = 0) → exec (.owedRefresh t k) s = .next (s.atTime t) ∧
      (c.owed < 4 → exec (.refreshDue t k) s = .next ((s.atTime t).putSub k { c with owed := c.owed + 1 })) ∧
      (4 ≤ c.owed → exec (.refreshDue t k) s = .next (((s.atTime t).putSub k c.refresh).noteForced k))) := by
  dsimp only
  have howed := execOwedRefresh_eq (t := t) hk
  refine ⟨fun h => ?_, fun h => ?_⟩
  · have hfree := (SubCh.rtQueued_eq_false _).2 h
    refine ⟨execRefreshDue_free hfree, howed.trans (congrArg Host.Outcome.next (if_congr ?_ rfl rfl))⟩
    rw [hfree]
    exact or_iff_right Bool.false_ne_true
  · have hrt := (SubCh.rtQueued_iff _).2 h
    exact ⟨howed.trans (congrArg _ (if_pos (.inl hrt))), execRefreshDue_owes hrt, execRefreshDue_forced hrt⟩

theorem dramRead_fails_spec {requester w1 w2 block n : Nat} {err : List Word} (hr : requester < 8) (hb : block < 2 ^ 31)
    (hm : sparseGet 0 s.dram.mapCheck (block / 64 / 64) = 0) (hw : s.dram.written (block / 64) = true) (hf : (s.found block err).Fails n) :
    ∃ u, exec (.dramRead t requester w1 w2 block err 0) s = .next u ∧
      u.waits (s.atTime t).now .memUe ((requester * 2 ^ 45 + n * 2 ^ 43 + block) % 2 ^ 48) ∧
      (requester = 7 → u = { s.atTime t with dram := { (s.atTime t).dram with sub := u.dram.sub }, arb := { (s.atTime t).arb with
        faultQ := s.arb.faultQ ++ [{ at' := (s.atTime t).now, name := .memUe, addr := (7 * 2 ^ 45 + n * 2 ^ 43 + block) % 2 ^ 48 }] } }) := by
  have hmod : block % 2 ^ 31 = block := Nat.mod_eq_of_lt hb
  have hue : ((s.atTime t).memUe requester n block).waits (s.atTime t).now .memUe (requester * 2 ^ 45 + n * 2 ^ 43 + block) := by
    rw [State.memUe, hmod]
    exact State.waits_raise ..
  have hqueued : (((s.atTime t).memUe requester n block).enqueue block 1 ((s.atTime t).readClass requester w1) false).waits (s.atTime t).now
      .memUe (requester * 2 ^ 45 + n * 2 ^ 43 + block) := (State.waits_congr (by simp)).2 hue
  refine ⟨_, execDramRead_fails hr hb hm hw hf, State.waits_mod.2 (hqueued.readFailed requester w1 w2 block), ?_⟩
  rintro rfl
  show ((s.atTime t).memUe 7 n block).enqueue block 1 _ false = _
  rw [State.memUe, hmod]
  rfl

/-- Settles O60: each command of the controller and of the journal store by the lemma that says what it does. -/
theorem memoryAndJournal : Obligations.MemoryAndJournal := by
  intro t s
  dsimp only
  refine ⟨fun k hk => ?_, fun requester hr w1 w2 err block hb hm => ?_, fun requester who addr data hr hwf => dramWrite_spec hr hwf,
    fun block err => ⟨execMergeFlush_none, fun m h => ⟨execMergeFlush_young h, execMergeFlush_flushes h⟩⟩, fun v h => ?_, fun w rest h => ?_,
    execSectorErase_idle, execSectorErase_erases⟩
  · obtain ⟨hfree, hrt⟩ := refreshes_spec (t := t) hk
    refine ⟨hfree, fun h => ?_, fun temps => execMemTempRead_eq temps, fun before r after hq hb hp hr => execRequestPromotion_first hq hb hp hr,
      fun bank row h => execPieceComplete_other hk h, fun bank row r _ ha hb hr => ?_⟩
    · obtain ⟨howed, hfew, hforced⟩ := hrt h
      refine ⟨howed, hfew, fun h4 => (hforced h4).trans ?_⟩
      rw [State.noteForced_eq]
      rfl
    · have hends := execPieceComplete_ends (t := t) ha hb hr
      rw [SubCh.complete_eq] at hends
      refine ⟨hends, fun hq => hends.trans ?_⟩
      rw [SubCh.start_idle (by exact hq)]
      rfl
  · refine ⟨fun hw => ⟨execDramRead_unwritten hr hb hm hw, execScrubRead_idle (.inl hw)⟩, fun hw hf => ⟨?_, execScrubRead_clean hm hw hf⟩,
      fun hq => execScrubRead_idle (.inr hq), fun d hw hf hwf hn => ?_, fun n hw hf => dramRead_fails_spec hr hb hm hw hf⟩
    · exact ⟨_, execDramRead_clean hr hb hm hw hf, rfl⟩
    · rw [State.memWf, Bool.and_eq_true] at hwf
      exact execDramRead_corrected hr hb hm hw hf hwf.1 hn
  · have hq : (s.atTime t).jr.queue = [] := h
    refine ⟨?_, congrArg Host.Outcome.next (State.abandonRecord_none hq)⟩
    simp only [exec, execJournalCommit, hq]
  · have hq : (s.atTime t).jr.queue = w :: rest := h
    have hgone := State.abandonRecord_abandons hq
    refine ⟨⟨_, rfl, hgone⟩, fun hf => ⟨_, ?_, hgone⟩, fun hf => ?_, execJournalCommit_verified h⟩
    · simp only [exec, execJournalCommit, hq, Bool.false_eq_true, if_false, if_pos hf]
    · simp only [exec, execJournalCommit, hq, Bool.false_eq_true, if_false, if_neg (Nat.not_le.2 hf)]
      rfl

end

end Sys2Proof.Machine
end
